-- ==== Sys2Proof/Word.lean ====
section
/-!
DEFINITION. Words, bytes, sparse tables, the manual's fixed code tables (dies, tiers, statuses, states),
and the plainest arithmetic on bits.
-/
namespace Sys2Proof

/-- A 64-bit register or record word (R19). -/
abbrev Word := BitVec 64

/-- A byte. -/
abbrev Byte := BitVec 8

/-- A sparse table: pairs of a key and an entry, the keys strictly rising. -/
abbrev NMap (α : Type) := List (Nat × α)

/-- Bits [hi:lo] of a number (R19: bit 0 least significant). -/
def bitsOf (v hi lo : Nat) : Nat := (v >>> lo) % 2 ^ (hi + 1 - lo)

/-- Bits [hi:lo] of a 64-bit word, as a number. -/
def field (w : Word) (hi lo : Nat) : Nat := bitsOf w.toNat hi lo

/-- Bit `n` of a 64-bit word. -/
def bit (w : Word) (n : Nat) : Bool := w.getLsbD n

/-- The word `w` with bits [hi:lo] replaced by `v`. -/
def setField (w : Word) (hi lo v : Nat) : Word :=
  let m : Word := BitVec.ofNat 64 ((2 ^ (hi + 1 - lo) - 1) <<< lo)
  (w &&& ~~~m) ||| (BitVec.ofNat 64 (v <<< lo) &&& m)

/-- The number read as a two's-complement number of `n` bits. -/
def signedOf (n v : Nat) : Int :=
  let u := v % 2 ^ n
  if u < 2 ^ (n - 1) then (u : Int) else (u : Int) - 2 ^ n

/-- A number of the two Yokes (R24). -/
inductive Yoke where
  | yw | ye
  deriving DecidableEq, Repr

/-- A number of the four Acres (R24). -/
inductive Acre where
  | a0 | a1 | a2 | a3
  deriving DecidableEq, Repr

/-- A die of the package (R24). -/
inductive Die where
  | yoke (y : Yoke)
  | acre (a : Acre)
  deriving DecidableEq, Repr

def Yoke.num : Yoke → Nat
  | .yw => 0
  | .ye => 1

/-- The other Yoke. -/
def Yoke.other : Yoke → Yoke
  | .yw => .ye
  | .ye => .yw

def Yoke.all : List Yoke := [.yw, .ye]

def Acre.num : Acre → Nat
  | .a0 => 0
  | .a1 => 1
  | .a2 => 2
  | .a3 => 3

def Acre.all : List Acre := [.a0, .a1, .a2, .a3]

/-- The Acre of a number, modulo 4 (slot and object numbers name their Acre this way). -/
def Acre.ofNum (n : Nat) : Acre :=
  match n % 4 with
  | 0 => .a0
  | 1 => .a1
  | 2 => .a2
  | _ => .a3

/-- The Yoke an Acre pairs with (00 Vocabulary: YW pairs with A0 and A1, YE with A2 and A3). -/
def Acre.yoke : Acre → Yoke
  | .a0 => .yw
  | .a1 => .yw
  | .a2 => .ye
  | .a3 => .ye

/-- Die codes of R24: bits [39:36] of a control address. -/
def Die.code : Die → Nat
  | .yoke .yw => 0
  | .yoke .ye => 1
  | .acre a => 4 + a.num

def Die.all : List Die :=
  [.yoke .yw, .yoke .ye, .acre .a0, .acre .a1, .acre .a2, .acre .a3]

/-- The die of a code; codes 2, 3 and 8 to 15 are reserved (R24). -/
def Die.ofCode : Nat → Option Die
  | 0 => some (.yoke .yw)
  | 1 => some (.yoke .ye)
  | 4 => some (.acre .a0)
  | 5 => some (.acre .a1)
  | 6 => some (.acre .a2)
  | 7 => some (.acre .a3)
  | _ => none

/-- One value per Yoke. -/
structure PerYoke (α : Type) where
  yw : α
  ye : α
  deriving DecidableEq, Repr

def PerYoke.get {α : Type} (p : PerYoke α) : Yoke → α
  | .yw => p.yw
  | .ye => p.ye

def PerYoke.set {α : Type} (p : PerYoke α) (y : Yoke) (v : α) : PerYoke α :=
  match y with
  | .yw => { p with yw := v }
  | .ye => { p with ye := v }

def PerYoke.mk1 {α : Type} (v : α) : PerYoke α := ⟨v, v⟩

/-- One value per Acre. -/
structure PerAcre (α : Type) where
  a0 : α
  a1 : α
  a2 : α
  a3 : α
  deriving DecidableEq, Repr

def PerAcre.get {α : Type} (p : PerAcre α) : Acre → α
  | .a0 => p.a0
  | .a1 => p.a1
  | .a2 => p.a2
  | .a3 => p.a3

def PerAcre.set {α : Type} (p : PerAcre α) (a : Acre) (v : α) : PerAcre α :=
  match a with
  | .a0 => { p with a0 := v }
  | .a1 => { p with a1 := v }
  | .a2 => { p with a2 := v }
  | .a3 => { p with a3 := v }

def PerAcre.mk1 {α : Type} (v : α) : PerAcre α := ⟨v, v, v, v⟩

def PerAcre.map {α β : Type} (f : α → β) (p : PerAcre α) : PerAcre β :=
  ⟨f p.a0, f p.a1, f p.a2, f p.a3⟩

def PerAcre.toList {α : Type} (p : PerAcre α) : List α := [p.a0, p.a1, p.a2, p.a3]

def PerYoke.map {α β : Type} (f : α → β) (p : PerYoke α) : PerYoke β := ⟨f p.yw, f p.ye⟩

/-- One value per die. -/
structure PerDie (α : Type) where
  yokes : PerYoke α
  acres : PerAcre α
  deriving DecidableEq, Repr

def PerDie.get {α : Type} (p : PerDie α) : Die → α
  | .yoke y => p.yokes.get y
  | .acre a => p.acres.get a

def PerDie.set {α : Type} (p : PerDie α) (d : Die) (v : α) : PerDie α :=
  match d with
  | .yoke y => { p with yokes := p.yokes.set y v }
  | .acre a => { p with acres := p.acres.set a v }

def PerDie.mk1 {α : Type} (v : α) : PerDie α := ⟨.mk1 v, .mk1 v⟩

def PerDie.map {α β : Type} (f : α → β) (p : PerDie α) : PerDie β := ⟨p.yokes.map f, p.acres.map f⟩

/-- Status codes of R16. -/
inductive Status where
  | ok | partialOk | aborted | abortLate | redirect | wakeDeferred | notResident | busy
  | badHandle | staleGen | trimFloor | badFormat | version | noSpace | quota
  | revoked | access | integrity | tenant
  | deadlock | abandoned | timeout
  | fenced | uncorrectable | primacy
  deriving DecidableEq, Repr

/-- The 8-bit code of a status (R16). -/
def Status.code : Status → Nat
  | .ok => 0x00
  | .partialOk => 0x01
  | .aborted => 0x02
  | .abortLate => 0x03
  | .redirect => 0x04
  | .wakeDeferred => 0x05
  | .notResident => 0x06
  | .busy => 0x07
  | .badHandle => 0x10
  | .staleGen => 0x11
  | .trimFloor => 0x12
  | .badFormat => 0x13
  | .version => 0x14
  | .noSpace => 0x15
  | .quota => 0x16
  | .revoked => 0x20
  | .access => 0x21
  | .integrity => 0x22
  | .tenant => 0x23
  | .deadlock => 0x30
  | .abandoned => 0x31
  | .timeout => 0x32
  | .fenced => 0x40
  | .uncorrectable => 0x41
  | .primacy => 0x42

/-- Every status. -/
def Status.all : List Status :=
  [.ok, .partialOk, .aborted, .abortLate, .redirect, .wakeDeferred, .notResident, .busy, .badHandle, .staleGen, .trimFloor, .badFormat,
   .version, .noSpace, .quota, .revoked, .access, .integrity, .tenant, .deadlock, .abandoned, .timeout, .fenced, .uncorrectable, .primacy]

/-- The status of a code (R16). -/
def Status.ofCode (c : Nat) : Option Status := Status.all.find? (fun x => x.code = c)

/-- The planes of R32. -/
inductive Plane where
  | control | data | management
  deriving DecidableEq, Repr

/-- Tier codes of R13. -/
inductive Tier where
  | near | fld | headland | chest | offDevice
  deriving DecidableEq, Repr

def Tier.code : Tier → Nat
  | .near => 0
  | .fld => 1
  | .headland => 2
  | .chest => 3
  | .offDevice => 4

def Tier.ofCode : Nat → Option Tier
  | 0 => some .near
  | 1 => some .fld
  | 2 => some .headland
  | 3 => some .chest
  | 4 => some .offDevice
  | _ => none

end Sys2Proof
end

