-- ==== Sys2Proof/Operand.lean ====
section
/-!
DEFINITION. Types of the operands of commands beyond numbers and words: who makes a control access, what packets and
messages carry, and what the outside answers.
-/
namespace Sys2Proof

/-- Who makes a control access (R573, R581): the management controller of a Yoke, the system Tine of a number
(256 to 287), or the host's reset-time window on the Host Queue registers (R296). -/
inductive Requester where
  | mgmt (y : Yoke)
  | sysTine (n : Nat)
  | host
  deriving DecidableEq, Repr

/-- What a placement directive names (R112): a session, one stack of a session by its map entry, a shared prefix, or a
search list of an index. -/
inductive DirTarget where
  | session (handle : Nat)
  | stack (handle k : Nat)
  | prefixOf (id : Nat)
  | searchList (index list : Nat)
  deriving DecidableEq, Repr

/-- The data header of a KLT packet, with the ECN mark it arrived under (R369, R370). -/
structure KHdr where
  ver    : Nat
  opc    : Nat
  first  : Bool
  last   : Bool
  db     : Bool
  retx   : Bool
  ackNow : Bool
  tc     : Nat
  dconn  : Nat
  cgen   : Nat
  psn    : Nat
  msn    : Nat
  addr   : Nat
  key    : Nat
  plen   : Nat
  sep    : Nat
  tsTx   : Nat
  moff   : Nat
  mlen   : Nat
  ce     : Bool
  deriving DecidableEq, Repr

/-- The acknowledgement header (R385). -/
structure KAck where
  tc       : Nat
  dconn    : Nat
  cgen     : Nat
  frontier : Nat
  /-- NAK_PSN and the code of NAK_STATUS, when NAK = 1. -/
  nak      : Option (Nat × Nat)
  ceCount  : Nat
  tsEcho   : Nat
  ackDelay : Nat
  sep      : Nat
  /-- SACK: bit k for PSN FRONTIER + 1 + k. -/
  sack     : Nat
  deriving DecidableEq, Repr

/-- What a CONNECT_REQ carries (R373). -/
structure ConnReq where
  sep     : Nat
  minVer  : Nat
  maxVer  : Nat
  tc      : Nat
  entropy : Nat
  sconn   : Nat
  scgen   : Nat
  rwin    : Nat
  domain  : Nat
  reqId   : Nat
  deriving DecidableEq, Repr

/-- What a CONNECT_RSP carries (R373). -/
structure ConnRsp where
  sep     : Nat
  status  : Status
  ver     : Nat
  tc      : Nat
  entropy : Nat
  rconn   : Nat
  rcgen   : Nat
  rwin    : Nat
  reqId   : Nat
  deriving DecidableEq, Repr

/-- What a HEARTBEAT carries (R57, R376). -/
structure Beat where
  domain  : Nat
  liveGen : Nat
  fpValid : Bool
  leaving : Bool
  fallow  : Bool
  role    : Nat
  fp      : BitVec 384
  commitAt : Nat
  ktb     : Nat
  deriving DecidableEq, Repr

/-- The dataset of an Announce (R415): what the default best master clock algorithm compares. -/
structure PtpClock where
  priority1 : Nat
  class_    : Nat
  accuracy  : Nat
  variance  : Nat
  priority2 : Nat
  identity  : Nat
  steps     : Nat
  deriving DecidableEq, Repr

/-- PTP messages a port sends (R415). -/
inductive PtpKind where
  | sync | followUp | delayReq | delayResp | announce
  deriving DecidableEq, Repr

/-- A firmware image: the security versions of its parts (SEC_FW_MIN), its digest, and the system Tines' code. -/
structure FwImage where
  scSvn  : Nat
  mcSvn  : Nat
  sysSvn : Nat
  digest : BitVec 384
  code   : List Byte
  deriving DecidableEq, Repr

/-- A request of the management plane within a session (R452): the port it came to, SESSION, SEQ and REQ_ID. -/
structure MgmtReq where
  port    : Yoke
  session : Nat
  seq     : Nat
  reqId   : Nat
  deriving DecidableEq, Repr

/-- What BIND_BEGIN names (R433 step 1). -/
structure BindReq where
  tenantId   : Nat
  tenantRoot : BitVec 384
  localMode  : Bool
  imageKey   : Option Nat
  consentKey : Option Nat
  certified  : Bool
  deriving DecidableEq, Repr

/-- An SPDM message to the responder (R444, R445); what a check by signature or certificate gives comes with it. -/
inductive SpdmReq where
  | getVersion
  | getCapabilities
  | negotiateAlgorithms
  | getDigests
  | getCertificate (slot : Nat)
  | challenge (slot nonce : Nat)
  | getMeasurements (index nonce : Nat)
  | keyExchange (slot : Nat)
  /-- FINISH of an exchange: SHA-384 of the requester's root public key, and whether its chain and signature verify. -/
  | finish (session : Nat) (root : BitVec 384) (verifies : Bool)
  | heartbeat (session : Nat)
  | keyUpdate (session : Nat)
  | endSession (session : Nat)
  | keyDeliver (session slot : Nat) (key : Nat)
  | keySelect (session slot : Nat)
  | keyRetire (session slot : Nat)
  | keyDone (session : Nat)
  | tenantRelease (session : Nat)
  /-- A request R444 does not list. -/
  | other
  deriving DecidableEq, Repr

/-- A wake request (R536): a host SQ entry, a management request, a sequenced KLT packet, or WAKE in PWR_FALLOW_CMD. -/
inductive WakeReq where
  | host (sq cid : Nat)
  | mgmt (q : MgmtReq)
  | packet
  | command
  deriving DecidableEq, Repr

/-- A consent token's fields (R457); `verifies` is the outcome of its signature under the consent key. -/
structure Consent where
  device    : Nat
  epoch     : Nat
  scope     : Nat
  notAfter  : Nat
  challenge : Nat
  cred      : Nat
  digest    : BitVec 384
  verifies  : Bool
  deriving DecidableEq, Repr

/-- What an object of a session is: its sheaf map, its Drawer, or the stack of a map entry. -/
inductive ObjRole where
  | map | drawer
  | stack (k : Nat)
  deriving DecidableEq, Repr

/-- An object as it comes from outside, decrypted: its identity and its bytes (R472, R489). -/
structure ObjIn where
  role    : ObjRole
  stackId : Nat
  ctr     : Nat
  keySel  : Nat
  frames  : Nat
  data    : List (Nat × Byte)
  deriving DecidableEq, Repr

/-- A session as another device captured or handed it over: the 512-byte descriptor and its objects. -/
structure SessIn where
  device : Nat
  desc   : List Byte
  objs   : List ObjIn
  deriving DecidableEq, Repr

/-- The manifest a RESTORE names (R478): a drained epoch of this device and the slot in it, with what the source and its
digests answer; or a session of another device's chain, as found and verified there. -/
inductive RestoreSrc where
  | own (epoch slot : Nat) (reachable intact : Bool)
  | foreign (found verifies reachable : Bool) (x : SessIn)
  deriving DecidableEq, Repr

/-- IN_PLACE names a session by its handle; NEW opens a slot (R478). -/
inductive RestoreMode where
  | inPlace (handle : Nat)
  | new
  deriving DecidableEq, Repr

/-- What RESTORE_OBJECTS restores (R480). -/
inductive ObjSet where
  | sync (a : Acre)
  | prefixes (a : Acre)
  | index (slot : Nat)
  deriving DecidableEq, Repr

/-- A stack read back by IMPORT: the fields its sealed unit binds, its bytes, and whether unit and frames verify (R481). -/
structure ImportIn where
  k       : Nat
  slot    : Nat
  gen     : Nat
  seq     : Nat
  index   : Nat
  stackId : Nat
  ctr     : Nat
  keySel  : Nat
  frames  : Nat
  data    : List (Nat × Byte)
  good    : Bool
  deriving DecidableEq, Repr

/-- What an OFFER carries (R490). -/
structure OfferIn where
  principal : Nat
  profile   : Nat
  /-- TIER_PROF_GEOM, TIER_PROF_VAR and TIER_PROF_SCALE of the profile. -/
  geom      : Word
  var       : Word
  scale     : Word
  tier      : Nat
  target    : Option Nat
  /-- Frames of each object in map order: the Drawer, the stacks. -/
  frames    : List Nat
  keyMask   : Nat
  deriving DecidableEq, Repr

/-- Place the target gives an object (ACCEPT body): FRAME region key, Field address, frames (R490). -/
structure MigPlace where
  key    : Nat
  addr   : Nat
  frames : Nat
  deriving DecidableEq, Repr

/-- What a HANDOVER carries (R490): the session with its recorded doorbells, the checkpoint-table entry, queued events, timers
and waits. -/
structure HandIn where
  sess    : SessIn
  auto    : Bool
  events  : List (Nat × Word × Word)
  timers  : List (Nat × Nat)
  /-- Object waits: tag, object, CODE, operand, timeout. -/
  waits   : List (Nat × Nat × Nat × Word × Option Nat)
  deriving DecidableEq, Repr

/-- Header fields of a migration message (R490). -/
structure MigHdr where
  migId : Nat
  seq   : Nat
  src   : Nat
  dst   : Nat
  srcHandle : Nat
  dstHandle : Nat
  deriving DecidableEq, Repr

/-- KIND, STATUS and BODY of a migration message (R490). -/
inductive MigBody where
  | offer (o : OfferIn)
  | accept (places : List MigPlace)
  | refuse (st : Nat)
  | handover (h : HandIn)
  | confirm
  | release
  | query
  /-- 1 ACTIVE at the target, 2 ABANDONED, 3 UNKNOWN. -/
  | outcome (o : Nat)
  deriving DecidableEq, Repr

end Sys2Proof
end

