-- ==== Sys2Proof/Syntax.lean ====
section
/-!
DEFINITION. The commands the block takes: one constructor for each row of spec/opcode_table.json, in the table's order.
Each docstring is led by the rule the table names. The operands are what the row leaves to its sender or to the
outside: identities, fields, and what drives, fabrics, hosts and cores answer (log 2).
-/
namespace Sys2Proof

/-- The commands (rows of the table). -/
inductive Instr where
  /-- REGISTER_WRITE (R47). -/
  | registerWrite (r : Requester) (addr : BitVec 40) (v : Word)
  /-- CFG_COMMIT (R49). -/
  | cfgCommit (y : Yoke) (r : Requester) (gen mask tag : Nat) (silent : List Nat)
  /-- SCHEDULED_COMMIT (R51). -/
  | scheduledCommit (y : Yoke) (r : Requester) (gen mask tag : Nat) (silent : List Nat)
  /-- COMMIT_CANCEL (R52). -/
  | commitCancel (r : Requester) (gen tag : Nat)
  /-- COMMIT_ANSWER_TIMEOUT (R49). -/
  | commitAnswerTimeout
  /-- COMMIT_APPLY_AT (R49). -/
  | commitApplyAt
  /-- CONFIG_FINGERPRINT (R55). -/
  | configFingerprint
  /-- DIVERGENCE_GRACE_EXPIRY (R59). -/
  | divergenceGraceExpiry (entry : Nat)
  /-- YOK_KTB_FREQ_WRITE (R44). -/
  | yokKtbFreqWrite (y : Yoke) (v : Word)
  /-- YOK_KTB_SLEW_WRITE (R44). -/
  | yokKtbSlewWrite (y : Yoke) (v : Word)
  /-- YOK_KTB_STEP_WRITE (R44). -/
  | yokKtbStepWrite (y : Yoke) (v : Word)
  /-- PPS_IN_EDGE (R46). -/
  | ppsInEdge (y : Yoke)
  /-- PPS_OUT_PULSE (R46). -/
  | ppsOutPulse
  /-- ACRE_TIME_TRANSFER (R45). -/
  | acreTimeTransfer (a : Acre)
  /-- PWR_SPEED_SAMPLE (R38). -/
  | pwrSpeedSample (die speed source : Nat)
  /-- LINK_FENCE (R30). -/
  | linkFence (link : Nat)
  /-- OPEN (R85). -/
  | openSession (sq cid : Nat) (buf : List Byte)
  /-- PARK (R78). -/
  | park (sq cid handle : Nat)
  /-- REVIVE (R68). -/
  | revive (sq cid handle : Nat)
  /-- DORMANT (R67). -/
  | dormant (sq cid handle : Nat)
  /-- MIGRATE (R489). -/
  | migrate (sq cid handle device tier : Nat) (target : Option Nat) (conn : Nat)
  /-- RETIRE (R67). -/
  | retire (sq cid handle : Nat)
  /-- RETIRE_COMPLETE (R67). -/
  | retireComplete (slot : Nat)
  /-- WAKE_SET (R585). -/
  | wakeSet (sq cid handle en deadline : Nat)
  /-- DEADLINE_WAKE (R71). -/
  | deadlineWake (slot : Nat)
  /-- QUEUED_WAKE_ADMIT (R72). -/
  | queuedWakeAdmit (principal : Nat)
  /-- REVIVAL_FETCH_START (R74). -/
  | revivalFetchStart (acre : Acre)
  /-- REVIVAL_READY (R73). -/
  | revivalReady (slot : Nat)
  /-- DESC_READ (R302). -/
  | descRead (sq cid handle dlen : Nat)
  /-- GETX (R89). -/
  | getx (acre : Acre) (slot : Nat)
  /-- RECALL (R89). -/
  | recall (slot : Nat)
  /-- SHELF_WB (R89). -/
  | shelfWb (slot : Nat)
  /-- GETX_GRANT (R90). -/
  | getxGrant (slot : Nat)
  /-- GETX_RETRY (R91). -/
  | getxRetry (acre : Acre)
  /-- SHELF_EVICT (R91). -/
  | shelfEvict (acre : Acre) (slot : Nat)
  /-- PROFILE_UNBIND (R97). -/
  | profileUnbind (sq cid profile : Nat)
  /-- WRITE_BACK_ROUND (R106). -/
  | writeBackRound (obj : Nat)
  /-- WRITE_BACK_COMPLETE (R126). -/
  | writeBackComplete (obj : Nat)
  /-- NEAR_EVICT (R108). -/
  | nearEvict (acre : Acre)
  /-- STACK_FETCH_FOR_APPEND (R107). -/
  | stackFetchForAppend (slot k : Nat)
  /-- SET_POLICY (R112). -/
  | setPolicy (sq cid handle tier target fill : Nat)
  /-- SET_HOME (R113). -/
  | setHome (sq cid : Nat) (t : DirTarget) (tier target : Nat)
  /-- HOME_MOVE_COPY_DONE (R113). -/
  | homeMoveCopyDone (obj : Nat)
  /-- OLD_RUN_FREE (R113). -/
  | oldRunFree (obj : Nat)
  /-- STAGE (R115). -/
  | stage (sq cid : Nat) (t : DirTarget)
  /-- UNSTAGE (R112). -/
  | unstage (sq cid : Nat) (t : DirTarget)
  /-- PREFETCH (R586). -/
  | prefetch (sq cid : Nat) (t : DirTarget) (lo hi : Nat)
  /-- EVICT (R112). -/
  | evict (sq cid : Nat) (t : DirTarget)
  /-- PIN (R110). -/
  | pin (sq cid : Nat) (t : DirTarget)
  /-- UNPIN (R110). -/
  | unpin (sq cid : Nat) (t : DirTarget)
  /-- PREFIX_CREATE (R117). -/
  | prefixCreate (sq cid handle len principal : Nat)
  /-- PREFIX_RETIRE (R120). -/
  | prefixRetire (sq cid id : Nat)
  /-- BORROW_EMPTY (R132). -/
  | borrowEmpty (borrow : Nat)
  /-- CHEST_WRITE (R152). -/
  | chestWrite (obj : Nat)
  /-- CHEST_WRITE_DURABLE (R152). -/
  | chestWriteDurable (index : Nat)
  /-- CHEST_PIECE_READ (R153). -/
  | chestPieceRead (loc drive : Nat) (outcome : Status)
  /-- STAGING_DONE (R153). -/
  | stagingDone (obj : Nat)
  /-- NVME_COMPLETION (R134). -/
  | nvmeCompletion (drive cid : Nat) (media : Bool)
  /-- NVME_CMD_TIMEOUT (R135). -/
  | nvmeCmdTimeout (drive cid : Nat) (abortOk resetOk : Bool)
  /-- DRIVE_FAILED (R162). -/
  | driveFailed (drive : Nat) (unreachable : Bool)
  /-- DRIVE_LINK_UP (R562). -/
  | driveLinkUp (drive segments : Nat) (vwc same : Bool)
  /-- JOURNAL_GROUP_CLOSE (R149). -/
  | journalGroupClose
  /-- JOURNAL_GROUP_DURABLE (R149). -/
  | journalGroupDurable
  /-- MAP_CHECKPOINT (R150). -/
  | mapCheckpoint
  /-- HARROW_COLLECT (R156). -/
  | harrowCollect (drive : Nat)
  /-- HARROW_DEALLOCATE (R156). -/
  | harrowDeallocate (drive seg : Nat)
  /-- CHEST_MOUNT (R160). -/
  | chestMount
  /-- SMART_POLL (R164). -/
  | smartPoll (drive pct crit : Nat) (event : Bool)
  /-- CHEST_FORMAT (R163). -/
  | chestFormat (sq cid : Nat)
  /-- CHEST_ATTACH (R163). -/
  | chestAttach (sq cid drive : Nat)
  /-- ARQ_BATCH_TAKE (R176). -/
  | arqBatchTake (arq : Nat)
  /-- SAMPLE_HOLD_TIMEOUT (R232). -/
  | sampleHoldTimeout (entry : Nat)
  /-- ITEM_DISPATCH (R184). -/
  | itemDispatch (acre : Acre)
  /-- ITEM_COMPLETE (R190). -/
  | itemComplete (furrow : Nat)
  /-- ENTRY_COMPLETE (R191). -/
  | entryComplete (entry : Nat)
  /-- BATCH_RESPONSE (R192). -/
  | batchResponse (arq serial : Nat)
  /-- PREEMPT_SAVE (R186). -/
  | preemptSave (acre : Acre)
  /-- PREEMPT_SAVE_DONE (R186). -/
  | preemptSaveDone (furrow : Nat)
  /-- PREFILL_RESTORE (R186). -/
  | prefillRestore (acre : Acre)
  /-- ARQ_ERROR_CLEAR (R173). -/
  | arqErrorClear (arq : Nat)
  /-- TKQ_RECORD_APPLY (R230). -/
  | tkqRecordApply (tkq : Nat)
  /-- TKQ_ERROR_CLEAR (R228). -/
  | tkqErrorClear (tkq : Nat)
  /-- TRIM (R241). -/
  | trim (sq cid handle target : Nat)
  /-- SET_FLOOR (R226). -/
  | setFloor (sq cid handle floor : Nat)
  /-- GEN_SET (R240). -/
  | genSet (sq cid handle : Nat) (buf : List Byte)
  /-- SRQ_BATCH_TAKE (R262). -/
  | srqBatchTake (srq : Nat)
  /-- SRQ_ERROR_CLEAR (R261). -/
  | srqErrorClear (srq : Nat)
  /-- CENTROID_PASS_DONE (R264). -/
  | centroidPassDone (gleaner : Nat)
  /-- LIST_VISIT_DONE (R264). -/
  | listVisitDone (gleaner : Nat)
  /-- SEARCH_MERGE (R264). -/
  | searchMerge (serial : Nat)
  /-- GLEANER_SWITCH (R267). -/
  | gleanerSwitch (gleaner : Nat)
  /-- IDX_CREATE (R256). -/
  | idxCreate (sq cid target : Nat) (buf : List Byte)
  /-- IDX_LOAD (R256). -/
  | idxLoad (sq cid handle list : Nat) (buf : List Byte)
  /-- IDX_PUBLISH (R256). -/
  | idxPublish (sq cid handle : Nat)
  /-- IDX_COMPACT (R271). -/
  | idxCompact (sq cid handle : Nat)
  /-- COMPACTION_BUILD_DONE (R271). -/
  | compactionBuildDone (gleaner : Nat)
  /-- COMPACTION_SWITCH (R271). -/
  | compactionSwitch (slot : Nat)
  /-- IDX_RETIRE (R256). -/
  | idxRetire (sq cid handle : Nat)
  /-- SHARD_DEADLINE (R275). -/
  | shardDeadline (serial : Nat)
  /-- IMAGE_LOAD (R282). -/
  | imageLoad (sq cid : Nat) (b : List Byte) (verifies : Bool)
  /-- IMAGE_UNLOAD (R283). -/
  | imageUnload (sq cid id : Nat)
  /-- ROUTE_SET (R291). -/
  | routeSet (sq cid principal route conn base len key perm : Nat)
  /-- EVENT_DISPATCH (R287). -/
  | eventDispatch (acre : Acre)
  /-- HANDLER_BUDGET_EXPIRE (R287). -/
  | handlerBudgetExpire (tine : Nat)
  /-- PROGRAM_TIMER (R289). -/
  | programTimer (slot tag : Nat)
  /-- SQ_TAIL_DOORBELL (R296). -/
  | sqTailDoorbell (sq tail : Nat) (entries : List (List Byte))
  /-- CQ_HEAD_DOORBELL (R304). -/
  | cqHeadDoorbell (cq head : Nat)
  /-- STREAM_RING_DOORBELL (R246). -/
  | streamRingDoorbell (ring count : Nat)
  /-- EVENT_RING_DOORBELL (R307). -/
  | eventRingDoorbell (ring count : Nat)
  /-- MSIX_COALESCE (R308). -/
  | msixCoalesce (kind n : Nat)
  /-- YOK_HQ_NEGOTIATE (R295). -/
  | yokHqNegotiate (range : BitVec 32)
  /-- YOK_HQ_AQ_EN (R296). -/
  | yokHqAqEn (enable : Bool)
  /-- CREATE_QP (R296). -/
  | createQp (sq cid q sqBase cqBase sqLog2 cqLog2 vector : Nat)
  /-- DELETE_QP (R296). -/
  | deleteQp (sq cid q : Nat)
  /-- STREAM_CREATE (R305). -/
  | streamCreate (sq cid ring base k paddr vector : Nat)
  /-- STREAM_DELETE (R305). -/
  | streamDelete (sq cid ring : Nat)
  /-- EVRING_CREATE (R306). -/
  | evringCreate (sq cid ring base k paddr vector : Nat)
  /-- EVRING_DELETE (R306). -/
  | evringDelete (sq cid ring : Nat)
  /-- CONFIG_WRITE (R299). -/
  | configWrite (sq cid : Nat) (b : List Byte)
  /-- CONFIG_READ (R299). -/
  | configRead (sq cid : Nat) (b : List Byte)
  /-- CONFIG_COMMIT (R299). -/
  | configCommit (sq cid : Nat) (passed : Bool) (gen mask at_ : Nat) (cancel : Bool) (tag : Nat) (silent : List Nat)
  /-- DEADLINE_SET (R312). -/
  | deadlineSet (sq cid handle cMax qMax dReq : Nat)
  /-- DEADLINE_CLEAR (R312). -/
  | deadlineClear (sq cid handle : Nat)
  /-- ABORT (R309). -/
  | abort (sq cid tsq tcid : Nat)
  /-- ADD (R326). -/
  | add (tine : Nat) (rd rs1 rs2 : BitVec 6)
  /-- SUB (R326). -/
  | sub (tine : Nat) (rd rs1 rs2 : BitVec 6)
  /-- AND (R326). -/
  | andReg (tine : Nat) (rd rs1 rs2 : BitVec 6)
  /-- OR (R326). -/
  | orReg (tine : Nat) (rd rs1 rs2 : BitVec 6)
  /-- XOR (R326). -/
  | xorReg (tine : Nat) (rd rs1 rs2 : BitVec 6)
  /-- SLL (R326). -/
  | sll (tine : Nat) (rd rs1 rs2 : BitVec 6)
  /-- SRL (R326). -/
  | srl (tine : Nat) (rd rs1 rs2 : BitVec 6)
  /-- SRA (R326). -/
  | sra (tine : Nat) (rd rs1 rs2 : BitVec 6)
  /-- SLT (R326). -/
  | slt (tine : Nat) (rd rs1 rs2 : BitVec 6)
  /-- SLTU (R326). -/
  | sltu (tine : Nat) (rd rs1 rs2 : BitVec 6)
  /-- MIN (R326). -/
  | min (tine : Nat) (rd rs1 rs2 : BitVec 6)
  /-- MAX (R326). -/
  | max (tine : Nat) (rd rs1 rs2 : BitVec 6)
  /-- MINU (R326). -/
  | minu (tine : Nat) (rd rs1 rs2 : BitVec 6)
  /-- MAXU (R326). -/
  | maxu (tine : Nat) (rd rs1 rs2 : BitVec 6)
  /-- MUL (R326). -/
  | mul (tine : Nat) (rd rs1 rs2 : BitVec 6)
  /-- MULH (R326). -/
  | mulh (tine : Nat) (rd rs1 rs2 : BitVec 6)
  /-- MULHU (R326). -/
  | mulhu (tine : Nat) (rd rs1 rs2 : BitVec 6)
  /-- DIV (R325). -/
  | div (tine : Nat) (rd rs1 rs2 : BitVec 6)
  /-- DIVU (R325). -/
  | divu (tine : Nat) (rd rs1 rs2 : BitVec 6)
  /-- REM (R325). -/
  | rem (tine : Nat) (rd rs1 rs2 : BitVec 6)
  /-- REMU (R325). -/
  | remu (tine : Nat) (rd rs1 rs2 : BitVec 6)
  /-- ADDI (R327). -/
  | addi (tine : Nat) (rd rs1 : BitVec 6) (imm : BitVec 13)
  /-- ANDI (R327). -/
  | andi (tine : Nat) (rd rs1 : BitVec 6) (imm : BitVec 13)
  /-- ORI (R327). -/
  | ori (tine : Nat) (rd rs1 : BitVec 6) (imm : BitVec 13)
  /-- XORI (R327). -/
  | xori (tine : Nat) (rd rs1 : BitVec 6) (imm : BitVec 13)
  /-- SLTI (R327). -/
  | slti (tine : Nat) (rd rs1 : BitVec 6) (imm : BitVec 13)
  /-- SLTIU (R327). -/
  | sltiu (tine : Nat) (rd rs1 : BitVec 6) (imm : BitVec 13)
  /-- SLLI (R327). -/
  | slli (tine : Nat) (rd rs1 sh : BitVec 6) (mbz : BitVec 5)
  /-- SRLI (R327). -/
  | srli (tine : Nat) (rd rs1 sh : BitVec 6) (mbz : BitVec 5)
  /-- SRAI (R327). -/
  | srai (tine : Nat) (rd rs1 sh : BitVec 6) (mbz : BitVec 5)
  /-- LI_SHORT (R327). -/
  | liShort (tine : Nat) (rd : BitVec 6) (imm : BitVec 19)
  /-- LI_LONG (R327). -/
  | liLong (tine : Nat) (rd : BitVec 6) (imm : BitVec 51)
  /-- LPC (R327). -/
  | lpc (tine : Nat) (rd : BitVec 6) (imm : BitVec 19)
  /-- JAL (R328). -/
  | jal (tine : Nat) (rd : BitVec 6) (imm : BitVec 19)
  /-- JALR (R328). -/
  | jalr (tine : Nat) (rd rs1 : BitVec 6) (imm : BitVec 13)
  /-- BEQ (R328). -/
  | beq (tine : Nat) (rs1 rs2 : BitVec 6) (off : BitVec 13)
  /-- BNE (R328). -/
  | bne (tine : Nat) (rs1 rs2 : BitVec 6) (off : BitVec 13)
  /-- BLT (R328). -/
  | blt (tine : Nat) (rs1 rs2 : BitVec 6) (off : BitVec 13)
  /-- BGE (R328). -/
  | bge (tine : Nat) (rs1 rs2 : BitVec 6) (off : BitVec 13)
  /-- BLTU (R328). -/
  | bltu (tine : Nat) (rs1 rs2 : BitVec 6) (off : BitVec 13)
  /-- BGEU (R328). -/
  | bgeu (tine : Nat) (rs1 rs2 : BitVec 6) (off : BitVec 13)
  /-- LD_B (R330). -/
  | ldB (tine : Nat) (rd rs1 : BitVec 6) (imm : BitVec 13)
  /-- LD_H (R330). -/
  | ldH (tine : Nat) (rd rs1 : BitVec 6) (imm : BitVec 13)
  /-- LD_W (R330). -/
  | ldW (tine : Nat) (rd rs1 : BitVec 6) (imm : BitVec 13)
  /-- LD_D (R330). -/
  | ldD (tine : Nat) (rd rs1 : BitVec 6) (imm : BitVec 13)
  /-- ST_B (R330). -/
  | stB (tine : Nat) (rs2 rs1 : BitVec 6) (imm : BitVec 13)
  /-- ST_H (R330). -/
  | stH (tine : Nat) (rs2 rs1 : BitVec 6) (imm : BitVec 13)
  /-- ST_W (R330). -/
  | stW (tine : Nat) (rs2 rs1 : BitVec 6) (imm : BitVec 13)
  /-- ST_D (R330). -/
  | stD (tine : Nat) (rs2 rs1 : BitVec 6) (imm : BitVec 13)
  /-- DLD_B (R331). -/
  | dldB (tine : Nat) (rd rs1 : BitVec 6) (imm : BitVec 13)
  /-- DLD_H (R331). -/
  | dldH (tine : Nat) (rd rs1 : BitVec 6) (imm : BitVec 13)
  /-- DLD_W (R331). -/
  | dldW (tine : Nat) (rd rs1 : BitVec 6) (imm : BitVec 13)
  /-- DLD_D (R331). -/
  | dldD (tine : Nat) (rd rs1 : BitVec 6) (imm : BitVec 13)
  /-- DST_B (R331). -/
  | dstB (tine : Nat) (rs2 rs1 : BitVec 6) (imm : BitVec 13)
  /-- DST_H (R331). -/
  | dstH (tine : Nat) (rs2 rs1 : BitVec 6) (imm : BitVec 13)
  /-- DST_W (R331). -/
  | dstW (tine : Nat) (rs2 rs1 : BitVec 6) (imm : BitVec 13)
  /-- DST_D (R331). -/
  | dstD (tine : Nat) (rs2 rs1 : BitVec 6) (imm : BitVec 13)
  /-- EVRET (R287). -/
  | evret (tine : Nat) (rd rs1 rs2 : BitVec 6)
  /-- FAULT (R329). -/
  | fault (tine : Nat) (code rs1 rs2 : BitVec 6)
  /-- KTB (R329). -/
  | ktb (tine : Nat) (rd rs1 rs2 : BitVec 6)
  /-- RREG (R329). -/
  | rreg (tine : Nat) (rd rs1 rs2 : BitVec 6)
  /-- WREG (R329). -/
  | wreg (tine : Nat) (rd rs1 rs2 : BitVec 6)
  /-- KSI_PARK (R337). -/
  | ksiPark (tine : Nat) (rd rs1 rs2 rs3 : BitVec 6) (imm : BitVec 25)
  /-- PARK_A (R337). -/
  | parkA (tine : Nat) (rd rs1 rs2 rs3 : BitVec 6) (imm : BitVec 25)
  /-- KSI_REVIVE (R337). -/
  | ksiRevive (tine : Nat) (rd rs1 rs2 rs3 : BitVec 6) (imm : BitVec 25)
  /-- KSI_TRIM (R337). -/
  | ksiTrim (tine : Nat) (rd rs1 rs2 rs3 : BitVec 6) (imm : BitVec 25)
  /-- RDESC (R337). -/
  | rdesc (tine : Nat) (rd rs1 rs2 rs3 : BitVec 6) (imm : BitVec 25)
  /-- POST (R337). -/
  | post (tine : Nat) (rd rs1 rs2 rs3 : BitVec 6) (imm : BitVec 25)
  /-- ATTN (R338). -/
  | attn (tine : Nat) (rd rs1 rs2 rs3 : BitVec 6) (imm : BitVec 25)
  /-- APPEND (R338). -/
  | append (tine : Nat) (rd rs1 rs2 rs3 : BitVec 6) (imm : BitVec 25)
  /-- SRCH (R340). -/
  | srch (tine : Nat) (rd rs1 rs2 rs3 : BitVec 6) (imm : BitVec 25)
  /-- RWRITE (R341). -/
  | rwrite (tine : Nat) (rd rs1 rs2 rs3 : BitVec 6) (imm : BitVec 25)
  /-- RREAD (R341). -/
  | rread (tine : Nat) (rd rs1 rs2 rs3 : BitVec 6) (imm : BitVec 25)
  /-- WAIT_T (R342). -/
  | waitT (tine : Nat) (rd rs1 rs2 rs3 : BitVec 6) (imm : BitVec 25)
  /-- WAIT_C (R342). -/
  | waitC (tine : Nat) (rd rs1 rs2 rs3 : BitVec 6) (imm : BitVec 25)
  /-- CKPT (R343). -/
  | ckpt (tine : Nat) (rd rs1 rs2 rs3 : BitVec 6) (imm : BitVec 25)
  /-- SIGNAL_READ (R349). -/
  | signalRead (tine : Nat) (rd rs1 rs2 rs3 : BitVec 6) (mbz : BitVec 21)
  /-- SIGNAL_GE (R349). -/
  | signalGe (tine : Nat) (rd rs1 rs2 rs3 : BitVec 6) (mbz : BitVec 21)
  /-- SIGNAL_NE (R349). -/
  | signalNe (tine : Nat) (rd rs1 rs2 rs3 : BitVec 6) (mbz : BitVec 21)
  /-- SIGNAL_PHASE (R349). -/
  | signalPhase (tine : Nat) (rd rs1 rs2 rs3 : BitVec 6) (mbz : BitVec 21)
  /-- SIGNAL_FREE (R349). -/
  | signalFree (tine : Nat) (rd rs1 rs2 rs3 : BitVec 6) (mbz : BitVec 21)
  /-- ARM_GE (R356). -/
  | armGe (tine : Nat) (rd rs1 rs2 rs3 : BitVec 6) (mbz : BitVec 21)
  /-- ARM_NE (R356). -/
  | armNe (tine : Nat) (rd rs1 rs2 rs3 : BitVec 6) (mbz : BitVec 21)
  /-- ARM_PHASE (R356). -/
  | armPhase (tine : Nat) (rd rs1 rs2 rs3 : BitVec 6) (mbz : BitVec 21)
  /-- ARM_FREE (R356). -/
  | armFree (tine : Nat) (rd rs1 rs2 rs3 : BitVec 6) (mbz : BitVec 21)
  /-- SIGNAL_LOCK (R351). -/
  | signalLock (tine : Nat) (rd rs1 rs2 rs3 : BitVec 6) (mbz : BitVec 21)
  /-- SIGNAL_P (R351). -/
  | signalP (tine : Nat) (rd rs1 rs2 rs3 : BitVec 6) (mbz : BitVec 21)
  /-- SIGNAL_ARRIVE (R351). -/
  | signalArrive (tine : Nat) (rd rs1 rs2 rs3 : BitVec 6) (mbz : BitVec 21)
  /-- UNLOCK (R364). -/
  | unlock (tine : Nat) (rd rs1 rs2 rs3 : BitVec 6) (mbz : BitVec 21)
  /-- SIGNAL_V (R350). -/
  | signalV (tine : Nat) (rd rs1 rs2 rs3 : BitVec 6) (mbz : BitVec 21)
  /-- SIGNAL_ADD (R350). -/
  | signalAdd (tine : Nat) (rd rs1 rs2 rs3 : BitVec 6) (mbz : BitVec 21)
  /-- DISARM (R356). -/
  | disarm (tine : Nat) (rd rs1 rs2 rs3 : BitVec 6) (mbz : BitVec 21)
  /-- WAIT_GE (R351). -/
  | waitGe (tine : Nat) (rd rs1 rs2 rs3 : BitVec 6) (mbz : BitVec 21)
  /-- WAIT_NE (R351). -/
  | waitNe (tine : Nat) (rd rs1 rs2 rs3 : BitVec 6) (mbz : BitVec 21)
  /-- WAIT_PHASE (R351). -/
  | waitPhase (tine : Nat) (rd rs1 rs2 rs3 : BitVec 6) (mbz : BitVec 21)
  /-- WAIT_FREE (R351). -/
  | waitFree (tine : Nat) (rd rs1 rs2 rs3 : BitVec 6) (mbz : BitVec 21)
  /-- WAIT_LOCK (R351). -/
  | waitLock (tine : Nat) (rd rs1 rs2 rs3 : BitVec 6) (mbz : BitVec 21)
  /-- WAIT_P (R351). -/
  | waitP (tine : Nat) (rd rs1 rs2 rs3 : BitVec 6) (mbz : BitVec 21)
  /-- WAIT_ARRIVE (R351). -/
  | waitArrive (tine : Nat) (rd rs1 rs2 rs3 : BitVec 6) (mbz : BitVec 21)
  /-- WAIT_TIMEOUT (R354). -/
  | waitTimeout (obj slot tag : Nat)
  /-- WAIT_FOR_SEARCH (R360). -/
  | waitForSearch (obj slot tag : Nat)
  /-- DEADLOCK_FAIL (R361). -/
  | deadlockFail (obj slot tag : Nat)
  /-- SYN_OP (R366). -/
  | synOp (acre : Acre) (index : BitVec 14) (code : BitVec 4)
  /-- SYN_OP_FORCE (R366). -/
  | synOpForce (acre : Acre) (index : BitVec 14)
  /-- KLT_WRITE (R377). -/
  | kltWrite (h : KHdr) (data : List Byte)
  /-- FRAME_WRITE (R381). -/
  | frameWrite (h : KHdr) (frame tag : List Byte)
  /-- READ_REQ (R380). -/
  | readReq (h : KHdr)
  /-- FRAME_READ_REQ (R380). -/
  | frameReadReq (h : KHdr)
  /-- READ_EXECUTE (R380). -/
  | readExecute (conn : Nat)
  /-- READ_RSP (R380). -/
  | readRsp (h : KHdr) (data : List Byte)
  /-- FRAME_READ_RSP (R381). -/
  | frameReadRsp (h : KHdr) (frame tag plain : List Byte) (good : Bool)
  /-- READ_UNIT_TIMEOUT (R380). -/
  | readUnitTimeout (conn msn unit : Nat)
  /-- ACK (R385). -/
  | ack (a : KAck)
  /-- ACK_DELAY_EXPIRY (R386). -/
  | ackDelayExpiry (conn : Nat)
  /-- LOSS_DETECT (R387). -/
  | lossDetect (conn psn : Nat)
  /-- CC_WINDOW_END (R396). -/
  | ccWindowEnd (conn : Nat)
  /-- CONNECT_REQ (R373). -/
  | connectReq (r : ConnReq)
  /-- CONNECT_RSP (R373). -/
  | connectRsp (r : ConnRsp)
  /-- CONNECT_RESEND (R373). -/
  | connectResend (conn : Nat)
  /-- CLOSE (R374). -/
  | close (dconn cgen sep : Nat)
  /-- CLOSE_ACK (R374). -/
  | closeAck (dconn cgen sep : Nat)
  /-- CLOSE_RESEND (R374). -/
  | closeResend (conn : Nat)
  /-- HEARTBEAT (R376). -/
  | heartbeat (sep : Nat) (b : Beat)
  /-- HEARTBEAT_SEND (R376). -/
  | heartbeatSend (entry : Nat)
  /-- PEER_DOWN (R376). -/
  | peerDown (entry : Nat)
  /-- CONN_OPEN (R399). -/
  | connOpen (y : Yoke)
  /-- CONN_CLOSE (R374). -/
  | connClose (y : Yoke)
  /-- REG_REGISTER (R388). -/
  | regRegister (y : Yoke)
  /-- REG_REVOKE (R389). -/
  | regRevoke (y : Yoke)
  /-- PWQ_CREATE (R399). -/
  | pwqCreate (y : Yoke)
  /-- PWQ_DELETE (R399). -/
  | pwqDelete (y : Yoke)
  /-- MCL_SET (R399). -/
  | mclSet (y : Yoke)
  /-- PWQ_REQUEST_START (R391). -/
  | pwqRequestStart (q : Nat)
  /-- PWQ_REQUEST_COMPLETE (R391). -/
  | pwqRequestComplete (q idx : Nat)
  /-- PWQ_ERROR_CLEAR (R391). -/
  | pwqErrorClear (q : Nat)
  /-- EGRESS_SELECT (R403). -/
  | egressSelect (port : Nat)
  /-- SHAPER_REFILL (R405). -/
  | shaperRefill (port : Nat)
  /-- QUEUE_SAMPLE (R409). -/
  | queueSample (port : Nat)
  /-- GATE_EDGE (R410). -/
  | gateEdge (y : Yoke)
  /-- GCL_TAKEOVER (R413). -/
  | gclTakeover (y : Yoke)
  /-- PTP_SYNC (R416). -/
  | ptpSync (port seq : Nat) (t1 : Option Nat) (ts : Nat)
  /-- PTP_FOLLOW_UP (R415). -/
  | ptpFollowUp (port seq t1 : Nat)
  /-- PTP_DELAY_RESP (R415). -/
  | ptpDelayResp (port seq t4 : Nat)
  /-- PTP_DELAY_REQ (R415). -/
  | ptpDelayReq (port seq ts : Nat)
  /-- PTP_ANNOUNCE (R415). -/
  | ptpAnnounce (port domain : Nat) (c : PtpClock)
  /-- PTP_SEND_TIMER (R415). -/
  | ptpSendTimer (port : Nat)
  /-- PTP_SYNC_LOSS (R416). -/
  | ptpSyncLoss
  /-- HELLO (R453). -/
  | hello (y : Yoke) (minVer maxVer cred : Nat)
  /-- AUTH (R453). -/
  | auth (y : Yoke) (session : Nat) (verifies : Bool)
  /-- MGMT_IDLE_TIMEOUT (R454). -/
  | mgmtIdleTimeout (y : Yoke) (session : Nat)
  /-- MGMT_LOCKOUT_EXPIRY (R454). -/
  | mgmtLockoutExpiry (y : Yoke)
  /-- GET_INFO (R455). -/
  | getInfo (q : MgmtReq)
  /-- GET_CHAIN (R455). -/
  | getChain (q : MgmtReq) (slot off : Nat) (more : Bool)
  /-- SESSION_CLOSE (R455). -/
  | sessionClose (q : MgmtReq)
  /-- REG_READ (R455). -/
  | regRead (q : MgmtReq) (addr : BitVec 40)
  /-- REG_WRITE (R455). -/
  | regWrite (q : MgmtReq) (addr : BitVec 40) (v : Word)
  /-- MGMT_CONFIG_COMMIT (R455). -/
  | mgmtConfigCommit (q : MgmtReq) (gen mask : Nat) (at_ : Option Nat) (cancel : Bool) (tag : Nat) (silent : List Nat)
  /-- RESET (R455). -/
  | reset (q : MgmtReq) (kind : Nat) (y : Yoke)
  /-- FENCE_CORE (R455). -/
  | fenceCore (q : MgmtReq) (die kind n : Nat) (hit : List Nat)
  /-- FW_STAGE (R455). -/
  | fwStage (q : MgmtReq) (image : FwImage) (verifies : Bool)
  /-- FW_ACTIVATE (R455). -/
  | fwActivate (q : MgmtReq) (advance : Bool)
  /-- BIND_BEGIN (R433). -/
  | bindBegin (q : MgmtReq) (b : BindReq)
  /-- BIND_COMMIT (R433). -/
  | bindCommit (q : MgmtReq)
  /-- BIND_ABORT (R434). -/
  | bindAbort (q : MgmtReq)
  /-- BIND_TIMEOUT (R434). -/
  | bindTimeout
  /-- RELEASE (R436). -/
  | release (q : MgmtReq)
  /-- RELEASE_SCRUB_DONE (R436). -/
  | releaseScrubDone
  /-- ZEROISE (R439). -/
  | zeroise (q : MgmtReq)
  /-- SPDM_RELAY (R455). -/
  | spdmRelay (q : MgmtReq) (r : SpdmReq)
  /-- CRED_ADD (R455). -/
  | credAdd (q : MgmtReq) (key roles : Nat)
  /-- CRED_REMOVE (R455). -/
  | credRemove (q : MgmtReq) (slot : Nat)
  /-- DEPLOY (R455). -/
  | deploy (q : MgmtReq) (key : Nat)
  /-- DECOMMISSION (R429). -/
  | decommission (q : MgmtReq)
  /-- DEBUG_CHALLENGE (R458). -/
  | debugChallenge (q : MgmtReq)
  /-- DEBUG_UNLOCK (R458). -/
  | debugUnlock (q : MgmtReq) (t : Option Consent)
  /-- DEBUG_LOCK (R458). -/
  | debugLock (q : MgmtReq)
  /-- DEBUG_UNLOCK_EXPIRY (R458). -/
  | debugUnlockExpiry
  /-- EVENT_SUBSCRIBE (R455). -/
  | eventSubscribe (q : MgmtReq)
  /-- TRACE_TRIGGER (R509). -/
  | traceTrigger (q : MgmtReq)
  /-- HALT (R513). -/
  | halt (q : MgmtReq)
  /-- SCAN_OUT (R515). -/
  | scanOut (q : MgmtReq) (die chain : Nat)
  /-- ENTROPY_TEST_FAIL (R424). -/
  | entropyTestFail (y : Yoke)
  /-- CKPT_MARK (R461). -/
  | ckptMark (sq cid : Nat) (passed : Bool) (e at_ : Nat) (full : Bool) (remote : Option (Nat × Nat × Nat))
  /-- EPOCH_MARKER (R464). -/
  | epochMarker (a : Acre)
  /-- SHARD_CAPTURED (R464). -/
  | shardCaptured (a : Acre)
  /-- EPOCH_DRAINED (R471). -/
  | epochDrained (st : Status)
  /-- CKPT_POLICY (R462). -/
  | ckptPolicy (sq cid : Nat) (passed : Bool) (handle : Nat) (auto : Bool)
  /-- CKPT_DISCARD (R477). -/
  | ckptDiscard (sq cid : Nat) (passed : Bool) (e : Nat)
  /-- RESTORE (R479). -/
  | restore (sq cid : Nat) (passed : Bool) (src : RestoreSrc) (mode : RestoreMode) (keepLog : Bool) (tier : Nat) (target : Option Nat)
  /-- RESTORE_STACKS_DONE (R479). -/
  | restoreStacksDone (slot : Nat)
  /-- RESTORE_OBJECTS (R480). -/
  | restoreObjects (sq cid : Nat) (passed : Bool) (e : Nat) (reachable intact : Bool) (what : ObjSet)
  /-- EXPORT (R481). -/
  | exportCmd (sq cid : Nat) (passed : Bool) (handle route : Nat) (locs : List Nat) (outcome : Status)
  /-- IMPORT (R481). -/
  | importCmd (sq cid : Nat) (passed : Bool) (handle route : Nat) (items : List ImportIn)
  /-- CORE_FENCE (R483). -/
  | coreFence (die kind n : Nat) (hit : List Nat)
  /-- ITEM_OVERRUN (R482). -/
  | itemOverrun (die kind n : Nat)
  /-- LEASE_RENEW (R486). -/
  | leaseRenew (reached : List Nat)
  /-- LEASE_EXPIRY (R486). -/
  | leaseExpiry (a : Acre)
  /-- YOKE_HEARTBEAT (R487). -/
  | yokeHeartbeat (y : Yoke) (p : Nat)
  /-- PARTNER_SILENCE (R487). -/
  | partnerSilence (y : Yoke)
  /-- CLAIM (R487). -/
  | claim (a : Acre) (y : Yoke) (p : Nat)
  /-- PRIMACY_TAKEOVER (R487). -/
  | primacyTakeover (y : Yoke)
  /-- STALE_PRIMACY (R488). -/
  | stalePrimacy (y : Yoke)
  /-- MIG_OFFER (R489). -/
  | migOffer (conn : Nat) (h : MigHdr) (o : OfferIn)
  /-- MIG_ACCEPT (R489). -/
  | migAccept (h : MigHdr) (places : List MigPlace)
  /-- MIG_REFUSE (R489). -/
  | migRefuse (h : MigHdr) (st : Nat)
  /-- MIGRATION_FREEZE (R489). -/
  | migrationFreeze (slot : Nat)
  /-- MIG_HANDOVER (R489). -/
  | migHandover (h : MigHdr) (good : Bool) (x : HandIn)
  /-- MIG_CONFIRM (R489). -/
  | migConfirm (h : MigHdr)
  /-- MIG_RELEASE (R489). -/
  | migRelease (h : MigHdr)
  /-- MIG_QUERY (R490). -/
  | migQuery (conn : Nat) (h : MigHdr)
  /-- MIG_OUTCOME (R490). -/
  | migOutcome (h : MigHdr) (o : Nat)
  /-- MIG_RESEND (R489). -/
  | migResend (slot : Nat)
  /-- MIG_RESOLVE (R489). -/
  | migResolve (sq cid : Nat) (passed : Bool) (handle : Nat) (activate : Bool)
  /-- LEAVE (R492). -/
  | leave (sq cid : Nat) (passed : Bool)
  /-- LEFT (R492). -/
  | left
  /-- PERIOD_BOUNDARY (R497). -/
  | periodBoundary (die : Nat)
  /-- OBS_SNAP_TAKE (R498). -/
  | obsSnapTake (die : Nat)
  /-- ENERGY_APPORTION (R504). -/
  | energyApportion (usage : List (Nat × Nat × Nat))
  /-- TRACE_FLUSH (R507). -/
  | traceFlush (acre : Nat)
  /-- TRACE_TIME_TRIGGER (R509). -/
  | traceTimeTrigger (acre : Nat)
  /-- TRACE_STALL_TRIGGER (R509). -/
  | traceStallTrigger (die kind n : Nat)
  /-- TRACE_POST_DONE (R508). -/
  | tracePostDone (acre : Nat)
  /-- OBS_MARK (R506). -/
  | obsMark (y : Yoke) (r : Requester) (v : Nat)
  /-- HALT_WAVE (R512). -/
  | haltWave (src : Nat)
  /-- HALT_IN_N (R513). -/
  | haltInN (low : Bool)
  /-- TRIG_IN (R556). -/
  | trigIn
  /-- PWRGOOD_RISE (R517). -/
  | pwrgoodRise (primaryPref hostSel : Bool)
  /-- STAGE0 (R518). -/
  | stage0 (pw pe ew ee : Bool) (fw fe : Nat) (torn : Bool) (ms : Nat)
  /-- STAGE1 (R519). -/
  | stage1 (ok0 ok1 : Bool) (links : List Nat) (lost : Option Yoke) (ms : Nat)
  /-- STAGE2 (R522). -/
  | stage2 (failed : List (Nat × Nat × Nat)) (offline : List Nat) (deviceId : Nat) (config : List (Nat × Word)) (ms : Nat)
  /-- STAGE3 (R523). -/
  | stage3
  /-- PWRGOOD_FALL (R552). -/
  | pwrgoodFall
  /-- RESET_N (R556). -/
  | resetN
  /-- PWR_RESET_SYSTEM (R524). -/
  | pwrResetSystem
  /-- PWR_RESET_MGMT (R524). -/
  | pwrResetMgmt (y : Yoke)
  /-- HOST_RESET (R525). -/
  | hostReset (port : Yoke)
  /-- HOST_PORT_SELECT (R521). -/
  | hostPortSelect (linked : Option Yoke)
  /-- AVS_STEP (R527). -/
  | avsStep
  /-- ENERGY_UPDATE (R528). -/
  | energyUpdate (mv dA : Nat)
  /-- RAIL_POLL (R569). -/
  | railPoll (rail : Nat) (answer : Option (Nat × Nat))
  /-- THERMAL_SAMPLE (R529). -/
  | thermalSample (die tj : Nat)
  /-- FALLOW_ENTER (R533). -/
  | fallowEnter
  /-- FALLOW_WAKE (R536). -/
  | fallowWake
  /-- FALLOW_CANCEL (R535). -/
  | fallowCancel
  /-- PROPOSE (R532). -/
  | propose (nb round : Nat)
  /-- ACCEPT (R534). -/
  | accept (nb round : Nat)
  /-- REFUSE (R534). -/
  | refuse (nb round : Nat)
  /-- CANCEL (R532). -/
  | cancel (nb round : Nat)
  /-- COMMITTED (R532). -/
  | committed (nb round : Nat)
  /-- WAKE (R532). -/
  | wake (nb round : Nat)
  /-- FALLOW_ANSWER_TIMEOUT (R534). -/
  | fallowAnswerTimeout
  /-- CONSENT_EXPIRY (R532). -/
  | consentExpiry (nb : Nat)
  /-- SELF_WAKE (R539). -/
  | selfWake
  /-- WAKE_REQUEST_DEFERRED (R536). -/
  | wakeRequestDeferred (r : WakeReq)
  /-- FALLOW_WAKE_DONE (R538). -/
  | fallowWakeDone
  /-- JTAG_BYPASS (R566). -/
  | jtagBypass (y : Yoke)
  /-- JTAG_IDCODE (R566). -/
  | jtagIdcode (y : Yoke)
  /-- JTAG_SAMPLE_PRELOAD (R566). -/
  | jtagSamplePreload (y : Yoke)
  /-- JTAG_EXTEST (R566). -/
  | jtagExtest (y : Yoke)
  /-- JTAG_CLAMP (R566). -/
  | jtagClamp (y : Yoke)
  /-- JTAG_HIGHZ (R566). -/
  | jtagHighz (y : Yoke)
  /-- SCANOUT (R515). -/
  | scanout (y : Yoke) (die chain : Nat)
  /-- ILLEGAL_INSTRUCTION (R321). -/
  | illegalInstruction (tine : Nat) (w0 w1 : BitVec 32)
  /-- ETHERNET_LINK_CHANGE (R384). -/
  | ethernetLinkChange (port : Nat) (up : Bool)
  /-- SUSPECT_HOLD_EXPIRY (R384). -/
  | suspectHoldExpiry (conn port e : Nat)
  /-- KLT_MALFORMED_PACKET (R368). -/
  | kltMalformedPacket (y : Yoke)
  /-- CLAIM_RETRY (R487). -/
  | claimRetry (y : Yoke)
  /-- PARTNER_HEARTBEAT_SEND (R487). -/
  | partnerHeartbeatSend (y : Yoke)
  /-- HOLDOVER_EXCESS_RISE (R418). -/
  | holdoverExcessRise
  /-- THERMTRIP_COMPARATOR (R556). -/
  | thermtripComparator
  /-- CHEST_QUIESCE_DONE (R534). -/
  | chestQuiesceDone
  /-- SHADOW_COPY (R469). -/
  | shadowCopy (obj : Nat)
  /-- DRAIN_WRITE_COMPLETE (R470). -/
  | drainWriteComplete (a : Acre) (obj : Option Nat) (st : Status)
  /-- PROVISIONING (R427). -/
  | provisioning
  deriving DecidableEq, Repr

end Sys2Proof
end

