-- ==== Sys2Proof/Config.lean ====
section
/-!
DEFINITION. What an implementation fixes, and the free values: constants without a body, of which nothing can be
proved but what holds of every value (the assumption log names each).
-/
namespace Sys2Proof.Config

/-- A fresh free value for each count: any number whatever. Used where a rule leaves a choice or a value open. -/
opaque free : Nat → Nat

/-- SHA-384 (R55, R282, R446): a function of the message, of which the model knows nothing else. -/
opaque sha384 : List Byte → BitVec 384

/-- AES-256-GCM of one frame (R121) under the frame key of a generation: STACK_ID, frame index, counter, KEY_SEL, plaintext;
ciphertext and tag. The model knows nothing else of it. -/
opaque sealFrame : Nat → Nat → Nat → Nat → List Byte → List Byte × List Byte

/-- AES-256-GCM under the scan key of a trace frame (R507): Acre, frame index, pass count, plaintext; and of a scan block (R516): the
12 header bytes, plaintext. Ciphertext and tag; the model knows nothing else of them. -/
opaque sealTrace : Nat → Nat → Nat → List Byte → List Byte × List Byte
opaque sealScan : List Byte → List Byte → List Byte × List Byte

/-- First 16 bytes of SHA-384 of the device identity public key, which the device unique secret determines (R440, R457). -/
opaque dikHash : Nat → Nat

/-- Dyngarid's 11-bit manufacturer identity in IDCODE (R566), which no file of the spec gives. -/
opaque manufacturer : BitVec 11

/-- The parts of the device's own PTP dataset that no register gives (R415): clock class, accuracy, variance, identity. -/
opaque ptpClass : Nat
opaque ptpAccuracy : Nat
opaque ptpVariance : Nat
opaque ptpIdentity : Nat

/-- Values a status register shows of what the model does not hold: the base of an Acre's descriptor region in its Near (R61), the
fill of the secure store after so many records (SEC_STORE.FILL_PCT), the progress of a compaction by index slot and time
(GLN_IDX_STATUS.COMPACT_PCT). -/
opaque descBase : Nat → Nat
opaque storeFill : Nat → Nat
opaque compactPct : Nat → Nat → Nat

/-- Near bytes of an Acre's event queue of 65,536 entries (R285), and of a Gleaner's saved context, which the spec bounds by 2 MiB and
4 KiB (R267). -/
opaque evqBytes : Nat
opaque glnSave : Nat

/-- An undefined result set of a search query (R263): scores and item IDs, by draw and query. -/
opaque freeSet : Nat → Nat → List (BitVec 32 × Nat)

/-- An undefined byte of a buffer or of rows (R18, R310, R336): by draw and place. -/
opaque freeByte : Nat → Nat → Byte

/-- The digest of the boot ROM, which no file of the spec gives (R446, index 1). -/
opaque bootRomDigest : BitVec 384

end Sys2Proof.Config
end

