-- ==== Sys2Proof/Machine/Regs.lean ====
section
/-!
DEFINITION. The control registers of the block index (R574): one name per register, with the block number,
offset, implementing dies, view (staged or not), selection register and the fields with their access codes
(R20) and reset values, as the register tables of the chapters give them.
-/
set_option maxRecDepth 4000
namespace Sys2Proof

/-- Which dies implement a register (R574). `shared`: one copy, kept by the primary Yoke; the other Yoke
reads a mirror of it. `yokes`: one copy on each Yoke. `acres`: one on each Acre. `all`: one on every die. -/
inductive RegDies where
  | shared | yokes | acres | all
  deriving DecidableEq, Repr

/-- Access codes of R20. -/
inductive Access where
  | ro | rw | wo | w1c | w1s | rc | rws
  deriving DecidableEq, Repr

/-- One field of a register: bits [hi:lo], its name in the manual, access code and reset value. -/
structure RegField where
  name  : String
  hi    : Nat
  lo    : Nat
  acc   : Access
  reset : Nat
  deriving DecidableEq, Repr

/-- The registers of R574, under the manual's names. -/
inductive Reg where
  | CFG_COMMIT
  | CFG_COMMIT_AT
  | CFG_STATUS
  | CFG_RESULT
  | CFG_FP_0
  | CFG_FP_1
  | CFG_FP_2
  | CFG_FP_3
  | CFG_FP_4
  | CFG_FP_5
  | CFG_DOMAIN
  | CFG_DOMAIN_FP_0
  | CFG_DOMAIN_FP_1
  | CFG_DOMAIN_FP_2
  | CFG_DOMAIN_FP_3
  | CFG_DOMAIN_FP_4
  | CFG_DOMAIN_FP_5
  | CFG_DOMAIN_STATUS
  | YOK_IFV_SEL
  | YOK_IFV
  | YOK_KTB_NOW
  | YOK_KTB_FREQ
  | YOK_KTB_SLEW
  | YOK_KTB_STEP
  | YOK_PPS_IN_TS
  | YOK_HQ_VERSION
  | YOK_HQ_NEGOTIATE
  | YOK_HQ_ASQ_BASE
  | YOK_HQ_ACQ_BASE
  | YOK_HQ_AQ_DEPTH
  | YOK_HQ_AQ_EN
  | YOK_HQ_INT
  | YOK_HQ_STATUS
  | YOK_PRIMACY_CTRL
  | YOK_PRIMACY
  | PWR_STAGE
  | PWR_STAGE_TIME
  | PWR_RESET
  | PWR_CAP
  | PWR_TELEM
  | PWR_TELEM_W
  | PWR_AVS
  | PWR_SPEED
  | PWR_THERM
  | PWR_FALLOW_CTRL
  | PWR_FALLOW_NB_SEL
  | PWR_FALLOW_NB_CFG
  | PWR_FALLOW_NB_ADDR
  | PWR_FALLOW_NB_KEY
  | PWR_FALLOW_NB_STATUS
  | PWR_FALLOW_CMD
  | PWR_FALLOW_STATUS
  | PWR_FALLOW_WAKE
  | PWR_STRAP
  | PWR_RAIL_SEL
  | PWR_RAIL
  | SEC_TEN_STATUS
  | SEC_TEN_ID
  | SEC_LC
  | SEC_KEY_SEL
  | SEC_KEY_STATUS
  | SEC_CERT
  | SEC_BIND_CTRL
  | SEC_MGMT_CTRL
  | SEC_FW_MIN
  | SEC_STORE
  | SEC_SELFTEST
  | SEC_DEBUG
  | SEC_DEBUG_UNTIL
  | SEC_MGMT_STATUS
  | OBS_CTRL
  | OBS_SNAP
  | OBS_PERIOD
  | OBS_ENG_SEL
  | OBS_ENG_BUSY
  | OBS_ENG_STALL
  | OBS_ENG_IDLE
  | OBS_ENG_FENCED
  | OBS_ENG_REASON
  | OBS_OVF
  | OBS_PRIN_SEL
  | OBS_PRIN_VAL
  | OBS_ENERGY_CTRL
  | OBS_ENERGY_W
  | OBS_ENERGY_W2
  | OBS_HALT
  | OBS_HALT_TS
  | OBS_SCAN_STATUS
  | OBS_MARK
  | OBS_TRACE_CFG
  | OBS_TRACE_TRIG
  | OBS_TRACE_TRIG_AT
  | OBS_TRACE_STATUS
  | OBS_TRACE_PTRS
  | OBS_TRACE_TRIG_TS
  | OBS_TRACE_FLUSH
  | OBS_TRACE_EXPORT
  | OBS_TRACE_EXP_BASE
  | OBS_TRACE_EXP_KEY
  | KLT_CTRL
  | KLT_CTRL2
  | KLT_DSCP
  | KLT_LOCAL_IP_HI
  | KLT_LOCAL_IP_LO
  | KLT_PEER_SEL
  | KLT_PEER_CFG
  | KLT_PEER_IP_HI
  | KLT_PEER_IP_LO
  | KLT_PEER_STATUS
  | KLT_CC_SEL
  | KLT_CC
  | KLT_CONN_SEL
  | KLT_CONN_STATUS
  | KLT_CONN_CWND
  | KLT_PWQ_SEL
  | KLT_PWQ_STATUS
  | KLT_CMD
  | KLT_CMD_ARG0
  | KLT_CMD_ARG1
  | KLT_CMD_ARG2
  | KLT_CMD_ARG3
  | KLT_CMD_RESULT
  | KLT_DROPS
  | KLT_VERSION
  | TSC_DRR
  | TSC_QLEN
  | TSC_SHP_SEL
  | TSC_SHP
  | TSC_REFILL
  | TSC_GCL_CTRL
  | TSC_GCL_BASE
  | TSC_GCL_PHASE
  | TSC_GCL_SEL
  | TSC_GCL_ENTRY
  | TSC_GCL_STATUS
  | TSC_GCL_TAKE
  | TSC_TIME_CTRL
  | TSC_TE
  | TSC_PTP_CTRL
  | TSC_PTP_STATUS
  | TSC_PTP_DELAY
  | TSC_Q_SEL
  | TSC_QSTAT
  | TSC_QCOUNT
  | CKP_CTRL
  | CKP_SHADOW
  | CKP_FENCE_TINE
  | CKP_FENCE_PC
  | CKP_FENCE_MISC
  | CKP_EPOCH
  | CKP_ANCHOR
  | CKP_ROLE
  | CKP_LEAVE
  | BUR_CTRL
  | BUR_DESC_BASE
  | BUR_COUNT
  | BUR_REVQ
  | BUR_PRIN_SEL
  | BUR_PRIN_LIMIT
  | BUR_PRIN_USE
  | BUR_GUAR_CTRL
  | BUR_GUAR_STAT
  | SHF_STAT
  | TIER_PROF_SEL
  | TIER_PROF_GEOM
  | TIER_PROF_VAR
  | TIER_PROF_SCALE
  | TIER_PROF_SIZE
  | TIER_NEAR_CTRL
  | TIER_NEAR_STAT
  | TIER_PRIN_SEL
  | TIER_PRIN_NEAR
  | TIER_PRIN_NEAR_USE
  | TIER_OBJ_COUNT
  | TIER_NEAR_SIZE
  | TIER_LEND_SEL
  | TIER_LEND_CFG
  | TIER_LEND_PEER
  | TIER_LEND_STATUS
  | TIER_BORROW_SEL
  | TIER_BORROW_CFG
  | TIER_BORROW_STATUS
  | CHS_CTRL
  | CHS_DRIVE_SEL
  | CHS_DRIVE_STATUS
  | CHS_DRIVE_SPACE
  | CHS_DRIVE_ERR
  | CHS_JOURNAL
  | CHS_JOURNAL_FILL
  | CHS_HARROW
  | CHS_MOUNT
  | FUR_CTRL
  | FUR_ARQ_SEL
  | FUR_ARQ_CFG
  | FUR_ARQ_STATUS
  | FUR_HSCALE_SEL
  | FUR_HSCALE
  | FUR_STAT
  | FUR_EVENTS
  | FUR_RSP_SEL
  | FUR_RSP_CFG
  | FUR_RSP_BASE
  | FUR_RSP_PIADDR
  | FUR_RSP_KEY
  | FUR_RSP_STATUS
  | FUR_NUM_EVENTS
  | FUR_ARITH
  | GEN_TKQ_SEL
  | GEN_TKQ_CFG
  | GEN_TKQ_STATUS
  | GEN_TKQ_REFUSE
  | GEN_EVENTS
  | GLN_CTRL
  | GLN_SRQ_SEL
  | GLN_SRQ_CFG
  | GLN_SRQ_STATUS
  | GLN_IDX_SEL
  | GLN_IDX_STATUS
  | GLN_FLT_SEL
  | GLN_FLT_ADDR
  | GLN_FLT_RANGE
  | GLN_GRP_SEL
  | GLN_GRP_CFG
  | GLN_GRP_MEM
  | GLN_GRP_REPLY
  | GLN_EVENTS
  | TIN_CTRL
  | TIN_STATUS
  | TIN_EVQ
  | TIN_FAULTS
  | TIN_IMAGE_SEL
  | TIN_IMAGE_INFO
  | SYN_SEL
  | SYN_DEF
  | SYN_VALUE
  | SYN_OP
  | SYN_OP_ARG
  | SYN_OP_RESULT
  | SYN_STAT
  | SYN_WFG_STAT
  deriving DecidableEq, Repr

/-- Every register, in the order of block number and offset. -/
def Reg.all0 : List Reg :=
  [.CFG_COMMIT, .CFG_COMMIT_AT, .CFG_STATUS, .CFG_RESULT, .CFG_FP_0, .CFG_FP_1, .CFG_FP_2, .CFG_FP_3, .CFG_FP_4, .CFG_FP_5, .CFG_DOMAIN, .CFG_DOMAIN_FP_0, .CFG_DOMAIN_FP_1, .CFG_DOMAIN_FP_2, .CFG_DOMAIN_FP_3, .CFG_DOMAIN_FP_4, .CFG_DOMAIN_FP_5, .CFG_DOMAIN_STATUS, .YOK_IFV_SEL, .YOK_IFV, .YOK_KTB_NOW, .YOK_KTB_FREQ, .YOK_KTB_SLEW, .YOK_KTB_STEP, .YOK_PPS_IN_TS, .YOK_HQ_VERSION, .YOK_HQ_NEGOTIATE, .YOK_HQ_ASQ_BASE, .YOK_HQ_ACQ_BASE, .YOK_HQ_AQ_DEPTH, .YOK_HQ_AQ_EN, .YOK_HQ_INT, .YOK_HQ_STATUS, .YOK_PRIMACY_CTRL, .YOK_PRIMACY, .PWR_STAGE, .PWR_STAGE_TIME, .PWR_RESET, .PWR_CAP, .PWR_TELEM]

def Reg.all1 : List Reg :=
  [.PWR_TELEM_W, .PWR_AVS, .PWR_SPEED, .PWR_THERM, .PWR_FALLOW_CTRL, .PWR_FALLOW_NB_SEL, .PWR_FALLOW_NB_CFG, .PWR_FALLOW_NB_ADDR, .PWR_FALLOW_NB_KEY, .PWR_FALLOW_NB_STATUS, .PWR_FALLOW_CMD, .PWR_FALLOW_STATUS, .PWR_FALLOW_WAKE, .PWR_STRAP, .PWR_RAIL_SEL, .PWR_RAIL, .SEC_TEN_STATUS, .SEC_TEN_ID, .SEC_LC, .SEC_KEY_SEL, .SEC_KEY_STATUS, .SEC_CERT, .SEC_BIND_CTRL, .SEC_MGMT_CTRL, .SEC_FW_MIN, .SEC_STORE, .SEC_SELFTEST, .SEC_DEBUG, .SEC_DEBUG_UNTIL, .SEC_MGMT_STATUS, .OBS_CTRL, .OBS_SNAP, .OBS_PERIOD, .OBS_ENG_SEL, .OBS_ENG_BUSY, .OBS_ENG_STALL, .OBS_ENG_IDLE, .OBS_ENG_FENCED, .OBS_ENG_REASON, .OBS_OVF]

def Reg.all2 : List Reg :=
  [.OBS_PRIN_SEL, .OBS_PRIN_VAL, .OBS_ENERGY_CTRL, .OBS_ENERGY_W, .OBS_ENERGY_W2, .OBS_HALT, .OBS_HALT_TS, .OBS_SCAN_STATUS, .OBS_MARK, .OBS_TRACE_CFG, .OBS_TRACE_TRIG, .OBS_TRACE_TRIG_AT, .OBS_TRACE_STATUS, .OBS_TRACE_PTRS, .OBS_TRACE_TRIG_TS, .OBS_TRACE_FLUSH, .OBS_TRACE_EXPORT, .OBS_TRACE_EXP_BASE, .OBS_TRACE_EXP_KEY, .KLT_CTRL, .KLT_CTRL2, .KLT_DSCP, .KLT_LOCAL_IP_HI, .KLT_LOCAL_IP_LO, .KLT_PEER_SEL, .KLT_PEER_CFG, .KLT_PEER_IP_HI, .KLT_PEER_IP_LO, .KLT_PEER_STATUS, .KLT_CC_SEL, .KLT_CC, .KLT_CONN_SEL, .KLT_CONN_STATUS, .KLT_CONN_CWND, .KLT_PWQ_SEL, .KLT_PWQ_STATUS, .KLT_CMD, .KLT_CMD_ARG0, .KLT_CMD_ARG1, .KLT_CMD_ARG2]

def Reg.all3 : List Reg :=
  [.KLT_CMD_ARG3, .KLT_CMD_RESULT, .KLT_DROPS, .KLT_VERSION, .TSC_DRR, .TSC_QLEN, .TSC_SHP_SEL, .TSC_SHP, .TSC_REFILL, .TSC_GCL_CTRL, .TSC_GCL_BASE, .TSC_GCL_PHASE, .TSC_GCL_SEL, .TSC_GCL_ENTRY, .TSC_GCL_STATUS, .TSC_GCL_TAKE, .TSC_TIME_CTRL, .TSC_TE, .TSC_PTP_CTRL, .TSC_PTP_STATUS, .TSC_PTP_DELAY, .TSC_Q_SEL, .TSC_QSTAT, .TSC_QCOUNT, .CKP_CTRL, .CKP_SHADOW, .CKP_FENCE_TINE, .CKP_FENCE_PC, .CKP_FENCE_MISC, .CKP_EPOCH, .CKP_ANCHOR, .CKP_ROLE, .CKP_LEAVE, .BUR_CTRL, .BUR_DESC_BASE, .BUR_COUNT, .BUR_REVQ, .BUR_PRIN_SEL, .BUR_PRIN_LIMIT, .BUR_PRIN_USE]

def Reg.all4 : List Reg :=
  [.BUR_GUAR_CTRL, .BUR_GUAR_STAT, .SHF_STAT, .TIER_PROF_SEL, .TIER_PROF_GEOM, .TIER_PROF_VAR, .TIER_PROF_SCALE, .TIER_PROF_SIZE, .TIER_NEAR_CTRL, .TIER_NEAR_STAT, .TIER_PRIN_SEL, .TIER_PRIN_NEAR, .TIER_PRIN_NEAR_USE, .TIER_OBJ_COUNT, .TIER_NEAR_SIZE, .TIER_LEND_SEL, .TIER_LEND_CFG, .TIER_LEND_PEER, .TIER_LEND_STATUS, .TIER_BORROW_SEL, .TIER_BORROW_CFG, .TIER_BORROW_STATUS, .CHS_CTRL, .CHS_DRIVE_SEL, .CHS_DRIVE_STATUS, .CHS_DRIVE_SPACE, .CHS_DRIVE_ERR, .CHS_JOURNAL, .CHS_JOURNAL_FILL, .CHS_HARROW, .CHS_MOUNT, .FUR_CTRL, .FUR_ARQ_SEL, .FUR_ARQ_CFG, .FUR_ARQ_STATUS, .FUR_HSCALE_SEL, .FUR_HSCALE, .FUR_STAT, .FUR_EVENTS, .FUR_RSP_SEL]

def Reg.all5 : List Reg :=
  [.FUR_RSP_CFG, .FUR_RSP_BASE, .FUR_RSP_PIADDR, .FUR_RSP_KEY, .FUR_RSP_STATUS, .FUR_NUM_EVENTS, .FUR_ARITH, .GEN_TKQ_SEL, .GEN_TKQ_CFG, .GEN_TKQ_STATUS, .GEN_TKQ_REFUSE, .GEN_EVENTS, .GLN_CTRL, .GLN_SRQ_SEL, .GLN_SRQ_CFG, .GLN_SRQ_STATUS, .GLN_IDX_SEL, .GLN_IDX_STATUS, .GLN_FLT_SEL, .GLN_FLT_ADDR, .GLN_FLT_RANGE, .GLN_GRP_SEL, .GLN_GRP_CFG, .GLN_GRP_MEM, .GLN_GRP_REPLY, .GLN_EVENTS, .TIN_CTRL, .TIN_STATUS, .TIN_EVQ, .TIN_FAULTS, .TIN_IMAGE_SEL, .TIN_IMAGE_INFO, .SYN_SEL, .SYN_DEF, .SYN_VALUE, .SYN_OP, .SYN_OP_ARG, .SYN_OP_RESULT, .SYN_STAT, .SYN_WFG_STAT]

def Reg.all : List Reg := Reg.all0 ++ Reg.all1 ++ Reg.all2 ++ Reg.all3 ++ Reg.all4 ++ Reg.all5

/-- Block number of R574. -/
def Reg.block : Reg → Nat
  | .CFG_COMMIT => 0
  | .CFG_COMMIT_AT => 0
  | .CFG_STATUS => 0
  | .CFG_RESULT => 0
  | .CFG_FP_0 => 0
  | .CFG_FP_1 => 0
  | .CFG_FP_2 => 0
  | .CFG_FP_3 => 0
  | .CFG_FP_4 => 0
  | .CFG_FP_5 => 0
  | .CFG_DOMAIN => 0
  | .CFG_DOMAIN_FP_0 => 0
  | .CFG_DOMAIN_FP_1 => 0
  | .CFG_DOMAIN_FP_2 => 0
  | .CFG_DOMAIN_FP_3 => 0
  | .CFG_DOMAIN_FP_4 => 0
  | .CFG_DOMAIN_FP_5 => 0
  | .CFG_DOMAIN_STATUS => 0
  | .YOK_IFV_SEL => 1
  | .YOK_IFV => 1
  | .YOK_KTB_NOW => 1
  | .YOK_KTB_FREQ => 1
  | .YOK_KTB_SLEW => 1
  | .YOK_KTB_STEP => 1
  | .YOK_PPS_IN_TS => 1
  | .YOK_HQ_VERSION => 1
  | .YOK_HQ_NEGOTIATE => 1
  | .YOK_HQ_ASQ_BASE => 1
  | .YOK_HQ_ACQ_BASE => 1
  | .YOK_HQ_AQ_DEPTH => 1
  | .YOK_HQ_AQ_EN => 1
  | .YOK_HQ_INT => 1
  | .YOK_HQ_STATUS => 1
  | .YOK_PRIMACY_CTRL => 1
  | .YOK_PRIMACY => 1
  | .PWR_STAGE => 2
  | .PWR_STAGE_TIME => 2
  | .PWR_RESET => 2
  | .PWR_CAP => 2
  | .PWR_TELEM => 2
  | .PWR_TELEM_W => 2
  | .PWR_AVS => 2
  | .PWR_SPEED => 2
  | .PWR_THERM => 2
  | .PWR_FALLOW_CTRL => 2
  | .PWR_FALLOW_NB_SEL => 2
  | .PWR_FALLOW_NB_CFG => 2
  | .PWR_FALLOW_NB_ADDR => 2
  | .PWR_FALLOW_NB_KEY => 2
  | .PWR_FALLOW_NB_STATUS => 2
  | .PWR_FALLOW_CMD => 2
  | .PWR_FALLOW_STATUS => 2
  | .PWR_FALLOW_WAKE => 2
  | .PWR_STRAP => 2
  | .PWR_RAIL_SEL => 2
  | .PWR_RAIL => 2
  | .SEC_TEN_STATUS => 3
  | .SEC_TEN_ID => 3
  | .SEC_LC => 3
  | .SEC_KEY_SEL => 3
  | .SEC_KEY_STATUS => 3
  | .SEC_CERT => 3
  | .SEC_BIND_CTRL => 3
  | .SEC_MGMT_CTRL => 3
  | .SEC_FW_MIN => 3
  | .SEC_STORE => 3
  | .SEC_SELFTEST => 3
  | .SEC_DEBUG => 3
  | .SEC_DEBUG_UNTIL => 3
  | .SEC_MGMT_STATUS => 3
  | .OBS_CTRL => 5
  | .OBS_SNAP => 5
  | .OBS_PERIOD => 5
  | .OBS_ENG_SEL => 5
  | .OBS_ENG_BUSY => 5
  | .OBS_ENG_STALL => 5
  | .OBS_ENG_IDLE => 5
  | .OBS_ENG_FENCED => 5
  | .OBS_ENG_REASON => 5
  | .OBS_OVF => 5
  | .OBS_PRIN_SEL => 5
  | .OBS_PRIN_VAL => 5
  | .OBS_ENERGY_CTRL => 5
  | .OBS_ENERGY_W => 5
  | .OBS_ENERGY_W2 => 5
  | .OBS_HALT => 5
  | .OBS_HALT_TS => 5
  | .OBS_SCAN_STATUS => 5
  | .OBS_MARK => 5
  | .OBS_TRACE_CFG => 5
  | .OBS_TRACE_TRIG => 5
  | .OBS_TRACE_TRIG_AT => 5
  | .OBS_TRACE_STATUS => 5
  | .OBS_TRACE_PTRS => 5
  | .OBS_TRACE_TRIG_TS => 5
  | .OBS_TRACE_FLUSH => 5
  | .OBS_TRACE_EXPORT => 5
  | .OBS_TRACE_EXP_BASE => 5
  | .OBS_TRACE_EXP_KEY => 5
  | .KLT_CTRL => 6
  | .KLT_CTRL2 => 6
  | .KLT_DSCP => 6
  | .KLT_LOCAL_IP_HI => 6
  | .KLT_LOCAL_IP_LO => 6
  | .KLT_PEER_SEL => 6
  | .KLT_PEER_CFG => 6
  | .KLT_PEER_IP_HI => 6
  | .KLT_PEER_IP_LO => 6
  | .KLT_PEER_STATUS => 6
  | .KLT_CC_SEL => 6
  | .KLT_CC => 6
  | .KLT_CONN_SEL => 6
  | .KLT_CONN_STATUS => 6
  | .KLT_CONN_CWND => 6
  | .KLT_PWQ_SEL => 6
  | .KLT_PWQ_STATUS => 6
  | .KLT_CMD => 6
  | .KLT_CMD_ARG0 => 6
  | .KLT_CMD_ARG1 => 6
  | .KLT_CMD_ARG2 => 6
  | .KLT_CMD_ARG3 => 6
  | .KLT_CMD_RESULT => 6
  | .KLT_DROPS => 6
  | .KLT_VERSION => 6
  | .TSC_DRR => 7
  | .TSC_QLEN => 7
  | .TSC_SHP_SEL => 7
  | .TSC_SHP => 7
  | .TSC_REFILL => 7
  | .TSC_GCL_CTRL => 7
  | .TSC_GCL_BASE => 7
  | .TSC_GCL_PHASE => 7
  | .TSC_GCL_SEL => 7
  | .TSC_GCL_ENTRY => 7
  | .TSC_GCL_STATUS => 7
  | .TSC_GCL_TAKE => 7
  | .TSC_TIME_CTRL => 7
  | .TSC_TE => 7
  | .TSC_PTP_CTRL => 7
  | .TSC_PTP_STATUS => 7
  | .TSC_PTP_DELAY => 7
  | .TSC_Q_SEL => 7
  | .TSC_QSTAT => 7
  | .TSC_QCOUNT => 7
  | .CKP_CTRL => 8
  | .CKP_SHADOW => 8
  | .CKP_FENCE_TINE => 8
  | .CKP_FENCE_PC => 8
  | .CKP_FENCE_MISC => 8
  | .CKP_EPOCH => 8
  | .CKP_ANCHOR => 8
  | .CKP_ROLE => 8
  | .CKP_LEAVE => 8
  | .BUR_CTRL => 9
  | .BUR_DESC_BASE => 9
  | .BUR_COUNT => 9
  | .BUR_REVQ => 9
  | .BUR_PRIN_SEL => 9
  | .BUR_PRIN_LIMIT => 9
  | .BUR_PRIN_USE => 9
  | .BUR_GUAR_CTRL => 9
  | .BUR_GUAR_STAT => 9
  | .SHF_STAT => 10
  | .TIER_PROF_SEL => 11
  | .TIER_PROF_GEOM => 11
  | .TIER_PROF_VAR => 11
  | .TIER_PROF_SCALE => 11
  | .TIER_PROF_SIZE => 11
  | .TIER_NEAR_CTRL => 11
  | .TIER_NEAR_STAT => 11
  | .TIER_PRIN_SEL => 11
  | .TIER_PRIN_NEAR => 11
  | .TIER_PRIN_NEAR_USE => 11
  | .TIER_OBJ_COUNT => 11
  | .TIER_NEAR_SIZE => 11
  | .TIER_LEND_SEL => 11
  | .TIER_LEND_CFG => 11
  | .TIER_LEND_PEER => 11
  | .TIER_LEND_STATUS => 11
  | .TIER_BORROW_SEL => 11
  | .TIER_BORROW_CFG => 11
  | .TIER_BORROW_STATUS => 11
  | .CHS_CTRL => 12
  | .CHS_DRIVE_SEL => 12
  | .CHS_DRIVE_STATUS => 12
  | .CHS_DRIVE_SPACE => 12
  | .CHS_DRIVE_ERR => 12
  | .CHS_JOURNAL => 12
  | .CHS_JOURNAL_FILL => 12
  | .CHS_HARROW => 12
  | .CHS_MOUNT => 12
  | .FUR_CTRL => 13
  | .FUR_ARQ_SEL => 13
  | .FUR_ARQ_CFG => 13
  | .FUR_ARQ_STATUS => 13
  | .FUR_HSCALE_SEL => 13
  | .FUR_HSCALE => 13
  | .FUR_STAT => 13
  | .FUR_EVENTS => 13
  | .FUR_RSP_SEL => 13
  | .FUR_RSP_CFG => 13
  | .FUR_RSP_BASE => 13
  | .FUR_RSP_PIADDR => 13
  | .FUR_RSP_KEY => 13
  | .FUR_RSP_STATUS => 13
  | .FUR_NUM_EVENTS => 13
  | .FUR_ARITH => 13
  | .GEN_TKQ_SEL => 14
  | .GEN_TKQ_CFG => 14
  | .GEN_TKQ_STATUS => 14
  | .GEN_TKQ_REFUSE => 14
  | .GEN_EVENTS => 14
  | .GLN_CTRL => 15
  | .GLN_SRQ_SEL => 15
  | .GLN_SRQ_CFG => 15
  | .GLN_SRQ_STATUS => 15
  | .GLN_IDX_SEL => 15
  | .GLN_IDX_STATUS => 15
  | .GLN_FLT_SEL => 15
  | .GLN_FLT_ADDR => 15
  | .GLN_FLT_RANGE => 15
  | .GLN_GRP_SEL => 15
  | .GLN_GRP_CFG => 15
  | .GLN_GRP_MEM => 15
  | .GLN_GRP_REPLY => 15
  | .GLN_EVENTS => 15
  | .TIN_CTRL => 16
  | .TIN_STATUS => 16
  | .TIN_EVQ => 16
  | .TIN_FAULTS => 16
  | .TIN_IMAGE_SEL => 16
  | .TIN_IMAGE_INFO => 16
  | .SYN_SEL => 17
  | .SYN_DEF => 17
  | .SYN_VALUE => 17
  | .SYN_OP => 17
  | .SYN_OP_ARG => 17
  | .SYN_OP_RESULT => 17
  | .SYN_STAT => 17
  | .SYN_WFG_STAT => 17

/-- Byte offset within the block, as the register tables give it. -/
def Reg.offset : Reg → Nat
  | .CFG_COMMIT => 0x0
  | .CFG_COMMIT_AT => 0x8
  | .CFG_STATUS => 0x10
  | .CFG_RESULT => 0x18
  | .CFG_FP_0 => 0x20
  | .CFG_FP_1 => 0x28
  | .CFG_FP_2 => 0x30
  | .CFG_FP_3 => 0x38
  | .CFG_FP_4 => 0x40
  | .CFG_FP_5 => 0x48
  | .CFG_DOMAIN => 0x50
  | .CFG_DOMAIN_FP_0 => 0x58
  | .CFG_DOMAIN_FP_1 => 0x60
  | .CFG_DOMAIN_FP_2 => 0x68
  | .CFG_DOMAIN_FP_3 => 0x70
  | .CFG_DOMAIN_FP_4 => 0x78
  | .CFG_DOMAIN_FP_5 => 0x80
  | .CFG_DOMAIN_STATUS => 0x88
  | .YOK_IFV_SEL => 0x10
  | .YOK_IFV => 0x18
  | .YOK_KTB_NOW => 0x100
  | .YOK_KTB_FREQ => 0x108
  | .YOK_KTB_SLEW => 0x110
  | .YOK_KTB_STEP => 0x118
  | .YOK_PPS_IN_TS => 0x120
  | .YOK_HQ_VERSION => 0x200
  | .YOK_HQ_NEGOTIATE => 0x208
  | .YOK_HQ_ASQ_BASE => 0x210
  | .YOK_HQ_ACQ_BASE => 0x218
  | .YOK_HQ_AQ_DEPTH => 0x220
  | .YOK_HQ_AQ_EN => 0x228
  | .YOK_HQ_INT => 0x230
  | .YOK_HQ_STATUS => 0x238
  | .YOK_PRIMACY_CTRL => 0x300
  | .YOK_PRIMACY => 0x308
  | .PWR_STAGE => 0x0
  | .PWR_STAGE_TIME => 0x8
  | .PWR_RESET => 0x10
  | .PWR_CAP => 0x18
  | .PWR_TELEM => 0x20
  | .PWR_TELEM_W => 0x28
  | .PWR_AVS => 0x30
  | .PWR_SPEED => 0x40
  | .PWR_THERM => 0x48
  | .PWR_FALLOW_CTRL => 0x60
  | .PWR_FALLOW_NB_SEL => 0x68
  | .PWR_FALLOW_NB_CFG => 0x70
  | .PWR_FALLOW_NB_ADDR => 0x78
  | .PWR_FALLOW_NB_KEY => 0x80
  | .PWR_FALLOW_NB_STATUS => 0x88
  | .PWR_FALLOW_CMD => 0x90
  | .PWR_FALLOW_STATUS => 0x98
  | .PWR_FALLOW_WAKE => 0xa0
  | .PWR_STRAP => 0xc0
  | .PWR_RAIL_SEL => 0xc8
  | .PWR_RAIL => 0xd0
  | .SEC_TEN_STATUS => 0x0
  | .SEC_TEN_ID => 0x8
  | .SEC_LC => 0x10
  | .SEC_KEY_SEL => 0x18
  | .SEC_KEY_STATUS => 0x20
  | .SEC_CERT => 0x28
  | .SEC_BIND_CTRL => 0x30
  | .SEC_MGMT_CTRL => 0x38
  | .SEC_FW_MIN => 0x40
  | .SEC_STORE => 0x48
  | .SEC_SELFTEST => 0x50
  | .SEC_DEBUG => 0x58
  | .SEC_DEBUG_UNTIL => 0x60
  | .SEC_MGMT_STATUS => 0x68
  | .OBS_CTRL => 0x0
  | .OBS_SNAP => 0x8
  | .OBS_PERIOD => 0x10
  | .OBS_ENG_SEL => 0x18
  | .OBS_ENG_BUSY => 0x20
  | .OBS_ENG_STALL => 0x28
  | .OBS_ENG_IDLE => 0x30
  | .OBS_ENG_FENCED => 0x38
  | .OBS_ENG_REASON => 0x40
  | .OBS_OVF => 0x48
  | .OBS_PRIN_SEL => 0x100
  | .OBS_PRIN_VAL => 0x108
  | .OBS_ENERGY_CTRL => 0x110
  | .OBS_ENERGY_W => 0x118
  | .OBS_ENERGY_W2 => 0x120
  | .OBS_HALT => 0x128
  | .OBS_HALT_TS => 0x130
  | .OBS_SCAN_STATUS => 0x138
  | .OBS_MARK => 0x140
  | .OBS_TRACE_CFG => 0x200
  | .OBS_TRACE_TRIG => 0x208
  | .OBS_TRACE_TRIG_AT => 0x210
  | .OBS_TRACE_STATUS => 0x218
  | .OBS_TRACE_PTRS => 0x220
  | .OBS_TRACE_TRIG_TS => 0x228
  | .OBS_TRACE_FLUSH => 0x230
  | .OBS_TRACE_EXPORT => 0x238
  | .OBS_TRACE_EXP_BASE => 0x240
  | .OBS_TRACE_EXP_KEY => 0x248
  | .KLT_CTRL => 0x0
  | .KLT_CTRL2 => 0x8
  | .KLT_DSCP => 0x10
  | .KLT_LOCAL_IP_HI => 0x18
  | .KLT_LOCAL_IP_LO => 0x20
  | .KLT_PEER_SEL => 0x28
  | .KLT_PEER_CFG => 0x30
  | .KLT_PEER_IP_HI => 0x38
  | .KLT_PEER_IP_LO => 0x40
  | .KLT_PEER_STATUS => 0x48
  | .KLT_CC_SEL => 0x50
  | .KLT_CC => 0x58
  | .KLT_CONN_SEL => 0x60
  | .KLT_CONN_STATUS => 0x68
  | .KLT_CONN_CWND => 0x70
  | .KLT_PWQ_SEL => 0x78
  | .KLT_PWQ_STATUS => 0x80
  | .KLT_CMD => 0x88
  | .KLT_CMD_ARG0 => 0x90
  | .KLT_CMD_ARG1 => 0x98
  | .KLT_CMD_ARG2 => 0xa0
  | .KLT_CMD_ARG3 => 0xa8
  | .KLT_CMD_RESULT => 0xb0
  | .KLT_DROPS => 0xb8
  | .KLT_VERSION => 0xc0
  | .TSC_DRR => 0x0
  | .TSC_QLEN => 0x8
  | .TSC_SHP_SEL => 0x10
  | .TSC_SHP => 0x18
  | .TSC_REFILL => 0x20
  | .TSC_GCL_CTRL => 0x28
  | .TSC_GCL_BASE => 0x30
  | .TSC_GCL_PHASE => 0x38
  | .TSC_GCL_SEL => 0x40
  | .TSC_GCL_ENTRY => 0x48
  | .TSC_GCL_STATUS => 0x50
  | .TSC_GCL_TAKE => 0x58
  | .TSC_TIME_CTRL => 0x60
  | .TSC_TE => 0x68
  | .TSC_PTP_CTRL => 0x70
  | .TSC_PTP_STATUS => 0x78
  | .TSC_PTP_DELAY => 0x80
  | .TSC_Q_SEL => 0x88
  | .TSC_QSTAT => 0x90
  | .TSC_QCOUNT => 0x98
  | .CKP_CTRL => 0x0
  | .CKP_SHADOW => 0x8
  | .CKP_FENCE_TINE => 0x10
  | .CKP_FENCE_PC => 0x18
  | .CKP_FENCE_MISC => 0x20
  | .CKP_EPOCH => 0x40
  | .CKP_ANCHOR => 0x48
  | .CKP_ROLE => 0x50
  | .CKP_LEAVE => 0x58
  | .BUR_CTRL => 0x0
  | .BUR_DESC_BASE => 0x8
  | .BUR_COUNT => 0x10
  | .BUR_REVQ => 0x18
  | .BUR_PRIN_SEL => 0x20
  | .BUR_PRIN_LIMIT => 0x28
  | .BUR_PRIN_USE => 0x30
  | .BUR_GUAR_CTRL => 0x100
  | .BUR_GUAR_STAT => 0x108
  | .SHF_STAT => 0x0
  | .TIER_PROF_SEL => 0x0
  | .TIER_PROF_GEOM => 0x8
  | .TIER_PROF_VAR => 0x10
  | .TIER_PROF_SCALE => 0x18
  | .TIER_PROF_SIZE => 0x20
  | .TIER_NEAR_CTRL => 0x40
  | .TIER_NEAR_STAT => 0x48
  | .TIER_PRIN_SEL => 0x50
  | .TIER_PRIN_NEAR => 0x58
  | .TIER_PRIN_NEAR_USE => 0x60
  | .TIER_OBJ_COUNT => 0x68
  | .TIER_NEAR_SIZE => 0x70
  | .TIER_LEND_SEL => 0x80
  | .TIER_LEND_CFG => 0x88
  | .TIER_LEND_PEER => 0x90
  | .TIER_LEND_STATUS => 0x98
  | .TIER_BORROW_SEL => 0xa0
  | .TIER_BORROW_CFG => 0xa8
  | .TIER_BORROW_STATUS => 0xb0
  | .CHS_CTRL => 0x0
  | .CHS_DRIVE_SEL => 0x8
  | .CHS_DRIVE_STATUS => 0x10
  | .CHS_DRIVE_SPACE => 0x18
  | .CHS_DRIVE_ERR => 0x20
  | .CHS_JOURNAL => 0x28
  | .CHS_JOURNAL_FILL => 0x30
  | .CHS_HARROW => 0x38
  | .CHS_MOUNT => 0x40
  | .FUR_CTRL => 0x0
  | .FUR_ARQ_SEL => 0x8
  | .FUR_ARQ_CFG => 0x10
  | .FUR_ARQ_STATUS => 0x18
  | .FUR_HSCALE_SEL => 0x20
  | .FUR_HSCALE => 0x28
  | .FUR_STAT => 0x30
  | .FUR_EVENTS => 0x38
  | .FUR_RSP_SEL => 0x40
  | .FUR_RSP_CFG => 0x48
  | .FUR_RSP_BASE => 0x50
  | .FUR_RSP_PIADDR => 0x58
  | .FUR_RSP_KEY => 0x60
  | .FUR_RSP_STATUS => 0x68
  | .FUR_NUM_EVENTS => 0x80
  | .FUR_ARITH => 0x88
  | .GEN_TKQ_SEL => 0x0
  | .GEN_TKQ_CFG => 0x8
  | .GEN_TKQ_STATUS => 0x10
  | .GEN_TKQ_REFUSE => 0x18
  | .GEN_EVENTS => 0x20
  | .GLN_CTRL => 0x0
  | .GLN_SRQ_SEL => 0x8
  | .GLN_SRQ_CFG => 0x10
  | .GLN_SRQ_STATUS => 0x18
  | .GLN_IDX_SEL => 0x20
  | .GLN_IDX_STATUS => 0x28
  | .GLN_FLT_SEL => 0x30
  | .GLN_FLT_ADDR => 0x38
  | .GLN_FLT_RANGE => 0x40
  | .GLN_GRP_SEL => 0x48
  | .GLN_GRP_CFG => 0x50
  | .GLN_GRP_MEM => 0x58
  | .GLN_GRP_REPLY => 0x60
  | .GLN_EVENTS => 0x68
  | .TIN_CTRL => 0x0
  | .TIN_STATUS => 0x8
  | .TIN_EVQ => 0x10
  | .TIN_FAULTS => 0x18
  | .TIN_IMAGE_SEL => 0x20
  | .TIN_IMAGE_INFO => 0x28
  | .SYN_SEL => 0x0
  | .SYN_DEF => 0x8
  | .SYN_VALUE => 0x10
  | .SYN_OP => 0x18
  | .SYN_OP_ARG => 0x20
  | .SYN_OP_RESULT => 0x28
  | .SYN_STAT => 0x30
  | .SYN_WFG_STAT => 0x40

/-- The dies that implement the register. -/
def Reg.dies : Reg → RegDies
  | .CFG_COMMIT => .shared
  | .CFG_COMMIT_AT => .shared
  | .CFG_STATUS => .shared
  | .CFG_RESULT => .shared
  | .CFG_FP_0 => .yokes
  | .CFG_FP_1 => .yokes
  | .CFG_FP_2 => .yokes
  | .CFG_FP_3 => .yokes
  | .CFG_FP_4 => .yokes
  | .CFG_FP_5 => .yokes
  | .CFG_DOMAIN => .yokes
  | .CFG_DOMAIN_FP_0 => .yokes
  | .CFG_DOMAIN_FP_1 => .yokes
  | .CFG_DOMAIN_FP_2 => .yokes
  | .CFG_DOMAIN_FP_3 => .yokes
  | .CFG_DOMAIN_FP_4 => .yokes
  | .CFG_DOMAIN_FP_5 => .yokes
  | .CFG_DOMAIN_STATUS => .yokes
  | .YOK_IFV_SEL => .yokes
  | .YOK_IFV => .yokes
  | .YOK_KTB_NOW => .yokes
  | .YOK_KTB_FREQ => .yokes
  | .YOK_KTB_SLEW => .yokes
  | .YOK_KTB_STEP => .yokes
  | .YOK_PPS_IN_TS => .yokes
  | .YOK_HQ_VERSION => .yokes
  | .YOK_HQ_NEGOTIATE => .yokes
  | .YOK_HQ_ASQ_BASE => .yokes
  | .YOK_HQ_ACQ_BASE => .yokes
  | .YOK_HQ_AQ_DEPTH => .yokes
  | .YOK_HQ_AQ_EN => .yokes
  | .YOK_HQ_INT => .yokes
  | .YOK_HQ_STATUS => .yokes
  | .YOK_PRIMACY_CTRL => .shared
  | .YOK_PRIMACY => .shared
  | .PWR_STAGE => .shared
  | .PWR_STAGE_TIME => .shared
  | .PWR_RESET => .shared
  | .PWR_CAP => .shared
  | .PWR_TELEM => .shared
  | .PWR_TELEM_W => .shared
  | .PWR_AVS => .shared
  | .PWR_SPEED => .all
  | .PWR_THERM => .all
  | .PWR_FALLOW_CTRL => .shared
  | .PWR_FALLOW_NB_SEL => .shared
  | .PWR_FALLOW_NB_CFG => .shared
  | .PWR_FALLOW_NB_ADDR => .shared
  | .PWR_FALLOW_NB_KEY => .shared
  | .PWR_FALLOW_NB_STATUS => .shared
  | .PWR_FALLOW_CMD => .shared
  | .PWR_FALLOW_STATUS => .shared
  | .PWR_FALLOW_WAKE => .shared
  | .PWR_STRAP => .shared
  | .PWR_RAIL_SEL => .shared
  | .PWR_RAIL => .shared
  | .SEC_TEN_STATUS => .shared
  | .SEC_TEN_ID => .shared
  | .SEC_LC => .shared
  | .SEC_KEY_SEL => .shared
  | .SEC_KEY_STATUS => .shared
  | .SEC_CERT => .shared
  | .SEC_BIND_CTRL => .shared
  | .SEC_MGMT_CTRL => .shared
  | .SEC_FW_MIN => .shared
  | .SEC_STORE => .shared
  | .SEC_SELFTEST => .shared
  | .SEC_DEBUG => .shared
  | .SEC_DEBUG_UNTIL => .shared
  | .SEC_MGMT_STATUS => .yokes
  | .OBS_CTRL => .all
  | .OBS_SNAP => .all
  | .OBS_PERIOD => .all
  | .OBS_ENG_SEL => .all
  | .OBS_ENG_BUSY => .all
  | .OBS_ENG_STALL => .all
  | .OBS_ENG_IDLE => .all
  | .OBS_ENG_FENCED => .all
  | .OBS_ENG_REASON => .all
  | .OBS_OVF => .all
  | .OBS_PRIN_SEL => .shared
  | .OBS_PRIN_VAL => .shared
  | .OBS_ENERGY_CTRL => .shared
  | .OBS_ENERGY_W => .shared
  | .OBS_ENERGY_W2 => .shared
  | .OBS_HALT => .shared
  | .OBS_HALT_TS => .shared
  | .OBS_SCAN_STATUS => .shared
  | .OBS_MARK => .shared
  | .OBS_TRACE_CFG => .acres
  | .OBS_TRACE_TRIG => .acres
  | .OBS_TRACE_TRIG_AT => .acres
  | .OBS_TRACE_STATUS => .acres
  | .OBS_TRACE_PTRS => .acres
  | .OBS_TRACE_TRIG_TS => .acres
  | .OBS_TRACE_FLUSH => .acres
  | .OBS_TRACE_EXPORT => .acres
  | .OBS_TRACE_EXP_BASE => .acres
  | .OBS_TRACE_EXP_KEY => .acres
  | .KLT_CTRL => .yokes
  | .KLT_CTRL2 => .yokes
  | .KLT_DSCP => .yokes
  | .KLT_LOCAL_IP_HI => .yokes
  | .KLT_LOCAL_IP_LO => .yokes
  | .KLT_PEER_SEL => .yokes
  | .KLT_PEER_CFG => .yokes
  | .KLT_PEER_IP_HI => .yokes
  | .KLT_PEER_IP_LO => .yokes
  | .KLT_PEER_STATUS => .yokes
  | .KLT_CC_SEL => .yokes
  | .KLT_CC => .yokes
  | .KLT_CONN_SEL => .yokes
  | .KLT_CONN_STATUS => .yokes
  | .KLT_CONN_CWND => .yokes
  | .KLT_PWQ_SEL => .yokes
  | .KLT_PWQ_STATUS => .yokes
  | .KLT_CMD => .yokes
  | .KLT_CMD_ARG0 => .yokes
  | .KLT_CMD_ARG1 => .yokes
  | .KLT_CMD_ARG2 => .yokes
  | .KLT_CMD_ARG3 => .yokes
  | .KLT_CMD_RESULT => .yokes
  | .KLT_DROPS => .yokes
  | .KLT_VERSION => .yokes
  | .TSC_DRR => .yokes
  | .TSC_QLEN => .yokes
  | .TSC_SHP_SEL => .yokes
  | .TSC_SHP => .yokes
  | .TSC_REFILL => .yokes
  | .TSC_GCL_CTRL => .yokes
  | .TSC_GCL_BASE => .yokes
  | .TSC_GCL_PHASE => .yokes
  | .TSC_GCL_SEL => .yokes
  | .TSC_GCL_ENTRY => .yokes
  | .TSC_GCL_STATUS => .yokes
  | .TSC_GCL_TAKE => .yokes
  | .TSC_TIME_CTRL => .yokes
  | .TSC_TE => .yokes
  | .TSC_PTP_CTRL => .yokes
  | .TSC_PTP_STATUS => .yokes
  | .TSC_PTP_DELAY => .yokes
  | .TSC_Q_SEL => .yokes
  | .TSC_QSTAT => .yokes
  | .TSC_QCOUNT => .yokes
  | .CKP_CTRL => .acres
  | .CKP_SHADOW => .acres
  | .CKP_FENCE_TINE => .acres
  | .CKP_FENCE_PC => .acres
  | .CKP_FENCE_MISC => .acres
  | .CKP_EPOCH => .shared
  | .CKP_ANCHOR => .shared
  | .CKP_ROLE => .shared
  | .CKP_LEAVE => .shared
  | .BUR_CTRL => .acres
  | .BUR_DESC_BASE => .acres
  | .BUR_COUNT => .acres
  | .BUR_REVQ => .acres
  | .BUR_PRIN_SEL => .acres
  | .BUR_PRIN_LIMIT => .acres
  | .BUR_PRIN_USE => .acres
  | .BUR_GUAR_CTRL => .acres
  | .BUR_GUAR_STAT => .acres
  | .SHF_STAT => .acres
  | .TIER_PROF_SEL => .acres
  | .TIER_PROF_GEOM => .acres
  | .TIER_PROF_VAR => .acres
  | .TIER_PROF_SCALE => .acres
  | .TIER_PROF_SIZE => .acres
  | .TIER_NEAR_CTRL => .acres
  | .TIER_NEAR_STAT => .acres
  | .TIER_PRIN_SEL => .acres
  | .TIER_PRIN_NEAR => .acres
  | .TIER_PRIN_NEAR_USE => .acres
  | .TIER_OBJ_COUNT => .acres
  | .TIER_NEAR_SIZE => .acres
  | .TIER_LEND_SEL => .yokes
  | .TIER_LEND_CFG => .yokes
  | .TIER_LEND_PEER => .yokes
  | .TIER_LEND_STATUS => .yokes
  | .TIER_BORROW_SEL => .yokes
  | .TIER_BORROW_CFG => .yokes
  | .TIER_BORROW_STATUS => .yokes
  | .CHS_CTRL => .shared
  | .CHS_DRIVE_SEL => .shared
  | .CHS_DRIVE_STATUS => .shared
  | .CHS_DRIVE_SPACE => .shared
  | .CHS_DRIVE_ERR => .shared
  | .CHS_JOURNAL => .shared
  | .CHS_JOURNAL_FILL => .shared
  | .CHS_HARROW => .shared
  | .CHS_MOUNT => .shared
  | .FUR_CTRL => .acres
  | .FUR_ARQ_SEL => .acres
  | .FUR_ARQ_CFG => .acres
  | .FUR_ARQ_STATUS => .acres
  | .FUR_HSCALE_SEL => .acres
  | .FUR_HSCALE => .acres
  | .FUR_STAT => .acres
  | .FUR_EVENTS => .acres
  | .FUR_RSP_SEL => .yokes
  | .FUR_RSP_CFG => .yokes
  | .FUR_RSP_BASE => .yokes
  | .FUR_RSP_PIADDR => .yokes
  | .FUR_RSP_KEY => .yokes
  | .FUR_RSP_STATUS => .yokes
  | .FUR_NUM_EVENTS => .acres
  | .FUR_ARITH => .acres
  | .GEN_TKQ_SEL => .acres
  | .GEN_TKQ_CFG => .acres
  | .GEN_TKQ_STATUS => .acres
  | .GEN_TKQ_REFUSE => .acres
  | .GEN_EVENTS => .acres
  | .GLN_CTRL => .acres
  | .GLN_SRQ_SEL => .acres
  | .GLN_SRQ_CFG => .acres
  | .GLN_SRQ_STATUS => .acres
  | .GLN_IDX_SEL => .acres
  | .GLN_IDX_STATUS => .acres
  | .GLN_FLT_SEL => .acres
  | .GLN_FLT_ADDR => .acres
  | .GLN_FLT_RANGE => .acres
  | .GLN_GRP_SEL => .acres
  | .GLN_GRP_CFG => .acres
  | .GLN_GRP_MEM => .acres
  | .GLN_GRP_REPLY => .acres
  | .GLN_EVENTS => .acres
  | .TIN_CTRL => .acres
  | .TIN_STATUS => .acres
  | .TIN_EVQ => .acres
  | .TIN_FAULTS => .acres
  | .TIN_IMAGE_SEL => .acres
  | .TIN_IMAGE_INFO => .acres
  | .SYN_SEL => .acres
  | .SYN_DEF => .acres
  | .SYN_VALUE => .acres
  | .SYN_OP => .acres
  | .SYN_OP_ARG => .acres
  | .SYN_OP_RESULT => .acres
  | .SYN_STAT => .acres
  | .SYN_WFG_STAT => .yokes

/-- The register has a shadow and a live view (R47). -/
def Reg.staged : Reg → Bool
  | .CFG_DOMAIN => true
  | .CFG_DOMAIN_FP_0 => true
  | .CFG_DOMAIN_FP_1 => true
  | .CFG_DOMAIN_FP_2 => true
  | .CFG_DOMAIN_FP_3 => true
  | .CFG_DOMAIN_FP_4 => true
  | .CFG_DOMAIN_FP_5 => true
  | .YOK_PRIMACY_CTRL => true
  | .PWR_CAP => true
  | .PWR_FALLOW_CTRL => true
  | .PWR_FALLOW_NB_CFG => true
  | .PWR_FALLOW_NB_ADDR => true
  | .PWR_FALLOW_NB_KEY => true
  | .SEC_BIND_CTRL => true
  | .SEC_MGMT_CTRL => true
  | .OBS_CTRL => true
  | .OBS_ENERGY_CTRL => true
  | .OBS_ENERGY_W => true
  | .OBS_ENERGY_W2 => true
  | .OBS_TRACE_CFG => true
  | .OBS_TRACE_TRIG => true
  | .OBS_TRACE_TRIG_AT => true
  | .OBS_TRACE_EXPORT => true
  | .OBS_TRACE_EXP_BASE => true
  | .OBS_TRACE_EXP_KEY => true
  | .KLT_CTRL => true
  | .KLT_CTRL2 => true
  | .KLT_DSCP => true
  | .KLT_LOCAL_IP_HI => true
  | .KLT_LOCAL_IP_LO => true
  | .KLT_PEER_CFG => true
  | .KLT_PEER_IP_HI => true
  | .KLT_PEER_IP_LO => true
  | .KLT_CC => true
  | .TSC_DRR => true
  | .TSC_QLEN => true
  | .TSC_SHP => true
  | .TSC_REFILL => true
  | .TSC_GCL_CTRL => true
  | .TSC_GCL_BASE => true
  | .TSC_GCL_PHASE => true
  | .TSC_GCL_ENTRY => true
  | .TSC_TIME_CTRL => true
  | .TSC_PTP_CTRL => true
  | .CKP_CTRL => true
  | .CKP_ROLE => true
  | .BUR_CTRL => true
  | .BUR_PRIN_LIMIT => true
  | .BUR_GUAR_CTRL => true
  | .TIER_PROF_GEOM => true
  | .TIER_PROF_VAR => true
  | .TIER_PROF_SCALE => true
  | .TIER_NEAR_CTRL => true
  | .TIER_PRIN_NEAR => true
  | .TIER_LEND_CFG => true
  | .TIER_LEND_PEER => true
  | .TIER_BORROW_CFG => true
  | .CHS_CTRL => true
  | .FUR_CTRL => true
  | .FUR_ARQ_CFG => true
  | .FUR_HSCALE => true
  | .FUR_RSP_CFG => true
  | .FUR_RSP_BASE => true
  | .FUR_RSP_PIADDR => true
  | .FUR_RSP_KEY => true
  | .GEN_TKQ_CFG => true
  | .GLN_CTRL => true
  | .GLN_SRQ_CFG => true
  | .GLN_FLT_ADDR => true
  | .GLN_FLT_RANGE => true
  | .GLN_GRP_CFG => true
  | .GLN_GRP_MEM => true
  | .GLN_GRP_REPLY => true
  | .TIN_CTRL => true
  | .SYN_DEF => true
  | _ => false

/-- The selection register that indexes it (R573). -/
def Reg.sel : Reg → Option Reg
  | .YOK_IFV => some .YOK_IFV_SEL
  | .PWR_FALLOW_NB_CFG => some .PWR_FALLOW_NB_SEL
  | .PWR_FALLOW_NB_ADDR => some .PWR_FALLOW_NB_SEL
  | .PWR_FALLOW_NB_KEY => some .PWR_FALLOW_NB_SEL
  | .PWR_FALLOW_NB_STATUS => some .PWR_FALLOW_NB_SEL
  | .PWR_RAIL => some .PWR_RAIL_SEL
  | .SEC_KEY_STATUS => some .SEC_KEY_SEL
  | .OBS_ENG_BUSY => some .OBS_ENG_SEL
  | .OBS_ENG_STALL => some .OBS_ENG_SEL
  | .OBS_ENG_IDLE => some .OBS_ENG_SEL
  | .OBS_ENG_FENCED => some .OBS_ENG_SEL
  | .OBS_ENG_REASON => some .OBS_ENG_SEL
  | .OBS_PRIN_VAL => some .OBS_PRIN_SEL
  | .KLT_PEER_CFG => some .KLT_PEER_SEL
  | .KLT_PEER_IP_HI => some .KLT_PEER_SEL
  | .KLT_PEER_IP_LO => some .KLT_PEER_SEL
  | .KLT_PEER_STATUS => some .KLT_PEER_SEL
  | .KLT_CC => some .KLT_CC_SEL
  | .KLT_CONN_STATUS => some .KLT_CONN_SEL
  | .KLT_CONN_CWND => some .KLT_CONN_SEL
  | .KLT_PWQ_STATUS => some .KLT_PWQ_SEL
  | .TSC_SHP => some .TSC_SHP_SEL
  | .TSC_GCL_ENTRY => some .TSC_GCL_SEL
  | .TSC_QSTAT => some .TSC_Q_SEL
  | .TSC_QCOUNT => some .TSC_Q_SEL
  | .BUR_PRIN_LIMIT => some .BUR_PRIN_SEL
  | .BUR_PRIN_USE => some .BUR_PRIN_SEL
  | .TIER_PROF_GEOM => some .TIER_PROF_SEL
  | .TIER_PROF_VAR => some .TIER_PROF_SEL
  | .TIER_PROF_SCALE => some .TIER_PROF_SEL
  | .TIER_PROF_SIZE => some .TIER_PROF_SEL
  | .TIER_PRIN_NEAR => some .TIER_PRIN_SEL
  | .TIER_PRIN_NEAR_USE => some .TIER_PRIN_SEL
  | .TIER_LEND_CFG => some .TIER_LEND_SEL
  | .TIER_LEND_PEER => some .TIER_LEND_SEL
  | .TIER_LEND_STATUS => some .TIER_LEND_SEL
  | .TIER_BORROW_CFG => some .TIER_BORROW_SEL
  | .TIER_BORROW_STATUS => some .TIER_BORROW_SEL
  | .CHS_DRIVE_STATUS => some .CHS_DRIVE_SEL
  | .CHS_DRIVE_SPACE => some .CHS_DRIVE_SEL
  | .CHS_DRIVE_ERR => some .CHS_DRIVE_SEL
  | .FUR_ARQ_CFG => some .FUR_ARQ_SEL
  | .FUR_ARQ_STATUS => some .FUR_ARQ_SEL
  | .FUR_HSCALE => some .FUR_HSCALE_SEL
  | .FUR_RSP_CFG => some .FUR_RSP_SEL
  | .FUR_RSP_BASE => some .FUR_RSP_SEL
  | .FUR_RSP_PIADDR => some .FUR_RSP_SEL
  | .FUR_RSP_KEY => some .FUR_RSP_SEL
  | .FUR_RSP_STATUS => some .FUR_RSP_SEL
  | .GEN_TKQ_CFG => some .GEN_TKQ_SEL
  | .GEN_TKQ_STATUS => some .GEN_TKQ_SEL
  | .GEN_TKQ_REFUSE => some .GEN_TKQ_SEL
  | .GLN_SRQ_CFG => some .GLN_SRQ_SEL
  | .GLN_SRQ_STATUS => some .GLN_SRQ_SEL
  | .GLN_IDX_STATUS => some .GLN_IDX_SEL
  | .GLN_FLT_ADDR => some .GLN_FLT_SEL
  | .GLN_FLT_RANGE => some .GLN_FLT_SEL
  | .GLN_GRP_CFG => some .GLN_GRP_SEL
  | .GLN_GRP_MEM => some .GLN_GRP_SEL
  | .GLN_GRP_REPLY => some .GLN_GRP_SEL
  | .TIN_IMAGE_INFO => some .TIN_IMAGE_SEL
  | .SYN_DEF => some .SYN_SEL
  | .SYN_VALUE => some .SYN_SEL
  | _ => none

/-- Marked d in R574: fingerprinted nowhere. -/
def Reg.perDevice : Reg → Bool
  | .PWR_FALLOW_NB_CFG => true
  | .PWR_FALLOW_NB_ADDR => true
  | .PWR_FALLOW_NB_KEY => true
  | .SEC_MGMT_CTRL => true
  | .KLT_LOCAL_IP_HI => true
  | .KLT_LOCAL_IP_LO => true
  | .KLT_PEER_CFG => true
  | .KLT_PEER_IP_HI => true
  | .KLT_PEER_IP_LO => true
  | .TSC_GCL_PHASE => true
  | .TIER_LEND_CFG => true
  | .TIER_LEND_PEER => true
  | .TIER_BORROW_CFG => true
  | .FUR_RSP_BASE => true
  | .FUR_RSP_PIADDR => true
  | .GLN_GRP_MEM => true
  | .GLN_GRP_REPLY => true
  | .SYN_DEF => true
  | _ => false

/-- The bits of the selection register that select an entry (R55, R573). -/
def Reg.indexMask : Reg → Nat
  | .YOK_IFV => 0xff
  | .PWR_FALLOW_NB_CFG => 0x1f
  | .PWR_FALLOW_NB_ADDR => 0x1f
  | .PWR_FALLOW_NB_KEY => 0x1f
  | .PWR_FALLOW_NB_STATUS => 0x1f
  | .PWR_RAIL => 0x7
  | .SEC_KEY_STATUS => 0xf
  | .OBS_ENG_BUSY => 0xfff
  | .OBS_ENG_STALL => 0xfff
  | .OBS_ENG_IDLE => 0xfff
  | .OBS_ENG_FENCED => 0xfff
  | .OBS_ENG_REASON => 0xffff
  | .OBS_PRIN_VAL => 0x7ffff
  | .KLT_PEER_CFG => 0x1fff
  | .KLT_PEER_IP_HI => 0x1fff
  | .KLT_PEER_IP_LO => 0x1fff
  | .KLT_PEER_STATUS => 0x1fff
  | .KLT_CC => 0x7
  | .KLT_CONN_STATUS => 0x3ffff
  | .KLT_CONN_CWND => 0x3ffff
  | .KLT_PWQ_STATUS => 0x3ff
  | .TSC_SHP => 0x7
  | .TSC_GCL_ENTRY => 0x3f
  | .TSC_QSTAT => 0x1f
  | .TSC_QCOUNT => 0x1f
  | .BUR_PRIN_LIMIT => 0xfff
  | .BUR_PRIN_USE => 0xfff
  | .TIER_PROF_GEOM => 0xf
  | .TIER_PROF_VAR => 0xf
  | .TIER_PROF_SCALE => 0xf
  | .TIER_PROF_SIZE => 0xf
  | .TIER_PRIN_NEAR => 0xfff
  | .TIER_PRIN_NEAR_USE => 0xfff
  | .TIER_LEND_CFG => 0xff
  | .TIER_LEND_PEER => 0xff
  | .TIER_LEND_STATUS => 0xff
  | .TIER_BORROW_CFG => 0x3ff
  | .TIER_BORROW_STATUS => 0x3ff
  | .CHS_DRIVE_STATUS => 0x3
  | .CHS_DRIVE_SPACE => 0x3
  | .CHS_DRIVE_ERR => 0x3
  | .FUR_ARQ_CFG => 0x3f
  | .FUR_ARQ_STATUS => 0x3f
  | .FUR_HSCALE => 0xffff
  | .FUR_RSP_CFG => 0xff
  | .FUR_RSP_BASE => 0xff
  | .FUR_RSP_PIADDR => 0xff
  | .FUR_RSP_KEY => 0xff
  | .FUR_RSP_STATUS => 0xff
  | .GEN_TKQ_CFG => 0x3f
  | .GEN_TKQ_STATUS => 0x3f
  | .GEN_TKQ_REFUSE => 0x3f
  | .GLN_SRQ_CFG => 0xf
  | .GLN_SRQ_STATUS => 0xf
  | .GLN_IDX_STATUS => 0x3ff
  | .GLN_FLT_ADDR => 0x3ff
  | .GLN_FLT_RANGE => 0x3ff
  | .GLN_GRP_CFG => 0xff
  | .GLN_GRP_MEM => 0x3fff
  | .GLN_GRP_REPLY => 0xff
  | .TIN_IMAGE_INFO => 0x3f
  | .SYN_DEF => 0x3fff
  | .SYN_VALUE => 0x3fff
  | _ => 0

/-- The fields of each register, as its table gives them (WO and other fields with no reset value: 0). -/
def Reg.fields : Reg → List RegField
  | .CFG_COMMIT => [⟨"GEN", 15, 0, .wo, 0⟩, ⟨"BLOCK_MASK", 39, 16, .wo, 0⟩, ⟨"AT_VALID", 40, 40, .wo, 0⟩, ⟨"CANCEL", 41, 41, .wo, 0⟩, ⟨"TAG", 49, 42, .wo, 0⟩, ⟨"rsvd", 63, 50, .wo, 0⟩]
  | .CFG_COMMIT_AT => [⟨"AT_TIME", 63, 0, .rw, 0⟩]
  | .CFG_STATUS => [⟨"LIVE_GEN", 15, 0, .ro, 0⟩, ⟨"PENDING", 16, 16, .ro, 0⟩, ⟨"LOCK_WR_ERR", 17, 17, .w1c, 0⟩, ⟨"FP_VALID", 18, 18, .ro, 0⟩, ⟨"rsvd", 63, 19, .ro, 0⟩]
  | .CFG_RESULT => [⟨"CTL_TAG", 7, 0, .ro, 0⟩, ⟨"CTL_STATUS", 15, 8, .ro, 0⟩, ⟨"MGT_TAG", 23, 16, .ro, 0⟩, ⟨"MGT_STATUS", 31, 24, .ro, 0⟩, ⟨"FAIL_DIE", 35, 32, .ro, 0⟩, ⟨"rsvd", 63, 36, .ro, 0⟩]
  | .CFG_FP_0 => [⟨"FP", 63, 0, .ro, 0⟩]
  | .CFG_FP_1 => [⟨"FP", 63, 0, .ro, 0⟩]
  | .CFG_FP_2 => [⟨"FP", 63, 0, .ro, 0⟩]
  | .CFG_FP_3 => [⟨"FP", 63, 0, .ro, 0⟩]
  | .CFG_FP_4 => [⟨"FP", 63, 0, .ro, 0⟩]
  | .CFG_FP_5 => [⟨"FP", 63, 0, .ro, 0⟩]
  | .CFG_DOMAIN => [⟨"DOMAIN_ID", 15, 0, .rw, 0⟩, ⟨"GRACE", 23, 16, .rw, 10⟩, ⟨"STRICT", 24, 24, .rw, 1⟩, ⟨"rsvd", 63, 25, .rw, 0⟩]
  | .CFG_DOMAIN_FP_0 => [⟨"FP", 63, 0, .rw, 0⟩]
  | .CFG_DOMAIN_FP_1 => [⟨"FP", 63, 0, .rw, 0⟩]
  | .CFG_DOMAIN_FP_2 => [⟨"FP", 63, 0, .rw, 0⟩]
  | .CFG_DOMAIN_FP_3 => [⟨"FP", 63, 0, .rw, 0⟩]
  | .CFG_DOMAIN_FP_4 => [⟨"FP", 63, 0, .rw, 0⟩]
  | .CFG_DOMAIN_FP_5 => [⟨"FP", 63, 0, .rw, 0⟩]
  | .CFG_DOMAIN_STATUS => [⟨"STATE", 1, 0, .ro, 0⟩, ⟨"rsvd", 15, 2, .ro, 0⟩, ⟨"DIVERGENT", 31, 16, .ro, 0⟩, ⟨"rsvd", 63, 32, .ro, 0⟩]
  | .YOK_IFV_SEL => [⟨"IFACE", 7, 0, .rw, 0⟩, ⟨"rsvd", 63, 8, .rw, 0⟩]
  | .YOK_IFV => [⟨"MIN_MAJOR", 7, 0, .ro, 1⟩, ⟨"MIN_MINOR", 15, 8, .ro, 0⟩, ⟨"MAX_MAJOR", 23, 16, .ro, 1⟩, ⟨"MAX_MINOR", 31, 24, .ro, 0⟩, ⟨"WR_MAJOR", 39, 32, .ro, 1⟩, ⟨"WR_MINOR", 47, 40, .ro, 0⟩, ⟨"rsvd", 63, 48, .ro, 0⟩]
  | .YOK_KTB_NOW => [⟨"NOW", 63, 0, .ro, 0⟩]
  | .YOK_KTB_FREQ => [⟨"FREQ_ADJ", 31, 0, .rw, 0⟩, ⟨"rsvd", 63, 32, .ro, 0⟩]
  | .YOK_KTB_SLEW => [⟨"OFFSET", 47, 0, .rw, 0⟩, ⟨"rsvd", 63, 48, .ro, 0⟩]
  | .YOK_KTB_STEP => [⟨"STEP", 47, 0, .wo, 0⟩, ⟨"STEP_REFUSED", 48, 48, .w1c, 0⟩, ⟨"rsvd", 63, 49, .ro, 0⟩]
  | .YOK_PPS_IN_TS => [⟨"TS", 63, 0, .ro, 0⟩]
  | .YOK_HQ_VERSION => [⟨"MIN_MAJOR", 7, 0, .ro, 1⟩, ⟨"MIN_MINOR", 15, 8, .ro, 0⟩, ⟨"MAX_MAJOR", 23, 16, .ro, 1⟩, ⟨"MAX_MINOR", 31, 24, .ro, 0⟩, ⟨"AGREED", 47, 32, .ro, 0⟩, ⟨"AGREED_VALID", 48, 48, .ro, 0⟩, ⟨"NEG_STATUS", 56, 49, .ro, 0⟩, ⟨"rsvd", 63, 57, .ro, 0⟩]
  | .YOK_HQ_NEGOTIATE => [⟨"RANGE", 31, 0, .wo, 0⟩, ⟨"rsvd", 63, 32, .wo, 0⟩]
  | .YOK_HQ_ASQ_BASE => [⟨"ADDR", 63, 0, .rw, 0⟩]
  | .YOK_HQ_ACQ_BASE => [⟨"ADDR", 63, 0, .rw, 0⟩]
  | .YOK_HQ_AQ_DEPTH => [⟨"LOG2", 3, 0, .rw, 6⟩, ⟨"rsvd", 63, 4, .rw, 0⟩]
  | .YOK_HQ_AQ_EN => [⟨"ENABLE", 0, 0, .rw, 0⟩, ⟨"rsvd", 63, 1, .rw, 0⟩]
  | .YOK_HQ_INT => [⟨"DELAY_NS", 31, 0, .rw, 0⟩, ⟨"COUNT", 39, 32, .rw, 1⟩, ⟨"rsvd", 63, 40, .rw, 0⟩]
  | .YOK_HQ_STATUS => [⟨"PORT", 0, 0, .ro, 0⟩, ⟨"QPAIRS", 8, 1, .ro, 0⟩, ⟨"BAD_DB", 32, 9, .ro, 0⟩, ⟨"rsvd", 63, 33, .ro, 0⟩]
  | .YOK_PRIMACY_CTRL => [⟨"LEASE_US", 15, 0, .rw, 500⟩, ⟨"PARTNER_US", 31, 16, .rw, 100⟩, ⟨"rsvd", 63, 32, .rw, 0⟩]
  | .YOK_PRIMACY => [⟨"PEPOCH", 31, 0, .ro, 1⟩, ⟨"PRIMARY", 32, 32, .ro, 0⟩, ⟨"PREF", 33, 33, .ro, 0⟩, ⟨"LEASES", 37, 34, .ro, 0⟩, ⟨"PARTNER_UP", 38, 38, .ro, 0⟩, ⟨"STALE_EVENTS", 55, 39, .ro, 0⟩, ⟨"rsvd", 63, 56, .ro, 0⟩]
  | .PWR_STAGE => [⟨"STAGE", 2, 0, .ro, 0⟩, ⟨"FAIL", 3, 3, .ro, 0⟩, ⟨"FAIL_CODE", 11, 4, .ro, 0⟩, ⟨"FW_SLOT", 12, 12, .ro, 0⟩, ⟨"CAUSE", 14, 13, .ro, 0⟩, ⟨"rsvd", 63, 15, .ro, 0⟩]
  | .PWR_STAGE_TIME => [⟨"STAGE0_MS", 15, 0, .ro, 0⟩, ⟨"STAGE1_MS", 31, 16, .ro, 0⟩, ⟨"STAGE2_MS", 47, 32, .ro, 0⟩, ⟨"rsvd", 63, 48, .ro, 0⟩]
  | .PWR_RESET => [⟨"KIND", 1, 0, .wo, 0⟩, ⟨"YOKE", 2, 2, .wo, 0⟩, ⟨"rsvd", 63, 3, .wo, 0⟩]
  | .PWR_CAP => [⟨"CAP_W", 10, 0, .rw, 1050⟩, ⟨"PEAK_W", 21, 11, .rw, 1250⟩, ⟨"THERM_ALARM_C", 29, 22, .rw, 100⟩, ⟨"AVS_TARGET_MV", 39, 30, .rw, 800⟩, ⟨"rsvd", 63, 40, .rw, 0⟩]
  | .PWR_TELEM => [⟨"ENERGY_UJ", 63, 0, .ro, 0⟩]
  | .PWR_TELEM_W => [⟨"MEAN_10MS_W", 15, 0, .ro, 0⟩, ⟨"MEAN_1S_W", 31, 16, .ro, 0⟩, ⟨"MAX_10MS_W", 47, 32, .ro, 0⟩, ⟨"rsvd", 63, 48, .ro, 0⟩]
  | .PWR_AVS => [⟨"TARGET_MV", 9, 0, .ro, 800⟩, ⟨"READ_MV", 19, 10, .ro, 0⟩, ⟨"CAPPING", 20, 20, .ro, 0⟩, ⟨"rsvd", 63, 21, .ro, 0⟩]
  | .PWR_SPEED => [⟨"SPEED", 9, 0, .ro, 1023⟩, ⟨"SOURCE", 15, 10, .ro, 0⟩, ⟨"BELOW_S", 16, 16, .w1c, 0⟩, ⟨"rsvd", 63, 17, .ro, 0⟩]
  | .PWR_THERM => [⟨"TJ_C", 7, 0, .ro, 0⟩, ⟨"TJ_MAX_C", 15, 8, .rc, 0⟩, ⟨"ALARM", 16, 16, .w1c, 0⟩, ⟨"rsvd", 63, 17, .ro, 0⟩]
  | .PWR_FALLOW_CTRL => [⟨"ANSWER_MS", 15, 0, .rw, 10⟩, ⟨"MIN_IDLE_MS", 31, 16, .rw, 100⟩, ⟨"rsvd", 63, 32, .rw, 0⟩]
  | .PWR_FALLOW_NB_SEL => [⟨"NB", 4, 0, .rw, 0⟩, ⟨"rsvd", 63, 5, .rw, 0⟩]
  | .PWR_FALLOW_NB_CFG => [⟨"PEER", 12, 0, .rw, 0⟩, ⟨"CONN", 36, 13, .rw, 0⟩, ⟨"SLOT_AT_PEER", 41, 37, .rw, 0⟩, ⟨"VALID", 42, 42, .rw, 0⟩, ⟨"rsvd", 63, 43, .rw, 0⟩]
  | .PWR_FALLOW_NB_ADDR => [⟨"ADDR", 63, 0, .rw, 0⟩]
  | .PWR_FALLOW_NB_KEY => [⟨"KEY", 31, 0, .rw, 0⟩, ⟨"rsvd", 63, 32, .rw, 0⟩]
  | .PWR_FALLOW_NB_STATUS => [⟨"LAST_KIND", 2, 0, .ro, 0⟩, ⟨"ANSWERED", 3, 3, .ro, 0⟩, ⟨"ACCEPTED", 4, 4, .ro, 0⟩, ⟨"CONSENT", 5, 5, .ro, 0⟩, ⟨"rsvd", 63, 6, .ro, 0⟩]
  | .PWR_FALLOW_CMD => [⟨"OP", 1, 0, .wo, 0⟩, ⟨"rsvd", 63, 2, .wo, 0⟩]
  | .PWR_FALLOW_STATUS => [⟨"STATE", 2, 0, .ro, 0⟩, ⟨"rsvd", 7, 3, .ro, 0⟩, ⟨"LAST_STATUS", 15, 8, .ro, 0⟩, ⟨"ROUND", 47, 16, .ro, 0⟩, ⟨"DEFERRED", 63, 48, .ro, 0⟩]
  | .PWR_FALLOW_WAKE => [⟨"LAST_WAKE_NS", 31, 0, .ro, 0⟩, ⟨"SELF_WAKE_MS", 63, 32, .ro, 0⟩]
  | .PWR_STRAP => [⟨"PRIMARY_PREF", 0, 0, .ro, 0⟩, ⟨"HOST_SEL", 1, 1, .ro, 0⟩, ⟨"rsvd", 63, 2, .ro, 0⟩]
  | .PWR_RAIL_SEL => [⟨"RAIL", 2, 0, .rw, 0⟩, ⟨"rsvd", 63, 3, .rw, 0⟩]
  | .PWR_RAIL => [⟨"VOUT_MV", 15, 0, .ro, 0⟩, ⟨"IOUT_100MA", 31, 16, .ro, 0⟩, ⟨"FAULT", 32, 32, .w1c, 0⟩, ⟨"NO_ANSWER", 33, 33, .w1c, 0⟩, ⟨"rsvd", 63, 34, .ro, 0⟩]
  | .SEC_TEN_STATUS => [⟨"STATE", 1, 0, .ro, 0⟩, ⟨"RESUME", 2, 2, .ro, 0⟩, ⟨"KEY_MODE", 3, 3, .ro, 0⟩, ⟨"CERTIFIED", 4, 4, .ro, 0⟩, ⟨"ERA", 18, 5, .ro, 0⟩, ⟨"rsvd", 31, 19, .ro, 0⟩, ⟨"EPOCH", 63, 32, .ro, 0⟩]
  | .SEC_TEN_ID => [⟨"TENANT_ID", 63, 0, .ro, 0⟩]
  | .SEC_LC => [⟨"STATE", 1, 0, .ro, 0⟩, ⟨"PENDING", 2, 2, .ro, 0⟩, ⟨"ROW_A", 10, 3, .ro, 0⟩, ⟨"ROW_B", 18, 11, .ro, 0⟩, ⟨"rsvd", 63, 19, .ro, 0⟩]
  | .SEC_KEY_SEL => [⟨"GEN", 3, 0, .rw, 0⟩, ⟨"rsvd", 63, 4, .rw, 0⟩]
  | .SEC_KEY_STATUS => [⟨"VALID", 0, 0, .ro, 0⟩, ⟨"SCOPE", 1, 1, .ro, 0⟩, ⟨"CURRENT", 2, 2, .ro, 0⟩, ⟨"rsvd", 31, 3, .ro, 0⟩, ⟨"REFS", 63, 32, .ro, 0⟩]
  | .SEC_CERT => [⟨"DEPART_MASK", 7, 0, .ro, 0⟩, ⟨"DEPARTED", 8, 8, .ro, 0⟩, ⟨"rsvd", 31, 9, .ro, 0⟩, ⟨"DEPARTURES", 63, 32, .ro, 0⟩]
  | .SEC_BIND_CTRL => [⟨"BIND_TIMEOUT_S", 15, 0, .rw, 600⟩, ⟨"FIELD_SCRUB", 16, 16, .rw, 1⟩, ⟨"rsvd", 63, 17, .rw, 0⟩]
  | .SEC_MGMT_CTRL => [⟨"UDP_PORT", 15, 0, .rw, 9721⟩, ⟨"IDLE_S", 31, 16, .rw, 300⟩, ⟨"MAX_SESS", 35, 32, .rw, 4⟩, ⟨"rsvd", 63, 36, .rw, 0⟩]
  | .SEC_FW_MIN => [⟨"SC_SVN", 15, 0, .ro, 0⟩, ⟨"MC_SVN", 31, 16, .ro, 0⟩, ⟨"SYS_SVN", 47, 32, .ro, 0⟩, ⟨"rsvd", 63, 48, .ro, 0⟩]
  | .SEC_STORE => [⟨"COPIES", 1, 0, .ro, 2⟩, ⟨"TORN", 2, 2, .w1c, 0⟩, ⟨"FILL_PCT", 9, 3, .ro, 0⟩, ⟨"rsvd", 31, 10, .ro, 0⟩, ⟨"RECORDS", 63, 32, .ro, 0⟩]
  | .SEC_SELFTEST => [⟨"PASSED", 0, 0, .ro, 0⟩, ⟨"ENTROPY_OK", 1, 1, .ro, 0⟩, ⟨"rsvd", 7, 2, .ro, 0⟩, ⟨"FAILED_TEST", 15, 8, .ro, 0⟩, ⟨"rsvd", 63, 16, .ro, 0⟩]
  | .SEC_DEBUG => [⟨"SCOPE", 7, 0, .ro, 0⟩, ⟨"UNLOCKED", 8, 8, .ro, 0⟩, ⟨"rsvd", 63, 9, .ro, 0⟩]
  | .SEC_DEBUG_UNTIL => [⟨"NOT_AFTER", 63, 0, .ro, 0⟩]
  | .SEC_MGMT_STATUS => [⟨"SESSIONS", 3, 0, .ro, 0⟩, ⟨"AUTH_FAILS", 15, 8, .ro, 0⟩, ⟨"LOCKOUT", 16, 16, .ro, 0⟩, ⟨"rsvd", 63, 17, .ro, 0⟩, ⟨"rsvd", 7, 4, .ro, 0⟩]
  | .OBS_CTRL => [⟨"PERIOD_US", 31, 0, .rw, 0xf4240⟩, ⟨"CAP_PCT", 33, 32, .rw, 3⟩, ⟨"rsvd", 63, 34, .rw, 0⟩]
  | .OBS_SNAP => [⟨"TAKE", 0, 0, .w1s, 0⟩, ⟨"BANK", 1, 1, .rw, 0⟩, ⟨"rsvd", 63, 2, .rw, 0⟩]
  | .OBS_PERIOD => [⟨"START", 62, 0, .ro, 0⟩, ⟨"LATCHED", 63, 63, .ro, 0⟩]
  | .OBS_ENG_SEL => [⟨"KIND", 2, 0, .rw, 0⟩, ⟨"ENGINE", 11, 3, .rw, 0⟩, ⟨"REASON", 15, 12, .rw, 0⟩, ⟨"rsvd", 63, 16, .rw, 0⟩]
  | .OBS_ENG_BUSY => [⟨"NS", 63, 0, .ro, 0⟩]
  | .OBS_ENG_STALL => [⟨"NS", 63, 0, .ro, 0⟩]
  | .OBS_ENG_IDLE => [⟨"NS", 63, 0, .ro, 0⟩]
  | .OBS_ENG_FENCED => [⟨"NS", 63, 0, .ro, 0⟩]
  | .OBS_ENG_REASON => [⟨"NS", 63, 0, .ro, 0⟩]
  | .OBS_OVF => [⟨"ENGINE", 5, 0, .w1c, 0⟩, ⟨"ACCOUNT", 6, 6, .w1c, 0⟩, ⟨"rsvd", 63, 7, .ro, 0⟩]
  | .OBS_PRIN_SEL => [⟨"ACCOUNT", 12, 0, .rw, 0⟩, ⟨"COUNTER", 18, 13, .rw, 0⟩, ⟨"rsvd", 63, 19, .rw, 0⟩]
  | .OBS_PRIN_VAL => [⟨"VALUE", 63, 0, .ro, 0⟩]
  | .OBS_ENERGY_CTRL => [⟨"FLOOR_W", 15, 0, .rw, 300⟩, ⟨"rsvd", 63, 16, .rw, 0⟩]
  | .OBS_ENERGY_W => [⟨"FURROW_MW", 15, 0, .rw, 8750⟩, ⟨"GLEANER_MW", 31, 16, .rw, 4375⟩, ⟨"TINE_MW", 47, 32, .rw, 208⟩, ⟨"rsvd", 63, 48, .rw, 0⟩]
  | .OBS_ENERGY_W2 => [⟨"NEAR_FJB", 15, 0, .rw, 22000⟩, ⟨"FIELD_FJB", 31, 16, .rw, 40000⟩, ⟨"FABRIC_FJB", 47, 32, .rw, 30000⟩, ⟨"CHEST_FJB", 63, 48, .rw, 10000⟩]
  | .OBS_HALT => [⟨"HALTED", 0, 0, .ro, 0⟩, ⟨"SOURCE", 2, 1, .ro, 0⟩, ⟨"rsvd", 63, 3, .ro, 0⟩]
  | .OBS_HALT_TS => [⟨"TS", 63, 0, .ro, 0⟩]
  | .OBS_SCAN_STATUS => [⟨"BLOCKS", 31, 0, .ro, 0⟩, ⟨"SEALED", 32, 32, .ro, 0⟩, ⟨"SCAN_COUNT", 63, 33, .ro, 0⟩]
  | .OBS_MARK => [⟨"VALUE", 31, 0, .wo, 0⟩, ⟨"rsvd", 63, 32, .wo, 0⟩]
  | .OBS_TRACE_CFG => [⟨"SIZE_GIB", 4, 0, .rw, 16⟩, ⟨"MODE", 5, 5, .rw, 0⟩, ⟨"POST_PCT", 12, 6, .rw, 50⟩, ⟨"SRC", 22, 13, .rw, 0⟩, ⟨"PRIN", 34, 23, .rw, 0⟩, ⟨"PRIN_ALL", 35, 35, .rw, 1⟩, ⟨"EN", 36, 36, .rw, 0⟩, ⟨"HALT_ON_TRIG", 37, 37, .rw, 0⟩, ⟨"rsvd", 63, 38, .rw, 0⟩]
  | .OBS_TRACE_TRIG => [⟨"STATUS", 7, 0, .rw, 0⟩, ⟨"STATUS_EN", 8, 8, .rw, 0⟩, ⟨"TIME_EN", 9, 9, .rw, 0⟩, ⟨"STALL_EN", 10, 10, .rw, 0⟩, ⟨"EXT_EN", 11, 11, .rw, 0⟩, ⟨"rsvd", 31, 12, .rw, 0⟩, ⟨"STALL_US", 63, 32, .rw, 1000⟩]
  | .OBS_TRACE_TRIG_AT => [⟨"AT", 63, 0, .rw, 0⟩]
  | .OBS_TRACE_STATUS => [⟨"STATE", 1, 0, .ro, 0⟩, ⟨"STOP_REASON", 4, 2, .ro, 0⟩, ⟨"WRAPPED", 5, 5, .ro, 0⟩, ⟨"EXPORT_MISS", 31, 6, .ro, 0⟩, ⟨"LOST", 63, 32, .ro, 0⟩]
  | .OBS_TRACE_PTRS => [⟨"WR_FRAME", 31, 0, .ro, 0⟩, ⟨"TRIG_FRAME", 63, 32, .ro, 0⟩]
  | .OBS_TRACE_TRIG_TS => [⟨"TS", 63, 0, .ro, 0⟩]
  | .OBS_TRACE_FLUSH => [⟨"FLUSH", 0, 0, .w1s, 0⟩, ⟨"rsvd", 63, 1, .ro, 0⟩]
  | .OBS_TRACE_EXPORT => [⟨"CONN", 23, 0, .rw, 0⟩, ⟨"MODE", 25, 24, .rw, 0⟩, ⟨"SIZE_LOG2", 30, 26, .rw, 20⟩, ⟨"rsvd", 63, 31, .rw, 0⟩]
  | .OBS_TRACE_EXP_BASE => [⟨"BASE", 63, 0, .rw, 0⟩]
  | .OBS_TRACE_EXP_KEY => [⟨"KEY", 31, 0, .rw, 0⟩, ⟨"rsvd", 63, 32, .rw, 0⟩]
  | .KLT_CTRL => [⟨"UDP_PORT", 15, 0, .rw, 9720⟩, ⟨"HB_US", 31, 16, .rw, 1000⟩, ⟨"HB_MISS", 35, 32, .rw, 5⟩, ⟨"ACK_DELAY_NS", 51, 36, .rw, 2000⟩, ⟨"ACK_EVERY", 59, 52, .rw, 8⟩, ⟨"rsvd", 63, 60, .rw, 0⟩]
  | .KLT_CTRL2 => [⟨"REO_NS", 15, 0, .rw, 2000⟩, ⟨"RTO_MIN_US", 31, 16, .rw, 50⟩, ⟨"MAX_RETX", 35, 32, .rw, 7⟩, ⟨"BAD_HOLD_US", 51, 36, .rw, 1000⟩, ⟨"KLT_FIELD_PCT", 58, 52, .rw, 20⟩, ⟨"rsvd", 63, 59, .rw, 0⟩]
  | .KLT_DSCP => [⟨"DSCP", 47, 0, .rw, 0xe30a20610200⟩, ⟨"rsvd", 63, 48, .rw, 0⟩]
  | .KLT_LOCAL_IP_HI => [⟨"ADDR", 63, 0, .rw, 0⟩]
  | .KLT_LOCAL_IP_LO => [⟨"ADDR", 63, 0, .rw, 0⟩]
  | .KLT_PEER_SEL => [⟨"ENTRY", 12, 0, .rw, 0⟩, ⟨"rsvd", 63, 13, .rw, 0⟩]
  | .KLT_PEER_CFG => [⟨"ENDPOINT", 14, 0, .rw, 0⟩, ⟨"VALID", 15, 15, .rw, 0⟩, ⟨"RACK", 16, 16, .rw, 0⟩, ⟨"HB", 17, 17, .rw, 0⟩, ⟨"rsvd", 63, 18, .rw, 0⟩]
  | .KLT_PEER_IP_HI => [⟨"ADDR", 63, 0, .rw, 0⟩]
  | .KLT_PEER_IP_LO => [⟨"ADDR", 63, 0, .rw, 0⟩]
  | .KLT_PEER_STATUS => [⟨"STATE", 1, 0, .ro, 0⟩, ⟨"DIVERGENT", 2, 2, .ro, 0⟩, ⟨"rsvd", 31, 3, .ro, 0⟩, ⟨"HB_AGE_US", 63, 32, .ro, 0⟩]
  | .KLT_CC_SEL => [⟨"CLASS", 2, 0, .rw, 0⟩, ⟨"rsvd", 63, 3, .rw, 0⟩]
  | .KLT_CC => [⟨"TARGET_NS", 15, 0, .rw, 0⟩, ⟨"AI", 23, 16, .rw, 16⟩, ⟨"MD_MAX", 30, 24, .rw, 50⟩, ⟨"G", 34, 31, .rw, 4⟩, ⟨"INIT_CWND", 47, 35, .rw, 64⟩, ⟨"rsvd", 63, 48, .rw, 0⟩]
  | .KLT_CONN_SEL => [⟨"CONN", 17, 0, .rw, 0⟩, ⟨"rsvd", 63, 18, .rw, 0⟩]
  | .KLT_CONN_STATUS => [⟨"STATE", 2, 0, .ro, 0⟩, ⟨"VER", 10, 3, .ro, 0⟩, ⟨"CGEN", 18, 11, .ro, 0⟩, ⟨"PEER", 31, 19, .ro, 0⟩, ⟨"SRTT_NS", 63, 32, .ro, 0⟩]
  | .KLT_CONN_CWND => [⟨"CWND", 31, 0, .ro, 0⟩, ⟨"RETX", 63, 32, .ro, 0⟩]
  | .KLT_PWQ_SEL => [⟨"PWQ", 9, 0, .rw, 0⟩, ⟨"rsvd", 63, 10, .rw, 0⟩]
  | .KLT_PWQ_STATUS => [⟨"CI", 31, 0, .ro, 0⟩, ⟨"ERR", 39, 32, .ro, 0⟩, ⟨"ERROR", 40, 40, .w1c, 0⟩, ⟨"INFLIGHT", 47, 41, .ro, 0⟩, ⟨"GATED", 48, 48, .ro, 0⟩, ⟨"rsvd", 63, 49, .ro, 0⟩]
  | .KLT_CMD => [⟨"OP", 3, 0, .wo, 0⟩, ⟨"rsvd", 63, 4, .wo, 0⟩]
  | .KLT_CMD_ARG0 => [⟨"ARG", 63, 0, .rw, 0⟩]
  | .KLT_CMD_ARG1 => [⟨"ARG", 63, 0, .rw, 0⟩]
  | .KLT_CMD_ARG2 => [⟨"ARG", 63, 0, .rw, 0⟩]
  | .KLT_CMD_ARG3 => [⟨"ARG", 63, 0, .rw, 0⟩]
  | .KLT_CMD_RESULT => [⟨"STATUS", 7, 0, .ro, 0⟩, ⟨"VALID", 8, 8, .rc, 0⟩, ⟨"rsvd", 31, 9, .ro, 0⟩, ⟨"VALUE", 63, 32, .ro, 0⟩]
  | .KLT_DROPS => [⟨"MALFORMED", 15, 0, .ro, 0⟩, ⟨"STALE_CONN", 31, 16, .ro, 0⟩, ⟨"DUPLICATE", 47, 32, .ro, 0⟩, ⟨"REFUSED", 63, 48, .ro, 0⟩]
  | .KLT_VERSION => [⟨"MIN_VER", 7, 0, .ro, 1⟩, ⟨"MAX_VER", 15, 8, .ro, 1⟩, ⟨"rsvd", 63, 16, .ro, 0⟩]
  | .TSC_DRR => [⟨"Q", 55, 0, .rw, 0x20101008040202⟩, ⟨"rsvd", 63, 56, .rw, 0⟩]
  | .TSC_QLEN => [⟨"LEN", 63, 0, .rw, 0x840202020100818⟩]
  | .TSC_SHP_SEL => [⟨"CLASS", 2, 0, .rw, 0⟩, ⟨"rsvd", 63, 3, .rw, 0⟩]
  | .TSC_SHP => [⟨"RATE", 31, 0, .rw, 0⟩, ⟨"BURST", 55, 32, .rw, 65536⟩, ⟨"rsvd", 63, 56, .rw, 0⟩]
  | .TSC_REFILL => [⟨"REFILL_NS", 15, 0, .rw, 1000⟩, ⟨"SAMPLE_NS", 31, 16, .rw, 1000⟩, ⟨"rsvd", 63, 32, .rw, 0⟩]
  | .TSC_GCL_CTRL => [⟨"LAST", 5, 0, .rw, 0⟩, ⟨"EN", 6, 6, .rw, 0⟩, ⟨"CYCLE_NS", 38, 7, .rw, 0⟩, ⟨"rsvd", 63, 39, .rw, 0⟩]
  | .TSC_GCL_BASE => [⟨"BASE_TIME", 63, 0, .rw, 0⟩]
  | .TSC_GCL_PHASE => [⟨"PHASE_NS", 31, 0, .rw, 0⟩, ⟨"rsvd", 63, 32, .rw, 0⟩]
  | .TSC_GCL_SEL => [⟨"ENTRY", 5, 0, .rw, 0⟩, ⟨"rsvd", 63, 6, .rw, 0⟩]
  | .TSC_GCL_ENTRY => [⟨"MASK", 7, 0, .rw, 255⟩, ⟨"DUR_NS", 39, 8, .rw, 0⟩, ⟨"rsvd", 63, 40, .rw, 0⟩]
  | .TSC_GCL_STATUS => [⟨"STATE", 1, 0, .ro, 0⟩, ⟨"ENTRY", 7, 2, .ro, 0⟩, ⟨"GCL_LATE", 8, 8, .w1c, 0⟩, ⟨"rsvd", 63, 9, .ro, 0⟩]
  | .TSC_GCL_TAKE => [⟨"T_TAKE", 63, 0, .ro, 0⟩]
  | .TSC_TIME_CTRL => [⟨"GUARD_NS", 15, 0, .rw, 200⟩, ⟨"ASYM_NS", 31, 16, .rw, 20⟩, ⟨"DRIFT_PPB", 47, 32, .rw, 100⟩, ⟨"rsvd", 63, 48, .rw, 0⟩]
  | .TSC_TE => [⟨"TE_EST_NS", 31, 0, .ro, 0xffffffff⟩, ⟨"EXCESS_NS", 47, 32, .ro, 65535⟩, ⟨"DRIFT", 48, 48, .ro, 1⟩, ⟨"DRIFT_SEEN", 49, 49, .w1c, 0⟩, ⟨"rsvd", 63, 50, .ro, 0⟩]
  | .TSC_PTP_CTRL => [⟨"EN", 0, 0, .rw, 0⟩, ⟨"MASTER_OK", 1, 1, .rw, 0⟩, ⟨"DOMAIN", 8, 2, .rw, 0⟩, ⟨"PRIORITY1", 16, 9, .rw, 255⟩, ⟨"PRIORITY2", 24, 17, .rw, 255⟩, ⟨"LOG_SYNC", 28, 25, .rw, 12⟩, ⟨"LOG_DELAY", 32, 29, .rw, 12⟩, ⟨"rsvd", 63, 33, .rw, 0⟩]
  | .TSC_PTP_STATUS => [⟨"PORT_STATE", 2, 0, .ro, 0⟩, ⟨"PORT", 5, 3, .ro, 0⟩, ⟨"LOCKED", 6, 6, .ro, 0⟩, ⟨"rsvd", 31, 7, .ro, 0⟩, ⟨"OFFSET_NS", 63, 32, .ro, 0⟩]
  | .TSC_PTP_DELAY => [⟨"MPD_NS", 31, 0, .ro, 0⟩, ⟨"SYNC_AGE_US", 63, 32, .ro, 0⟩]
  | .TSC_Q_SEL => [⟨"PORT", 1, 0, .rw, 0⟩, ⟨"CLASS", 4, 2, .rw, 0⟩, ⟨"rsvd", 63, 5, .rw, 0⟩]
  | .TSC_QSTAT => [⟨"DEPTH_NOW", 11, 0, .ro, 0⟩, ⟨"DEPTH_MAX", 23, 12, .ro, 0⟩, ⟨"DELAY_MAX_NS", 55, 24, .ro, 0⟩, ⟨"rsvd", 63, 56, .ro, 0⟩]
  | .TSC_QCOUNT => [⟨"STALLS", 31, 0, .ro, 0⟩, ⟨"PACKETS", 63, 32, .ro, 0⟩]
  | .CKP_CTRL => [⟨"SHADOW_NEAR_MIB", 15, 0, .rw, 2048⟩, ⟨"SHADOW_GIB", 27, 16, .rw, 64⟩, ⟨"COPY_PCT", 34, 28, .rw, 15⟩, ⟨"AUTO_DEF", 35, 35, .rw, 1⟩, ⟨"CE_LIMIT", 47, 36, .rw, 64⟩, ⟨"rsvd", 63, 48, .rw, 0⟩]
  | .CKP_SHADOW => [⟨"NEAR_USED_MIB", 15, 0, .ro, 0⟩, ⟨"FIELD_USED_GIB", 27, 16, .ro, 0⟩, ⟨"COW_WAITS", 51, 28, .ro, 0⟩, ⟨"rsvd", 63, 52, .ro, 0⟩]
  | .CKP_FENCE_TINE => [⟨"TINES", 63, 0, .rws, 0⟩]
  | .CKP_FENCE_PC => [⟨"PCS", 63, 0, .rws, 0⟩]
  | .CKP_FENCE_MISC => [⟨"FURROWS", 11, 0, .rws, 0⟩, ⟨"GLEANERS", 15, 12, .rws, 0⟩, ⟨"CHANNELS", 19, 16, .rws, 0⟩, ⟨"DEGRADED", 20, 20, .ro, 0⟩, ⟨"rsvd", 63, 21, .ro, 0⟩]
  | .CKP_EPOCH => [⟨"LAST_MARKED", 31, 0, .ro, 0⟩, ⟨"STATE", 34, 32, .ro, 0⟩, ⟨"FULL", 35, 35, .ro, 0⟩, ⟨"STATUS", 43, 36, .ro, 0⟩, ⟨"rsvd", 63, 44, .ro, 0⟩]
  | .CKP_ANCHOR => [⟨"LAST_DRAINED", 31, 0, .ro, 0⟩, ⟨"MISSED", 63, 32, .ro, 0⟩]
  | .CKP_ROLE => [⟨"ROLE", 1, 0, .rw, 1⟩, ⟨"rsvd", 63, 2, .rw, 0⟩]
  | .CKP_LEAVE => [⟨"LEAVE_STATE", 1, 0, .ro, 0⟩, ⟨"rsvd", 31, 2, .ro, 0⟩, ⟨"SESSIONS_LEFT", 63, 32, .ro, 0⟩]
  | .BUR_CTRL => [⟨"WINDOW_DEF", 15, 0, .rw, 256⟩, ⟨"REVIVE_DUTY", 22, 16, .rw, 75⟩, ⟨"rsvd", 63, 23, .rw, 0⟩]
  | .BUR_DESC_BASE => [⟨"DESC_BASE", 47, 0, .ro, 0⟩, ⟨"rsvd", 63, 48, .ro, 0⟩]
  | .BUR_COUNT => [⟨"FREE", 20, 0, .ro, 0⟩, ⟨"LIVE", 41, 21, .ro, 0⟩, ⟨"PARKED", 62, 42, .ro, 0⟩, ⟨"rsvd", 63, 63, .ro, 0⟩]
  | .BUR_REVQ => [⟨"DEPTH", 15, 0, .ro, 0⟩, ⟨"rsvd", 31, 16, .ro, 0⟩, ⟨"OLDEST_NS", 63, 32, .ro, 0⟩]
  | .BUR_PRIN_SEL => [⟨"PRINCIPAL", 11, 0, .rw, 0⟩, ⟨"rsvd", 63, 12, .rw, 0⟩]
  | .BUR_PRIN_LIMIT => [⟨"MAX_SESSIONS", 21, 0, .rw, 0x3fffff⟩, ⟨"MAX_LIVE", 37, 22, .rw, 65535⟩, ⟨"MAX_REVIVE", 45, 38, .rw, 255⟩, ⟨"rsvd", 63, 46, .rw, 0⟩]
  | .BUR_PRIN_USE => [⟨"SESSIONS", 21, 0, .ro, 0⟩, ⟨"LIVE", 37, 22, .ro, 0⟩, ⟨"REVIVING", 45, 38, .ro, 0⟩, ⟨"rsvd", 63, 46, .ro, 0⟩]
  | .BUR_GUAR_CTRL => [⟨"EN", 0, 0, .rw, 0⟩, ⟨"rsvd", 63, 1, .rw, 0⟩]
  | .BUR_GUAR_STAT => [⟨"CONTRACTS", 8, 0, .ro, 0⟩, ⟨"rsvd", 15, 9, .ro, 0⟩, ⟨"SUM_W_NS", 47, 16, .ro, 0⟩, ⟨"rsvd", 63, 48, .ro, 0⟩]
  | .SHF_STAT => [⟨"OWNED", 17, 0, .ro, 0⟩, ⟨"SHARED", 35, 18, .ro, 0⟩, ⟨"GETX", 63, 36, .ro, 0⟩]
  | .TIER_PROF_SEL => [⟨"PROFILE", 3, 0, .rw, 0⟩, ⟨"rsvd", 63, 4, .rw, 0⟩]
  | .TIER_PROF_GEOM => [⟨"LAYERS", 8, 0, .rw, 0⟩, ⟨"KV_HEADS", 15, 9, .rw, 0⟩, ⟨"QPK", 22, 16, .rw, 0⟩, ⟨"DK_CODE", 27, 23, .rw, 0⟩, ⟨"DV_CODE", 32, 28, .rw, 0⟩, ⟨"SHARED_KV", 33, 33, .rw, 0⟩, ⟨"KV_FMT", 37, 34, .rw, 0⟩, ⟨"VALID", 38, 38, .rw, 0⟩, ⟨"rsvd", 63, 39, .rw, 0⟩]
  | .TIER_PROF_VAR => [⟨"CAUSAL", 0, 0, .rw, 1⟩, ⟨"SOFTCAP_EN", 1, 1, .rw, 0⟩, ⟨"HSCALE_EN", 2, 2, .rw, 0⟩, ⟨"SINKS", 15, 8, .rw, 0⟩, ⟨"WINDOW", 47, 16, .rw, 0⟩, ⟨"rsvd", 63, 48, .rw, 0⟩, ⟨"rsvd", 7, 3, .rw, 0⟩]
  | .TIER_PROF_SCALE => [⟨"SCALE", 31, 0, .rw, 0⟩, ⟨"SOFTCAP", 63, 32, .rw, 0⟩]
  | .TIER_PROF_SIZE => [⟨"SHEAF_BYTES", 19, 0, .ro, 0⟩, ⟨"STACK_PLOTS", 31, 20, .ro, 0⟩, ⟨"STACK_FRAMES", 47, 32, .ro, 0⟩, ⟨"rsvd", 63, 48, .ro, 0⟩]
  | .TIER_NEAR_CTRL => [⟨"LOW_WM", 15, 0, .rw, 1024⟩, ⟨"HIGH_WM", 31, 16, .rw, 2048⟩, ⟨"FILL_DEF", 33, 32, .rw, 1⟩, ⟨"rsvd", 63, 34, .rw, 0⟩]
  | .TIER_NEAR_STAT => [⟨"FREE_MIB", 20, 0, .ro, 0⟩, ⟨"DIRTY_MIB", 41, 21, .ro, 0⟩, ⟨"PINNED_MIB", 62, 42, .ro, 0⟩, ⟨"rsvd", 63, 63, .ro, 0⟩]
  | .TIER_PRIN_SEL => [⟨"PRINCIPAL", 11, 0, .rw, 0⟩, ⟨"rsvd", 63, 12, .rw, 0⟩]
  | .TIER_PRIN_NEAR => [⟨"RESV_MIB", 20, 0, .rw, 0⟩, ⟨"LIMIT_MIB", 41, 21, .rw, 0x1fffff⟩, ⟨"rsvd", 63, 42, .rw, 0⟩]
  | .TIER_PRIN_NEAR_USE => [⟨"USE_MIB", 20, 0, .ro, 0⟩, ⟨"PIN_MIB", 41, 21, .ro, 0⟩, ⟨"rsvd", 63, 42, .ro, 0⟩]
  | .TIER_OBJ_COUNT => [⟨"GEN_FREE", 22, 0, .ro, 0⟩, ⟨"RETIRED", 45, 23, .ro, 0⟩, ⟨"rsvd", 63, 46, .ro, 0⟩]
  | .TIER_NEAR_SIZE => [⟨"CACHE_MIB", 20, 0, .ro, 0⟩, ⟨"rsvd", 63, 21, .ro, 0⟩]
  | .TIER_LEND_SEL => [⟨"WINDOW", 7, 0, .rw, 0⟩, ⟨"rsvd", 63, 8, .rw, 0⟩]
  | .TIER_LEND_CFG => [⟨"ACRE", 1, 0, .rw, 0⟩, ⟨"BASE_PLOT", 25, 2, .rw, 0⟩, ⟨"PLOTS", 49, 26, .rw, 0⟩, ⟨"rsvd", 63, 50, .rw, 0⟩]
  | .TIER_LEND_PEER => [⟨"BORROWER", 14, 0, .rw, 0⟩, ⟨"REVOKE", 15, 15, .rw, 0⟩, ⟨"rsvd", 63, 16, .rw, 0⟩]
  | .TIER_LEND_STATUS => [⟨"STATE", 1, 0, .ro, 0⟩, ⟨"rsvd", 63, 2, .ro, 0⟩]
  | .TIER_BORROW_SEL => [⟨"ENTRY", 9, 0, .rw, 0⟩, ⟨"rsvd", 63, 10, .rw, 0⟩]
  | .TIER_BORROW_CFG => [⟨"LENDER", 14, 0, .rw, 0⟩, ⟨"WINDOW", 22, 15, .rw, 0⟩, ⟨"PLOTS", 46, 23, .rw, 0⟩, ⟨"DRAIN", 47, 47, .rw, 0⟩, ⟨"rsvd", 63, 48, .rw, 0⟩]
  | .TIER_BORROW_STATUS => [⟨"STATE", 1, 0, .ro, 0⟩, ⟨"LOST", 2, 2, .w1c, 0⟩, ⟨"USED", 26, 3, .ro, 0⟩, ⟨"rsvd", 63, 27, .ro, 0⟩]
  | .CHS_CTRL => [⟨"SPARE_PCT", 7, 0, .rw, 2⟩, ⟨"HARROW_START_PCT", 15, 8, .rw, 3⟩, ⟨"HARROW_URGENT_PCT", 23, 16, .rw, 1⟩, ⟨"WEAR_WARN", 31, 24, .rw, 90⟩, ⟨"CMD_TIMEOUT_MS", 47, 32, .rw, 100⟩, ⟨"CKPT_INTERVAL_S", 55, 48, .rw, 10⟩, ⟨"rsvd", 63, 56, .rw, 0⟩]
  | .CHS_DRIVE_SEL => [⟨"DRIVE", 1, 0, .rw, 0⟩, ⟨"rsvd", 63, 2, .rw, 0⟩]
  | .CHS_DRIVE_STATUS => [⟨"STATE", 2, 0, .ro, 0⟩, ⟨"VWC", 3, 3, .ro, 0⟩, ⟨"PCT_USED", 15, 8, .ro, 0⟩, ⟨"CRIT_WARN", 23, 16, .ro, 0⟩, ⟨"WEAR_ALERT", 24, 24, .w1c, 0⟩, ⟨"SEGMENTS", 51, 32, .ro, 0⟩, ⟨"rsvd", 63, 52, .ro, 0⟩, ⟨"rsvd", 31, 25, .ro, 0⟩, ⟨"rsvd", 7, 4, .ro, 0⟩]
  | .CHS_DRIVE_SPACE => [⟨"FREE_SEGS", 19, 0, .ro, 0⟩, ⟨"USED_SEGS", 39, 20, .ro, 0⟩, ⟨"LIVE_PCT", 47, 40, .ro, 0⟩, ⟨"rsvd", 63, 48, .ro, 0⟩]
  | .CHS_DRIVE_ERR => [⟨"TIMEOUTS", 31, 0, .ro, 0⟩, ⟨"MEDIA_ERRS", 63, 32, .ro, 0⟩]
  | .CHS_JOURNAL => [⟨"DURABLE_JSEQ", 63, 0, .ro, 0⟩]
  | .CHS_JOURNAL_FILL => [⟨"SINCE_BASE_MIB", 15, 0, .ro, 0⟩, ⟨"CKPT_ACTIVE", 16, 16, .ro, 0⟩, ⟨"STALL", 17, 17, .w1c, 0⟩, ⟨"rsvd", 63, 18, .ro, 0⟩]
  | .CHS_HARROW => [⟨"SEGS_COLLECTED", 31, 0, .ro, 0⟩, ⟨"GIB_COPIED", 63, 32, .ro, 0⟩]
  | .CHS_MOUNT => [⟨"STATE", 1, 0, .ro, 0⟩, ⟨"UNCLEAN", 2, 2, .ro, 0⟩, ⟨"ANCHOR_FAIL", 3, 3, .w1c, 0⟩, ⟨"rsvd", 15, 4, .ro, 0⟩, ⟨"MOUNT_NS", 63, 16, .ro, 0⟩]
  | .FUR_CTRL => [⟨"RESERVE", 3, 0, .rw, 4⟩, ⟨"SLICE_LOG2", 7, 4, .rw, 5⟩, ⟨"FAST_ALLOW", 8, 8, .rw, 0⟩, ⟨"PREEMPT_EN", 9, 9, .rw, 1⟩, ⟨"PREEMPT_MAX", 13, 10, .rw, 4⟩, ⟨"PREEMPT_BACKLOG_US", 29, 14, .rw, 250⟩, ⟨"HL_LAT_US", 45, 30, .rw, 20⟩, ⟨"rsvd", 63, 46, .rw, 0⟩]
  | .FUR_ARQ_SEL => [⟨"ARQ", 5, 0, .rw, 0⟩, ⟨"rsvd", 63, 6, .rw, 0⟩]
  | .FUR_ARQ_CFG => [⟨"BASE", 47, 0, .rw, 0⟩, ⟨"SIZE_LOG2", 52, 48, .rw, 16⟩, ⟨"ENABLE", 53, 53, .rw, 0⟩, ⟨"rsvd", 63, 54, .rw, 0⟩]
  | .FUR_ARQ_STATUS => [⟨"CI", 31, 0, .ro, 0⟩, ⟨"ERR", 39, 32, .ro, 0⟩, ⟨"ERROR", 40, 40, .w1c, 0⟩, ⟨"INFLIGHT", 47, 41, .ro, 0⟩, ⟨"rsvd", 63, 48, .ro, 0⟩]
  | .FUR_HSCALE_SEL => [⟨"PROFILE", 3, 0, .rw, 0⟩, ⟨"HEAD", 15, 4, .rw, 0⟩, ⟨"rsvd", 63, 16, .rw, 0⟩]
  | .FUR_HSCALE => [⟨"HS", 31, 0, .rw, 0x3f800000⟩, ⟨"rsvd", 63, 32, .rw, 0⟩]
  | .FUR_STAT => [⟨"QUEUED_DV", 15, 0, .ro, 0⟩, ⟨"QUEUED_PF", 31, 16, .ro, 0⟩, ⟨"PF_FURROWS", 35, 32, .ro, 0⟩, ⟨"SAVING", 39, 36, .ro, 0⟩, ⟨"rsvd", 63, 40, .ro, 0⟩]
  | .FUR_EVENTS => [⟨"PREEMPTS", 23, 0, .ro, 0⟩, ⟨"VOIDED", 39, 24, .ro, 0⟩, ⟨"HL_LATE", 63, 40, .ro, 0⟩]
  | .FUR_RSP_SEL => [⟨"RING", 7, 0, .rw, 0⟩, ⟨"rsvd", 63, 8, .rw, 0⟩]
  | .FUR_RSP_CFG => [⟨"CONN", 23, 0, .rw, 0⟩, ⟨"SIZE_LOG2", 28, 24, .rw, 12⟩, ⟨"ENABLE", 29, 29, .rw, 0⟩, ⟨"rsvd", 63, 30, .rw, 0⟩]
  | .FUR_RSP_BASE => [⟨"BASE", 63, 0, .rw, 0⟩]
  | .FUR_RSP_PIADDR => [⟨"PIADDR", 63, 0, .rw, 0⟩]
  | .FUR_RSP_KEY => [⟨"KEY", 31, 0, .rw, 0⟩, ⟨"rsvd", 63, 32, .rw, 0⟩]
  | .FUR_RSP_STATUS => [⟨"PI", 31, 0, .ro, 0⟩, ⟨"STALL", 32, 32, .w1c, 0⟩, ⟨"rsvd", 63, 33, .ro, 0⟩]
  | .FUR_NUM_EVENTS => [⟨"NAN_ENTRIES", 23, 0, .ro, 0⟩, ⟨"EMPTY_NORM", 47, 24, .ro, 0⟩, ⟨"INF_SCORE", 63, 48, .ro, 0⟩]
  | .FUR_ARITH => [⟨"REV", 7, 0, .ro, 1⟩, ⟨"FAST_ACTIVE", 8, 8, .rc, 0⟩, ⟨"rsvd", 63, 9, .ro, 0⟩]
  | .GEN_TKQ_SEL => [⟨"TKQ", 5, 0, .rw, 0⟩, ⟨"rsvd", 63, 6, .rw, 0⟩]
  | .GEN_TKQ_CFG => [⟨"BASE", 47, 0, .rw, 0⟩, ⟨"SIZE_LOG2", 52, 48, .rw, 12⟩, ⟨"ENABLE", 53, 53, .rw, 0⟩, ⟨"rsvd", 63, 54, .rw, 0⟩]
  | .GEN_TKQ_STATUS => [⟨"CI", 31, 0, .ro, 0⟩, ⟨"ERR", 39, 32, .ro, 0⟩, ⟨"ERROR", 40, 40, .w1c, 0⟩, ⟨"rsvd", 63, 41, .ro, 0⟩]
  | .GEN_TKQ_REFUSE => [⟨"REFUSED", 23, 0, .ro, 0⟩, ⟨"LAST_STATUS", 31, 24, .ro, 0⟩, ⟨"LAST_HANDLE", 63, 32, .ro, 0⟩]
  | .GEN_EVENTS => [⟨"HITS", 23, 0, .ro, 0⟩, ⟨"DISCARDED", 47, 24, .ro, 0⟩, ⟨"STREAM_STALLS", 63, 48, .ro, 0⟩]
  | .GLN_CTRL => [⟨"FIELD_PCT", 6, 0, .rw, 10⟩, ⟨"BULK_EN", 7, 7, .rw, 1⟩, ⟨"rsvd", 63, 8, .rw, 0⟩]
  | .GLN_SRQ_SEL => [⟨"SRQ", 3, 0, .rw, 0⟩, ⟨"rsvd", 63, 4, .rw, 0⟩]
  | .GLN_SRQ_CFG => [⟨"BASE", 47, 0, .rw, 0⟩, ⟨"SIZE_LOG2", 52, 48, .rw, 16⟩, ⟨"ENABLE", 53, 53, .rw, 0⟩, ⟨"rsvd", 63, 54, .rw, 0⟩]
  | .GLN_SRQ_STATUS => [⟨"CI", 31, 0, .ro, 0⟩, ⟨"ERR", 39, 32, .ro, 0⟩, ⟨"ERROR", 40, 40, .w1c, 0⟩, ⟨"INFLIGHT", 47, 41, .ro, 0⟩, ⟨"rsvd", 63, 48, .ro, 0⟩]
  | .GLN_IDX_SEL => [⟨"SLOT", 9, 0, .rw, 0⟩, ⟨"rsvd", 63, 10, .rw, 0⟩]
  | .GLN_IDX_STATUS => [⟨"STATE", 2, 0, .ro, 0⟩, ⟨"GEN", 6, 3, .ro, 1⟩, ⟨"DAMAGED", 7, 7, .w1c, 0⟩, ⟨"SIDE_USED", 28, 8, .ro, 0⟩, ⟨"FREEZE", 49, 29, .ro, 0⟩, ⟨"COMPACT_PCT", 56, 50, .ro, 0⟩, ⟨"rsvd", 63, 57, .ro, 0⟩]
  | .GLN_FLT_SEL => [⟨"FILTER", 9, 0, .rw, 0⟩, ⟨"rsvd", 63, 10, .rw, 0⟩]
  | .GLN_FLT_ADDR => [⟨"ADDR", 47, 0, .rw, 0⟩, ⟨"ENABLE", 48, 48, .rw, 0⟩, ⟨"rsvd", 63, 49, .rw, 0⟩]
  | .GLN_FLT_RANGE => [⟨"BASE", 29, 0, .rw, 0⟩, ⟨"rsvd", 31, 30, .rw, 0⟩, ⟨"BITS", 62, 32, .rw, 0⟩, ⟨"rsvd", 63, 63, .rw, 0⟩]
  | .GLN_GRP_SEL => [⟨"GROUP", 7, 0, .rw, 0⟩, ⟨"MEMBER", 13, 8, .rw, 0⟩, ⟨"rsvd", 63, 14, .rw, 0⟩]
  | .GLN_GRP_CFG => [⟨"MEMBERS", 6, 0, .rw, 0⟩, ⟨"ENABLE", 7, 7, .rw, 0⟩, ⟨"TIMEOUT_US", 31, 8, .rw, 2000⟩, ⟨"RSIZE", 36, 32, .rw, 16⟩, ⟨"INDEX", 52, 37, .rw, 0⟩, ⟨"SRQ", 56, 53, .rw, 0⟩, ⟨"rsvd", 63, 57, .rw, 0⟩]
  | .GLN_GRP_MEM => [⟨"DEVICE", 14, 0, .rw, 0⟩, ⟨"RING", 22, 15, .rw, 0⟩, ⟨"rsvd", 63, 23, .rw, 0⟩]
  | .GLN_GRP_REPLY => [⟨"REPLY_BASE", 47, 0, .rw, 0⟩, ⟨"rsvd", 63, 48, .rw, 0⟩]
  | .GLN_EVENTS => [⟨"NAN_SCORES", 23, 0, .ro, 0⟩, ⟨"LATE_SHARDS", 39, 24, .ro, 0⟩, ⟨"SWITCHES", 63, 40, .ro, 0⟩]
  | .TIN_CTRL => [⟨"SPILL", 0, 0, .rw, 1⟩, ⟨"MAX_BUDGET_US", 10, 1, .rw, 100⟩, ⟨"rsvd", 63, 11, .rw, 0⟩]
  | .TIN_STATUS => [⟨"BUSY", 6, 0, .ro, 0⟩, ⟨"FENCED", 13, 7, .ro, 0⟩, ⟨"rsvd", 63, 14, .ro, 0⟩]
  | .TIN_EVQ => [⟨"DEPTH", 16, 0, .ro, 0⟩, ⟨"DROPPED", 40, 17, .ro, 0⟩, ⟨"rsvd", 63, 41, .ro, 0⟩]
  | .TIN_FAULTS => [⟨"FAULTS", 23, 0, .ro, 0⟩, ⟨"LAST_STATUS", 31, 24, .ro, 0⟩, ⟨"LAST_HANDLE", 63, 32, .ro, 0⟩]
  | .TIN_IMAGE_SEL => [⟨"IMAGE", 5, 0, .rw, 0⟩, ⟨"rsvd", 63, 6, .rw, 0⟩]
  | .TIN_IMAGE_INFO => [⟨"IMAGE_ID", 23, 0, .ro, 0⟩, ⟨"BYTES", 41, 24, .ro, 0⟩, ⟨"VALID", 42, 42, .ro, 0⟩, ⟨"rsvd", 63, 43, .ro, 0⟩]
  | .SYN_SEL => [⟨"INDEX", 13, 0, .rw, 0⟩, ⟨"rsvd", 63, 14, .rw, 0⟩]
  | .SYN_DEF => [⟨"KIND", 2, 0, .rw, 0⟩, ⟨"PRINCIPAL", 14, 3, .rw, 0⟩, ⟨"ANY", 15, 15, .rw, 0⟩, ⟨"PARTIES", 31, 16, .rw, 0⟩, ⟨"INIT", 63, 32, .rw, 0⟩]
  | .SYN_VALUE => [⟨"WORD", 63, 0, .ro, 0⟩]
  | .SYN_OP => [⟨"INDEX", 13, 0, .wo, 0⟩, ⟨"CODE", 17, 14, .wo, 0⟩, ⟨"FORCE", 18, 18, .wo, 0⟩, ⟨"rsvd", 63, 19, .wo, 0⟩]
  | .SYN_OP_ARG => [⟨"ARG", 63, 0, .rw, 0⟩]
  | .SYN_OP_RESULT => [⟨"STATUS", 7, 0, .ro, 0⟩, ⟨"VALID", 8, 8, .rc, 0⟩, ⟨"rsvd", 31, 9, .ro, 0⟩, ⟨"VALUE", 63, 32, .ro, 0⟩]
  | .SYN_STAT => [⟨"WAITS", 15, 0, .ro, 0⟩, ⟨"ABANDONS", 39, 16, .ro, 0⟩, ⟨"CLOSING_REFUSED", 63, 40, .ro, 0⟩]
  | .SYN_WFG_STAT => [⟨"EDGES", 17, 0, .ro, 0⟩, ⟨"DEADLOCKS", 41, 18, .ro, 0⟩, ⟨"MAX_SEARCH_NS", 62, 42, .ro, 0⟩, ⟨"REBUILDING", 63, 63, .ro, 0⟩]

end Sys2Proof
end

