-- ==== Sys2Proof/Machine/Store.lean ====
section
/-!
DEFINITION. The named operations over sparse tables and byte stores: reading, writing and removing an entry,
and the canonical form (keys strictly rising; no entry equal to what an absent key reads as).
-/
namespace Sys2Proof.NMap

/-- The entry under a key, if there is one. -/
def get? {α : Type} : NMap α → Nat → Option α
  | [], _ => none
  | (j, v) :: m, k => if k = j then some v else get? m k

/-- The entry under a key, or the default. -/
def get {α : Type} (d : α) (m : NMap α) (k : Nat) : α := (get? m k).getD d

/-- Write an entry, keeping the keys rising. -/
def put {α : Type} : NMap α → Nat → α → NMap α
  | [], k, v => [(k, v)]
  | (j, u) :: m, k, v =>
    if k < j then (k, v) :: (j, u) :: m
    else if k = j then (k, v) :: m
    else (j, u) :: put m k v

/-- Remove an entry. -/
def erase {α : Type} : NMap α → Nat → NMap α
  | [], _ => []
  | (j, u) :: m, k => if k = j then erase m k else (j, u) :: erase m k

/-- Write an entry; writing the default removes it, so equal tables are equal data. -/
def putD {α : Type} [DecidableEq α] (d : α) (m : NMap α) (k : Nat) (v : α) : NMap α :=
  if v = d then erase m k else put m k v

/-- Change an existing entry; nothing where there is none. -/
def modify {α : Type} (m : NMap α) (k : Nat) (f : α → α) : NMap α :=
  match get? m k with
  | none => m
  | some v => put m k (f v)

/-- Every key is above `b` and the keys rise strictly. -/
def above {α : Type} : Nat → NMap α → Bool
  | _, [] => true
  | b, (j, _) :: m => decide (b < j) && above j m

/-- The keys rise strictly. -/
def sorted {α : Type} : NMap α → Bool
  | [] => true
  | (j, _) :: m => above j m

/-- The canonical form of a table whose absent keys read as `d`. -/
def wf {α : Type} [DecidableEq α] (d : α) (m : NMap α) : Bool :=
  sorted m && m.all (fun p => decide (p.2 ≠ d))

/-- The keys of a table. -/
def keys {α : Type} (m : NMap α) : List Nat := m.map (fun p => p.1)

/-- The entries of a table. -/
def vals {α : Type} (m : NMap α) : List α := m.map (fun p => p.2)

/-- Keep the entries that pass. -/
def filterKV {α : Type} (m : NMap α) (p : Nat → α → Bool) : NMap α := m.filter (fun e => p e.1 e.2)

/-- Change every entry. -/
def mapV {α β : Type} (m : NMap α) (f : Nat → α → β) : NMap β := m.map (fun e => (e.1, f e.1 e.2))

end Sys2Proof.NMap

namespace Sys2Proof

/-- A byte store: addresses and bytes, canonical, an unlisted byte reading as zero. -/
abbrev Cells := NMap Byte

namespace Cells

/-- The byte at an address. -/
def read (m : Cells) (a : Nat) : Byte := NMap.get 0 m a

/-- The store with the byte at `a` set to `v`. -/
def write (m : Cells) (a : Nat) (v : Byte) : Cells := NMap.putD 0 m a v

/-- `n` bytes from `a` upwards. -/
def readN (m : Cells) (a : Nat) : Nat → List Byte
  | 0 => []
  | n + 1 => read m a :: readN m (a + 1) n

/-- Write bytes from `a` upwards. -/
def writeN (m : Cells) (a : Nat) : List Byte → Cells
  | [] => m
  | b :: bs => writeN (write m a b) (a + 1) bs

/-- Remove (zero) every byte in [a, a + n). -/
def clear (m : Cells) (a n : Nat) : Cells := m.filter (fun e => e.1 < a || a + n ≤ e.1)

/-- Keys strictly rising, no entry zero. -/
def wf (m : Cells) : Bool := NMap.wf 0 m

end Cells

/-- A little-endian number of bytes (R19). -/
def leNat : List Byte → Nat
  | [] => 0
  | b :: bs => b.toNat + 256 * leNat bs

/-- The `n` little-endian bytes of a number. -/
def leBytes : Nat → Nat → List Byte
  | 0, _ => []
  | n + 1, v => BitVec.ofNat 8 v :: leBytes n (v / 256)

end Sys2Proof
end

