-- ==== Sys2Proof/Machine/StateBureau.lean ====
section
/-!
DEFINITION. State of the Session Bureau: descriptors, Shelves, directory, free lists, queued wakes and
revival fetches (chapter 02).
-/
namespace Sys2Proof.Machine

/-- Session states of R66. -/
inductive SState where
  | free | prefill | decode | toolWait | idleWait | reviving | dormant | migrating | fenced | retiring
  deriving DecidableEq, Repr

/-- The code of a session state (R66). -/
def SState.code : SState → Nat
  | .free => 0
  | .prefill => 1
  | .decode => 2
  | .toolWait => 3
  | .idleWait => 4
  | .reviving => 5
  | .dormant => 6
  | .migrating => 7
  | .fenced => 8
  | .retiring => 9

/-- TOOL_WAIT or IDLE_WAIT (R66). -/
def SState.parked : SState → Bool
  | .toolWait => true
  | .idleWait => true
  | _ => false

/-- PREFILL, DECODE or REVIVING (R72). -/
def SState.live : SState → Bool
  | .prefill => true
  | .decode => true
  | .reviving => true
  | _ => false

/-- WAKE_CAUSE codes of R64. -/
inductive WakeCause where
  | none | doorbell | object | deadline | explicit | restore
  deriving DecidableEq, Repr

def WakeCause.code : WakeCause → Nat
  | .none => 0
  | .doorbell => 1
  | .object => 2
  | .deadline => 3
  | .explicit => 4
  | .restore => 5

/-- A session descriptor: the fields of R64. RESIDENT, ALL_READABLE, the addresses
and tiers of the map and the Drawer, and the counts of operations in
flight are read from the tables that hold them when the descriptor's words are formed. -/
structure Desc where
  gen          : Nat
  state        : SState
  profile      : Nat
  principal    : Nat
  prevState    : SState
  tenancyEpoch : Nat
  ckptEpoch    : Nat
  len          : Nat
  floor        : Nat
  specHead     : Nat
  mapStacks    : Nat
  prefixId     : Nat
  drawerPlots  : Nat
  logCount     : Nat
  inboxWr      : Nat
  inboxRd      : Nat
  /-- WAKE_EN bits 0, 1 and 2; bit 3 is always 1. -/
  wakeDoorbell : Bool
  wakeObject   : Bool
  wakeDeadline : Bool
  wakeCause    : WakeCause
  syncId       : Nat
  syncPred     : Nat
  window       : Nat
  syncValue    : Word
  deadline     : Nat
  reviveActive : Bool
  migrateActive : Bool
  shadowPend   : Bool
  ready        : Bool
  pinned       : Bool
  wakeQueued   : Bool
  imageId      : Nat
  eventRing    : Nat
  streamRing   : Nat
  migDevice    : Nat
  migHandle    : Nat
  lastChange   : Nat
  maxNew       : Nat
  newCount     : Nat
  toolOpen     : Nat
  toolClose    : Nat
  stopCount    : Nat
  eosCount     : Nat
  matchProg    : Word
  toolcallStart : Nat
  inToolCall   : Bool
  /-- CTX0 to CTX15. -/
  ctx          : List Word
  seq          : Nat
  deriving DecidableEq, Repr

/-- The descriptor of a FREE slot holding generation `gen` of tenancy epoch `epoch` (R62, R522). -/
def Desc.freeOf (gen epoch : Nat) : Desc :=
  { gen := gen, state := .free, profile := 0, principal := 0, prevState := .free, tenancyEpoch := epoch,
    ckptEpoch := 0, len := 0, floor := 0, specHead := 0, mapStacks := 0, prefixId := 0, drawerPlots := 0, logCount := 0, inboxWr := 0,
    inboxRd := 0, wakeDoorbell := false, wakeObject := false, wakeDeadline := false, wakeCause := .none,
    syncId := 0, syncPred := 0, window := 0, syncValue := 0, deadline := 0, 
    reviveActive := false, migrateActive := false, shadowPend := false,
    ready := false, pinned := false, wakeQueued := false, imageId := 0, eventRing := 0, streamRing := 0,
    migDevice := 0, migHandle := 0, lastChange := 0, maxNew := 0, newCount := 0, toolOpen := 0,
    toolClose := 0, stopCount := 0, eosCount := 0, matchProg := 0, toolcallStart := 0, inToolCall := false,
    ctx := [], seq := 0 }

/-- A Shelf line that is not I (R88). -/
structure ShelfLine where
  /-- O; else S. -/
  own  : Bool
  copy : Desc
  deriving DecidableEq, Repr

/-- DIR_STATE and DIR_MASK of the home copy (R64, R89). -/
inductive DirState where
  | home
  | shared (sharers : List Acre)
  | owned (owner : Acre)
  deriving DecidableEq, Repr

/-- The directory entry of a descriptor at its home, with the requests that wait (R89). -/
structure DirEntry where
  st       : DirState
  /-- GETX requests in the home arbiter's order, at most three. -/
  waiting  : List Acre
  /-- RECALL has been sent to the owner. -/
  recalled : Bool
  /-- A write-back on its way from the Shelf that owned the line. -/
  wb       : Option Desc
  deriving DecidableEq, Repr

def DirEntry.empty : DirEntry := ⟨.home, [], false, none⟩

/-- A first-in, first-out list of free numbers: the numbers from `next` below `limit` have never been taken
and come first, in ascending order; `freed` holds the numbers given back since, oldest first (R62, R98). -/
structure FreeList where
  next  : Nat
  limit : Nat
  freed : List Nat
  deriving DecidableEq, Repr

/-- Who issued a session operation, and where its outcome goes. -/
inductive OpSrc where
  /-- A command of the Host Queue ABI: queue pair and command identifier. -/
  | host (sq cid : Nat)
  /-- A synchronous operation of the handler on a Tine: the Tine and the result register (R289). -/
  | tine (tine rd : Nat)
  /-- An asynchronous operation of a session program: slot and operation tag (R289). -/
  | async (slot tag : Nat)
  /-- The device itself. -/
  | device
  deriving DecidableEq, Repr

/-- An operation held at a descriptor: attention until READY, trims and sample commits behind attention,
operations without stream credit (R68, R70, R80, R231, R246). -/
inductive HeldOp where
  | attn (entry : Nat)
  | trim (src : OpSrc) (target : Nat)
  | setFloor (src : OpSrc) (target : Nat)
  /-- The sample record at the head of a TKQ (device-wide number). -/
  | sample (tkq : Nat)
  | park (src : OpSrc) (dormant : Bool)
  /-- The implicit trim of a park commit: LEN_P and whether the park came from DECODE (R244). -/
  | parkTrim (lenP : Nat) (fromDecode : Bool)
  deriving DecidableEq, Repr

/-- Placement policy of a session (R111, R112). -/
structure Policy where
  /-- The policy has been set by SET_POLICY. -/
  isSet : Bool
  tier  : Tier
  /-- An Acre number, a borrow entry, or `none` for ANY. -/
  target : Option Nat
  /-- Fill mode of R105; `none`: the live FILL_DEF. -/
  fill  : Option Nat
  deriving DecidableEq, Repr

def Policy.dflt : Policy := ⟨false, .fld, none, none⟩

/-- What the Bureau keeps of a session beside its descriptor. -/
structure SessAux where
  policy  : Policy
  /-- Operations held at the descriptor, oldest first (R70, R80). -/
  held    : List HeldOp
  /-- Appending DECODE and VERIFY entries that wait for a sample record, and the KTB of the 10 µs limit (R232). -/
  sampleHold : List (Nat × Nat)
  /-- TAG of the sample record that carried each logged token not yet committed (R245). -/
  tags    : NMap Word
  /-- Last intake: CALL_ID of the last record taken in, tokens taken in, status (R248, R249). -/
  intakeCall   : Nat
  intakeTokens : Nat
  intakeStatus : Status
  /-- Stream space is reserved for the RESUME record of the present revival (R246). -/
  resumeReserved : Bool
  /-- Its FENCED commit is made and its locks are still to be abandoned (R363). -/
  locksDue : Bool
  /-- A fence has reached the session and its operations have not all ended (R80). -/
  fencing : Bool
  /-- An event of the session was dropped since its last dispatch (R285). -/
  dropped : Bool
  deriving DecidableEq, Repr

def SessAux.dflt : SessAux :=
  { policy := .dflt, held := [], sampleHold := [], tags := [], intakeCall := 0, intakeTokens := 0,
    intakeStatus := .ok, resumeReserved := false, locksDue := false, fencing := false, dropped := false }

/-- A revival fetch queued on an Acre's Field (R73, R74). -/
structure RevFetch where
  slot     : Nat
  queuedAt : Nat
  deriving DecidableEq, Repr

/-- Time a Field spent on one revival fetch (R74's duty). -/
structure DutySpan where
  slot  : Nat
  from_ : Nat
  len   : Nat
  deriving DecidableEq, Repr

structure BureauState where
  /-- Home copies, by slot; a slot not listed is FREE with GEN 1 and the current epoch. -/
  home    : NMap Desc
  dir     : NMap DirEntry
  shelf   : PerAcre (NMap ShelfLine)
  /-- SHF_STAT.GETX: GETX requests served as home. -/
  getx    : PerAcre Nat
  slots   : PerAcre FreeList
  aux     : NMap SessAux
  /-- Queued wakes of each principal, oldest first (R72). -/
  wakeQ   : NMap (List Nat)
  /-- GETX made for a revival that found no evictable line: (Acre, slot) (R91). -/
  getxRetry : List (Acre × Nat)
  revQ    : PerAcre (List RevFetch)
  duty    : PerAcre (List DutySpan)
  deriving DecidableEq, Repr

/-- The slots of an Acre, none yet taken (R60, R62). -/
def FreeList.slots (a : Acre) : FreeList := ⟨a.num * 2 ^ 20, (a.num + 1) * 2 ^ 20, []⟩

/-- Every slot FREE, every Shelf line I. -/
def BureauState.reset : BureauState :=
  { home := [], dir := [], shelf := .mk1 [], getx := .mk1 0,
    slots := ⟨.slots .a0, .slots .a1, .slots .a2, .slots .a3⟩, aux := [], wakeQ := [], getxRetry := [],
    revQ := .mk1 [], duty := .mk1 [] }

end Sys2Proof.Machine
end

