-- ==== Sys2Proof/Machine/StateTier.lean ====
section
/-!
DEFINITION. State of the four tiers: object table, sheaf maps, residency, Near, Field, prefixes, home moves,
write-back rounds, lend windows (chapter 03).
-/
namespace Sys2Proof.Machine

/-- Where a sheaf map entry leads (R101). -/
inductive MapRef where
  | record (slot : Nat)
  | chestLoc (loc : Nat)
  | offDevice (loc : Nat)
  deriving DecidableEq, Repr

/-- A VALID sheaf map entry (R101). -/
structure MapEntry where
  shared : Bool
  ref    : MapRef
  deriving DecidableEq, Repr

/-- The content of an object: its bytes, and for a sheaf map its entries. -/
structure ObjData where
  bytes   : Cells
  entries : NMap MapEntry
  deriving DecidableEq, Repr

def ObjData.empty : ObjData := ⟨[], []⟩

/-- The sealed frames of an object as they lie at a home, with the identity they were sealed under (R121):
every frame of the object under one STACK_ID, one CTR and one key generation. -/
structure Sealed where
  stackId : Nat
  ctr     : Nat
  keySel  : Nat
  kind    : Nat
  data    : ObjData
  /-- The frames or tags have been altered or lost outside the package, so a check fails (R124). -/
  corrupt : Bool
  deriving DecidableEq, Repr

/-- One VALID residency entry (R103). -/
structure SheafRes where
  dirty     : Bool
  ref       : Bool
  nearFrame : Nat
  deriving DecidableEq, Repr

/-- Object kinds of R99. -/
inductive ObjKind where
  | stack | map | drawer | searchList | tokenList
  deriving DecidableEq, Repr

def ObjKind.code : ObjKind → Nat
  | .stack => 0
  | .map => 1
  | .drawer => 2
  | .searchList => 3
  | .tokenList => 4

/-- SSTATE of R99. -/
inductive SlotState where
  | free | priv | shared | retired
  deriving DecidableEq, Repr

/-- Where an object's home lies (HOME and HOME_LOC of R99, R131). -/
inductive Home where
  /-- A run of frames in an Acre's Field; plots and stacks begin at multiples of 16 frames (R96, R102). -/
  | fld (acre : Acre) (frame : Nat)
  | headland (borrow plot : Nat)
  /-- A Chest locator; as the destination of a move, a drive number, or 4 for ANY. -/
  | chest (loc : Nat)
  deriving DecidableEq, Repr

/-- An object record (R99), with the object's content, its sealed home frames and its residency. -/
structure ObjRec where
  stackId   : Nat
  home      : Home
  kind      : ObjKind
  profile   : Nat
  sstate    : SlotState
  dirty     : Bool
  pinned    : Bool
  wbActive  : Bool
  moveActive : Bool
  imported  : Bool
  keySel    : Nat
  ctr       : Nat
  refcnt    : Nat
  nextCtr   : Nat
  principal : Nat
  /-- STAGE_LOC and STAGED: the Field plot of a staged copy, and whether the copy is complete. -/
  stageLoc  : Option (Acre × Nat)
  staged    : Bool
  idSlot    : Nat
  /-- Session or prefix that owns it: a session slot, or `none`. -/
  owner     : Option Nat
  /-- Frames of its home run. -/
  frames    : Nat
  data      : ObjData
  sealed    : Option Sealed
  /-- Residency blocks RES_A0 to RES_A3 (R103): VALID entries by layer or frame. -/
  res       : PerAcre (NMap SheafRes)
  /-- The object was marked lost (R132). -/
  lost      : Bool
  deriving DecidableEq, Repr

/-- Frames of the run a home takes: plots are 16 frames, and a search list's run is whole plots (R96, R102). -/
def ObjRec.run (o : ObjRec) : Nat := if o.kind = .searchList then (o.frames + 15) / 16 * 16 else o.frames

/-- A FREE record of slot `i` whose NEXT_CTR is `n` (R99). -/
def ObjRec.freeOf (i n : Nat) : ObjRec :=
  { stackId := 0, home := .fld .a0 0, kind := .stack, profile := 0, sstate := .free, dirty := false,
    pinned := false, wbActive := false, moveActive := false, imported := false, keySel := 0, ctr := 0,
    refcnt := 0, nextCtr := n, principal := 0, stageLoc := none, staged := false, idSlot := i,
    owner := none, frames := 0, data := .empty, sealed := none, res := .mk1 [], lost := false }

/-- A write-back round in flight (R106, R126). -/
structure WbRound where
  obj     : Nat
  stackId : Nat
  ctr     : Nat
  keySel  : Nat
  /-- The content the round read. -/
  data    : ObjData
  /-- The home the round writes to, after a redirect of R113 or the new home of R115. -/
  dest    : Home
  /-- Frames of the run at `dest`. -/
  frames  : Nat
  deriving DecidableEq, Repr

/-- Why a home move runs. -/
inductive MoveCause where
  /-- A SET_HOME of the Host Queue ABI. -/
  | directive (sq cid : Nat)
  /-- A borrow entry set DRAINING (R132). -/
  | drain (borrow : Nat)
  deriving DecidableEq, Repr

/-- A home move in flight (R113). -/
structure HomeMove where
  obj      : Nat
  dest     : Home
  /-- CTR when step 2 began. -/
  ctr0     : Nat
  /-- Step 2 took the redirect: no copy is made, the next round writes to `dest`. -/
  redirect : Bool
  cause    : MoveCause
  deriving DecidableEq, Repr

/-- A multi-object directive in progress (SET_HOME, STAGE): objects done and still to do (R113, R310). -/
structure Directive where
  sq      : Nat
  cid     : Nat
  opc     : Nat
  slot    : Option Nat
  done    : Nat
  left    : List Nat
  /-- The first failure of one of its objects. -/
  failed  : Option Status
  deriving DecidableEq, Repr

/-- An old home run waiting for the readers admitted before step 3 of R113. -/
structure OldRun where
  obj     : Nat
  home    : Home
  frames  : Nat
  /-- Attention entries and revival fetches (by slot) that had not finished at step 3. -/
  entries : List Nat
  revivals : List Nat
  deriving DecidableEq, Repr

/-- A shared prefix (R116). -/
structure PrefixEntry where
  profile  : Nat
  len      : Nat
  mapSlot  : Nat
  listSlot : Nat
  principal : Nat
  forks    : Nat
  retiring : Bool
  pinned   : Bool
  deriving DecidableEq, Repr

/-- TIER_LEND_STATUS.STATE (R130). -/
inductive LendState where
  | free | active | revoking
  deriving DecidableEq, Repr

def LendState.code : LendState → Nat
  | .free => 0
  | .active => 1
  | .revoking => 2

/-- A lend window. -/
structure LendWin where
  st       : LendState
  acre     : Acre
  basePlot : Nat
  plots    : Nat
  borrower : Nat
  /-- KLT key of the window's region. -/
  key      : Option Nat
  deriving DecidableEq, Repr

/-- TIER_BORROW_STATUS.STATE (R132). -/
inductive BorrowState where
  | free | active | draining | empty
  deriving DecidableEq, Repr

def BorrowState.code : BorrowState → Nat
  | .free => 0
  | .active => 1
  | .draining => 2
  | .empty => 3

/-- A borrow entry: its state, and the free runs of plots within the window. -/
structure BorrowEntry where
  st     : BorrowState
  lender : Nat
  window : Nat
  plots  : Nat
  free   : List (Nat × Nat)
  lost   : Bool
  deriving DecidableEq, Repr

/-- A frame with its tag, held raw (R123): ciphertext of this or another device. -/
structure RawFrame where
  data : List Byte
  tag  : List Byte
  deriving DecidableEq, Repr

structure TierState where
  objs     : NMap ObjRec
  genFree  : PerAcre FreeList
  /-- General slots retired until the next binding, donors included. -/
  retired  : PerAcre Nat
  /-- Free runs of Field frames: (first frame, frames), ascending. -/
  fldFree  : PerAcre (List (Nat × Nat))
  /-- Near bytes allocated in the sheaf cache to rings, pools and tables rather than to objects. -/
  nearOther : PerAcre Nat
  /-- Size of the sheaf cache, bytes (R583); 0 until Stage 2. -/
  nearSize : PerAcre Nat
  /-- Near memory outside the object caches: rings, control pages, PLAIN regions, bitmaps. -/
  near     : PerAcre Cells
  /-- CLOCK hand of each evictor: object slot × 2^16 + unit last examined (R108). -/
  hand     : PerAcre Nat
  prefixes : NMap PrefixEntry
  rounds   : List WbRound
  /-- Objects queued for a lazy write-back, by home Acre (R78). -/
  wbQ      : PerAcre (List Nat)
  /-- Rounds and shadow copies that wait for a general slot (R584). -/
  donorWait : List Nat
  moves    : List HomeMove
  directives : List Directive
  oldRuns  : List OldRun
  /-- Objects named by EVICT whose sheaves an admitted entry was reading: what is left drops when it completes (R112). -/
  evictLater : List Nat
  lend     : NMap LendWin
  borrow   : NMap BorrowEntry
  /-- Frames of lent windows, keyed by Acre and Field frame (R123, R131). -/
  lentFrames : PerAcre (NMap RawFrame)
  deriving DecidableEq, Repr

/-- No object, no Near or Field memory until Stage 2 sizes them (R522, R583). -/
def TierState.reset : TierState :=
  { objs := [], genFree := .mk1 ⟨0, 0, []⟩, retired := .mk1 0, fldFree := .mk1 [], nearOther := .mk1 0,
    nearSize := .mk1 0, near := .mk1 [], hand := .mk1 0, prefixes := [], rounds := [], wbQ := .mk1 [],
    donorWait := [], moves := [], directives := [], oldRuns := [], evictLater := [], lend := [], borrow := [],
    lentFrames := .mk1 [] }

end Sys2Proof.Machine
end

