-- ==== Sys2Proof/Machine/StateChest.lean ====
section
/-!
DEFINITION. State of the Chest: drives, their media, segments, the Chest map, the journal, map checkpoints, the
Harrow, staging (chapter 04).
-/
namespace Sys2Proof.Machine

/-- CHS_DRIVE_STATUS.STATE. -/
inductive DriveSt where
  | absent | online | failed | unreachable | unformatted
  deriving DecidableEq, Repr

def DriveSt.code : DriveSt → Nat
  | .absent => 0
  | .online => 1
  | .failed => 2
  | .unreachable => 3
  | .unformatted => 4

/-- State of a DATA segment (R155 to R157); a segment not listed is FREE. -/
inductive SegSt where
  | open_ | full | collecting
  deriving DecidableEq, Repr

/-- A DATA segment in use: its state, the fill point (next block), the live pieces and their blocks, whether it is
the Harrow's own OPEN segment, and the MSEQ of its incarnation (R139). -/
structure Seg where
  st     : SegSt
  fill   : Nat
  live   : Nat
  liveBlocks : Nat
  harrow : Bool
  mseq   : Nat
  deriving DecidableEq, Repr

/-- What a Chest object is (KIND of R145). -/
inductive ChestKind where
  | stack | searchList | ckpt
  deriving DecidableEq, Repr

def ChestKind.code : ChestKind → Nat
  | .stack => 0
  | .searchList => 1
  | .ckpt => 2

/-- A Chest map record (R145). -/
structure ChestRec where
  incarn  : Nat
  kind    : ChestKind
  profile : Nat
  keySel  : Nat
  driveMask : Nat
  valid   : Bool
  frames  : Nat
  stackId : Nat
  ctr     : Nat
  jseq    : Nat
  /-- SEGMENT and FIRST_BLOCK of the piece on each drive that holds one. -/
  pieces  : NMap (Nat × Nat)
  deriving DecidableEq, Repr

def ChestRec.empty : ChestRec := ⟨0, .stack, 0, 0, 0, false, 0, 0, 0, 0, []⟩

/-- Journal record types of R147. -/
inductive JType where
  | put | free | segOpen | segFree | ckptBegin | ckptEnd
  deriving DecidableEq, Repr

/-- A journal record (R147). -/
structure JRec where
  jseq  : Nat
  typ   : JType
  /-- Map index; or drive × 2^24 + segment; or slot. -/
  index : Nat
  body  : ChestRec
  /-- KTB at which it joined its group (R149). -/
  joined : Nat
  deriving DecidableEq, Repr

/-- A superblock (R140). -/
structure Superblock where
  mseq  : Nat
  setId : Nat
  mask  : Nat
  slot  : Nat
  base  : Nat
  clean : Bool
  finalJseq : Nat
  deriving DecidableEq, Repr

/-- A map checkpoint in a MAPCKPT slot (R150): the map and the segment tables as copied. -/
structure MapCkpt where
  base : Nat
  map  : NMap ChestRec
  segs : NMap (NMap Seg)
  deriving DecidableEq, Repr

/-- An NVMe command outstanding (R134, R135). -/
structure NvmeCmd where
  cid   : Nat
  opc   : Nat
  issuedAt : Nat
  retried : Bool
  deriving DecidableEq, Repr

/-- One drive: its state and what lies on its media. -/
structure Drive where
  st      : DriveSt
  vwc     : Bool
  pctUsed : Nat
  critWarn : Nat
  segments : Nat
  segs    : NMap Seg
  /-- Free DATA segments given back, oldest first, after those never used (R164). -/
  free    : FreeList
  cmds    : List NvmeCmd
  nextCid : Nat
  /-- KTB of the controller resets that failed, newest first (R135). -/
  failedResets : List Nat
  /-- The two superblock copies (LBA 0 and LBA 1). -/
  sb0     : Option Superblock
  sb1     : Option Superblock
  /-- The two MAPCKPT slots. -/
  slot0   : Option MapCkpt
  slot1   : Option MapCkpt
  /-- Journal records on the media, in JSEQ order. -/
  journal : List JRec
  /-- The drive has left and must receive the superblock and a map checkpoint before it rejoins (R162). -/
  rejoining : Bool
  smartAt : Nat
  deriving DecidableEq, Repr

def Drive.absent : Drive :=
  { st := .absent, vwc := false, pctUsed := 0, critWarn := 0, segments := 0, segs := [], free := ⟨0, 0, []⟩,
    cmds := [], nextCid := 0, failedResets := [], sb0 := none, sb1 := none, slot0 := none, slot1 := none,
    journal := [], rejoining := false, smartAt := 0 }

/-- The secure-store anchor (R151). -/
structure Anchor where
  setId : Nat
  base  : Nat
  mseqHigh : Nat
  clean : Bool
  finalJseq : Nat
  deriving DecidableEq, Repr

/-- Why an object is written into the Chest (R152). -/
inductive WriteCause where
  /-- The home move of the object in this record slot. -/
  | move (obj : Nat)
  /-- A checkpoint drain unit (R470). -/
  | drain (unit : Nat)
  deriving DecidableEq, Repr

/-- A write of an object into the Chest whose PUT is in the journal (R152 steps 4 and 5): index, incarnation and the
JSEQ of its PUT. -/
structure ChestWrite where
  index  : Nat
  incarn : Nat
  jseq   : Nat
  cause  : WriteCause
  deriving DecidableEq, Repr

/-- Why a Chest object is staged (R153's classes 1 to 3). -/
inductive StageCause where
  | revival (slot : Nat)
  | gather (slot : Nat)
  | background (slot : Nat)
  | directive (sq cid : Nat)
  deriving DecidableEq, Repr

/-- A staging in progress: the Chest locator, the record that receives it, the pieces still to be read (R115, R153). -/
structure Staging where
  loc   : Nat
  obj   : Nat
  /-- A session slot; 2^22 + an index slot for a search list. -/
  owner : Nat
  cause : StageCause
  /-- Drives whose piece has not been read. -/
  left  : List Nat
  /-- The segment of the piece on each drive, as the map named it when the read started (R158). -/
  segs  : NMap Nat
  deriving DecidableEq, Repr

/-- A collection of the Harrow on one drive (R156). -/
structure Collect where
  victim : Nat
  /-- JSEQ of the last PUT that names a new location of its pieces. -/
  lastPut : Nat
  deriving DecidableEq, Repr

/-- CHS_MOUNT.STATE. -/
inductive MountSt where
  | unmounted | mounting | mounted | refused
  deriving DecidableEq, Repr

def MountSt.code : MountSt → Nat
  | .unmounted => 0
  | .mounting => 1
  | .mounted => 2
  | .refused => 3

/-- Progress of a map checkpoint (R150): the base, and whether CKPT_END has been written. -/
structure CkptRun where
  base : Nat
  slot : Nat
  /-- The map and segment tables copied at step 2. -/
  copy : MapCkpt
  endJseq : Nat
  /-- Journal blocks written before the base. -/
  blocks : Nat
  deriving DecidableEq, Repr

structure ChestState where
  mount   : MountSt
  unclean : Bool
  setId   : Nat
  drives  : NMap Drive
  map     : NMap ChestRec
  free    : FreeList
  /-- The sealed frames of each Chest object, by map index. -/
  content : NMap Sealed
  /-- JSEQ of the next record; records not yet written, the open group first; the group in flight. -/
  jseq    : Nat
  group   : List JRec
  inFlight : List JRec
  durable : Nat
  /-- Records that wait under R150's stall: type, index and body. -/
  stalled : List (JType × Nat × ChestRec)
  base    : Nat
  baseAt  : Nat
  /-- Journal blocks written since the last base (R150). -/
  blocks  : Nat
  slot    : Nat
  ckpt    : Option CkptRun
  mseq    : Nat
  anchor  : Option Anchor
  /-- Records of the anchor and of MSEQ reservations written into the secure store (R139, R151). -/
  anchorRecs : Nat
  writes  : List ChestWrite
  stagings : List Staging
  harrow  : NMap Collect
  /-- The Harrow has copied this many frames (GIB_COPIED counts GiB). -/
  copiedFrames : Nat
  deriving DecidableEq, Repr

/-- Nothing mounted, no drive seen (R151, R162). -/
def ChestState.reset : ChestState :=
  { mount := .unmounted, unclean := false, setId := 0, drives := [], map := [], free := ⟨0, 0, []⟩, content := [],
    jseq := 0, group := [], inFlight := [], durable := 0, stalled := [], base := 0, baseAt := 0,
    blocks := 0, slot := 0, ckpt := none, mseq := 0, anchor := none, anchorRecs := 0, writes := [], stagings := [], harrow := [],
    copiedFrames := 0 }

end Sys2Proof.Machine
end

