-- ==== Sys2Proof/Machine/StateFurrow.lean ====
section
/-!
DEFINITION. State of the Furrows: attention request queues, entries, work items, response rings (chapter 05).
-/
namespace Sys2Proof.Machine

/-- Request classes of R174. -/
inductive AttnClass where
  | decode | verify | prefill
  deriving DecidableEq, Repr

/-- A partial triple (m, l, o) of one query token and query head, in FP32 bit patterns (chapter 06). -/
structure Partial where
  m : BitVec 32
  l : BitVec 32
  o : List (BitVec 32)
  deriving DecidableEq, Repr

/-- Who issued an attention entry. -/
inductive AttnSrc where
  /-- Entry `idx` of the batch with serial number `batch` of ARQ `arq` (device-wide number). -/
  | arq (arq batch idx : Nat)
  /-- `attn` or `append` of a session program: the session's slot, the operation tag, the Tine, the Drawer offset of the
  result area. -/
  | tine (slot tag tine out : Nat)
  deriving DecidableEq, Repr

/-- One folded slice result: head group's first head, block's first token, slice start, and the partials
of each token and query head, token-major. -/
structure SlicePart where
  group : Nat
  block : Nat
  slice : Nat
  parts : List Partial
  deriving DecidableEq, Repr

/-- A session-layer entry being served (R174, R176). -/
structure AttnEntry where
  src     : AttnSrc
  acre    : Acre
  slot    : Nat
  handle  : Nat
  cls     : AttnClass
  layer   : Nat
  q       : Nat
  pos     : Nat
  append  : Bool
  ctxLo   : Nat
  ctxHi   : Nat
  exporting : Bool
  fast    : Bool
  fp32Out : Bool
  deadline : Nat
  /-- Query vectors, BF16 (R175). -/
  qvec    : List Byte
  /-- Rows to append (R175). -/
  rows    : List Byte
  /-- QUNITS or QLAST disagree with R175, or data beyond LEN: check 2 of R176. -/
  badData : Bool
  /-- Stream space is reserved for it (R246). -/
  credit  : Bool
  /-- A score was ±∞ before the soft-cap (R219). -/
  infSeen : Bool
  /-- Admitted at the owning Shelf and not complete. -/
  admitted : Bool
  /-- Its first item has started (check 4 of R176). -/
  started : Bool
  /-- The layer's sheaf bytes visible at the admission point, by sheaf index (R80). -/
  kv      : NMap Cells
  /-- Items not yet complete. -/
  left    : Nat
  parts   : List SlicePart
  /-- An abort was ordered first (R309). -/
  aborted : Bool
  /-- An abort was late (R311). -/
  abortLate : Bool
  /-- A failure of one of its items or of its session (R189). -/
  failed  : Option Status
  /-- The outcome, once it has ended. -/
  status  : Option Status
  /-- The session program stored to its operands after the entry was admitted: its outputs are undefined (R336). -/
  spoilt  : Bool
  outBlk  : List Byte
  lseBlk  : List Byte
  descSeq : Nat
  deriving DecidableEq, Repr

/-- A work item of an entry (R182). -/
structure WorkItem where
  id     : Nat
  entry  : Nat
  pf     : Bool
  /-- First KV head and number of KV heads of the head group. -/
  head   : Nat
  heads  : Nat
  /-- First token and number of tokens of the query block. -/
  tok    : Nat
  toks   : Nat
  /-- Sheaf slice [lo, hi). -/
  lo     : Nat
  hi     : Nat
  lead   : Bool
  /-- Pre-emptions so far (R186). -/
  preempts : Nat
  /-- It has a saved working store in a save area (R186). -/
  saved  : Bool
  deriving DecidableEq, Repr

/-- What a Furrow is doing. -/
inductive FurrowUse where
  | idle
  | running (item : WorkItem) (startedAt : Nat)
  /-- Held at a Chest sheaf (R77, R189). -/
  | held (item : WorkItem) (sheaf : Nat)
  | saving (item : WorkItem)
  deriving DecidableEq, Repr

/-- A batch taken and not yet answered (R176, R177). -/
structure Batch where
  serial  : Nat
  tag     : Word
  cls     : AttnClass
  count   : Nat
  ring    : Nat
  exporting : Bool
  fastUsed : Bool
  fp32Out : Bool
  /-- Byte count of the stream after the batch. -/
  endAt   : Nat
  tAdmit  : Nat
  /-- Credit reserved in the response ring. -/
  reserved : Nat
  /-- Entry identifiers in batch order. -/
  entries : List Nat
  /-- The response has been handed over. -/
  answered : Bool
  deriving DecidableEq, Repr

/-- An attention request queue (R172, R173). -/
structure Arq where
  pi     : Nat
  take   : Nat
  ci     : Nat
  err    : Option Status
  batches : List Batch
  /-- Doorbells not passed by the take point: the count each notified and its KTB, oldest first. -/
  marks  : List (Nat × Nat)
  /-- Byte counts of batches not yet taken that an abort has reached (R309). -/
  aborts : List Nat
  deriving DecidableEq, Repr

def Arq.empty : Arq := ⟨0, 0, 0, none, [], [], []⟩

/-- KTB of the doorbell that first covered the stream up to a byte count (T_ADMIT of R193). -/
def markAt (marks : List (Nat × Nat)) (end_ : Nat) : Nat := ((marks.find? (fun m => end_ ≤ m.1)).map (fun m => m.2)).getD 0

/-- Doorbells that still cover bytes past a byte count. -/
def marksPast (marks : List (Nat × Nat)) (end_ : Nat) : List (Nat × Nat) := marks.filter (fun m => end_ < m.1)

/-- A response ring (R192). -/
structure RspRing where
  producer : Nat
  consumer : Nat
  reserved : Nat
  deriving DecidableEq, Repr

def RspRing.empty : RspRing := ⟨0, 0, 0⟩

structure FurrowState where
  /-- By device-wide ARQ number (R172). -/
  arqs    : NMap Arq
  entries : NMap AttnEntry
  /-- Waiting DECODE and VERIFY items, and waiting PREFILL items (saved ones first), of each Acre. -/
  dvQ     : PerAcre (List WorkItem)
  pfQ     : PerAcre (List WorkItem)
  /-- By Furrow number; one not listed is idle. -/
  units   : NMap FurrowUse
  /-- The Furrow latched for pre-emption on each Acre (R186). -/
  latch   : PerAcre (Option Nat)
  rings   : NMap RspRing
  /-- Next entry, item and batch numbers. -/
  nextEntry : Nat
  nextItem  : Nat
  nextBatch : Nat
  deriving DecidableEq, Repr

def FurrowState.reset : FurrowState :=
  { arqs := [], entries := [], dvQ := .mk1 [], pfQ := .mk1 [], units := [], latch := .mk1 none, rings := [],
    nextEntry := 0, nextItem := 0, nextBatch := 0 }

end Sys2Proof.Machine
end

