-- ==== Sys2Proof/Machine/StateGln.lean ====
section
/-!
DEFINITION. State of the Gleaners: indexes, search request queues, batches, passes, shard groups (chapter 08).
-/
namespace Sys2Proof.Machine

/-- States of an index slot that is not FREE (R256). -/
inductive IdxSt where
  | building | active | compacting | retiring
  deriving DecidableEq, Repr

/-- GLN_IDX_STATUS.STATE. -/
def IdxSt.code : IdxSt → Nat
  | .building => 1
  | .active => 2
  | .compacting => 3
  | .retiring => 4

/-- A set of numbers held as a bitmap (shadow, new shadow and side-live bitmaps, R255). -/
abbrev NSet := NMap Unit

/-- An entry of the list table (R254): where the list object lies, and its COUNT. -/
structure ListEnt where
  ref   : MapRef
  count : Nat
  deriving DecidableEq, Repr

/-- What waits at an index behind admitted queries (R270). -/
inductive IdxWait where
  | batch (serial : Nat)
  | compact (sq cid : Nat)
  | switch
  deriving DecidableEq, Repr

/-- An index (R253, R254, R256, R269, R271). -/
structure Index where
  st       : IdxSt
  d        : Nat
  metric   : Nat
  idBits   : Nat
  nlist    : Nat
  sideCap  : Nat
  principal : Nat
  tier     : Tier
  target   : Option Nat
  /-- Record slots of the centroid and side objects. -/
  centroid : Nat
  side     : Nat
  lists    : NMap ListEnt
  sideUsed : Nat
  freeze   : Nat
  shadow   : NSet
  newShadow : NSet
  sideLive : NSet
  /-- Lists a frame of which failed its tag (R265). -/
  damagedLists : List Nat
  damaged  : Bool
  /-- The new lists of a compaction, once they are built; `none` in place of a list that has become empty. -/
  built    : Option (NMap (Option ListEnt))
  /-- The command that compacts. -/
  compactBy : Option (Nat × Nat)
  /-- Work waiting behind what is admitted, oldest first. -/
  waiting  : List IdxWait
  deriving DecidableEq, Repr

/-- A candidate of a top-k list (R258). -/
structure Cand where
  score : BitVec 32
  id    : Nat
  shard : Nat
  deriving DecidableEq, Repr

/-- A QUERY or SHARDED entry. -/
structure SQuery where
  q      : List (BitVec 32)
  nprobe : Nat
  k      : Nat
  filter : Nat
  /-- Lists probed, once the centroid pass has formed the probe set. -/
  probes : List Nat
  /-- The candidates of the visits that have ended. -/
  cands  : List Cand
  status : Option Status
  /-- An abort was late (R311). -/
  abortLate : Bool
  /-- The filter it names changed while it was admitted: its result set is undefined (R263). -/
  fltMoved : Bool
  deriving DecidableEq, Repr

/-- An UPDATE entry. -/
structure SUpdate where
  item   : Nat
  op     : Nat
  vec    : List (BitVec 32)
  status : Option Status
  deriving DecidableEq, Repr

/-- Where a search batch comes from. -/
inductive SearchSrc where
  | srq (n : Nat)
  /-- `srch` of a session program: slot, tag, Tine, Drawer offset of the result area. -/
  | srch (slot tag tine out : Nat)
  /-- The coordinator's own member batch of a sharded batch: its serial and the member's ordinal (R274). -/
  | member (serial ord : Nat)
  deriving DecidableEq, Repr

/-- What a batch is doing. -/
inductive SPhase where
  /-- Waits at its index, or for one of the four places of its Acre. -/
  | held
  | centroid
  | visits
  /-- SHARDED: waits for its members. -/
  | members
  | done
  deriving DecidableEq, Repr

/-- A member's record that landed in its reply ring: ordinal, KTB of landing, record (R275). -/
structure ShardAns where
  ord    : Nat
  landed : Nat
  record : List Byte
  deriving DecidableEq, Repr

/-- A search batch (R262, R264, R275). -/
structure SBatch where
  serial  : Nat
  src     : SearchSrc
  acre    : Acre
  cls     : Nat
  tag     : Word
  /-- Index slot number (device-wide), and the INDEX field as sent. -/
  slot    : Nat
  index   : Nat
  ring    : Nat
  bulk    : Bool
  deadline : Nat
  endAt   : Nat
  tAdmit  : Nat
  reserved : Nat
  phase   : SPhase
  queries : List SQuery
  updates : List SUpdate
  /-- Visits not yet ended: list numbers; NLIST stands for the side object. -/
  visits  : List Nat
  answers : List ShardAns
  /-- TAG of the member batches. -/
  memberTag : Nat
  deriving DecidableEq, Repr

/-- A pass of a Gleaner (R264, R271). -/
inductive GlnPass where
  | centroid (serial : Nat)
  /-- A list, or the side object under the number NLIST. -/
  | visit (serial list : Nat)
  | compact (slot : Nat)
  deriving DecidableEq, Repr

/-- A Gleaner's pass: its priority (R267) and when it started. -/
structure GlnRun where
  pass : GlnPass
  low  : Bool
  at_  : Nat
  deriving DecidableEq, Repr

/-- A search request queue (R261). -/
structure Srq where
  pi   : Nat
  take : Nat
  ci   : Nat
  err  : Option Status
  /-- Doorbells not passed by the take point: the count each notified and its KTB, oldest first. -/
  marks : List (Nat × Nat)
  /-- Batches taken and not answered, in take order: serial. -/
  batches : List Nat
  /-- Byte counts of batches not yet taken that an abort has reached (R309). -/
  aborts : List Nat
  deriving DecidableEq, Repr

def Srq.empty : Srq := ⟨0, 0, 0, none, [], [], []⟩

structure GlnState where
  /-- Indexes by slot, 0 to 4095; one not listed is FREE. -/
  indexes : NMap Index
  /-- Generation of each slot; 1 where not listed. -/
  gens    : NMap Nat
  srqs    : NMap Srq
  batches : NMap SBatch
  /-- Passes waiting for a Gleaner, by Acre, oldest first; passes of a fenced Gleaner at the front. -/
  passQ   : PerAcre (List GlnRun)
  /-- By Gleaner number; one not listed is free. -/
  units   : NMap GlnRun
  /-- The pass whose context a Gleaner has saved (R267). -/
  saved   : NMap GlnRun
  nextBatch : Nat
  /-- Producer counts of the reply rings: group × 64 + ordinal, per Acre in bits above. -/
  replyAt : NMap Nat
  deriving DecidableEq, Repr

def GlnState.reset : GlnState :=
  { indexes := [], gens := [], srqs := [], batches := [], passQ := .mk1 [], units := [], saved := [], nextBatch := 0,
    replyAt := [] }

end Sys2Proof.Machine
end

