-- ==== Sys2Proof/Machine/StateSync.lean ====
section
/-!
DEFINITION. State of the synchronisation objects and the wait-for unit (chapter 11).
-/
namespace Sys2Proof.Machine

/-- Who waits on an object. -/
inductive Waiter where
  /-- A `wait` of a session program: session slot and operation tag. -/
  | session (slot tag : Nat)
  /-- The gate of a PWQ (R358). -/
  | gate (pwq : Nat)
  deriving DecidableEq, Repr

/-- A pending wait (R352, R353). -/
structure SyncWait where
  obj     : Nat
  who     : Waiter
  /-- CODE of R349. -/
  code    : Nat
  operand : Word
  /-- Sequence number the wait-for unit gave it; a pending LOCK wait is one edge of the graph (R359). -/
  seq     : Nat
  /-- PHASE the arrival was counted in (ARRIVE). -/
  phase   : Nat
  timeout : Option Nat
  deriving DecidableEq, Repr

/-- A registered watch of a parked session (R357). -/
structure Watch where
  slot  : Nat
  obj   : Nat
  pred  : Nat
  value : Word
  deriving DecidableEq, Repr

structure SyncState where
  /-- Object words by object ID; one not listed is zero (FREE). -/
  words   : NMap Word
  /-- Objects marked CLOSING (R346). -/
  closing : List Nat
  /-- Pending waits, in admission order. -/
  waits   : List SyncWait
  /-- Registered watches, in registration order. -/
  watches : List Watch
  nextSeq : Nat
  rebuilding : Bool
  /-- Victims chosen by the wait-for unit whose failure has not reached the object's Acre: (object, slot, tag). -/
  victims : List (Nat × Nat × Nat)
  deriving DecidableEq, Repr

def SyncState.reset : SyncState :=
  { words := [], closing := [], waits := [], watches := [], nextSeq := 0, rebuilding := false,
    victims := [] }

end Sys2Proof.Machine
end

