-- ==== Sys2Proof/Machine/StateTine.lean ====
section
/-!
DEFINITION. State of the Tines: running contexts, images, event queues, asynchronous operations, timers,
routes and decode deadline contracts (chapters 09 and 10).
-/
namespace Sys2Proof.Machine

/-- A resident session image (R281, R282). -/
structure Image where
  id      : Nat
  /-- Address of the code in the image area; the read-only data follow it. -/
  base    : Nat
  code    : Nat
  rodata  : Nat
  entry   : List Nat
  budget  : List Nat
  deriving DecidableEq, Repr

/-- The context of a Tine that runs a handler (session mode) or system firmware (system mode). -/
structure TineCtx where
  system  : Bool
  slot    : Nat
  handle  : Nat
  image   : Nat
  evCode  : Nat
  dispatchAt : Nat
  budget  : Nat
  /-- Local address of the next instruction. -/
  pc      : Nat
  /-- g0 to g31; g0 is never written. -/
  g       : NMap Word
  /-- c0 to c15. -/
  c       : NMap Word
  /-- Handler data (session mode) or the whole local store (system mode), by local address. -/
  data    : Cells
  /-- A synchronous operation is outstanding: the register its status goes to, and the first word of the instruction, at
  which the program counter still stands (R324). -/
  stall   : Option (Nat × Nat)
  /-- System firmware that has trapped runs no further (R288, log 40). -/
  trapped : Option Status
  deriving DecidableEq, Repr

/-- An event of a session program (R284, R285). -/
structure TEvent where
  slot : Nat
  code : Nat
  a    : Word
  b    : Word
  deriving DecidableEq, Repr

/-- What an asynchronous operation, timer or wait of a session program is (R289). -/
inductive AsyncKind where
  | attn | append | srch | rwrite | rread | ckpt | park
  | timer (at_ : Nat)
  | wait (obj : Nat)
  deriving DecidableEq, Repr

/-- A timer or object wait, as against an engine operation (the two limits of R289). -/
def AsyncKind.timed : AsyncKind → Bool
  | .timer _ => true
  | .wait _ => true
  | _ => false

/-- An asynchronous operation outstanding; its tag is valid until its event has been dispatched (R289). -/
structure AsyncOp where
  slot : Nat
  tag  : Nat
  kind : AsyncKind
  /-- The operation has completed and its event is queued. -/
  ended : Bool
  /-- Its operand areas and its output areas in the Drawer: offset and length (R336). -/
  ins   : List (Nat × Nat)
  outs  : List (Nat × Nat)
  deriving DecidableEq, Repr

/-- A route of a principal (R291). -/
structure Route where
  conn : Nat
  base : Nat
  len  : Nat
  key  : Nat
  canRead : Bool
  canWrite : Bool
  canDb : Bool
  deriving DecidableEq, Repr

/-- A decode deadline contract (R312). -/
structure Contract where
  slot : Nat
  cMax : Nat
  qMax : Nat
  dReq : Nat
  deriving DecidableEq, Repr

structure TineState where
  /-- By Tine number, 0 to 287; an Acre Tine not listed runs no handler. -/
  tines   : NMap TineCtx
  /-- Resident session images, by index 0 to 63 (TIN_IMAGE_SEL). -/
  images  : NMap Image
  /-- The image area of every Acre Tine's local store (R278). -/
  area    : Cells
  /-- The system image loaded last (R282). -/
  sysImage : List Byte
  /-- The event queue of each Acre, oldest first. -/
  evq     : PerAcre (List TEvent)
  asyncs  : List AsyncOp
  /-- By principal × 64 + route. -/
  routes  : NMap Route
  contracts : PerAcre (List Contract)
  /-- Last operation tag of each session, by slot (R334). -/
  lastTag : NMap Nat
  deriving DecidableEq, Repr

def TineState.reset : TineState :=
  { tines := [], images := [], area := [], sysImage := [], evq := .mk1 [], asyncs := [], routes := [], contracts := .mk1 [],
    lastTag := [] }

end Sys2Proof.Machine
end

