-- ==== Sys2Proof/Machine/StateCkpt.lean ====
section
/-!
DEFINITION. State of checkpoints, fencing, primacy, migration and roles (chapter 15).
-/
namespace Sys2Proof.Machine

/-! ## Checkpoints -/

/-- A row of the checkpoint table (R462). -/
structure CkptRow where
  auto      : Bool
  once      : Bool
  pinNext   : Bool
  exportSeq : Nat
  seqLast   : Nat
  deriving DecidableEq, Repr

def CkptRow.empty : CkptRow := ⟨false, false, false, 0, 0⟩

/-- How a captured object is taken (R465). -/
inductive Taken where
  | untaken
  /-- Copied into the shadow. -/
  | shadow
  /-- Read from its home run or Chest pieces. -/
  | ref
  deriving DecidableEq, Repr

/-- A captured object: its identity, its content as of the marker, and how it is taken (R464, R465). -/
structure CapObj where
  kind    : ObjKind
  profile : Nat
  frames  : Nat
  stackId : Nat
  ctr     : Nat
  keySel  : Nat
  data    : ObjData
  /-- A FREE tombstone (R472). -/
  gone    : Bool
  /-- Its home at the marker. -/
  home    : Home
  taken   : Taken
  /-- Units that lie in the shadow's Near pool. -/
  pool    : List Nat
  /-- Wholly in the Field shadow region, or taken by reference. -/
  copied  : Bool
  drained : Bool
  /-- A check of the source or a fence lost it. -/
  lost    : Bool
  deriving DecidableEq, Repr

/-- What has become of a selected session. -/
inductive CapSt where
  | waiting | captured | missed | skipped
  deriving DecidableEq, Repr

/-- A selected session of a shard: its descriptor as of the marker. -/
structure CapSess where
  handle : Nat
  desc   : Desc
  row    : CkptRow
  st     : CapSt
  deriving DecidableEq, Repr

/-- One Acre's part of one epoch (R472). -/
structure Shard where
  /-- The marker has been applied. -/
  marked   : Bool
  captured : Bool
  sessions : NMap CapSess
  /-- By record slot; an unrecorded Chest object under 2^32 + its locator. -/
  objs     : NMap CapObj
  syncDefs : NMap Word
  syncWords : NMap Word
  prefixes : NMap PrefixEntry
  indexes  : NMap Index
  /-- The header and metadata units have been written. -/
  metaDone : Bool
  /-- Sessions opened since the marker (R468). -/
  fresh    : List Nat
  /-- Chest objects the shard was written into, by locator. -/
  locs     : List Nat
  deriving DecidableEq, Repr

def Shard.empty : Shard := ⟨false, false, [], [], [], [], [], [], false, [], []⟩

/-- Where an epoch drains to (R461): the device's Chest, or a remote target by connection, base and FRAME key. -/
inductive DrainTarget where
  | chest
  | remote (conn base key : Nat)
  deriving DecidableEq, Repr

/-- CKP_EPOCH.STATE. -/
inductive EpochSt where
  | none | pending | open_ | captured | drained | failed
  deriving DecidableEq, Repr

def EpochSt.code : EpochSt → Nat
  | .none => 0
  | .pending => 1
  | .open_ => 2
  | .captured => 3
  | .drained => 4
  | .failed => 5

/-- The epoch last marked. -/
structure Epoch where
  e      : Nat
  at_    : Nat
  full   : Bool
  target : DrainTarget
  shards : PerAcre Shard
  deriving DecidableEq, Repr

/-- A DRAINED manifest with its shards (R475). -/
structure Manifest where
  epoch    : Nat
  base     : Nat
  full     : Bool
  partial_ : Bool
  tMark    : Nat
  device   : Nat
  era      : Nat
  tenantId : Nat
  target   : DrainTarget
  shards   : PerAcre Shard
  /-- Chest objects it occupies, by locator. -/
  locs     : List Nat
  deriving DecidableEq, Repr

/-- A home run held for the drain (R466): the object that holds it, its Acre's number, the home and its frames. -/
structure HeldRun where
  obj    : Nat
  home   : Home
  frames : Nat
  deriving DecidableEq, Repr

/-- A restore whose stacks are still being copied (R479 step 4): the session and the records still to be placed. -/
structure Restoring where
  slot : Nat
  left : List Nat
  deriving DecidableEq, Repr

/-! ## Primacy -/

/-- A lease at an Acre (R486): the holder and its expiry on the Acre's KTB. -/
structure Lease where
  holder : Yoke
  expiry : Nat
  deriving DecidableEq, Repr

/-- A claim in progress (R487): the epoch claimed, the Acres that voted, KTB of the last CLAIM sent. -/
structure Claim where
  epoch : Nat
  votes : List Acre
  at_   : Nat
  deriving DecidableEq, Repr

/-- What one Yoke knows of primacy. -/
structure YokePrim where
  /-- The Yoke is present: it answers and runs. -/
  heardAt  : Nat
  beatAt   : Nat
  partnerUp : Bool
  claim    : Option Claim
  /-- The Yoke issues commands (R488). -/
  issuing  : Bool
  /-- KTB of its last renewal sent, and of the last that reached a winning set. -/
  renewAt  : Nat
  winAt    : Nat
  deriving DecidableEq, Repr

/-! ## Migration -/

/-- What a migration waits for. -/
inductive MigSt where
  /-- Source: OFFER sent; objects being sent; HANDOVER sent. -/
  | offered | sending | handover
  /-- Target: ACCEPT sent; CONFIRM sent. -/
  | accepted | confirmed
  deriving DecidableEq, Repr

/-- A migration this device holds, as source or target (R489). -/
structure Migration where
  id      : Nat
  source  : Bool
  /-- The other device, the TC3 connection to it, and its handle. -/
  peer    : Nat
  conn    : Nat
  handle  : Nat
  peerHandle : Nat
  st      : MigSt
  /-- SEQ of its next message, and the handover sequence drawn for its nonces (R473). -/
  seq     : Nat
  hseq    : Nat
  /-- Objects in map order: 0 the Drawer, k + 1 the stack of map entry k. -/
  objs    : List Nat
  places  : List MigPlace
  /-- Objects not yet handed to the connection, and those whose frames have not all been acknowledged, by position. -/
  unsent  : List Nat
  left    : List Nat
  /-- At the target: Acre, first frame, frames and region index reserved for each object. -/
  runs    : List (Acre × Nat × Nat × Nat)
  policyTier : Nat
  policyTarget : Option Nat
  /-- At the target: what HANDOVER carried, for the RELEASE. -/
  hand    : Option HandIn
  /-- The last message sent, and the KTB it was sent at. -/
  last    : Option (MigHdr × MigBody)
  sentAt  : Nat
  /-- The command that asked for it. -/
  cmd     : Option (Nat × Nat)
  deriving DecidableEq, Repr

structure CkptState where
  /-- The Yoke that holds primacy, and the primacy epoch P. -/
  primary : Yoke
  primacyEpoch : Nat
  leaving : Bool
  left    : Bool
  /-- Checkpoint table by slot (R462); all-zero rows are not listed. -/
  table   : NMap CkptRow
  /-- Live and frozen bitmaps, by record slot (R463). -/
  live    : NMap Unit
  frozen  : NMap Unit
  lastMarked : Nat
  epoch   : Option Epoch
  epochSt : EpochSt
  epochStatus : Nat
  manifests : List Manifest
  /-- The anchored epoch (R476); 0: none. -/
  anchor  : Nat
  /-- Records of the anchor and of handover reservations written into the secure store (R473, R476). -/
  anchorRecs : Nat
  missed  : Nat
  heldRuns : List HeldRun
  /-- Chest objects whose FREE waits for the drain. -/
  heldLocs : List Nat
  restoring : List Restoring
  /-- Handover sequences drawn, and the reservation in the secure store (R473). -/
  handSeq : Nat
  handHigh : Nat
  /-- By Acre: current P, lease, and the claim voted for. -/
  acreP   : PerAcre Nat
  leases  : PerAcre (Option Lease)
  voted   : PerAcre (Option (Nat × Yoke))
  yokes   : PerYoke YokePrim
  /-- Migrations, by own slot. -/
  migs    : NMap Migration
  nextMig : Nat
  /-- Outcomes of migrations that have ended, by source device and MIG_ID: 1 ACTIVE at the target, 2 ABANDONED. -/
  outcomes : NMap Nat
  /-- Frames lost to fenced DDR5 channels: Acres whose Field is DEGRADED, and those re-interleaved over three channels. -/
  degraded : PerAcre Bool
  threeCh : PerAcre Bool
  /-- GiB of the Field shadow region, as Stage 2 laid it out (R469, R522). -/
  shadowGib : PerAcre Nat
  deriving DecidableEq, Repr

def YokePrim.reset : YokePrim :=
  { heardAt := 0, beatAt := 0, partnerUp := false, claim := none, issuing := true, renewAt := 0, winAt := 0 }

/-- No epoch, P = 1 at YW until Stage 1 reads the strap, no role change (R461, R485, R491). -/
def CkptState.reset : CkptState :=
  { primary := .yw, primacyEpoch := 1, leaving := false, left := false, table := [], live := [], frozen := [], lastMarked := 0,
    epoch := none, epochSt := .none, epochStatus := 0, manifests := [], anchor := 0, anchorRecs := 0, missed := 0, heldRuns := [], heldLocs := [],
    restoring := [], handSeq := 0, handHigh := 0, acreP := .mk1 1, leases := .mk1 none, voted := .mk1 none, yokes := .mk1 .reset,
    migs := [], nextMig := 0, outcomes := [], degraded := .mk1 false, threeCh := .mk1 false,
    shadowGib := .mk1 0 }

end Sys2Proof.Machine
end

