-- ==== Sys2Proof/Machine/StateGen.lean ====
section
/-!
DEFINITION. State of the token queues (chapter 07); lengths, matcher progress and generation settings are
fields of the descriptor.
-/
namespace Sys2Proof.Machine

/-- A token queue (R228): notified producer count, take point, consumer count and the stop status. -/
structure Tkq where
  pi   : Nat
  take : Nat
  ci   : Nat
  err  : Option Status
  /-- Doorbells not passed by the take point: the count each notified and its KTB, oldest first. -/
  marks : List (Nat × Nat)
  /-- The record at the take point is held at its session's descriptor (R231). -/
  holding : Bool
  deriving DecidableEq, Repr

def Tkq.empty : Tkq := ⟨0, 0, 0, none, [], false⟩

structure GenState where
  /-- By device-wide TKQ number. -/
  tkqs : NMap Tkq
  deriving DecidableEq, Repr

def GenState.reset : GenState := { tkqs := [] }

end Sys2Proof.Machine
end

