-- ==== Sys2Proof/Machine/StateHost.lean ====
section
/-!
DEFINITION. State of the Host Queue ABI: version, queue pairs, commands outstanding, stream and event rings,
MSI-X coalescing (chapter 09, R295 to R311).
-/
namespace Sys2Proof.Machine

/-- A submission entry that has been fetched and has not completed (R297). -/
structure OutCmd where
  sq    : Nat
  cid   : Nat
  opc   : Nat
  target : Nat
  fence : Bool
  /-- KTB at which it was fetched. -/
  at_   : Nat
  deriving DecidableEq, Repr

/-- A completion entry (R300). -/
structure Cqe where
  result0 : Nat
  cid     : Nat
  sqHead  : Nat
  status  : Status
  phase   : Bool
  sqid    : Nat
  result1 : Nat
  deriving DecidableEq, Repr

/-- Interrupt coalescing of one CQ or ring (R308): records since the last signal, and the KTB of the first. -/
structure Coalesce where
  count   : Nat
  firstAt : Nat
  deriving DecidableEq, Repr

/-- A queue pair (R296). -/
structure QPair where
  sqBase : Nat
  cqBase : Nat
  sqDepth : Nat
  cqDepth : Nat
  sqHead : Nat
  sqTail : Nat
  cqHead : Nat
  cqTail : Nat
  phase  : Bool
  vector : Nat
  coal   : Coalesce
  /-- Completion entries that found the CQ full, oldest first. -/
  waiting : List Cqe
  /-- Entries written to the SQ and not yet fetched (a FENCE entry waits, R301). -/
  unfetched : List OutCmd
  deriving DecidableEq, Repr

/-- An event record (R306). -/
structure EventRec where
  kind   : Nat
  status : Status
  handle : Nat
  ktb    : Nat
  a      : Nat
  b      : Nat
  c      : Nat
  /-- Bytes 32 to 63: WAKE_CAUSE, or the handler data of a USER record. -/
  extra  : List Byte
  deriving DecidableEq, Repr

/-- A stream or event ring in host memory (R305, R306). -/
structure Ring where
  base     : Nat
  k        : Nat
  paddr    : Nat
  vector   : Nat
  producer : Nat
  consumer : Nat
  /-- Bytes reserved by admitted operations and not yet written (R246). -/
  reserved : Nat
  coal     : Coalesce
  deriving DecidableEq, Repr

/-- The Yoke's buffer of one event ring number (R307): records waiting for space (or for the ring to be created
again, R525), at most 4,096, and the count dropped. -/
structure EvWait where
  waiting : List EventRec
  lost    : Nat
  deriving DecidableEq, Repr

def EvWait.empty : EvWait := ⟨[], 0⟩

structure HostState where
  /-- The version agreed, and the last negotiation's status (R295). -/
  agreed   : Option Nat
  negStatus : Status
  qps      : NMap QPair
  outstanding : List OutCmd
  streams  : NMap Ring
  events   : NMap Ring
  evWait   : NMap EvWait
  /-- The number of the I/O queue pair served last (round robin, R296). -/
  lastSq   : Nat
  badDb    : Nat
  deriving DecidableEq, Repr

def HostState.reset : HostState :=
  { agreed := none, negStatus := .ok, qps := [], outstanding := [], streams := [], events := [], evWait := [],
    lastSq := 0, badDb := 0 }

end Sys2Proof.Machine
end

