-- ==== Sys2Proof/Machine/StateKlt.lean ====
section
/-!
DEFINITION. State of the KLT transport: connections, packets in flight, reads, regions, posted work queues, multicast
lists, peers (chapter 12).
-/
namespace Sys2Proof.Machine

/-- What an operation given to the KLT engine is for: where its end is reported. -/
inductive KltSrc where
  /-- A response record, its pad record or its producer count, of a response ring. -/
  | rsp (ring : Nat)
  /-- `rwrite` or `rread` of a session program: slot and tag. -/
  | tine (slot tag : Nat)
  /-- A request of a posted work queue: queue and request index. -/
  | pwq (q idx : Nat)
  /-- One of the two writes of entry `d` of a multicast of a posted work queue. -/
  | mcast (q idx d : Nat)
  /-- A member batch of a sharded search: batch serial. -/
  | shard (serial : Nat)
  /-- A unit of a checkpoint drain: Acre number and unit. -/
  | drain (acre unit : Nat)
  /-- Object or message of the migration of the session in this slot. -/
  | migration (slot n : Nat)
  /-- Export or import of a command. -/
  | transfer (sq cid n : Nat)
  | trace (acre : Nat)
  | device
  /-- An `rread` that was aborted, or an operation of a session that is gone: nobody learns of it and nothing it reads is kept (R310). -/
  | dropped
  deriving DecidableEq, Repr

/-- Kinds of operation (R377, R380, R381). -/
inductive KltOp where
  | write (addr key : Nat) (data : List Byte) (doorbell : Bool)
  /-- Frames with their tags, in order. -/
  | frameWrite (addr key : Nat) (frames : List (List Byte × List Byte)) (doorbell : Bool)
  | read (addr key len local_ : Nat)
  | frameRead (addr key len local_ : Nat)
  /-- A member batch of a sharded search for member `ord` of a shard group (R275, R393). -/
  | member (group ord : Nat) (data : List Byte)
  deriving DecidableEq, Repr

/-- An operation handed to the KLT engine and not yet taken by its connection, oldest first. -/
structure KltReq where
  conn : Nat
  tc   : Nat
  op   : KltOp
  src  : KltSrc
  deriving DecidableEq, Repr

/-- Connection states (R372); a number not listed is FREE. -/
inductive ConnSt where
  | connecting | open_ | closing | failed
  deriving DecidableEq, Repr

/-- KLT_CONN_STATUS.STATE. -/
def ConnSt.code : ConnSt → Nat
  | .connecting => 1
  | .open_ => 2
  | .closing => 3
  | .failed => 4

/-- A path: egress port and entropy value (R384). -/
structure Path where
  port : Nat
  e    : Nat
  deriving DecidableEq, Repr

/-- A sequenced packet that has a PSN and is not acknowledged. -/
structure SndPkt where
  msn    : Nat
  /-- Packet of the operation; for a unit of a read asked for again, its byte offset. -/
  idx    : Nat
  again  : Bool
  path   : Path
  /-- KTB of its last hand-over to a port; `none` while it waits in a class queue. -/
  sentAt : Option Nat
  sends  : Nat
  sacked : Bool
  lost   : Bool
  deriving DecidableEq, Repr

/-- An operation of the sender's side, in MSN order. -/
structure SndOp where
  msn    : Nat
  op     : KltOp
  src    : KltSrc
  first  : Nat
  count  : Nat
  sent   : Nat
  /-- Aborted with packets unsent: no further packet of it is sent (R310). -/
  cut    : Bool
  /-- A PSN of it was refused. -/
  nak    : Option Status
  /-- A read whose last unit has not been placed. -/
  reading : Bool
  /-- Units of a read placed (4 KiB each). -/
  units  : NMap Unit
  /-- KTB of the last response, or of the request's acknowledgement. -/
  lastRsp : Nat
  /-- The first failure found when a response was placed. -/
  bad    : Option Status
  /-- Its end has been reported, and PSNs of it are still unacknowledged (R378, R387). -/
  done   : Bool
  deriving DecidableEq, Repr

/-- A sequenced packet received at or beyond FRONTIER. -/
structure RcvPkt where
  refused : Option Status
  /-- The write rings a doorbell: region index, address and bytes of the write. -/
  db      : Option (Nat × Nat × List Byte)
  isDb    : Bool
  /-- A read to be executed: header, and whether it reads frames. -/
  read    : Option (KHdr × Bool)
  /-- The region a read at FRONTIER has passed steps 4 to 7 for. -/
  validated : Option Nat
  deriving DecidableEq, Repr

/-- A read response still to be sent: byte offset in the read, bytes, tag of a frame. -/
structure RspPkt where
  msn  : Nat
  moff : Nat
  data : List Byte
  tag  : List Byte
  deriving DecidableEq, Repr

/-- A connection (R372). -/
structure Conn where
  st       : ConnSt
  peer     : Nat
  entry    : Nat
  peerNum  : Nat
  peerGen  : Nat
  tc       : Nat
  ver      : Nat
  entropy  : Nat
  rwin     : Nat
  peerRwin : Nat
  principal : Nat
  reqId    : Nat
  /-- This side sent the CONNECT_REQ. -/
  initiator : Bool
  /-- CONNECT_REQ or CLOSE sends so far, and the KTB of the last. -/
  tries    : Nat
  triedAt  : Nat
  /-- CLOSE has been sent; CLOSE has come from the peer. -/
  closeSent : Bool
  closeGot  : Bool
  /-- Receiving side. -/
  frontier : Nat
  got      : NMap RcvPkt
  refusedSinceDb : Bool
  ceCount  : Nat
  arrivals : Nat
  firstArrival : Option Nat
  tsEcho   : Nat
  tsAt     : Nat
  msnHigh  : Option Nat
  /-- MSN_W of R537. -/
  msnW     : Option Nat
  /-- Sending side. -/
  nextPsn  : Nat
  nextMsn  : Nat
  acked    : Nat
  inflight : NMap SndPkt
  ops      : List SndOp
  rsps     : List RspPkt
  /-- PSNs refused, deferrals apart, since the last doorbell packet whose operation has ended (R379, R537). -/
  naks     : List Nat
  stalled  : Bool
  /-- Rotation of R384. -/
  nextPort : Nat
  nextE    : Nat
  /-- Suspect paths: port × 256 + entropy value, and the KTB until which each is suspect. -/
  suspect  : NMap Nat
  lastSend : Nat
  /-- Congestion control: CWND in 1/256 packet, the settings in use, alpha in 1/256. -/
  cwnd     : Nat
  alpha    : Nat
  tDec     : Nat
  winAt    : Nat
  winCe    : Nat
  winAcked : Nat
  ceSeen   : Nat
  tsUsed   : Option Nat
  srtt     : Option Nat
  rttvar   : Nat
  retx     : Nat
  deriving DecidableEq, Repr

/-- Kinds of region (R388). -/
inductive RegKind where
  | plain | frame | inbox
  deriving DecidableEq, Repr

def RegKind.ofCode : Nat → Option RegKind
  | 0 => some .plain
  | 1 => some .frame
  | 2 => some .inbox
  | _ => none

/-- States of a region; one not listed is FREE and has never been used. -/
inductive RegSt where
  | free | valid | revoking
  deriving DecidableEq, Repr

/-- A region (R388). -/
structure Region where
  base  : Nat
  len   : Nat
  kind  : RegKind
  dbk   : Nat
  dbArg : Nat
  canWrite : Bool
  canRead  : Bool
  canDb    : Bool
  isLocal  : Bool
  /-- Peer endpoint, or any VALID peer. -/
  peer  : Option Nat
  principal : Nat
  st    : RegSt
  tag   : Nat
  revTag : Option Nat
  deriving DecidableEq, Repr

/-- A request of a PWQ in flight: its status once it has ended, and for a multicast the state of each entry: writes still
outstanding and the first failure. -/
structure PwqReq where
  status : Option Status
  mcast  : NMap (Nat × Option Status)
  deriving DecidableEq, Repr

/-- A posted work queue (R390, R391). Counts are in bytes of the ring, as for an ARQ. -/
structure Pwq where
  acre : Nat
  base : Nat
  size : Nat
  principal : Nat
  srcCctr  : Option Nat
  gateCctr : Option Nat
  pi    : Nat
  start : Nat
  ci    : Nat
  err   : Option Status
  inflight : NMap PwqReq
  gated : Bool
  deriving DecidableEq, Repr

/-- An entry of a multicast list (R393). -/
structure McEntry where
  conn : Nat
  base : Nat
  key  : Nat
  dbAddr : Nat
  deriving DecidableEq, Repr

/-- Reachability of a peer (R376). -/
inductive PeerSt where
  | unknown | up | down
  deriving DecidableEq, Repr

def PeerSt.code : PeerSt → Nat
  | .unknown => 0
  | .up => 1
  | .down => 2

/-- What is known of a peer entry. -/
structure Peer where
  st     : PeerSt
  lastHb : Nat
  sentHb : Nat
  leaving : Bool
  fallow  : Bool
  role    : Nat
  deriving DecidableEq, Repr

def Peer.unknown : Peer := ⟨.unknown, 0, 0, false, false, 0⟩

structure KltState where
  reqs   : List KltReq
  conns  : NMap Conn
  /-- CGEN last used, by connection number. -/
  cgens  : NMap Nat
  /-- CONNECT responses given, by sender's endpoint and REQ_ID (R373). -/
  answers : List (Nat × Nat × ConnRsp)
  regions : NMap Region
  pwqs   : NMap Pwq
  /-- By list × 64 + entry. -/
  mcl    : NMap McEntry
  peers  : NMap Peer
  /-- Operations that ended and whose owner has not yet taken the outcome. -/
  ended  : List (KltSrc × Status)
  /-- Bytes of response staging in use. -/
  staging : PerYoke Nat
  /-- Yoke pages (space 2 of R388), and bytes of Field written through PLAIN regions. -/
  pages  : PerYoke Cells
  fieldPlain : PerAcre Cells
  /-- KLT_CMD awaiting its result: Yoke, OP and connection or key. -/
  cmds   : List (Yoke × Nat × Nat)
  nextReqId : Nat
  deriving DecidableEq, Repr

def KltState.reset : KltState :=
  { reqs := [], conns := [], cgens := [], answers := [], regions := [], pwqs := [], mcl := [], peers := [], ended := [],
    staging := .mk1 0, pages := .mk1 [], fieldPlain := .mk1 [], cmds := [], nextReqId := 0 }

end Sys2Proof.Machine
end

