-- ==== Sys2Proof/Machine/StateObs.lean ====
section
/-!
DEFINITION. State of counters, accounting, trace, the halt wave and scan-out (chapter 16).
-/
namespace Sys2Proof.Machine

/-- One bank of engine time (R494, R495): nanoseconds counted, and by engine key × 32 + condition the time in BUSY (0), STALL (1),
FENCED (2) and in STALL under reason r (16 + r). IDLE is what is left of the elapsed time. -/
structure ObsBank where
  elapsed : Nat
  eng     : NMap Nat
  deriving DecidableEq, Repr

def ObsBank.empty : ObsBank := ⟨0, []⟩

/-- The counters of one die (R496 to R498). -/
structure ObsDie where
  live    : ObsBank
  /-- Time from the boundary that is due on. -/
  next    : ObsBank
  latched : ObsBank
  snap    : ObsBank
  /-- OBS_PERIOD: B_k of the latched period, and whether a period has been latched. -/
  start   : Nat
  done    : Bool
  /-- The next boundary on the die's KTB, and PERIOD_US in force. -/
  due     : Nat
  period  : Nat
  deriving DecidableEq, Repr

def ObsDie.reset : ObsDie := ⟨.empty, .empty, .empty, .empty, 0, false, 1000000000, 1000000⟩

/-- A trace record (R506); its body without the header, padded to units when the frame is sealed. -/
structure TraceRec where
  kind  : Nat
  units : Nat
  die   : Nat
  trig  : Bool
  a     : Nat
  ktb   : Nat
  body  : List Byte
  deriving DecidableEq, Repr

/-- A frame written to a trace region: its pass count and records (R507). -/
structure TraceFrame where
  pass : Nat
  recs : List TraceRec
  deriving DecidableEq, Repr

/-- OBS_TRACE_STATUS.STATE. -/
inductive TraceSt where
  | off | running | post | stopped
  deriving DecidableEq, Repr

def TraceSt.code : TraceSt → Nat
  | .off => 0
  | .running => 1
  | .post => 2
  | .stopped => 3

/-- Trace of one Acre (R505 to R511). -/
structure Trace where
  st       : TraceSt
  /-- STOP_REASON: 0 none, 1 FULL, 2 POST_DONE, 3 TENANCY, 4 SOFTWARE. -/
  reason   : Nat
  wrapped  : Bool
  miss     : Nat
  lost     : Nat
  /-- Records dropped since the last LOST record. -/
  lostSince : Nat
  /-- Next frame, pass count, frame of the first trigger and its KTB. -/
  wr       : Nat
  pass     : Nat
  trigFrame : Nat
  trigTs   : Option Nat
  /-- The frame being filled, oldest record first; the frames written since trace started. -/
  buf      : List TraceRec
  frames   : NMap TraceFrame
  /-- Bytes still to be written after the trigger. -/
  postLeft : Option Nat
  /-- The interval of 10 µs in which the cap is measured, and the bytes written in it. -/
  capAt    : Nat
  capBytes : Nat
  /-- OBS_TRACE_CFG in force (R500), and the region's size of the last Stage 2 in GiB. -/
  cfg      : Word
  gib      : Nat
  /-- Frames not yet exported; bytes exported. -/
  unsent   : List Nat
  producer : Nat
  deriving DecidableEq, Repr

/-- No trace; SIZE_GIB 16, POST_PCT 50, PRIN_ALL 1 in force. -/
def Trace.reset : Trace :=
  { st := .off, reason := 0, wrapped := false, miss := 0, lost := 0, lostSince := 0, wr := 0, pass := 0, trigFrame := 0,
    trigTs := none, buf := [], frames := [], postLeft := none, capAt := 0, capBytes := 0, cfg := 0x800000C90, gib := 0,
    unsent := [], producer := 0 }

structure ObsState where
  halted   : Bool
  /-- OBS_HALT.SOURCE and OBS_HALT_TS. -/
  haltSrc  : Nat
  haltTs   : Nat
  scanBlocks : Nat
  scanSealed : Bool
  scanCount  : Nat
  dies     : PerDie ObsDie
  /-- Accounting by account × 64 + counter (R501, R502): level 1 and level 2 of the period, what belongs to the period after a
  boundary that is due, the latched bank and the snapshot. -/
  lvl1     : NMap Nat
  lvl1Next : NMap Nat
  acct     : NMap Nat
  acctNext : NMap Nat
  latched  : NMap Nat
  snap     : NMap Nat
  /-- BUSY time of the present energy interval by account × 4 + engine kind (R504). -/
  busyUse  : NMap Nat
  energyMark : Nat
  energyAt   : Nat
  /-- Present condition of each engine that is not IDLE, and since when it stalls. -/
  conds    : NMap Nat
  stallAt  : NMap Nat
  trace    : PerAcre Trace
  deriving DecidableEq, Repr

def ObsState.reset : ObsState :=
  { halted := false, haltSrc := 0, haltTs := 0, scanBlocks := 0, scanSealed := false, scanCount := 0, dies := .mk1 .reset,
    lvl1 := [], lvl1Next := [], acct := [], acctNext := [], latched := [], snap := [], busyUse := [], energyMark := 0, energyAt := 0,
    conds := [], stallAt := [], trace := .mk1 .reset }

end Sys2Proof.Machine
end

