-- ==== Sys2Proof/Machine/StateSec.lean ====
section
/-!
DEFINITION. State of the security cores, tenancy, keys, the secure store, the life cycle, SPDM and the management plane
(chapter 14).
-/
namespace Sys2Proof.Machine

/-- Tenancy states (R430). -/
inductive Tenancy where
  | unassigned | binding | bound | releasing
  deriving DecidableEq, Repr

def Tenancy.code : Tenancy → Nat
  | .unassigned => 0
  | .binding => 1
  | .bound => 2
  | .releasing => 3

/-- The latest tenancy journal record (R438). -/
inductive TenRec where
  | none | prepare | commit | resume | releaseBegin | erased | released | aborted
  deriving DecidableEq, Repr

/-- A key slot that holds a tenant storage key (R442): its scope and the key. -/
structure KeySlot where
  isLocal : Bool
  key     : Nat
  deriving DecidableEq, Repr

/-- An operator credential (R451): public key and role mask. -/
structure Cred where
  key   : Nat
  roles : Nat
  deriving DecidableEq, Repr

/-- What a response of the management plane carries beside its status. -/
inductive MgmtBody where
  | none
  /-- Device ID, stepping, life cycle, tenancy state. -/
  | info (deviceId stepping lifeCycle tenancy : Nat)
  /-- SPDM slot of a certificate chain and the offset of the chunk; `more` follows. -/
  | chain (slot off : Nat) (more : Bool)
  | word (v : Word)
  | challenge (n : Nat)
  | spdm (r : SpdmReq) (st : Status) (body : List (BitVec 384))
  /-- HELLO_RSP and AUTH_RSP: the version agreed. -/
  | hello (ver : Nat)
  /-- Blocks of a scan-out: die, chain, number of blocks, scan count, sealed (R516). -/
  | scan (die chain blocks count : Nat) (isSealed : Bool)
  deriving DecidableEq, Repr

/-- A management response (R452). -/
structure MgmtRsp where
  session : Nat
  seq     : Nat
  reqId   : Nat
  status  : Status
  body    : MgmtBody
  deriving DecidableEq, Repr

/-- An open management session (R453, R454). -/
structure MgmtSess where
  cred     : Nat
  /-- Last SEQ accepted and its cached response. -/
  seqIn    : Nat
  cached   : Option MgmtRsp
  seqOut   : Nat
  lastReq  : Nat
  subscribed : Bool
  deriving DecidableEq, Repr

/-- A HELLO answered and not yet followed by its AUTH: credential slot, and whether a version is common. -/
structure Hello where
  cred  : Nat
  verOk : Bool
  deriving DecidableEq, Repr

/-- One management port (R450, R454). -/
structure MgmtPort where
  hellos   : NMap Hello
  sessions : NMap MgmtSess
  next     : Nat
  /-- KTB of the failed AUTH messages of the last 60 s, newest first. -/
  fails    : List Nat
  lockUntil : Option Nat
  deriving DecidableEq, Repr

/-- An SPDM session (R445): a secured session, and whether it is a tenant session. -/
structure SpdmSess where
  tenant : Bool
  done   : Bool
  deriving DecidableEq, Repr

/-- Who waits for the end of a release: the management request, or the key service's session. -/
inductive RelWaiter where
  | mgmt (q : MgmtReq)
  | spdm (q : MgmtReq) (session : Nat)
  deriving DecidableEq, Repr

/-- A release in progress (R436): the step that runs. -/
inductive RelStep where
  | none | scrub
  deriving DecidableEq, Repr

structure SecState where
  tenancy : Tenancy
  epoch   : Nat
  era     : Nat
  curGen  : Nat
  deviceId : Nat
  resuming : Bool
  localMode : Bool
  certified : Bool
  tenantId : Nat
  tenantRoot : BitVec 384
  imageKey : Option Nat
  consentKey : Option Nat
  keys    : NMap KeySlot
  /-- Certified-configuration members not satisfied, and the departures of the binding (R448, R449). -/
  departMask : Nat
  departed : Bool
  departures : Nat
  bindAt  : Nat
  /-- Who waits for the end of the release (R439). -/
  waiters : List RelWaiter
  rel     : RelStep
  /-- A DECOMMISSION waits for the tenancy to become UNASSIGNED (R429). -/
  decommission : Option MgmtReq
  /-- Latest tenancy record (R438). -/
  ten     : TenRec
  storeCopies : Nat
  records : Nat
  lcA     : Nat
  lcB     : Nat
  lcPending : Option Nat
  /-- The device unique secret has been burnt (R427). -/
  dus     : Option Nat
  creds   : NMap Cred
  selfPass : PerYoke Bool
  entropyOk : PerYoke Bool
  failedTest : PerYoke Nat
  mgmt    : PerYoke MgmtPort
  debugScopes : Nat
  debugUntil : Nat
  challenge : Option (Nat × Nat)
  jtagSeen : Bool
  /-- SVN fuses, the images in flash by slot, and the slot named for the next start-up. -/
  fuses   : FwImage
  flash   : NMap FwImage
  bootSlot : Nat
  /-- Measurement digests 1 to 5, 9, 11 and 12 (R446, R447). -/
  meas1   : BitVec 384
  meas2   : BitVec 384
  meas3   : BitVec 384
  meas4   : BitVec 384
  meas5   : BitVec 384
  meas9   : BitVec 384
  meas11  : BitVec 384
  meas12  : BitVec 384
  spdm    : NMap SpdmSess
  spdmNext : Nat
  deriving DecidableEq, Repr

def MgmtPort.reset : MgmtPort := { hellos := [], sessions := [], next := 1, fails := [], lockUntil := none }

/-- UNASSIGNED, epoch and era 0, no key, no credential, life cycle MANUFACTURED, no firmware staged (R427, R430, R438; the
values of fuses and store at first power are the model's, log 90). -/
def SecState.reset : SecState :=
  { tenancy := .unassigned, epoch := 0, era := 0, curGen := 0, deviceId := 0, resuming := false, localMode := false,
    certified := false, tenantId := 0, tenantRoot := 0, imageKey := none, consentKey := none, keys := [], departMask := 0,
    departed := false, departures := 0, bindAt := 0, waiters := [], rel := .none, decommission := none, ten := .none,
    storeCopies := 2, records := 0, lcA := 0, lcB := 0, lcPending := none, dus := none, creds := [], selfPass := .mk1 false,
    entropyOk := .mk1 false, failedTest := .mk1 0, mgmt := .mk1 .reset, debugScopes := 0, debugUntil := 0, challenge := none,
    jtagSeen := false, fuses := ⟨0, 0, 0, 0, []⟩, flash := [], bootSlot := 0, meas1 := 0, meas2 := 0, meas3 := 0, meas4 := 0,
    meas5 := 0, meas9 := 0, meas11 := 0, meas12 := 0, spdm := [], spdmNext := 1 }

end Sys2Proof.Machine
end

