-- ==== Sys2Proof/Machine/StateTsc.lean ====
section
/-!
DEFINITION. State of the traffic scheduler and of PTP: class queues, deficits, token buckets, gate control lists, the
servo and the time error (chapter 13).
-/
namespace Sys2Proof.Machine

/-- What a port sends. -/
inductive WirePkt where
  | data (h : KHdr) (payload tag : List Byte)
  | ack (a : KAck)
  | connectReq (r : ConnReq)
  | connectRsp (r : ConnRsp)
  | close (dconn cgen : Nat)
  | closeAck (dconn cgen : Nat)
  | heartbeat (peer : Nat) (b : Beat)
  | ptp (kind : PtpKind) (seq ts : Nat) (clock : Option PtpClock)
  deriving DecidableEq, Repr

/-- A packet in a class queue: what it is, the connection it belongs to, the PSN of a sequenced packet, its wire bytes,
when it entered, its entropy value and its destination peer entry. -/
structure QPkt where
  pkt  : WirePkt
  conn : Nat
  psn  : Option Nat
  wire : Nat
  at_  : Nat
  e    : Nat
  peer : Nat
  deriving DecidableEq, Repr

/-- One egress port (R402 to R405). -/
structure EgressPort where
  up      : Bool
  /-- By class; a class not listed is empty. -/
  queues  : NMap (List QPkt)
  deficit : NMap Nat
  ptr     : Nat
  /-- Tokens of each class's bucket, in bytes; a bucket not listed holds none. -/
  tokens  : NMap Int
  /-- KTB of the last refill and of the last sample taken. -/
  refillAt : Nat
  sampleAt : Nat
  /-- REFILL_NS and the RATE of each class that stand until the next refill, where a commit has switched TSC since the last one
  (R406). -/
  held     : Option (Nat × NMap Nat)
  deriving DecidableEq, Repr

def EgressPort.empty : EgressPort := ⟨false, [], [], 6, [], 0, 0, none⟩

/-- A gate control list as it was committed (R410). -/
structure Gcl where
  base  : Nat
  phase : Nat
  cycle : Nat
  /-- Mask and duration. -/
  entries : List (Nat × Nat)
  deriving DecidableEq, Repr

/-- A pending list and its takeover time; `none` in place of a list opens every gate (R413). -/
structure GclPend where
  list : Option Gcl
  at_  : Nat
  late : Bool
  deriving DecidableEq, Repr

/-- PTP port states (TSC_PTP_STATUS.PORT_STATE). -/
inductive PtpSt where
  | disabled | listening | uncalibrated | slave | master | passive | faulty
  deriving DecidableEq, Repr

def PtpSt.code : PtpSt → Nat
  | .disabled => 0
  | .listening => 1
  | .uncalibrated => 2
  | .slave => 3
  | .master => 4
  | .passive => 5
  | .faulty => 6

structure PtpState where
  st      : PtpSt
  port    : Nat
  locked  : Bool
  everLocked : Bool
  /-- Consecutive offsets with |θ| below 100 ns. -/
  good    : Nat
  /-- The last offsets, newest first, at most eight. -/
  thetas  : List Int
  tSync   : Option Nat
  /-- A two-step Sync that awaits its Follow_Up: port, sequence number, time stamp of arrival. -/
  half    : Option (Nat × Nat × Nat)
  /-- A Delay_Req in flight: sequence number and time stamp of departure. -/
  delayReq : Option (Nat × Nat)
  /-- Times of the last Sync: departure at the master and arrival here. -/
  t1      : Nat
  t2      : Nat
  mpd     : Nat
  nextSeq : Nat
  /-- Datasets announced, by port. -/
  foreign : NMap PtpClock
  /-- Last offset. -/
  theta   : Int
  sentAt  : NMap Nat
  deriving DecidableEq, Repr

/-- One sample bank of a class queue: depth and delay maxima. -/
structure QMax where
  depth : Nat
  delay : Nat
  deriving DecidableEq, Repr

structure TscState where
  ports   : NMap EgressPort
  running : PerYoke (Option Gcl)
  pend    : PerYoke (Option GclPend)
  takeAt  : PerYoke Nat
  /-- Nominal open time of each class's present window and the excess then: Yoke number × 8 + class. -/
  opens   : NMap (Nat × Nat)
  drift   : PerYoke Bool
  ptp     : PtpState
  /-- Depth and delay maxima, live, latched and copied, by port × 8 + class. -/
  maxLive : NMap QMax
  maxLatched : NMap QMax
  maxCopy : NMap QMax
  deriving DecidableEq, Repr

def PtpState.reset : PtpState :=
  { st := .disabled, port := 0, locked := false, everLocked := false, good := 0, thetas := [], tSync := none,
    half := none, delayReq := none, t1 := 0, t2 := 0, mpd := 0, nextSeq := 0, foreign := [], theta := 0, sentAt := [] }

/-- No port up, every gate open, no master; TSC_TE reads DRIFT = 1 before the first lock (R417, R418). -/
def TscState.reset : TscState :=
  { ports := [], running := .mk1 none, pend := .mk1 none, takeAt := .mk1 0, opens := [], drift := .mk1 true, ptp := .reset,
    maxLive := [], maxLatched := [], maxCopy := [] }

end Sys2Proof.Machine
end

