-- ==== Sys2Proof/Machine/StateOut.lean ====
section
/-!
DEFINITION. What the device hands to the outside: the records, packets, interrupts and answers the rules name,
in the order they are handed over.
-/
namespace Sys2Proof.Machine

/-- Kinds of stream record (R245). -/
inductive StreamKind where
  | tokens | endRec | toolcall | rollback | resume | pad
  deriving DecidableEq, Repr

def StreamKind.code : StreamKind → Nat
  | .tokens => 1
  | .endRec => 2
  | .toolcall => 3
  | .rollback => 4
  | .resume => 5
  | .pad => 6

/-- A stream record (R245). -/
structure StreamRec where
  kind     : StreamKind
  status   : Status
  handle   : Nat
  ktb      : Nat
  pos      : Nat
  lenAfter : Nat
  a        : Nat
  b        : Nat
  /-- TOKENS: TAG and the token IDs. -/
  tag      : Word
  tokens   : List Nat
  /-- RESUME: INBOX_RD, CALL_ID and the tokens taken in. -/
  inboxRd  : Nat
  callId   : Nat
  taken    : Nat
  deriving DecidableEq, Repr

/-- Bytes of a stream record: 128 for TOKENS, 64 otherwise (R245). -/
def StreamRec.bytes (r : StreamRec) : Nat := if r.kind = .tokens then 128 else 64

/-- Events posted to the management plane, each named by the rule that posts it. -/
inductive MgmtEvent where
  /-- R59: a domain peer diverges. -/
  | divergence (peer : Nat)
  /-- R529: a junction crossed THERM_ALARM_C. -/
  | thermAlarm (die : Die)
  /-- R569: a rail read back outside its range. -/
  | railFault (rail : Nat)
  /-- R418: DRIFT alarm. -/
  | drift (y : Yoke)
  /-- R482: a core is fenced: die, kind of core, number. -/
  | coreFenced (die : Die) (kind n : Nat)
  /-- R164: wear alert of a drive. -/
  | wear (drive : Nat)
  /-- R162: a drive failed. -/
  | driveFailed (drive : Nat)
  /-- A change of the tenancy state (R432): the new state's code. -/
  | tenancy (st : Nat)
  /-- A change of primacy (R487): the new epoch. -/
  | primacy (epoch : Nat)
  /-- R424: an entropy test failed on a Yoke. -/
  | entropyFail (y : Yoke)
  /-- The certified configuration changed (R449). -/
  | certChange
  /-- A halt wave (R512): the source code. -/
  | halt (cause : Nat)
  /-- A resume finds the era at its end (R435). -/
  | eraEnd
  /-- A debug scope was unlocked or locked (R458). -/
  | debug (scopes : Nat)
  deriving DecidableEq, Repr

/-- One thing handed to the outside. -/
inductive Emission where
  /-- Outcome of a control access: status, and the value read (0 for a write). -/
  | access (st : Status) (v : Word)
  /-- A completion entry written to a CQ (R300, R301). -/
  | cqe (qp : Nat) (e : Cqe)
  /-- A record written to an event ring (R306). -/
  | event (ring : Nat) (r : EventRec)
  /-- A record written to a stream ring (R245). -/
  | stream (ring : Nat) (r : StreamRec)
  /-- An MSI-X vector signalled (R308). -/
  | msix (vector : Nat)
  /-- Data written to a command's host buffer (DESC_READ, CONFIG_READ and the like): queue, command, bytes. -/
  | hostData (sq cid : Nat) (bytes : List Byte)
  /-- An event to the management plane. -/
  | mgmt (e : MgmtEvent)
  /-- A Fallow message to a neighbour (R531): neighbour, KIND, ROUND, KTB, HINT. -/
  | fallowMsg (nb kind round ktb hint : Nat)
  /-- A packet handed to an Ethernet port (R403). -/
  | packet (port : Nat) (p : QPkt)
  /-- An inbox write forwarded with its doorbell to the target of a migration in TC4 (R69). -/
  | forward (device handle off : Nat) (data : List Byte)
  /-- Frames of an exported stack written raw over a route, behind their sealed unit (R481): connection, address, frames. -/
  | exported (conn addr : Nat) (frames : List (List Byte × List Byte))
  /-- A migration message written into the peer's mailbox over a connection (R490). -/
  | migMsg (conn : Nat) (h : MigHdr) (b : MigBody)
  /-- A heartbeat to the partner Yoke: sender, P, and whether it goes over the ring (R487). -/
  | partnerBeat (y : Yoke) (p : Nat) (ring : Bool)
  /-- CLAIM(P) sent to every reachable Acre, and an Acre's answer: `none` a vote, else the time its lease has left (R487). -/
  | claim (y : Yoke) (p : Nat)
  | claimAnswer (a : Acre) (y : Yoke) (wait : Option Nat)
  /-- A response of the management plane (R452). -/
  | mgmtRsp (port : Yoke) (r : MgmtRsp)
  /-- An EVENT message to a subscribed session: port, session, SEQ (R452, R455). -/
  | mgmtEvent (port : Yoke) (session seq : Nat)
  /-- The value shifted out by a JTAG instruction: Yoke and value. -/
  | jtag (y : Yoke) (v : Nat)
  /-- Scan blocks shifted out over the TAP (R515, R516). -/
  | jtagScan (y : Yoke) (b : MgmtBody)
  deriving DecidableEq, Repr

end Sys2Proof.Machine
end

