-- ==== Sys2Proof/Machine/StatePower.lean ====
section
/-!
DEFINITION. State of the start stages, the straps and control pins, core voltage, power, temperature, the
Fallow agreement, the host port selection and the TAP (chapters 17 and 18).
-/
namespace Sys2Proof.Machine

/-- PWR_STATE of R530. -/
inductive PwrMode where
  | start | active | preparing | fallow | waking | halted
  deriving DecidableEq, Repr

def PwrMode.code : PwrMode → Nat
  | .start => 0
  | .active => 1
  | .preparing => 2
  | .fallow => 3
  | .waking => 4
  | .halted => 5

/-- PWR_STAGE.STAGE (R517, R523): the stage now running, or SERVING. -/
inductive Stage where
  | s0 | s1 | s2 | s3 | serving
  deriving DecidableEq, Repr

def Stage.code : Stage → Nat
  | .s0 => 0
  | .s1 => 1
  | .s2 => 2
  | .s3 => 3
  | .serving => 4

/-- PWR_STAGE.CAUSE: the last reset. -/
inductive ResetCause where
  | powerOn | resetN | management
  deriving DecidableEq, Repr

def ResetCause.code : ResetCause → Nat
  | .powerOn => 0
  | .resetN => 1
  | .management => 2

/-- What the Fallow page and the answers say of one neighbour (PWR_FALLOW_NB_STATUS, R531, R532). -/
structure Neighbour where
  lastKind : Nat
  answered : Bool
  accepted : Bool
  consent  : Bool
  /-- The neighbour's own round, of its last PROPOSE. -/
  round    : Nat
  /-- KTB at which CONSENT was set (its 60 s limit, R532). -/
  consentAt : Nat
  /-- COMMITTED has come for that round, so the 60 s limit no longer runs. -/
  committed : Bool
  deriving DecidableEq, Repr

def Neighbour.empty : Neighbour := ⟨0, false, false, false, 0, 0, false⟩

/-- The Fallow agreement and PWR_FALLOW_STATUS (R530 to R540). -/
structure FallowState where
  mode       : PwrMode
  lastStatus : Nat
  round      : Nat
  deferred   : Nat
  neighbours : NMap Neighbour
  /-- HINT of the present round's PROPOSE: the latest answer time. -/
  hint       : Nat
  /-- Step 2 of R534 is done: the Chest is quiesced and CLEAN is written. -/
  quiesced   : Bool
  /-- KTB of the commit point. -/
  commitAt   : Option Nat
  /-- KTB of the self-wake (R539). -/
  selfWake   : Option Nat
  /-- KTB at which the wake began (R538 step 1). -/
  wakeAt     : Option Nat
  lastWakeNs : Nat
  /-- The ENTER was written by this writer's tag and awaits its end. -/
  entering   : Bool
  deriving DecidableEq, Repr

/-- Read-back of one rail (PWR_RAIL, R569). -/
structure Rail where
  mv  : Nat
  dA  : Nat
  deriving DecidableEq, Repr

/-- The instruction in one Yoke's 8-bit JTAG instruction register (R566). -/
inductive JtagInstr where
  | bypass | idcode | samplePreload | extest | clamp | highz | scanout
  deriving DecidableEq, Repr

/-- Start-up, power, temperature, pins and Fallow. -/
structure PowerState where
  pwrgood     : Bool
  /-- RESET_N rose before Stage 0 ended, so the reset acts when Stage 0 ends (R556). -/
  resetHeld   : Bool
  /-- HALT_IN_N has been held low across a reset and has not risen since (R556). -/
  haltInLow   : Bool
  /-- Straps sampled at PWRGOOD (R557): `true` means 1, YE and H1. -/
  primaryPref : Bool
  hostSel     : Bool
  stage       : Stage
  /-- KTB at which the present stage began. -/
  stageAt     : Nat
  /-- KTB at which Stage 1 began (R521). -/
  stage1At    : Nat
  failCode    : Nat
  fwSlot      : Nat
  cause       : ResetCause
  stageMs0    : Nat
  stageMs1    : Nat
  stageMs2    : Nat
  /-- The host port whose link has reached L0 (R521), and the active port. -/
  hostLink    : PerYoke Bool
  hostActive  : Option Yoke
  targetMv    : Nat
  readMv      : Nat
  capping     : Bool
  /-- KTB of the last voltage step (R526, R527). -/
  avsStepAt   : Nat
  energyUj    : Nat
  /-- Start of the present 10 ms and 1 s windows: KTB and ENERGY_UJ then (R527). -/
  win10       : Nat × Nat
  win1        : Nat × Nat
  mean10ms    : Nat
  mean1s      : Nat
  max10ms     : Nat
  /-- Read-backs of the rails, by rail index. -/
  rails       : NMap Rail
  thermtrip   : Bool
  jtag        : PerYoke JtagInstr
  fallow      : FallowState
  /-- Acres online (R522). -/
  online      : PerAcre Bool
  deriving DecidableEq, Repr

def FallowState.reset : FallowState :=
  { mode := .start, lastStatus := 0, round := 0, deferred := 0, neighbours := [], hint := 0, quiesced := false,
    commitAt := none, selfWake := none, wakeAt := none, lastWakeNs := 0, entering := false }

/-- Power good is low: nothing runs (R517). The straps read 0 until they are sampled (log 91). -/
def PowerState.reset : PowerState :=
  { pwrgood := false, resetHeld := false, haltInLow := false, primaryPref := false, hostSel := false, stage := .s0,
    stageAt := 0, stage1At := 0, failCode := 0, fwSlot := 0, cause := .powerOn, stageMs0 := 0, stageMs1 := 0, stageMs2 := 0,
    hostLink := .mk1 false, hostActive := none, targetMv := 800, readMv := 0, capping := false, avsStepAt := 0,
    energyUj := 0, win10 := (0, 0), win1 := (0, 0), mean10ms := 0, mean1s := 0, max10ms := 0, rails := [], thermtrip := false,
    jtag := .mk1 .idcode, fallow := .reset, online := .mk1 false }

end Sys2Proof.Machine
end

