-- ==== Sys2Proof/Machine/StateTime.lean ====
section
/-!
DEFINITION. State of the timebase, the register file, the staged-configuration commit, the configuration
domain and the die-to-die links (chapter 01).
-/
namespace Sys2Proof.Machine

/-- The Korneroth timebase (R43 to R46). -/
structure TimeState where
  /-- Stage 0 has started the count (R43). -/
  running   : Bool
  /-- The KTB copy of each die, in ns (R43, R45). -/
  ktb       : PerDie Nat
  /-- The 32-bit fractional accumulator of each Yoke's timebase PHY (R43). -/
  frac      : PerYoke Nat
  /-- What the division of the frequency adjustment has left over, in parts of 10^11 of a fraction unit
  (DESIGN CHOICE, log 12: nothing is lost to rounding). -/
  freqRem   : PerYoke Nat
  /-- Offset still to be removed by the slew, in units of 2^-32 ns (R44). -/
  slew      : PerYoke Int
  /-- KTB at which PPS_OUT last rose (R46). -/
  ppsRise   : Option Nat
  deriving DecidableEq, Repr

/-- The register file: values differing from reset, keyed by control address and index (R571, R573). -/
structure RegStore where
  /-- Live views of staged registers, and the one view of every other register. -/
  live   : NMap Word
  /-- Shadow views of staged registers (R47). -/
  shadow : NMap Word
  deriving DecidableEq, Repr

/-- A commit between step 2 and step 6 of R49. -/
structure PendingCommit where
  gen       : Nat
  mask      : Nat
  applyAt   : Nat
  plane     : Plane
  tag       : Nat
  scheduled : Bool
  /-- KTB at which PREPARE was sent (step 2). -/
  sentAt    : Nat
  /-- Dies that have not answered. -/
  silent    : List Die
  /-- The FAIL of the failing die with the lowest code, if any die answered FAIL. -/
  failed    : Option (Die × Status)
  /-- The CONFIG_COMMIT command or the management request that awaits the outcome. -/
  cmd       : Option (Nat × Nat)
  req       : Option MgmtReq
  deriving DecidableEq, Repr

/-- CFG_DOMAIN_STATUS.STATE (R58). -/
inductive DomainState where
  | none | joined | refused | joinedMismatch
  deriving DecidableEq, Repr

/-- A peer of the own domain whose valid fingerprint differs (R59). -/
structure Divergence where
  /-- KTB since which the fingerprints differ. -/
  since   : Nat
  /-- The peer is counted as divergent. -/
  counted : Bool
  deriving DecidableEq, Repr

/-- The commit machine, the fingerprint and the domain (R49 to R59). -/
structure CfgState where
  liveGen   : BitVec 16
  pendingC  : Option PendingCommit
  fpValid   : Bool
  fp        : BitVec 384
  domain    : DomainState
  /-- Divergent peers, by KLT peer entry. -/
  divergent : NMap Divergence
  deriving DecidableEq, Repr

/-- A die-to-die link of R28. -/
inductive Link where
  | ywA0 | ywA1 | yeA2 | yeA3 | a0A1 | a1A2 | a2A3 | a3A0 | ywYe
  deriving DecidableEq, Repr

/-- KTB is zero and stopped at power-on; Stage 0 starts it (R43, R519). -/
def TimeState.reset : TimeState :=
  { running := false, ktb := .mk1 0, frac := .mk1 0, freqRem := .mk1 0, slew := .mk1 0, ppsRise := none }

/-- Every register at its reset value: nothing listed (R19). -/
def RegStore.reset : RegStore := { live := [], shadow := [] }

/-- No commit pending, generation 0, no fingerprint, no domain (R49, R56, R58). -/
def CfgState.reset : CfgState :=
  { liveGen := 0, pendingC := none, fpValid := false, fp := 0, domain := .none, divergent := [] }

end Sys2Proof.Machine
end

