-- ==== Sys2Proof/Machine/State.lean ====
section
/-!
DEFINITION. The machine's state, the reasons a step can stop, and the state after reset.
-/
namespace Sys2Proof.Machine

/-- Reasons a step stops with a fault. -/
inductive Fault where
  /-- Raised by no command of this model: every rule of the spec gives an effect or a status. Safe. -/
  | none
  deriving DecidableEq, Repr

/-- Reasons a command is refused. -/
inductive Refusal where
  /-- The command of this mnemonic has no meaning in the model yet; raised by `exec` alone. Safe. -/
  | notModelled (mnemonic : String)
  deriving DecidableEq, Repr

/-- The state of the whole device. -/
structure State where
  /-- The model's own: how many free values have been drawn. -/
  freeCtr : Nat
  time  : TimeState
  regs  : RegStore
  cfg   : CfgState
  /-- Die-to-die links that are fenced (R30). -/
  links : List Link
  power : PowerState
  bur   : BureauState
  tier  : TierState
  chest : ChestState
  fur   : FurrowState
  gen   : GenState
  gln   : GlnState
  tin   : TineState
  sync  : SyncState
  host  : HostState
  klt   : KltState
  tsc   : TscState
  sec   : SecState
  ckp   : CkptState
  obs   : ObsState
  /-- Commands waiting, first in, first out. -/
  pending : List Instr
  /-- What the device has handed to the outside, newest first. -/
  out   : List Emission
  deriving DecidableEq, Repr

/-- The machine right after the power supplies have come up and before PWRGOOD rises: every register at its
reset value, no session, no object, the queue empty (R19, R517). -/
def State.reset : State :=
  { freeCtr := 0, time := .reset, regs := .reset, cfg := .reset, links := [], power := .reset, bur := .reset,
    tier := .reset, chest := .reset, fur := .reset, gen := .reset, gln := .reset, tin := .reset, sync := .reset, host := .reset, klt := .reset, tsc := .reset,
    sec := .reset, ckp := .reset, obs := .reset, pending := [], out := [] }

end Sys2Proof.Machine
end

