-- ==== Sys2Proof/Machine/Ops.lean ====
section
/-!
DEFINITION. The named operations every family uses: drawing a free value, reading the clock, the register file,
handing records to the outside, completing a command, event rings, stream rings, program events, descriptors and
their commits.
-/
namespace Sys2Proof.Machine

/-- The outcome of a command that leaves state `s`. -/
def ok (s : State) : Host.Outcome State Fault Refusal := .next s

/-- The control and data planes run: power is good, Stage 1 has ended, and no halt wave stands (R512, R518). -/
def planesRun (s : State) : Bool :=
  s.power.pwrgood && !s.obs.halted && (s.power.stage = .s2 || s.power.stage = .s3 || s.power.stage = .serving)

/-- A command of the control or data plane: nothing happens while the planes stand still. -/
def running (s : State) (o : Host.Outcome State Fault Refusal) : Host.Outcome State Fault Refusal :=
  if planesRun s then o else .next s

/-- Hand something to the outside. -/
def emit (e : Emission) (s : State) : State := { s with out := e :: s.out }

/-- Post an event to the management plane: every session subscribed gets an EVENT message (R455). -/
def mgmtPost (e : MgmtEvent) (s : State) : State :=
  Yoke.all.foldl (fun s y =>
    let p := s.sec.mgmt.get y
    let s := (p.sessions.filter (fun x => x.2.subscribed)).foldl (fun s x => emit (.mgmtEvent y x.1 (x.2.seqOut + 1)) s) s
    { s with sec := { s.sec with mgmt := s.sec.mgmt.set y { p with
      sessions := NMap.mapV p.sessions (fun _ x => if x.subscribed then { x with seqOut := x.seqOut + 1 } else x) } } })
    (emit (.mgmt e) s)

/-- Count one free value drawn. -/
def drew (s : State) : State := { s with freeCtr := s.freeCtr + 1 }

/-- The next free value, reduced below `n` (any number where `n` is 0). -/
def freeBelow (n : Nat) (s : State) : Nat := Config.free s.freeCtr % n

/-- The next `n` free bytes: undefined contents of a buffer (R18, R310, R336). -/
def freeBytes (n : Nat) (s : State) : List Byte := (List.range n).map (Config.freeByte s.freeCtr)

/-- The KTB copy of a die (R43, R45). -/
def ktbOf (s : State) (d : Die) : Nat := s.time.ktb.get d

/-- The device's reference: the KTB of the Yoke that holds primacy (R45). -/
def ktb (s : State) : Nat := ktbOf s (.yoke s.ckp.primary)

/-- The KTB stamp as a 64-bit value. -/
def ktb64 (s : State) : Word := BitVec.ofNat 64 (ktb s)

/-- The session's home Acre: slot bits [21:20] (R60). -/
def homeAcre (slot : Nat) : Acre := Acre.ofNum (slot / 2 ^ 20)

/-! ## The register file -/

/-- The register implemented on a die (R574). -/
def regOn (r : Reg) (d : Die) : Bool :=
  match r.dies, d with
  | .all, _ => true
  | .acres, .acre _ => true
  | .shared, .yoke _ => true
  | .yokes, .yoke _ => true
  | _, _ => false

/-- Key of a register's value: the control address of its one copy, then the index (R55, R571, R573). -/
def regKey (r : Reg) (d : Die) (i : Nat) : Nat :=
  let die := if r.dies = .shared then 0 else d.code
  ((die * 2 ^ 8 + r.block) * 2 ^ 28 + r.offset) * 2 ^ 32 + i

/-- The value of a register's fields at reset. -/
def fieldsReset (fs : List RegField) : Nat := fs.foldl (fun v f => v + f.reset * 2 ^ f.lo) 0

/-- Reset value of entry `i` of a register. KLT_CC and TSC_SHP give theirs by traffic class. -/
def regReset (r : Reg) (i : Nat) : Word :=
  let base := fieldsReset r.fields
  match r with
  | .KLT_CC => BitVec.ofNat 64 (base + (if i = 6 then 10000 else if i = 5 then 15000 else 0))
  | .TSC_SHP => BitVec.ofNat 64 (base + (if i = 7 then 1000 else 0))
  | _ => BitVec.ofNat 64 base

/-- The live value of a register's entry (the one value of a register that is not staged). -/
def live (s : State) (r : Reg) (d : Die) (i : Nat := 0) : Word :=
  NMap.get (regReset r i) s.regs.live (regKey r d i)

/-- The shadow value of a staged register's entry. -/
def shadow (s : State) (r : Reg) (d : Die) (i : Nat := 0) : Word :=
  NMap.get (regReset r i) s.regs.shadow (regKey r d i)

/-- Set a live value. -/
def setLive (r : Reg) (d : Die) (i : Nat) (v : Word) (s : State) : State :=
  { s with regs := { s.regs with live := NMap.putD (regReset r i) s.regs.live (regKey r d i) v } }

/-- Set a shadow value. -/
def setShadow (r : Reg) (d : Die) (i : Nat) (v : Word) (s : State) : State :=
  { s with regs := { s.regs with shadow := NMap.putD (regReset r i) s.regs.shadow (regKey r d i) v } }

/-- Bits [hi:lo] of a live value, as a number. -/
def liveF (s : State) (r : Reg) (d : Die) (i hi lo : Nat) : Nat := field (live s r d i) hi lo

/-- Set bits [hi:lo] of a live value. -/
def setLiveF (r : Reg) (d : Die) (i hi lo v : Nat) (s : State) : State :=
  setLive r d i (setField (live s r d i) hi lo v) s

/-- Add to a saturating counter in bits [hi:lo] of a live value. -/
def bumpF (r : Reg) (d : Die) (i hi lo n : Nat) (s : State) : State :=
  setLiveF r d i hi lo (min (liveF s r d i hi lo + n) (2 ^ (hi + 1 - lo) - 1)) s

/-- A field of a register of the primary Yoke, or of a register both Yokes hold alike. -/
def primF (s : State) (r : Reg) (i hi lo : Nat) : Nat := liveF s r (.yoke s.ckp.primary) i hi lo

/-- The Yoke of the active host port (R27, R521); the primary while none is active. -/
def hostYoke (s : State) : Yoke := s.power.hostActive.getD s.ckp.primary

/-! ## Descriptors -/

/-- The directory entry of a slot. -/
def dirOf (s : State) (slot : Nat) : DirEntry := NMap.get .empty s.bur.dir slot

/-- The home copy of a slot's descriptor; one not listed is FREE with GEN 1 and the current epoch (R62). -/
def homeDesc (s : State) (slot : Nat) : Desc := NMap.get (Desc.freeOf 1 s.sec.epoch) s.bur.home slot

/-- The descriptor as the latest commit left it: the owning Shelf's line, a write-back in flight, or the home
copy (R88, R89). -/
def desc (s : State) (slot : Nat) : Desc :=
  let e := dirOf s slot
  match e.st with
  | .owned a =>
    match e.wb with
    | some d => d
    | none =>
      match NMap.get? (s.bur.shelf.get a) slot with
      | some l => l.copy
      | none => homeDesc s slot
  | _ => homeDesc s slot

/-! ## Accounting (R499, R501, R502) -/

/-- The period boundary of the primary Yoke is due: updates belong to the next period (R497). -/
def acctDue (s : State) : Bool := decide ((s.obs.dies.get (.yoke s.ckp.primary)).due ≤ ktb s)

/-- Add to a 64-bit counter of a table; whether it wrapped. -/
def countIn (m : NMap Nat) (k n : Nat) : NMap Nat × Bool :=
  let v := NMap.get 0 m k + n
  (NMap.putD 0 m k (v % 2 ^ 64), decide (2 ^ 64 ≤ v))

/-- A counter wrapped: the group's flag is set (R499). -/
def ovf (d : Die) (b : Nat) (w : Bool) (s : State) : State := if w then setLiveF .OBS_OVF d 0 b b 1 s else s

/-- Add to a counter of an account: level 1 for indices 0 to 8 (R501, R502). -/
def acctAdd (account idx n : Nat) (s : State) : State :=
  if n = 0 then s
  else
    let k := account * 64 + idx
    let o := s.obs
    let due := acctDue s
    let m := if idx < 9 then (if due then o.lvl1Next else o.lvl1) else (if due then o.acctNext else o.acct)
    let (m, w) := countIn m k n
    let o := if idx < 9 then (if due then { o with lvl1Next := m } else { o with lvl1 := m })
      else (if due then { o with acctNext := m } else { o with acct := m })
    ovf (.yoke s.ckp.primary) 6 w { s with obs := o }

/-! ## Trace (R505 to R511) -/

/-- The region a die's records go to (R505). -/
def traceAcre : Die → Acre
  | .acre a => a
  | .yoke .yw => .a0
  | .yoke .ye => .a2

def putTrace (a : Acre) (t : Trace) (s : State) : State := { s with obs := { s.obs with trace := s.obs.trace.set a t } }

/-- Trace of the Acre takes records. -/
def tracing (t : Trace) : Bool := t.st = .running || t.st = .post

/-- TRIGGER_CENTRED (R508). -/
def Trace.centred (t : Trace) : Bool := bit t.cfg 5

/-- 16-B units of records. -/
def unitsOfRecs (rs : List TraceRec) : Nat := rs.foldl (fun n r => n + r.units) 0

/-- A record as its bytes (R506). -/
def TraceRec.bytes (r : TraceRec) : List Byte :=
  let b := [BitVec.ofNat 8 r.kind, BitVec.ofNat 8 r.units, BitVec.ofNat 8 r.die, BitVec.ofNat 8 r.trig.toNat] ++ leBytes 4 r.a ++
    leBytes 8 r.ktb ++ r.body
  b ++ List.replicate (16 * r.units - b.length) 0

/-- The 4,112-B unit of a frame: the sealed frame and its tag (R507, R511). -/
def traceUnit (a : Acre) (n : Nat) (f : TraceFrame) : List Byte :=
  let b := f.recs.flatMap TraceRec.bytes
  let (c, tag) := Config.sealTrace a.num n f.pass (b ++ List.replicate (4096 - b.length) 0)
  c ++ tag

/-- Send one frame of a region to the export ring in TC1, then the producer count with a doorbell (R511). -/
def traceSend (a : Acre) (n : Nat) (s : State) : State :=
  let t := s.obs.trace.get a
  match NMap.get? t.frames n with
  | none => s
  | some f =>
    let conn := liveF s .OBS_TRACE_EXPORT (.acre a) 0 23 0
    let size := 2 ^ liveF s .OBS_TRACE_EXPORT (.acre a) 0 30 26
    let base := (live s .OBS_TRACE_EXP_BASE (.acre a)).toNat
    let key := liveF s .OBS_TRACE_EXP_KEY (.acre a) 0 31 0
    let u := traceUnit a n f
    let room := size - t.producer % size
    let post := fun (addr : Nat) (bs : List Byte) (db : Bool) =>
      ({ conn := conn, tc := 1, op := .write addr key bs db, src := .trace a.num } : KltReq)
    let parts := [post (base + t.producer % size) (u.take room) false] ++
      (if u.length ≤ room then [] else [post base (u.drop room) false]) ++
      [post (base + size) (leBytes 8 (t.producer + 4112)) true]
    putTrace a { t with producer := t.producer + 4112, unsent := t.unsent.filter (· ≠ n) }
      { s with klt := { s.klt with reqs := s.klt.reqs ++ parts } }

/-- The export connection can be used. Whether the ring takes a unit is free: the spec names no consumer count. -/
def exportOpen (s : State) (a : Acre) : Bool :=
  match NMap.get? s.klt.conns (liveF s .OBS_TRACE_EXPORT (.acre a) 0 23 0) with
  | some c => c.st = .open_
  | none => false

/-- Send what STREAM has not sent. -/
def traceExport (a : Acre) (s : State) : State :=
  let t := s.obs.trace.get a
  if t.unsent.isEmpty || !exportOpen s a then s
  else if freeBelow 2 s = 0 then drew s
  else t.unsent.foldl (fun s n => traceSend a n s) (drew s)

/-- DRAIN of a stopped region: oldest surviving frame to newest (R511). -/
def traceDrain (a : Acre) (s : State) : State :=
  let t := s.obs.trace.get a
  if t.st = .stopped && liveF s .OBS_TRACE_EXPORT (.acre a) 0 25 24 = 2 && exportOpen s a then
    let ks := NMap.keys t.frames
    (ks.filter (t.wr ≤ ·) ++ ks.filter (· < t.wr)).foldl (fun s n => traceSend a n s) s
  else s

/-- Write the frame being filled (R507, R508): the region full ends STOP_ON_FULL and wraps TRIGGER_CENTRED. -/
def frameWrite (a : Acre) (s : State) : State :=
  let t := s.obs.trace.get a
  if t.buf.isEmpty then s
  else
    let full := decide (t.gib * 2 ^ 18 ≤ t.wr + 1)
    let wrap := full && t.centred && decide (0 < t.gib)
    let t' : Trace := { t with
      frames := if t.gib = 0 then t.frames else NMap.put t.frames t.wr ⟨t.pass, t.buf⟩, buf := [],
      miss := if t.unsent.contains t.wr then min (t.miss + 1) (2 ^ 26 - 1) else t.miss,
      unsent := t.unsent.filter (· ≠ t.wr) ++ (if liveF s .OBS_TRACE_EXPORT (.acre a) 0 25 24 = 1 then [t.wr] else []),
      wr := if wrap then 0 else t.wr + 1, wrapped := t.wrapped || wrap, pass := if wrap then t.pass + 1 else t.pass,
      st := if full && !wrap then .stopped else t.st, reason := if full && !wrap then 1 else t.reason }
    traceExport a (putTrace a t' s)

/-- Trace stops for a reason: the partial frame is written (R507, R508). -/
def traceStop (a : Acre) (reason : Nat) (s : State) : State :=
  if tracing (s.obs.trace.get a) then
    let s := frameWrite a s
    traceDrain a (putTrace a { s.obs.trace.get a with st := .stopped, reason := reason, postLeft := none } s)
  else s

/-- Add a record to the frame being filled; a record that does not fit begins the next frame. -/
def recAdd (a : Acre) (r : TraceRec) (s : State) : State :=
  let s := if 256 < unitsOfRecs (s.obs.trace.get a).buf + r.units then frameWrite a s else s
  let t := s.obs.trace.get a
  if !tracing t then s
  else
    let t := { t with buf := t.buf ++ [r], postLeft := t.postLeft.map (· - 16 * r.units), capBytes := t.capBytes + 16 * r.units }
    let s := putTrace a t s
    if unitsOfRecs t.buf = 256 then frameWrite a s else s

/-- A record of a die for the region of an Acre: kept where its KIND is enabled and its principal passes, dropped and counted where it
would exceed the cap (R506, R510). -/
def tracePostTo (a : Acre) (d : Die) (kind arg : Nat) (trig : Bool) (prin : Option Nat) (body : List Byte) (s : State) : State :=
  let t := s.obs.trace.get a
  let want := tracing t && t.postLeft != some 0 && bit t.cfg (12 + kind) && (bit t.cfg 35 || (match prin with
    | none => true
    | some p => p = field t.cfg 34 23))
  if !want then s
  else
    let win := ktbOf s (.acre a) / 10000
    let t := if t.capAt = win then t else { t with capAt := win, capBytes := 0 }
    let r : TraceRec := { kind := kind, units := 1 + (body.length + 15) / 16, die := d.code, trig := trig, a := arg % 2 ^ 32, ktb := ktbOf s d, body := body }
    let cap := liveF s .OBS_CTRL (.acre a) 0 33 32 * 20480
    let report := decide (0 < t.lostSince) && bit t.cfg 18
    let n := 16 * r.units + (if report then 16 else 0)
    if cap < t.capBytes + n then
      putTrace a { t with lost := min (t.lost + 1) (2 ^ 32 - 1), lostSince := t.lostSince + 1 } s
    else
      let s := putTrace a (if report then { t with lostSince := 0 } else t) s
      let s := if report then recAdd a { r with kind := 6, units := 1, trig := false, a := t.lostSince % 2 ^ 32, body := [] } s else s
      recAdd a r s

def tracePost (d : Die) (kind arg : Nat) (prin : Option Nat) (body : List Byte) (s : State) : State :=
  tracePostTo (traceAcre d) d kind arg false prin body s

/-- The trace trigger fires on a die (R508, R509): it reaches every Acre; the first one sets TRIG_TS, and with TRIGGER_CENTRED
TRIG_FRAME and the bytes still to be written. `src`: 0 status, 1 time, 2 stall, 3 input, 4 management. -/
def traceTrigger (d : Die) (src val : Nat) (s : State) : State :=
  Acre.all.foldl (fun s a =>
    if !tracing (s.obs.trace.get a) then s
    else
      let s := if 254 < unitsOfRecs (s.obs.trace.get a).buf then frameWrite a s else s
      let t := s.obs.trace.get a
      let first := t.trigTs.isNone
      let s := if first then putTrace a { t with trigTs := some (ktbOf s d), trigFrame := if t.centred then t.wr else t.trigFrame } s else s
      let s := tracePostTo a d 4 src first none (leBytes 8 val) s
      let t := s.obs.trace.get a
      if first && t.centred && t.st = .running then
        putTrace a { t with st := .post, postLeft := some (t.gib * 2 ^ 30 * field t.cfg 12 6 / 100) } s
      else s) s

/-- An operation has completed on a die: its OP record, and the trigger on STATUS (R506, R509). -/
def traceOp (d : Die) (arg op : Nat) (st : Status) (cls tAdmit prin : Nat) (s : State) : State :=
  let a := traceAcre d
  if !(Acre.all.any (fun b => tracing (s.obs.trace.get b))) then s
  else
    let body := [BitVec.ofNat 8 op, BitVec.ofNat 8 st.code, BitVec.ofNat 8 cls, 0] ++ leBytes 4 prin ++ leBytes 8 tAdmit ++
      leBytes 8 (ktbOf s d) ++ List.replicate 8 0
    let s := tracePost d 2 arg (some prin) body s
    if liveF s .OBS_TRACE_TRIG (.acre a) 0 8 8 = 1 && liveF s .OBS_TRACE_TRIG (.acre a) 0 7 0 = st.code then
      traceTrigger d 0 st.code s
    else s

/-! ## Interrupts, completion entries, event and stream rings (R300 to R308) -/

/-- Count one record against a vector's coalescing; signal it when COUNT is reached (R308). -/
def coalesce (c : Coalesce) (vector : Nat) (s : State) : Coalesce × State :=
  let need := liveF s .YOK_HQ_INT (.yoke (hostYoke s)) 0 39 32
  let first := if c.count = 0 then ktb s else c.firstAt
  if vector = 0xFFFF then (⟨0, 0⟩, s)
  else if need ≤ c.count + 1 then (⟨0, 0⟩, emit (.msix vector) s)
  else (⟨c.count + 1, first⟩, s)

/-- Write one completion entry into a CQ that has room, with its phase (R300). -/
def cqWrite (q : Nat) (qp : QPair) (e : Cqe) (s : State) : State :=
  let next := (qp.cqTail + 1) % qp.cqDepth
  let (c, s) := coalesce qp.coal qp.vector (emit (.cqe q { e with phase := qp.phase, sqHead := qp.sqHead % 2 ^ 16 }) s)
  let qp := { qp with cqTail := next, phase := (if next = 0 then !qp.phase else qp.phase), coal := c }
  { s with host := { s.host with qps := NMap.put s.host.qps q qp } }

/-- The CQ has no free entry. -/
def cqFull (qp : QPair) : Bool := (qp.cqTail + 1) % qp.cqDepth == qp.cqHead

/-- A completion entry goes into its CQ, or waits in order where the CQ is full (R300, R301). The entry of a deleted queue
pair is discarded (R525). -/
def cqPut (sq : Nat) (e : Cqe) (s : State) : State :=
  match NMap.get? s.host.qps sq with
  | none => s
  | some qp =>
    if cqFull qp || !qp.waiting.isEmpty then
      { s with host := { s.host with
        qps := NMap.put s.host.qps sq { qp with waiting := qp.waiting ++ [e] } } }
    else cqWrite sq qp e s

/-- Opcodes R302 assigns. -/
def opcAssigned (o : Nat) : Bool :=
  [(0x01, 0x06), (0x08, 0x0A), (0x0C, 0x0E), (0x10, 0x12), (0x20, 0x2C), (0x30, 0x39), (0x40, 0x44), (0x50, 0x50), (0x60, 0x68)].any
    (fun r => decide (r.1 ≤ o ∧ o ≤ r.2))

/-- A completion entry without SQ_HEAD and PHASE. -/
def cqeOf (sq cid : Nat) (st : Status) (r0 r1 : Nat) : Cqe :=
  { result0 := r0 % 2 ^ 32, cid := cid, sqHead := 0, status := st, phase := false, sqid := sq, result1 := r1 % 2 ^ 32 }

/-- Fetch the entries of an SQ in order (R296, R301): an entry with FENCE waits until every earlier command of its SQ has
completed; one with a reserved opcode completes ST_BAD_FORMAT. -/
def fetchLoop (sq : Nat) : Nat → State → State
  | 0, s => s
  | fuel + 1, s =>
    match NMap.get? s.host.qps sq with
    | none => s
    | some qp =>
      match qp.unfetched with
      | [] => s
      | c :: r =>
        if c.fence && s.host.outstanding.any (fun o => o.sq == sq) then s
        else
          let s := { s with host := { s.host with
            qps := NMap.put s.host.qps sq { qp with unfetched := r, sqHead := (qp.sqHead + 1) % qp.sqDepth } } }
          fetchLoop sq fuel (if opcAssigned c.opc then { s with host := { s.host with outstanding := s.host.outstanding ++ [{ c with at_ := ktb s }] } }
            else cqPut sq (cqeOf sq c.cid .badFormat 0 0) s)

/-- The principal a command of the Host Queue ABI works for (R502): its session's, its index's, else none (0). -/
def opPrin (s : State) (opc target : Nat) : Nat :=
  if 0x20 ≤ opc ∧ opc ≤ 0x37 ∨ 0x60 ≤ opc then
    (let d := desc s (target % 2 ^ 22)
     if d.gen = target / 2 ^ 22 % 2 ^ 10 ∧ d.state ≠ .free then d.principal else 0)
  else if 0x41 ≤ opc ∧ opc ≤ 0x44 then ((NMap.get? s.gln.indexes (target % 2 ^ 12)).elim 0 (fun x => x.principal))
  else 0

/-- The OP record and STATUS trigger of a command that completes (R506, R509). -/
def traceCmd (sq cid : Nat) (st : Status) (s : State) : State :=
  match s.host.outstanding.find? (fun c => c.sq == sq && c.cid == cid) with
  | none => s
  | some c => traceOp (.yoke (hostYoke s)) c.target c.opc st 0 c.at_ (opPrin s c.opc c.target) s

/-- Complete a command: it is no longer outstanding, its completion entry is posted, and entries that waited for it are
fetched. -/
def postCqe (sq cid : Nat) (st : Status) (r0 r1 : Nat) (s : State) : State :=
  let s := traceCmd sq cid st s
  let s := cqPut sq (cqeOf sq cid st r0 r1) { s with host := { s.host with
    outstanding := s.host.outstanding.filter (fun c => !(c.sq == sq && c.cid == cid)) } }
  fetchLoop sq ((NMap.get? s.host.qps sq).elim 0 (fun q => q.unfetched.length)) s

/-- Bytes free in a ring (R305). -/
def ringFree (r : Ring) : Nat := 2 ^ r.k - (r.producer - r.consumer)

/-- Write one 64-B event record into a ring that has room. -/
def eventWrite (ring : Nat) (r : Ring) (e : EventRec) (s : State) : State :=
  let (c, s) := coalesce r.coal r.vector (emit (.event ring e) s)
  { s with host := { s.host with
    events := NMap.put s.host.events ring { r with producer := r.producer + 64, coal := c } } }

/-- Post an event record (R306, R307): into the ring when it exists, has room and nothing waits; otherwise into
the buffer of 4,096, beyond which records are dropped and counted. Ring 0xFFFF: none. -/
def postEvent (ring : Nat) (e : EventRec) (s : State) : State :=
  if ring = 0xFFFF then s
  else
    let w := NMap.get EvWait.empty s.host.evWait ring
    match NMap.get? s.host.events ring with
    | some r =>
      if 64 ≤ ringFree r && w.waiting.isEmpty && w.lost == 0 then eventWrite ring r e s
      else if w.waiting.length < 4096 && w.lost == 0 then
        { s with host := { s.host with
          evWait := NMap.put s.host.evWait ring { w with waiting := w.waiting ++ [e] } } }
      else { s with host := { s.host with evWait := NMap.put s.host.evWait ring { w with lost := w.lost + 1 } } }
    | none =>
      if w.waiting.length < 4096 && w.lost == 0 then
        { s with host := { s.host with
          evWait := NMap.put s.host.evWait ring { w with waiting := w.waiting ++ [e] } } }
      else { s with host := { s.host with evWait := NMap.put s.host.evWait ring { w with lost := w.lost + 1 } } }

/-- The stream ring exists and has `n` bytes neither written nor reserved (R246). A ring that does not exist takes
no reservation: its records are dropped (R525). -/
def streamRoom (ring n : Nat) (s : State) : Bool :=
  match NMap.get? s.host.streams ring with
  | none => true
  | some r => n + r.reserved ≤ ringFree r

/-- Reserve stream space (R246). -/
def streamReserve (ring n : Nat) (s : State) : State :=
  { s with host := { s.host with
    streams := NMap.modify s.host.streams ring (fun r => { r with reserved := r.reserved + n }) } }

/-- Release a reservation. -/
def streamRelease (ring n : Nat) (s : State) : State :=
  { s with host := { s.host with
    streams := NMap.modify s.host.streams ring (fun r => { r with reserved := r.reserved - n }) } }

/-- A PAD record; the fields R245 gives it no meaning for are zero (log 206). -/
def padRec : StreamRec :=
  { kind := .pad, status := .ok, handle := 0, ktb := 0, pos := 0, lenAfter := 0, a := 0, b := 0, tag := 0, tokens := [], inboxRd := 0,
    callId := 0, taken := 0 }

/-- Write a stream record, after a PAD record where it would cross the ring end (R245). -/
def postStream (ring : Nat) (e : StreamRec) (s : State) : State :=
  match NMap.get? s.host.streams ring with
  | none => s
  | some r =>
    let room := 2 ^ r.k - r.producer % 2 ^ r.k
    let at_ := if e.bytes ≤ room then r.producer else r.producer + room
    let s := if e.bytes ≤ room then s else emit (.stream ring padRec) s
    let (c, s) := coalesce r.coal r.vector (emit (.stream ring e) s)
    { s with host := { s.host with
      streams := NMap.put s.host.streams ring { r with producer := at_ + e.bytes, coal := c } } }

/-! ## Program events (R284, R285) -/

/-- The resident image of an IMAGE_ID. -/
def imageOf (s : State) (id : Nat) : Option Image :=
  (NMap.vals s.tin.images).find? (fun i => i.id == id)

/-- The image has a handler for the event code. -/
def hasEntry (i : Image) (code : Nat) : Bool := i.entry.getD code 0xFFFFFFFF != 0xFFFFFFFF

/-- What the Bureau keeps of a session beside its descriptor. -/
def auxOf (s : State) (slot : Nat) : SessAux := NMap.get .dflt s.bur.aux slot

/-- Set it. -/
def setAux (slot : Nat) (x : SessAux) (s : State) : State :=
  { s with bur := { s.bur with aux := NMap.putD .dflt s.bur.aux slot x } }

/-- Queue an event of a session whose image is `imageId` (R284, R285): not queued where the image has no entry
for it; dropped, counted and remembered where the queue of 65,536 is full. -/
def raiseEvent (slot imageId code : Nat) (a b : Word) (s : State) : State :=
  match imageOf s imageId with
  | none => s
  | some i =>
    if !hasEntry i code then s
    else
      let acre := homeAcre slot
      let q := s.tin.evq.get acre
      if q.length < 65536 then
        { s with tin := { s.tin with evq := s.tin.evq.set acre (q ++ [⟨slot, code, a, b⟩]) } }
      else
        setAux slot { auxOf s slot with dropped := true } (bumpF .TIN_EVQ (.acre acre) 0 40 17 1 s)

/-! ## Descriptors -/

/-- Write the descriptor where `desc` reads it. -/
def putDesc (slot : Nat) (d : Desc) (s : State) : State :=
  let e := dirOf s slot
  match e.st with
  | .owned a =>
    match e.wb with
    | some _ => { s with bur := { s.bur with dir := NMap.put s.bur.dir slot { e with wb := some d } } }
    | none =>
      match NMap.get? (s.bur.shelf.get a) slot with
      | some l =>
        { s with bur := { s.bur with
          shelf := s.bur.shelf.set a (NMap.put (s.bur.shelf.get a) slot { l with copy := d }) } }
      | none => { s with bur := { s.bur with home := NMap.put s.bur.home slot d } }
  | _ => { s with bur := { s.bur with home := NMap.put s.bur.home slot d } }

/-- EOP of an engine operation (R333); 0 for a timer or wait. -/
def AsyncKind.eop : AsyncKind → Nat
  | .attn => 0x10
  | .append => 0x11
  | .srch => 0x12
  | .rwrite => 0x18
  | .rread => 0x19
  | .ckpt => 0x28
  | .park => 0x01
  | .timer _ => 0x22
  | .wait _ => 0x20

/-- The OP record and STATUS trigger of an engine operation of a session program (R506, R509). -/
def traceEop (slot eop stCode : Nat) (s : State) : State :=
  let d := desc s slot
  traceOp (.acre (homeAcre slot)) (d.gen * 2 ^ 22 + slot) (0x80 + eop) ((Status.ofCode stCode).getD .ok) 0
    (ktbOf s (.acre (homeAcre slot))) d.principal s

/-- The asynchronous operation of a session with a tag has ended: its event is queued, and the tag stays valid until
the event is dispatched. Where no event is queued the tag is invalid at once (R289, R334). -/
def asyncEnd (slot tag code : Nat) (b : Word) (s : State) : State :=
  if s.tin.asyncs.any (fun o => o.slot == slot && o.tag == tag && !o.ended) then
    let a := homeAcre slot
    let n := (s.tin.evq.get a).length
    let s := match s.tin.asyncs.find? (fun o => o.slot == slot && o.tag == tag && !o.ended) with
      | some o => traceEop slot o.kind.eop (if code = 6 then field b 7 0 else if code = 8 then field b 39 32 else 0) s
      | none => s
    let s := raiseEvent slot (desc s slot).imageId code (BitVec.ofNat 64 tag) b s
    if n < (s.tin.evq.get a).length then
      { s with tin := { s.tin with
        asyncs := s.tin.asyncs.map (fun o =>
          if o.slot = slot ∧ o.tag = tag then { o with ended := true } else o) } }
    else
      { s with tin := { s.tin with
        asyncs := s.tin.asyncs.filter (fun o => !(o.slot == slot && o.tag == tag)) } }
  else s

/-- A row of the checkpoint table (R462). -/
def ckptRow (s : State) (slot : Nat) : CkptRow := NMap.get .empty s.ckp.table slot

def setCkptRow (slot : Nat) (r : CkptRow) (s : State) : State :=
  { s with ckp := { s.ckp with table := NMap.putD .empty s.ckp.table slot r } }

/-- Change an Acre's shard of the epoch. -/
def setShard (a : Acre) (f : Shard → Shard) (s : State) : State :=
  { s with ckp := { s.ckp with epoch := s.ckp.epoch.map (fun e => { e with shards := e.shards.set a (f (e.shards.get a)) }) } }

/-- An Acre's shard; empty where no epoch has been marked. -/
def shardOf (s : State) (a : Acre) : Shard :=
  match s.ckp.epoch with
  | none => .empty
  | some e => e.shards.get a

/-- Every `ckpt` operation of a session that is under way ends (R467). -/
def ckptDone (slot : Nat) (st : Status) (s : State) : State :=
  (s.tin.asyncs.filter (fun o => o.slot = slot && o.kind = .ckpt && !o.ended)).foldl
    (fun s o => asyncEnd slot o.tag 6 (BitVec.ofNat 64 st.code) s) s

/-- Capture a selected descriptor that waits for it (R464 step 2, R467): CKPT_EPOCH, SEQ_LAST, ONCE and PIN_NEXT; the copy in
the shard is the one the marker met. -/
def captureSess (slot : Nat) (s : State) : State :=
  match s.ckp.epoch, NMap.get? (shardOf s (homeAcre slot)).sessions slot with
  | some e, some c =>
    if c.st ≠ .waiting then s
    else
      let d := desc s slot
      let s := setShard (homeAcre slot) (fun h => { h with sessions := NMap.put h.sessions slot { c with st := .captured } }) s
      let s := putDesc slot { d with ckptEpoch := e.e, floor := if c.row.pinNext then max d.floor c.desc.len else d.floor } s
      let s := setCkptRow slot { ckptRow s slot with once := false, pinNext := false, seqLast := d.seq } s
      ckptDone slot .ok s
  | _, _ => s

/-- Commit a change of a descriptor: SEQ rises by one (R65); a descriptor an open epoch has selected is captured first (R464). -/
def commitDesc (slot : Nat) (f : Desc → Desc) (s : State) : State :=
  let s := captureSess slot s
  let d := f (desc s slot)
  putDesc slot { d with seq := (d.seq + 1) % 2 ^ 64 } s

/-- The handle of a slot's present session (R60). -/
def handleOf (s : State) (slot : Nat) : Nat := (desc s slot).gen * 2 ^ 22 + slot

/-- SLOT of a handle (R60). -/
def slotOf (handle : Nat) : Nat := handle % 2 ^ 22

/-- GEN of a handle (R60). -/
def genOf (handle : Nat) : Nat := handle / 2 ^ 22 % 2 ^ 10

/-- Checks 1 to 3 of R63, in order: the status of the first that fails. -/
def handleCheck (s : State) (handle : Nat) : Option Status :=
  let d := desc s (slotOf handle)
  if s.sec.tenancy ≠ .bound ∨ d.tenancyEpoch ≠ s.sec.epoch then some .tenant
  else if genOf handle ≠ d.gen then some .staleGen
  else if d.state = .free ∨ d.state = .retiring then some .badHandle
  else none

/-- A STATE record is posted for a change from `a` to `b`: every change but those between PREFILL and DECODE
(R306). -/
def stateRecorded (a b : SState) : Bool :=
  !(a == b) && !((a == .prefill && b == .decode) || (a == .decode && b == .prefill))

/-- Commit a transition of R67: state, LAST_CHANGE and SEQ, and the STATE record of R306 with the status of the
operation that caused it. `f` makes the commit's other changes. -/
def commitState (slot : Nat) (dest : SState) (cause : Status) (f : Desc → Desc) (s : State) : State :=
  let old := (desc s slot).state
  let s := commitDesc slot (fun d => { f d with state := dest, lastChange := ktb s }) s
  let d := desc s slot
  let s := if old = dest then s else
    tracePost (.acre (homeAcre slot)) 1 (handleOf s slot) none
      ([BitVec.ofNat 8 old.code, BitVec.ofNat 8 dest.code, BitVec.ofNat 8 d.wakeCause.code, 0] ++ leBytes 4 d.seq ++ List.replicate 8 0) s
  if stateRecorded old dest then
    postEvent d.eventRing
      { kind := 1, status := cause, handle := handleOf s slot, ktb := ktb s, a := old.code, b := dest.code,
        c := d.seq, extra := [BitVec.ofNat 8 d.wakeCause.code] } s
  else s

/-! ## Outcomes of operations -/

/-- Write a general or context register of a Tine; g0 discards writes (R279, R318). -/
def setTineReg (c : TineCtx) (r : Nat) (v : Word) : TineCtx :=
  if r = 0 then c
  else if r < 32 then { c with g := NMap.putD 0 c.g r v }
  else { c with c := NMap.putD 0 c.c (r - 32) v }

/-- The die of a Tine: T000 to T255 on the Acres, 64 each; T256 to T271 on YW, T272 to T287 on YE (R24). -/
def tineDie (t : Nat) : Die :=
  if t < 256 then .acre (Acre.ofNum (t / 64))
  else if t < 272 then .yoke .yw
  else .yoke .ye

/-- Set the context of a running Tine. -/
def putTine (t : Nat) (c : TineCtx) (s : State) : State :=
  { s with tin := { s.tin with tines := NMap.put s.tin.tines t c } }

/-- The Tine runs nothing. -/
def freeTine (t : Nat) (s : State) : State :=
  { s with tin := { s.tin with tines := NMap.erase s.tin.tines t } }

/-- Count a handler trap in TIN_FAULTS of the Tine's Acre. -/
def countTrap (t : Nat) (st : Status) (handle : Nat) (s : State) : State :=
  let d := tineDie t
  setLiveF .TIN_FAULTS d 0 63 32 handle
    (setLiveF .TIN_FAULTS d 0 31 24 st.code (bumpF .TIN_FAULTS d 0 23 0 1 s))

/-- The FAULT record of a handler (R306, R323). -/
def faultRec (c : TineCtx) (st : Status) (w0 : Nat) (s : State) : EventRec :=
  { kind := 2, status := st, handle := c.handle, ktb := ktb s, a := c.evCode, b := c.pc, c := w0, extra := [] }

/-- A trap (R288, R323): the handler ends at once, the c registers are not committed, a FAULT record is posted and
the trap is counted. System firmware stops at the instruction (log 40). -/
def tineTrap (t : Nat) (c : TineCtx) (st : Status) (w0 : Nat) (s : State) : State :=
  if c.system then putTine t { c with trapped := some st } s
  else
    postEvent (desc s c.slot).eventRing (faultRec c st w0 s) (countTrap t st c.handle (freeTine t s))

/-- KTB has passed the dispatch time plus BUDGET_NS (R287). -/
def budgetOver (s : State) (t : Nat) (c : TineCtx) : Bool :=
  !c.system && decide (c.dispatchAt + c.budget < ktbOf s (tineDie t))

/-- A synchronous operation of a Tine's handler completes with a value for its result register, and execution continues after
the instruction. Where the budget has expired meanwhile the trap is taken now and the register is not written (R289, R324). -/
def tineResult (t rd : Nat) (v : Word) (s : State) : State :=
  match NMap.get? s.tin.tines t with
  | none => s
  | some c =>
    match c.stall with
    | none => s
    | some (_, w0) =>
      let c := { c with stall := none }
      if budgetOver s t c then tineTrap t c .timeout w0 s
      else putTine t { setTineReg c rd v with pc := c.pc + 8 } s

/-- An operation of any source completes with a status and its results. -/
def finish (src : OpSrc) (st : Status) (r0 r1 : Nat) (s : State) : State :=
  match src with
  | .host sq cid => postCqe sq cid st r0 r1 s
  | .tine t rd =>
    let s := match NMap.get? s.tin.tines t with
      | some c => traceEop c.slot ((c.stall.getD (0, 0)).2 % 128) st.code s
      | none => s
    tineResult t rd (BitVec.ofNat 64 st.code) s
  | .async slot tag => asyncEnd slot tag 6 (BitVec.ofNat 64 st.code) s
  | .device => s

end Sys2Proof.Machine
end

