-- ==== Sys2Proof/Machine/Profile.lean ====
section
/-!
DEFINITION. Model profiles: the geometry of a sheaf and a stack (R92 to R96).
-/
namespace Sys2Proof.Machine

/-! ## Profiles (R92 to R96) -/

/-- The geometry of a model profile. -/
structure Geom where
  layers : Nat
  heads  : Nat
  qpk    : Nat
  dk     : Nat
  dv     : Nat
  shared : Bool
  fmt    : Nat
  valid  : Bool
  deriving DecidableEq, Repr

/-- Geometry of a TIER_PROF_GEOM word. -/
def geomOfWord (w : Word) : Geom :=
  { layers := field w 8 0, heads := field w 15 9, qpk := field w 22 16, dk := 64 + 32 * field w 27 23,
    dv := 64 + 32 * field w 32 28, shared := bit w 33, fmt := field w 37 34, valid := bit w 38 }

/-- The live geometry of profile `p`; all Acres hold the same (R97). -/
def geom (s : State) (p : Nat) : Geom := geomOfWord (live s .TIER_PROF_GEOM (.acre .a0) p)

/-- Bytes of a row of `d` elements in a storage format (R93). -/
def rowBytes (fmt d : Nat) : Nat :=
  match fmt with
  | 0 => 2 * d
  | 1 => d
  | 2 => d
  | 3 => d + d / 32
  | 4 => d + d / 32
  | 5 => 3 * d / 4 + d / 32
  | 6 => 3 * d / 4 + d / 32
  | 7 => d / 2 + d / 32
  | _ => 0

def Geom.rk (g : Geom) : Nat := rowBytes g.fmt g.dk
def Geom.rv (g : Geom) : Nat := if g.shared then 0 else rowBytes g.fmt g.dv

/-- S of R94. -/
def Geom.sheaf (g : Geom) : Nat := (64 * g.heads * (g.rk + g.rv) + 4095) / 4096 * 4096

/-- Plots of a stack (R96). -/
def Geom.plots (g : Geom) : Nat := (g.layers * g.sheaf + 65535) / 65536

/-- Parameters lie in R92 and R93 and S is at most 512 KiB (R94). -/
def Geom.ok (g : Geom) : Bool :=
  decide (1 ≤ g.layers ∧ g.layers ≤ 256 ∧ 1 ≤ g.heads ∧ g.heads ≤ 64 ∧ 1 ≤ g.qpk ∧ g.qpk ≤ 64 ∧ g.dk ≤ 576 ∧
    g.dv ≤ 576 ∧ (g.shared = true → g.dv ≤ g.dk) ∧ g.fmt ≤ 7 ∧ g.sheaf ≤ 524288)

/-- Byte of the K row of head `h` and position `p` within a sheaf (R95). -/
def Geom.kAt (g : Geom) (h p : Nat) : Nat := h * 64 * (g.rk + g.rv) + p * g.rk

/-- Byte of its V row; in shared-KV mode V lies in the K row. -/
def Geom.vAt (g : Geom) (h p : Nat) : Nat := h * 64 * (g.rk + g.rv) + 64 * g.rk + p * g.rv

end Sys2Proof.Machine
end

