-- ==== Sys2Proof/Machine/ChestOps.lean ====
section
/-!
DEFINITION. The Chest store's shared operations: drives, segments, pieces, the map, the journal, release
(R137 to R157).
-/
namespace Sys2Proof.Machine

/-- A CHS_CTRL field. -/
def chsF (s : State) (hi lo : Nat) : Nat := liveF s .CHS_CTRL (.yoke .yw) 0 hi lo

def setChest (c : ChestState) (s : State) : State := { s with chest := c }

def driveOf (s : State) (d : Nat) : Drive := NMap.get .absent s.chest.drives d

def putDrive (d : Nat) (v : Drive) (s : State) : State :=
  { s with chest := { s.chest with drives := NMap.put s.chest.drives d v } }

/-- Drives in state ONLINE, ascending. -/
def onlineDrives (s : State) : List Nat := [0, 1, 2, 3].filter (fun d => (driveOf s d).st = .online)

/-- A drive mask as a list of drives, and back. -/
def maskDrives (m : Nat) : List Nat := [0, 1, 2, 3].filter (fun d => m.testBit d)
def drivesMask (l : List Nat) : Nat := l.foldl (fun m d => m + 2 ^ d) 0

/-- DATA segments of a drive: all but segment 0 and the 32 reserved ones (R137). -/
def dataSegs (v : Drive) : Nat := v.segments - 33

/-- ⌈pct × n ÷ 100⌉. -/
def pctOf (pct n : Nat) : Nat := (pct * n + 99) / 100

/-- U of R157: free DATA segments less the spare. -/
def freeU (s : State) (v : Drive) : Nat :=
  v.free.limit - v.free.next + v.free.freed.length - pctOf (chsF s 7 0) (dataSegs v)

/-- Take an MSEQ; the high-water mark is raised by 2^20 before the first value of a reservation (R139). -/
def takeMseq (s : State) : Nat × State :=
  let m := s.chest.mseq + 1
  match s.chest.anchor with
  | none => (m, { s with chest := { s.chest with mseq := m } })
  | some a =>
    if a.mseqHigh < m then (m, { s with chest := { s.chest with
      mseq := m, anchor := some { a with mseqHigh := a.mseqHigh + 2 ^ 20 }, anchorRecs := s.chest.anchorRecs + 1 } })
    else (m, { s with chest := { s.chest with mseq := m } })

/-- Append a journal record (R147, R149): the next JSEQ, into the open group. The first record after mount clears
CLEAN in the anchor (R151). -/
def jWrite (t : JType) (index : Nat) (body : ChestRec) (s : State) : State :=
  let c := s.chest
  let r : JRec := { jseq := c.jseq, typ := t, index := index, body := if t = .put then { body with jseq := c.jseq } else body, joined := ktb s }
  { s with chest := { c with
    jseq := c.jseq + 1, group := c.group ++ [r],
    anchor := c.anchor.map (fun a => { a with clean := false }),
    anchorRecs := c.anchorRecs + (c.anchor.elim false (fun a => a.clean)).toNat } }

/-- PUT and FREE records wait while 512 MiB of journal has gathered since the last base (R150). -/
def jStalled (s : State) : Bool := decide (131072 ≤ s.chest.blocks)

/-- Append a record, or let a PUT or FREE wait under the stall. -/
def jAppend (t : JType) (index : Nat) (body : ChestRec) (s : State) : State :=
  if jStalled s && (t = .put || t = .free) then
    setLiveF .CHS_JOURNAL_FILL (.yoke .yw) 0 17 17 1
      { s with chest := { s.chest with stalled := s.chest.stalled ++ [(t, index, body)] } }
  else jWrite t index body s

/-- A map record. -/
def chestRec (s : State) (index : Nat) : ChestRec := NMap.get .empty s.chest.map index

/-- The locator of a map record (R144): INDEX and INCARN. -/
def locOf (index incarn : Nat) : Nat := index + 2 ^ 25 * (incarn % 2 ^ 23)

def locIndex (loc : Nat) : Nat := loc % 2 ^ 25
def locIncarn (loc : Nat) : Nat := loc / 2 ^ 25 % 2 ^ 23

/-- In place of a locator: the object is on its way to its home (R479 step 4). -/
def noLoc : Nat := 2 ^ 48

/-- The locator names a VALID record of its incarnation (R144). -/
def locValid (s : State) (loc : Nat) : Bool :=
  let r := chestRec s (locIndex loc)
  loc != noLoc && r.valid && r.incarn == locIncarn loc

/-- A Chest object is held for the drain of an open epoch (R466). -/
def chestHeld (s : State) (loc : Nat) : Bool :=
  match s.ckp.epoch with
  | none => false
  | some e => e.shards.toList.any (fun h => h.objs.any (fun o => o.2.home = .chest loc && !o.2.gone && !o.2.drained))

/-- Release a Chest object (R154): its FREE record joins the journal, or waits for the drain (R466). -/
def chestRelease (loc : Nat) (s : State) : State :=
  if chestHeld s loc then { s with ckp := { s.ckp with heldLocs := s.ckp.heldLocs ++ [loc] } }
  else if locValid s loc then jAppend .free (locIndex loc) { ChestRec.empty with incarn := locIncarn loc } s else s

/-- Tag-area blocks of a piece of `f` frames (R142). -/
def tagBlocks (f : Nat) : Nat := if f ≤ 249 then 1 else 1 + (f - 249 + 252) / 253

/-- Frames of the piece of ordinal `o` among `n` drives, of an object of `frames` frames striped in units of `unit`
frames (R143). -/
def pieceFrames (frames unit n o : Nat) : Nat :=
  let units := (frames + unit - 1) / unit
  (List.range units).foldl (fun t u => if u % n = o then t + min unit (frames - u * unit) else t) 0

/-- Blocks of that piece. -/
def pieceBlocks (frames unit n o : Nat) : Nat :=
  let f := pieceFrames frames unit n o
  tagBlocks f + f

/-- Open a DATA segment of a drive (SEG_OPEN, with its own MSEQ). Spare segments are for the Harrow alone (R157). -/
def openSeg (d : Nat) (harrow : Bool) (s : State) : Option (Nat × State) :=
  let v := driveOf s d
  if !harrow && freeU s v = 0 then none
  else
    let got : Option (Nat × FreeList) :=
      if v.free.next < v.free.limit then some (v.free.next, { v.free with next := v.free.next + 1 })
      else match v.free.freed with
        | [] => none
        | x :: r => some (x, { v.free with freed := r })
    match got with
    | none => none
    | some (g, fl) =>
      let (m, s) := takeMseq s
      let seg : Seg := { st := .open_, fill := 1, live := 0, liveBlocks := 0, harrow := harrow, mseq := m }
      some (g, jAppend .segOpen (d * 2 ^ 24 + g) .empty
        (putDrive d { v with free := fl, segs := NMap.put v.segs g seg } s))

/-- The OPEN segment of a drive for new objects or for the Harrow. -/
def openSegOf (v : Drive) (harrow : Bool) : Option (Nat × Seg) :=
  v.segs.find? (fun e => e.2.st = .open_ && e.2.harrow = harrow)

/-- Place a piece of `b` blocks at the fill point of the drive's OPEN segment, or of a new one (R152 step 1): the
segment and first block. -/
def placePiece (d b : Nat) (harrow : Bool) (s : State) : Option ((Nat × Nat) × State) :=
  let fits := match openSegOf (driveOf s d) harrow with
    | some (_, g) => decide (g.fill + b ≤ 65536)
    | none => false
  let s1 : Option State :=
    if fits then some s
    else
      let s := match openSegOf (driveOf s d) harrow with
        | some (n, g) => putDrive d { driveOf s d with segs := NMap.put (driveOf s d).segs n { g with st := .full } } s
        | none => s
      (openSeg d harrow s).map (fun r => r.2)
  match s1 with
  | none => none
  | some s =>
    match openSegOf (driveOf s d) harrow with
    | none => none
    | some (n, g) =>
      some ((n, g.fill),
        putDrive d { driveOf s d with segs := NMap.put (driveOf s d).segs n { g with fill := g.fill + b } } s)

/-- Place one piece on each of the drives, in ascending order. -/
def placePieces (frames unit n : Nat) : List Nat → Nat → State → Option (NMap (Nat × Nat) × State)
  | [], _, s => some ([], s)
  | d :: r, o, s =>
    match placePiece d (pieceBlocks frames unit n o) false s with
    | none => none
    | some (p, s) =>
      match placePieces frames unit n r (o + 1) s with
      | none => none
      | some (m, s) => some ((d, p) :: m, s)

/-- Steps 1 to 4 of R152 for an object's sealed frames on the given drives: a map index is allocated with INCARN + 1,
the pieces are placed, and the PUT joins the journal. The result is the index, or the status that ends the move. -/
def chestWrite (f : Sealed) (kind : ChestKind) (profile frames unit : Nat) (drives : List Nat) (cause : WriteCause)
    (s : State) : Status × State :=
  let n := drives.length
  if n = 0 then (.noSpace, s)
  else if (List.range n).any (fun o => 65535 < pieceBlocks frames unit n o) then (.badFormat, s)
  else
    let got : Option (Nat × FreeList) :=
      if s.chest.free.next < s.chest.free.limit then
        some (s.chest.free.next, { s.chest.free with next := s.chest.free.next + 1 })
      else match s.chest.free.freed with
        | [] => none
        | x :: r => some (x, { s.chest.free with freed := r })
    match got with
    | none => (.noSpace, s)
    | some (index, fl) =>
      match placePieces frames unit n drives 0 s with
      | none => (.noSpace, s)
      | some (ps, s) =>
        let inc := ((chestRec s index).incarn + 1) % 2 ^ 23
        let body : ChestRec :=
          { incarn := inc, kind := kind, profile := profile, keySel := f.keySel, driveMask := drivesMask drives,
            valid := true, frames := frames, stackId := f.stackId, ctr := f.ctr, jseq := 0, pieces := ps }
        let s := { s with chest := { s.chest with free := fl, content := NMap.put s.chest.content index f } }
        let j := s.chest.jseq
        let s := jAppend .put index body s
        (.ok, { s with chest := { s.chest with
          writes := s.chest.writes ++ [{ index := index, incarn := inc, jseq := j, cause := cause }] } })

/-- Frames of a striping unit (R143): a sheaf for a KV stack, 32 frames for any other kind. The sheaf size comes from
the live geometry of the record's profile. -/
def recUnit (s : State) (r : ChestRec) : Nat :=
  if r.kind = .stack then (geom s r.profile).sheaf / 4096 else 32

/-- Blocks of a record's piece on a drive. -/
def recBlocks (s : State) (r : ChestRec) (d : Nat) : Nat :=
  let ds := maskDrives r.driveMask
  pieceBlocks r.frames (recUnit s r) ds.length ((ds.filter (fun x => x < d)).length)

/-- Change the live counts of the segments that hold a record's pieces. -/
def bumpLive (r : ChestRec) (add : Bool) (s : State) : State :=
  r.pieces.foldl (fun s p =>
    let v := driveOf s p.1
    let b := recBlocks s r p.1
    putDrive p.1 { v with segs := NMap.modify v.segs p.2.1 (fun g =>
      if add then { g with live := g.live + 1, liveBlocks := g.liveBlocks + b }
      else { g with live := g.live - 1, liveBlocks := g.liveBlocks - b }) } s) s

/-- Apply a durable journal record to the map (R149, R160's apply). -/
def applyRec (r : JRec) (s : State) : State :=
  let old := chestRec s r.index
  match r.typ with
  | .put =>
    if r.jseq ≤ old.jseq then s
    else
      let s := if old.valid then bumpLive old false s else s
      bumpLive r.body true { s with chest := { s.chest with map := NMap.put s.chest.map r.index r.body } }
  | .free =>
    if old.valid && old.incarn == r.body.incarn && decide (old.jseq < r.jseq) then
      let s := bumpLive old false s
      { s with chest := { s.chest with
        map := NMap.put s.chest.map r.index { old with valid := false, jseq := r.jseq, pieces := [] },
        content := NMap.erase s.chest.content r.index,
        free := { s.chest.free with freed := s.chest.free.freed ++ [r.index] } } }
    else s
  | _ => s

/-- A record for the index waits in the journal. -/
def jPending (s : State) (index : Nat) : Bool :=
  (s.chest.group ++ s.chest.inFlight).any (fun r => r.index == index && (r.typ == .put || r.typ == .free)) ||
    s.chest.stalled.any (fun r => r.2.1 == index)

/-- The PUT of a write is durable; one that waits under the stall of R150 has no JSEQ yet. -/
def writeDurable (s : State) (w : ChestWrite) : Bool := decide (w.jseq ≤ s.chest.durable) && !jPending s w.index

/-- Write both superblock copies of every online drive, LBA 0 before LBA 1 (R140). -/
def writeSuper (clean : Bool) (final : Nat) (s : State) : State :=
  (onlineDrives s).foldl (fun s d =>
    let (m0, s) := takeMseq s
    let (m1, s) := takeMseq s
    let sb : Superblock := { mseq := m0, setId := s.chest.setId, mask := drivesMask (onlineDrives s), slot := s.chest.slot,
                             base := s.chest.base, clean := clean, finalJseq := final }
    putDrive d { driveOf s d with sb0 := some sb, sb1 := some { sb with mseq := m1 } } s) s

end Sys2Proof.Machine
end

