-- ==== Sys2Proof/Machine/TierCore.lean ====
section
/-!
DEFINITION. Objects: profile geometry, the object table, identities and counters, Field runs, residency in Near, the
evictor, write-back rounds, sheaf maps and Drawers (R92 to R127, R583, R584).
-/
namespace Sys2Proof.Machine

/-! ## The object table (R98, R99) -/

/-- Record slot of a session's sheaf map. -/
def mapObj (slot : Nat) : Nat := slot

/-- Record slot of a session's Drawer. -/
def drawerObj (slot : Nat) : Nat := 0x400000 + slot

/-- First general slot of an Acre, and the slots of each. -/
def genBase (a : Acre) : Nat := 0x800000 + a.num * 0x600000

/-- The Acre of a record slot (R98). -/
def objAcre (i : Nat) : Acre :=
  if i < 0x400000 then Acre.ofNum (i / 2 ^ 20)
  else if i < 0x800000 then Acre.ofNum ((i - 0x400000) / 2 ^ 20)
  else Acre.ofNum ((i - 0x800000) / 0x600000)

/-- NEXT_CTR every slot has at a binding: ERA × 2^26 (R125). -/
def eraCtr (s : State) : Nat := s.sec.era * 2 ^ 26

/-- The record in slot `i`; one not listed is FREE with the counter the binding set. -/
def getObj (s : State) (i : Nat) : ObjRec := NMap.get (ObjRec.freeOf i (eraCtr s)) s.tier.objs i

def putObj (i : Nat) (o : ObjRec) (s : State) : State :=
  { s with tier := { s.tier with objs := NMap.putD (ObjRec.freeOf i (eraCtr s)) s.tier.objs i o } }

def modObj (i : Nat) (f : ObjRec → ObjRec) (s : State) : State := putObj i (f (getObj s i)) s

/-- A slot whose counts have all been used in this era (R125). -/
def exhausted (s : State) (i : Nat) : Bool := decide ((s.sec.era + 1) * 2 ^ 26 ≤ (getObj s i).nextCtr)

/-- Take the next number of a first-in, first-out free list. -/
def FreeList.take (f : FreeList) : Option (Nat × FreeList) :=
  if f.next < f.limit then some (f.next, { f with next := f.next + 1 })
  else match f.freed with
    | [] => none
    | x :: r => some (x, { f with freed := r })

/-- Give a number back. -/
def FreeList.give (f : FreeList) (x : Nat) : FreeList := { f with freed := f.freed ++ [x] }

/-- Numbers on the list. -/
def FreeList.count (f : FreeList) : Nat := (f.limit - f.next) + f.freed.length

/-- Take a general slot of an Acre (R98). -/
def takeGeneral (a : Acre) (s : State) : Option (Nat × State) :=
  match (s.tier.genFree.get a).take with
  | none => none
  | some (i, f) => some (i, { s with tier := { s.tier with genFree := s.tier.genFree.set a f } })

/-- STACK_ID of this device's identity slot (R98, R127). -/
def stackIdOf (s : State) (idSlot : Nat) : Nat := s.sec.deviceId * 2 ^ 25 + idSlot

/-- An event that makes an object's content differ from its last captured version (R463). -/
def liveBit (i : Nat) (s : State) : State := { s with ckp := { s.ckp with live := NMap.put s.ckp.live i () } }

/-- A record's slot becomes FREE (R99): every field but NEXT_CTR is cleared. An exhausted general slot is retired; the
donors of the record stay retired (R125, R584). -/
def freeObj (i : Nat) (s : State) : State :=
  let o := getObj s i
  let a := objAcre i
  let ex := exhausted s i
  let s := liveBit i (putObj i (ObjRec.freeOf i o.nextCtr) s)
  if i < 0x800000 then s
  else if ex then
    { s with tier := { s.tier with retired := s.tier.retired.set a (s.tier.retired.get a + 1) } }
  else
    { s with tier := { s.tier with genFree := s.tier.genFree.set a ((s.tier.genFree.get a).give i) } }

/-- Take a donor where the identity slot is exhausted (R584): the first free general slots of the record's Acre until
one is not exhausted; each is retired at once. `none`: no general slot is free. -/
def takeDonor (i : Nat) : Nat → State → Option State
  | 0, _ => none
  | fuel + 1, s =>
    if !exhausted s (getObj s i).idSlot then some s
    else
      let a := objAcre i
      match takeGeneral a s with
      | none => none
      | some (d, s) =>
        let s := { s with tier := { s.tier with retired := s.tier.retired.set a (s.tier.retired.get a + 1) } }
        takeDonor i fuel (modObj i (fun o => { o with idSlot := d }) s)

/-- Donors a record may need: no more than the general slots of its Acre. -/
def donorFuel (s : State) (i : Nat) : Nat := (s.tier.genFree.get (objAcre i)).count + 1

/-! ## Objects of an open epoch (R465, R466) -/

/-- What an open epoch holds of the object in a record slot. -/
def capOf (s : State) (i : Nat) : Option CapObj :=
  match s.ckp.epoch with
  | none => none
  | some e => NMap.get? (e.shards.get (objAcre i)).objs i

def putCap (i : Nat) (c : CapObj) (s : State) : State :=
  setShard (objAcre i) (fun h => { h with objs := NMap.put h.objs i c }) s

/-- Take an object by shadow: it gets STACK_ID of its identity slot and a counter C_s; an imported record takes its own
identity. With no general slot free for a donor the copy waits (R465, R584). -/
def takeShadow (i : Nat) (c : CapObj) (s : State) : Option State :=
  match takeDonor i (donorFuel s i) s with
  | none => none
  | some s =>
    let id := (getObj s i).idSlot
    let n := (getObj s id).nextCtr
    let s := modObj id (fun x => { x with nextCtr := n + 1 }) s
    let s := if (getObj s i).imported then
        liveBit i (modObj i (fun o => { o with imported := false, stackId := stackIdOf s id }) s) else s
    some (putCap i { c with taken := .shadow, stackId := stackIdOf s id, ctr := n, keySel := s.sec.curGen } s)

/-- An object of an open epoch is taken (R465): by shadow while DIRTY or WB_ACTIVE, else by reference to its home. -/
def takeNow (i : Nat) (s : State) : State :=
  match capOf s i with
  | none => s
  | some c =>
    if c.gone || c.taken ≠ .untaken then s
    else
      let o := getObj s i
      if o.dirty || o.wbActive then (takeShadow i c s).getD s
      else putCap i { c with taken := .ref, copied := true, home := o.home, stackId := o.stackId, ctr := o.ctr, keySel := o.keySel } s

/-- A write reaches units of an object (R80, R465): an untaken object is taken, and a unit the shadow has not yet goes into the
Near pool before the write. -/
def cowTouch (i : Nat) (us : List Nat) (s : State) : State :=
  let s := takeNow i s
  match capOf s i with
  | none => s
  | some c =>
    if c.taken ≠ .shadow || c.copied then s
    else putCap i { c with pool := c.pool ++ us.filter (fun u => !c.pool.contains u) } s

/-- The run of an object's home is held for the drain (R466). -/
def runHeld (s : State) (i : Nat) (h : Home) : Bool :=
  match capOf s i with
  | none => false
  | some c => c.taken = .ref && !c.drained && c.home = h

/-! ## Field runs -/

/-- First frame at or after `f` that is a multiple of `al`. -/
def alignUp (al f : Nat) : Nat := (f + al - 1) / al * al

/-- The free runs that hold `n` frames from an aligned frame. -/
def fitting (runs : List (Nat × Nat)) (al n : Nat) : List (Nat × Nat) :=
  runs.filter (fun r => alignUp al r.1 + n ≤ r.1 + r.2)

/-- Remove [f, f + n) from the free runs. -/
def cutRun (f n : Nat) : List (Nat × Nat) → List (Nat × Nat)
  | [] => []
  | (b, len) :: r =>
    if b ≤ f ∧ f + n ≤ b + len then
      (if b < f then [(b, f - b)] else []) ++ (if f + n < b + len then [(f + n, b + len - (f + n))] else []) ++ r
    else (b, len) :: cutRun f n r

/-- Add [f, f + n) to the free runs, joining neighbours. -/
def addRun (f n : Nat) : List (Nat × Nat) → List (Nat × Nat)
  | [] => if n = 0 then [] else [(f, n)]
  | (b, len) :: r =>
    if n = 0 then (b, len) :: r
    else if f + n < b then (f, n) :: (b, len) :: r
    else if f + n = b then (f, n + len) :: r
    else if b + len = f then addRun b (len + n) r
    else (b, len) :: addRun f n r

/-- Allocate `n` frames of an Acre's Field, in units of `al` frames. Where more than one free run holds them the
choice is free (log 21). -/
def takeField (a : Acre) (al n : Nat) (s : State) : Option (Nat × State) :=
  match fitting (s.tier.fldFree.get a) al n with
  | [] => none
  | [r] =>
    let f := alignUp al r.1
    some (f, { s with tier := { s.tier with fldFree := s.tier.fldFree.set a (cutRun f n (s.tier.fldFree.get a)) } })
  | rs =>
    let r := rs.getD (freeBelow rs.length s) (0, 0)
    let f := alignUp al r.1
    let s := drew s
    some (f, { s with tier := { s.tier with fldFree := s.tier.fldFree.set a (cutRun f n (s.tier.fldFree.get a)) } })

/-- Give a run back. A DEGRADED Field takes none (R483). -/
def giveField (a : Acre) (f n : Nat) (s : State) : State :=
  if s.ckp.degraded.get a then s
  else { s with tier := { s.tier with fldFree := s.tier.fldFree.set a (addRun f n (s.tier.fldFree.get a)) } }

/-- Allocate `n` plots of a borrow entry's window. -/
def takeHeadland (b n : Nat) (s : State) : Option (Nat × State) :=
  match NMap.get? s.tier.borrow b with
  | none => none
  | some e =>
    match e.st, fitting e.free 1 n with
    | .active, r :: _ =>
      some (r.1, { s with tier := { s.tier with borrow := NMap.put s.tier.borrow b { e with free := cutRun r.1 n e.free } } })
    | _, _ => none

/-- Give the run of a home back. A Chest home is released by its own rule (R154). -/
def giveHome (h : Home) (frames : Nat) (s : State) : State :=
  match h with
  | .fld a f => giveField a f frames s
  | .headland b p =>
    { s with tier := { s.tier with borrow := NMap.modify s.tier.borrow b (fun e =>
      { e with free := addRun p (frames / 16) e.free }) } }
  | .chest _ => s

/-- Acres in ring order from `a` (R111, R286). -/
def ringFrom (a : Acre) : List Acre := (List.range 4).map (fun i => Acre.ofNum (a.num + i))

/-- The first of the Acres whose Field holds the run. -/
def takeFieldAny (al n : Nat) (s : State) : List Acre → Option (Home × State)
  | [] => none
  | a :: r =>
    match takeField a al n s with
    | some (f, s) => some (.fld a f, s)
    | none => takeFieldAny al n s r

/-- The first ACTIVE borrow entry whose window holds the plots. -/
def takeHeadlandAny (n : Nat) (s : State) : List Nat → Option (Home × State)
  | [] => none
  | b :: r =>
    match takeHeadland b n s with
    | some (p, s) => some (.headland b p, s)
    | none => takeHeadlandAny n s r

/-- A run for a stack of `frames` frames by a policy's tier and target, seen from `home` (R111). -/
def takeByPolicy (tier : Tier) (target : Option Nat) (home : Acre) (frames : Nat) (s : State) :
    Option (Home × State) :=
  match tier, target with
  | .headland, some b =>
    match takeHeadland b (frames / 16) s with
    | some (p, s) => some (.headland b p, s)
    | none => none
  | .headland, none => takeHeadlandAny (frames / 16) s (NMap.keys s.tier.borrow)
  | _, some a => takeFieldAny 16 frames s [Acre.ofNum a]
  | _, none => takeFieldAny 16 frames s (ringFrom home)

/-! ## Sessions, maps and windows -/

/-- Slots that hold a session. -/
def sessions (s : State) : List Nat := (NMap.keys s.bur.home).filter (fun i => (desc s i).state ≠ .free)

/-- The session's map entry `k`. -/
def mapEntry (s : State) (slot k : Nat) : Option MapEntry := NMap.get? (getObj s (mapObj slot)).data.entries k

/-- The map holds an entry for record `i` among its entries: its index. -/
def indexIn (m : NMap MapEntry) (i : Nat) : Option Nat :=
  (m.find? (fun e => e.2.ref = .record i)).map (fun e => e.1)

/-- Index of the map entry of a session that names record `i`. -/
def stackIndex (s : State) (slot i : Nat) : Option Nat := indexIn (getObj s (mapObj slot)).data.entries i

/-- Revival window of a session (R73): [LEN − W, LEN). -/
def windowOf (s : State) (slot : Nat) : Nat × Nat :=
  let d := desc s slot
  let w := if d.window = 0 then liveF s .BUR_CTRL (.acre .a0) 0 15 0 else d.window
  (d.len - w, d.len)

/-- Stack `k` overlaps the positions [lo, hi). -/
def overlaps (k : Nat) (w : Nat × Nat) : Bool := decide (64 * k < w.2) && decide (w.1 < 64 * k + 64)

/-! ## Residency (R103, R104) -/

/-- Bytes of one residency unit: a sheaf of a stack, a chunk of 32 frames of a search object (R255), a frame of any other
object. -/
def unitBytes (s : State) (o : ObjRec) : Nat :=
  if o.kind = .stack then (geom s o.profile).sheaf else if o.kind = .searchList then 131072 else 4096

/-- Units of an object: layers of a stack, chunks of a search object, frames of any other object. -/
def unitsOf (s : State) (o : ObjRec) : Nat :=
  if o.kind = .stack then (geom s o.profile).layers else if o.kind = .searchList then (o.frames + 31) / 32 else o.frames

/-- Give a run an object has left back, or hold it until the drain has read it (R466). -/
def giveRun (i : Nat) (h : Home) (frames : Nat) (s : State) : State :=
  if runHeld s i h then { s with ckp := { s.ckp with heldRuns := s.ckp.heldRuns ++ [⟨i, h, frames⟩] } }
  else giveHome h frames s

/-- An object's content is about to go: what an open epoch still needs of it is taken first, then its run is given back. -/
def giveHeld (i : Nat) (h : Home) (frames : Nat) (s : State) : State :=
  giveRun i h frames (cowTouch i (List.range (unitsOf s (getObj s i))) s)

/-- Bytes of a residency block: 4 B an entry, rounded up to 64 B; none where nothing is in Near (log 22). -/
def resBlockBytes (s : State) (o : ObjRec) (a : Acre) : Nat :=
  if (o.res.get a).isEmpty then 0 else (4 * unitsOf s o + 63) / 64 * 64

/-- Near bytes of an object on an Acre: the last chunk of a search object may be short. -/
def objNear (s : State) (a : Acre) (o : ObjRec) : Nat :=
  let short := if o.kind = .searchList && (NMap.get? (o.res.get a) (o.frames / 32)).isSome then 131072 - o.frames % 32 * 4096 else 0
  (o.res.get a).length * unitBytes s o - short + resBlockBytes s o a

/-- Near bytes of the bitmaps of an index: two shadow bitmaps and the side-live bitmap (R255). -/
def Index.bitmaps (x : Index) : Nat := 2 * (2 ^ x.idBits / 8) + (x.sideCap + 7) / 8

/-- Bytes of the bitmaps of an Acre's indexes whose principal passes `f`. -/
def bitmapBytes (s : State) (a : Acre) (f : Nat → Bool) : Nat :=
  s.gln.indexes.foldl (fun n e => if e.1 / 2 ^ 10 = a.num && f e.2.principal then n + e.2.bitmaps else n) 0

/-- Entries of an indexed register of a die that differ from reset: index and value. -/
def regEntries (s : State) (r : Reg) (d : Die) : List (Nat × Word) :=
  let k := regKey r d 0 / 2 ^ 32
  (s.regs.live.filter (fun e => e.1 / 2 ^ 32 = k)).map (fun e => (e.1 % 2 ^ 32, e.2))

/-- Near bytes of the shadow pool, of the rings in use with their control pages, of filter bitmaps, reply rings and saved Gleaner
contexts, each at most 2 MiB and 4 KiB (R195, R263, R267, R274, R469, R583; log 201). -/
def nearFixed (s : State) (a : Acre) : Nat :=
  let ring := fun (r : Reg) => (regEntries s r (.acre a)).foldl (fun n e => if bit e.2 53 then n + 2 ^ field e.2 52 48 + 4096 else n) 0
  let flt := (regEntries s .GLN_FLT_ADDR (.acre a)).foldl (fun n e =>
    if bit e.2 48 then n + (liveF s .GLN_FLT_RANGE (.acre a) e.1 62 32 + 7) / 8 else n) 0
  let reply := (regEntries s .GLN_GRP_CFG (.acre a)).foldl (fun n e =>
    if bit e.2 7 then n + field e.2 6 0 * 2 ^ field e.2 36 32 else n) 0
  let saved := (NMap.keys s.gln.saved).foldl (fun n g => if g / 4 = a.num then n + Config.glnSave % 2101249 else n) 0
  liveF s .CKP_CTRL (.acre a) 0 15 0 * 2 ^ 20 + ring .FUR_ARQ_CFG + ring .GEN_TKQ_CFG + ring .GLN_SRQ_CFG + flt + reply + saved +
    (NMap.vals s.klt.pwqs).foldl (fun n q => if q.acre = a.num then n + q.size + 4096 else n) 0

/-- Bytes of the save areas of an Acre whose session's principal passes `f`: 16 MiB for an item being saved or saved (R186). -/
def saveBytes (s : State) (a : Acre) (f : Nat → Bool) : Nat :=
  let one := fun (i : WorkItem) => (NMap.get? s.fur.entries i.entry).any (fun e => f (desc s e.slot).principal)
  let saving := (s.fur.units.filter (fun u => decide (u.1 / 12 = a.num) && match u.2 with
    | .saving i => one i
    | _ => false)).length
  16777216 * (saving + ((s.fur.pfQ.get a).filter (fun i => i.saved && one i)).length)

/-- Near bytes in use on an Acre (R583). -/
def nearUsed (s : State) (a : Acre) : Nat :=
  (NMap.vals s.tier.objs).foldl (fun n o => n + objNear s a o) (s.tier.nearOther.get a + nearFixed s a + bitmapBytes s a (fun _ => true) + saveBytes s a (fun _ => true))

/-- Free bytes of an Acre's sheaf cache. -/
def nearFree (s : State) (a : Acre) : Nat := s.tier.nearSize.get a - nearUsed s a

/-- Near bytes of a principal on an Acre, the save areas charged to it among them (R109, R186). -/
def prinUse (s : State) (a : Acre) (p : Nat) : Nat :=
  (NMap.vals s.tier.objs).foldl (fun n o => if o.principal = p then n + objNear s a o else n) (bitmapBytes s a (· == p) + saveBytes s a (· == p))

def prinResv (s : State) (a : Acre) (p : Nat) : Nat := liveF s .TIER_PRIN_NEAR (.acre a) p 20 0 * 2 ^ 20

/-- The principal's use exceeds LIMIT; 0x1F_FFFF is unlimited (R109). -/
def overLimit (s : State) (a : Acre) (p : Nat) : Bool :=
  let l := liveF s .TIER_PRIN_NEAR (.acre a) p 41 21
  l != 0x1FFFFF && decide (l * 2 ^ 20 < prinUse s a p)

/-- Unit `u` of an object is in the Near of an Acre. -/
def isRes (o : ObjRec) (a : Acre) (u : Nat) : Bool := (NMap.get? (o.res.get a) u).isSome

/-- Every unit of the object is in the Near of an Acre. -/
def allRes (s : State) (o : ObjRec) (a : Acre) : Bool := (List.range (unitsOf s o)).all (fun u => isRes o a u)

/-- Put a unit into Near. Its Near frame is a free choice of the allocator (log 21). -/
def addRes (i : Nat) (a : Acre) (u : Nat) (dirty : Bool) (s : State) : State :=
  let o := getObj s i
  let r : SheafRes := { dirty := dirty, ref := true, nearFrame := freeBelow (2 ^ 28) s }
  drew (putObj i { o with res := o.res.set a (NMap.put (o.res.get a) u r) } s)

/-- Drop a unit's Near copy. -/
def dropRes (i : Nat) (a : Acre) (u : Nat) (s : State) : State :=
  modObj i (fun o => { o with res := o.res.set a (NMap.erase (o.res.get a) u) }) s

/-- Drop every Near copy of an object. -/
def dropAllRes (i : Nat) (s : State) : State := modObj i (fun o => { o with res := .mk1 [] }) s

/-- A frame that lies outside the package and is read now fails its check (R124). -/
def homeCorrupt (o : ObjRec) : Bool :=
  match o.sealed with
  | some f => f.corrupt
  | none => false

/-! ## Write-back rounds (R106, R126, R127) -/

/-- Where the next round of an object writes: a move's destination after its redirect, the staged plots of a staged
stack, else its home (R113, R115). -/
def roundDest (s : State) (i : Nat) : Home × Nat :=
  let o := getObj s i
  match s.tier.moves.find? (fun m => m.obj = i && m.redirect) with
  | some m =>
    match m.dest with
    | .chest _ => (o.home, o.run)
    | d => (d, o.run)
  | none =>
    match o.home, o.stageLoc with
    | .chest _, some (a, f) => (.fld a f, o.run)
    | h, _ => (h, o.run)

/-- A round that would overwrite a held run writes to a newly allocated one (R466); with none free in that memory it writes
where a run is. -/
def heldDest (s : State) (d : Home) (fr : Nat) : Home × State :=
  match d with
  | .fld a _ =>
    (match takeFieldAny 16 fr s (ringFrom a) with
     | some r => r
     | none => (d, s))
  | .headland b _ =>
    (match takeHeadland b (fr / 16) s with
     | some (p, s) => (.headland b p, s)
     | none => (d, s))
  | .chest _ => (d, s)

/-- Start a write-back round of a DIRTY object that has none in flight. An exhausted identity takes a donor; with no
free general slot the round waits (R584). The round reads the content as it stands. -/
def wbStart (i : Nat) (s : State) : State :=
  let o := getObj s i
  if !o.dirty || o.wbActive || o.sstate = .free then s
  else match takeDonor i (donorFuel s i) s with
    | none =>
      if s.tier.donorWait.contains i then s
      else { s with tier := { s.tier with donorWait := s.tier.donorWait ++ [i] } }
    | some s =>
      let o := getObj s i
      let id := o.idSlot
      let n := (getObj s id).nextCtr
      let (d, fr) := roundDest s i
      let (d, s) := if runHeld s i d then heldDest s d fr else (d, s)
      let r : WbRound :=
        { obj := i, stackId := stackIdOf s id, ctr := n, keySel := s.sec.curGen, data := o.data, dest := d, frames := fr }
      let s := modObj id (fun x => { x with nextCtr := n + 1 }) s
      let s := modObj i (fun x =>
        { x with dirty := false, wbActive := true,
                 res := x.res.map (fun m => NMap.mapV m (fun _ e => { e with dirty := false })) }) s
      { s with tier := { s.tier with
        rounds := s.tier.rounds ++ [r], donorWait := s.tier.donorWait.filter (· ≠ i),
        wbQ := s.tier.wbQ.map (fun q => q.filter (· ≠ i)) } }

/-- The HOME record of a session whose object moved without a directive (R115, R132, R306). -/
def postHome (slot k : Nat) (old new : Tier) (s : State) : State :=
  postEvent (desc s slot).eventRing
    { kind := 6, status := .ok, handle := handleOf s slot, ktb := ktb s, a := k, b := old.code + 8 * new.code,
      c := 0, extra := [] } s

/-- Tier of a home. -/
def Home.tier : Home → Tier
  | .fld _ _ => .fld
  | .headland _ _ => .headland
  | .chest _ => .chest

/-- A session's dirty object joins its home Acre's write-back queue (R78). -/
def queueWb (i : Nat) (s : State) : State :=
  let a := objAcre i
  if (getObj s i).dirty && !(s.tier.wbQ.get a).contains i then
    { s with tier := { s.tier with wbQ := s.tier.wbQ.set a (s.tier.wbQ.get a ++ [i]) } }
  else s

/-- Objects of a session: its map, its Drawer and the private stacks its map names. -/
def ownObjs (s : State) (slot : Nat) : List Nat :=
  let m := (getObj s (mapObj slot)).data.entries
  mapObj slot :: drawerObj slot ::
    m.filterMap (fun e => match e.2.ref with
      | .record i => if e.2.shared then none else some i
      | _ => none)

/-- Private stacks with a record, in map order. -/
def privStacks (s : State) (slot : Nat) : List Nat :=
  (getObj s (mapObj slot)).data.entries.filterMap (fun e => match e.2.ref with
    | .record i => if e.2.shared then none else some i
    | _ => none)

/-! ## The evictor (R108, R109) -/

/-- An attention entry admitted at its owning Shelf and not ended. -/
def AttnEntry.open_ (e : AttnEntry) : Bool := e.admitted && e.status.isNone

/-- An admitted entry reads unit `u` of object `i`. -/
def attnReads (s : State) (i u : Nat) : Bool :=
  (NMap.vals s.fur.entries).any (fun e => e.open_ && e.layer == u &&
    (match stackIndex s e.slot i with
     | some k => decide (64 * k < e.ctxHi)
     | none => false))

/-- A live user of an object on an Acre: its session, or a live forked session homed there. -/
def liveUser (s : State) (a : Acre) (i : Nat) (o : ObjRec) : Bool :=
  match o.owner with
  | some slot => (desc s slot).state.live
  | none => (sessions s).any (fun x => homeAcre x == a && (desc s x).state.live && (stackIndex s x i).isSome)

/-- The object lies in the revival window of a live user. -/
def inWindow (s : State) (i : Nat) (o : ObjRec) : Bool :=
  let f := fun slot => match stackIndex s slot i with
    | some k => overlaps k (windowOf s slot)
    | none => false
  match o.owner with
  | some slot => f slot
  | none => (sessions s).any (fun x => (desc s x).state.live && f x)

/-- The pin of an object: its own, or its session's (R110). -/
def isPinned (s : State) (o : ObjRec) : Bool :=
  o.pinned || (match o.owner with
    | some slot => (desc s slot).pinned
    | none => false)

/-- Eviction class of a unit in Near (R108); `none`: never taken. -/
def evictClass (s : State) (a : Acre) (i u : Nat) (o : ObjRec) : Option Nat :=
  let lv := liveUser s a i o
  if isPinned s o || o.wbActive || attnReads s i u then none
  else if o.dirty then
    (match o.owner with
     | some slot => if (desc s slot).state.parked then some 2 else none
     | none => none)
  else if o.kind = .searchList then some 1
  else if !lv then some 0
  else if o.kind = .map || o.kind = .drawer then none
  else if inWindow s i o then some 3
  else some 1

/-- Units in Near that the evictor may take for principal `q`: object, unit, class and REF. -/
def victims (s : State) (a : Acre) (q : Nat) : List (Nat × Nat × Nat × Bool) :=
  let all := s.tier.objs.flatMap (fun e =>
    if e.2.principal ≠ q ∧ prinUse s a e.2.principal ≤ prinResv s a e.2.principal then []
    else (e.2.res.get a).filterMap (fun r =>
      (evictClass s a e.1 r.1 e.2).map (fun c => (e.1, r.1, c, r.2.ref))))
  let own := all.filter (fun v => (getObj s v.1).principal = q)
  if overLimit s a q ∧ !own.isEmpty then own else all

/-- The victims in cyclic order from the hand. -/
def fromHand (hand : Nat) (l : List (Nat × Nat × Nat × Bool)) : List (Nat × Nat × Nat × Bool) :=
  l.filter (fun v => hand < v.1 * 2 ^ 16 + v.2.1) ++ l.filter (fun v => v.1 * 2 ^ 16 + v.2.1 ≤ hand)

/-- Clear REF of a unit. -/
def clearRef (a : Acre) (v : Nat × Nat × Nat × Bool) (s : State) : State :=
  modObj v.1 (fun o => { o with res := o.res.set a (NMap.modify (o.res.get a) v.2.1 (fun e => { e with ref := false })) }) s

/-- Drop an evicted unit; an eviction for another principal is counted (R109, R502). -/
def dropFor (a : Acre) (q : Nat) (v : Nat × Nat × Nat × Bool) (s : State) : State :=
  let p := (getObj s v.1).principal
  let s := dropRes v.1 a v.2.1 (if q < 4096 && p != q then acctAdd p 8 1 s else s)
  { s with tier := { s.tier with hand := s.tier.hand.set a (v.1 * 2 ^ 16 + v.2.1) } }

/-- The CLOCK scan: REF is cleared on the way, and the first unit whose REF is already 0 is evicted; where all had
REF set, the first. -/
def clockScan (a : Acre) (q : Nat) (l : List (Nat × Nat × Nat × Bool)) (first : Nat × Nat × Nat × Bool) (s : State) : State :=
  match l with
  | [] => dropFor a q first s
  | v :: r => if v.2.2.2 then clockScan a q r first (clearRef a v s) else dropFor a q v s

/-- Evict one sheaf of the lowest non-empty class among `classes` for principal `q`. `none`: nothing may be taken. -/
def evictOne (a : Acre) (q : Nat) (classes : List Nat) (s : State) : Option State :=
  let vs := victims s a q
  match classes.find? (fun c => vs.any (fun v => v.2.2.1 = c)) with
  | none => none
  | some c =>
    match fromHand (s.tier.hand.get a) (vs.filter (fun v => v.2.2.1 = c)) with
    | [] => none
    | v :: r => some (clockScan a q (v :: r) v s)

/-- One object of a directive is done, or failed: with none left the directive completes, RESULT0 counting the objects
done (R113, R310). -/
def dirStep (sq cid i : Nat) (fail : Option Status) (s : State) : State :=
  match s.tier.directives.find? (fun d => d.sq = sq && d.cid = cid) with
  | none => s
  | some d =>
    let d := { d with left := d.left.filter (· ≠ i), done := (if fail.isNone then d.done + 1 else d.done),
                      failed := (match d.failed with
                        | some st => some st
                        | none => fail) }
    let others := s.tier.directives.filter (fun x => !(x.sq = sq && x.cid = cid))
    if d.left.isEmpty then
      postCqe sq cid (d.failed.getD .ok) d.done 0 { s with tier := { s.tier with directives := others } }
    else { s with tier := { s.tier with directives := others ++ [d] } }

/-- A session's own object has moved: its HOME record names the map entry. -/
def homeRecord (i : Nat) (old : Tier) (s : State) : State :=
  let o := getObj s i
  match o.owner with
  | some slot =>
    (match stackIndex s slot i with
     | some k => postHome slot k old o.home.tier s
     | none => s)
  | none => s

/-- A home move ends (R113 step 5): MOVE_ACTIVE clears and its directive goes on. A move the Shanum made by itself is
reported by a HOME record (R132). -/
def moveEnd (i : Nat) (old : Tier) (fail : Option Status) (s : State) : State :=
  match s.tier.moves.find? (fun m => m.obj = i) with
  | none => s
  | some m =>
    let s := { s with tier := { s.tier with moves := s.tier.moves.filter (fun m => m.obj ≠ i) } }
    let s := modObj i (fun o => { o with moveActive := false }) s
    match m.cause with
    | .directive sq cid => dirStep sq cid i fail s
    | .drain _ => if fail.isNone then homeRecord i old s else s

/-- Complete the round of an object (R126, R115): CTR takes the value used, the home holds the sealed content. A staged
stack that takes a Field home releases its Chest object and posts its HOME record. -/
def wbFinish (i : Nat) (s : State) : State :=
  match s.tier.rounds.find? (fun r => r.obj = i) with
  | none => s
  | some r =>
    let o := getObj s i
    let old := o.home
    let f : Sealed := { stackId := r.stackId, ctr := r.ctr, keySel := r.keySel, kind := o.kind.code, data := r.data, corrupt := false }
    let s := { s with tier := { s.tier with rounds := s.tier.rounds.filter (fun x => x.obj ≠ i) } }
    let s := if o.imported then liveBit i s else s
    let s := modObj i (fun x =>
      { x with wbActive := false, stackId := r.stackId, ctr := r.ctr, keySel := r.keySel, imported := false,
               home := r.dest, sealed := some f,
               stageLoc := (if old.tier = .chest then none else x.stageLoc),
               staged := (if old.tier = .chest then false else x.staged) }) s
    if old = r.dest then s
    else
      let moved := s.tier.moves.any (fun m => m.obj = i && m.redirect)
      let s := match old with
        | .chest loc =>
          let s := chestRelease loc s
          if moved then s else homeRecord i .chest s
        | h => giveHeld i h r.frames s
      if moved then moveEnd i old.tier none s else s

/-- Make `need` bytes free in an Acre's Near for principal `q`, evicting as R108 and R109 allow. With `rounds`, dirty
objects of parked sessions are written back and their sheaves evicted. `none`: no room. -/
def makeRoom (a : Acre) (q need : Nat) (rounds : Bool) : Nat → State → Option State
  | 0, s => if need ≤ nearFree s a then some s else none
  | fuel + 1, s =>
    if need ≤ nearFree s a then some s
    else match evictOne a q [0, 1] s with
      | some s => makeRoom a q need rounds fuel s
      | none =>
        match (victims s a q).find? (fun v => v.2.2.1 = 2) with
        | some v =>
          if rounds then makeRoom a q need rounds fuel (wbFinish v.1 (wbStart v.1 s))
          else none
        | none =>
          match evictOne a q [3] s with
          | some s => makeRoom a q need rounds fuel s
          | none => none

/-- Evictions and rounds that one making of room can take. -/
def roomFuel (s : State) (a : Acre) : Nat :=
  (NMap.vals s.tier.objs).foldl (fun n o => n + (o.res.get a).length + 1) 1

/-- The status of an allocation that finds no room (R109). -/
def noRoom (s : State) (a : Acre) (q : Nat) : Status := if overLimit s a q then .quota else .noSpace

end Sys2Proof.Machine
end

