-- ==== Sys2Proof/Machine/TierOps.lean ====
section
/-!
DEFINITION. Operations on sessions' objects: fetching into Near, Drawer reads and writes, map entries, stack allocation,
copies of shared stacks, references and release (R102, R105, R107, R111, R117 to R120, R82).
-/
namespace Sys2Proof.Machine

/-! ## The Field of an Acre (R26, R122, R469, R483, R505, R522) -/

/-- The free run of an empty Field: 1,024 GB, or 768 GB over three channels, less the metadata region in its top 1/256, the trace
region and the checkpoint shadow below it (log 13). -/
def fieldLayout (s : State) (a : Acre) (three : Bool) : List (Nat × Nat) :=
  let all := (if three then 768000000000 else 1024000000000) * 255 / 256
  let taken := ((s.obs.trace.get a).gib + s.ckp.shadowGib.get a) * 2 ^ 30
  let plots := (all - taken) / 65536
  if plots = 0 then [] else [(0, plots * 16)]

/-- Nothing is homed, staged or lent in an Acre's Field. -/
def fieldEmpty (s : State) (a : Acre) : Bool :=
  (NMap.vals s.tier.objs).all (fun o => o.sstate = .free ||
    ((match o.home with
      | .fld b _ => b != a
      | _ => true) && (match o.stageLoc with
      | some (b, _) => b != a
      | none => true))) &&
  s.tier.lend.all (fun w => w.2.acre != a)

/-- A DEGRADED Field where nothing is homed any more is interleaved over three channels (R483). -/
def reinterleave (s : State) : State :=
  Acre.all.foldl (fun s a =>
    if s.ckp.degraded.get a && [1, 2, 4, 8].contains (liveF s .CKP_FENCE_MISC (.acre a) 0 19 16) && fieldEmpty s a then
      { s with ckp := { s.ckp with degraded := s.ckp.degraded.set a false, threeCh := s.ckp.threeCh.set a true },
               tier := { s.tier with fldFree := s.tier.fldFree.set a (fieldLayout s a true) } }
    else s) s

/-! ## Fetching into Near -/

/-- Why an object cannot be read from where it lies: lost with its window (R132) or its memory (R162, R483), in the
Chest without a staged copy, or failing its check. -/
def readFault (o : ObjRec) : Option Status :=
  if o.lost then (match o.home with
    | .headland _ _ => some .revoked
    | _ => some .uncorrectable)
  else match o.home with
    | .chest _ => if o.staged then (if homeCorrupt o then some .integrity else none) else some .notResident
    | _ => if homeCorrupt o then some .integrity else none

/-- Units of an object not in the Near of an Acre. -/
def missing (s : State) (i : Nat) (a : Acre) : List Nat :=
  let o := getObj s i
  (List.range (unitsOf s o)).filter (fun u => !isRes o a u)

/-- Bring the listed units into Near, with room made for each where it can be; a unit without room is left where it
is when `skip`. -/
def fetchUnits (i : Nat) (a : Acre) (rounds skip : Bool) : List Nat → State → Except Status State
  | [], s => .ok s
  | u :: r, s =>
    let o := getObj s i
    if isRes o a u then fetchUnits i a rounds skip r s
    else match readFault o with
      | some st => .error st
      | none =>
        match makeRoom a o.principal (unitBytes s o) rounds (roomFuel s a) s with
        | some s => fetchUnits i a rounds skip r (addRes i a u false s)
        | none => if skip then fetchUnits i a rounds skip r s else .error (noRoom s a o.principal)

/-- Bring a whole object into the Near of its Acre without waiting for room (maps and Drawers of sessions that are
being revived or written; log 23). -/
def fetchAll (i : Nat) (a : Acre) (s : State) : Except Status State :=
  match fetchUnits i a true true (missing s i a) s with
  | .error st => .error st
  | .ok s => .ok ((missing s i a).foldl (fun s u => addRes i a u false s) s)

/-- Mark units of an object in Near dirty, and the object DIRTY (R103, R106). -/
def markDirty (i : Nat) (a : Acre) (us : List Nat) (s : State) : State :=
  let s := liveBit i (cowTouch i us s)
  modObj i (fun o =>
    { o with dirty := true,
             res := o.res.set a (us.foldl (fun m u => NMap.modify m u (fun e => { e with dirty := true, ref := true })) (o.res.get a)) }) s

/-! ## The Drawer (R82, R83) -/

/-- Bytes of a session's Drawer as they stand. -/
def drawerRead (s : State) (slot off n : Nat) : List Byte := Cells.readN (getObj s (drawerObj slot)).data.bytes off n

/-- A 32-bit field of the Drawer header. -/
def hdr (s : State) (slot off : Nat) : Nat := leNat (drawerRead s slot off 4)

def logOff (s : State) (slot : Nat) : Nat := hdr s slot 0x4 * 4096
def logCap (s : State) (slot : Nat) : Nat := hdr s slot 0x8 * 1024
def inboxOff (s : State) (slot : Nat) : Nat := hdr s slot 0xC * 4096
def inboxSize (s : State) (slot : Nat) : Nat := hdr s slot 0x10 * 4096
def scratchOff (s : State) (slot : Nat) : Nat := hdr s slot 0x14 * 4096
def scratchSize (s : State) (slot : Nat) : Nat := hdr s slot 0x18 * 4096

/-- [off, off + n) lies in the scratch region. -/
def inScratch (s : State) (slot off n : Nat) : Bool :=
  decide (scratchOff s slot ≤ off) && decide (off + n ≤ scratchOff s slot + scratchSize s slot)

/-- Frames that [off, off + n) touches. -/
def framesOf (off n : Nat) : List Nat :=
  if n = 0 then [] else (List.range ((off + n - 1) / 4096 - off / 4096 + 1)).map (fun j => off / 4096 + j)

/-- A read of Drawer frames not in Near fails where their check does (R124). -/
def drawerFault (s : State) (slot off n : Nat) : Option Status :=
  let o := getObj s (drawerObj slot)
  let a := homeAcre slot
  if (framesOf off n).all (fun u => isRes o a u) then none else readFault o

/-- Write Drawer bytes: the Drawer is in Near as a whole while it is DIRTY (R106). Where its home frames fail their
check the write changes nothing and gives the status. -/
def drawerWrite (slot off : Nat) (bs : List Byte) (s : State) : Except Status State :=
  if bs.isEmpty then .ok s
  else
    let i := drawerObj slot
    let a := homeAcre slot
    match fetchAll i a s with
    | .error st => .error st
    | .ok s =>
      .ok (markDirty i a (framesOf off bs.length)
        (modObj i (fun o => { o with data := { o.data with bytes := Cells.writeN o.data.bytes off bs } }) s))

/-- The output areas of an operation of a session program hold undefined bytes: it was aborted (R18, R336). -/
def freeOuts (slot tag : Nat) (s : State) : State :=
  ((s.tin.asyncs.filter (fun o => o.slot = slot && o.tag = tag && !o.ended)).flatMap (fun o => o.outs)).foldl (fun s r =>
    match drawerWrite slot r.1 (freeBytes r.2 s) s with
    | .ok t => drew t
    | .error _ => s) s

/-- The token at a log position. -/
def tokenAt (s : State) (slot p : Nat) : Nat := leNat (drawerRead s slot (logOff s slot + 4 * p) 4)

/-- Bytes of a list of 32-bit tokens. -/
def tokenBytes (ts : List Nat) : List Byte := ts.flatMap (fun t => leBytes 4 t)

/-- Write tokens to the log from position `p`. -/
def logWrite (slot p : Nat) (ts : List Nat) (s : State) : Except Status State :=
  drawerWrite slot (logOff s slot + 4 * p) (tokenBytes ts) s

/-! ## Sheaf maps (R101, R102) -/

/-- Entries a map's run holds: 512 a frame. -/
def mapCap (s : State) (i : Nat) : Nat := (getObj s i).frames * 512

/-- Write or remove a map entry; the map is in Near and DIRTY. -/
def setEntry (i k : Nat) (e : Option MapEntry) (s : State) : State :=
  let a := objAcre i
  let s := if isRes (getObj s i) a (k / 512) then s else addRes i a (k / 512) true s
  markDirty i a [k / 512]
    (modObj i (fun o => { o with data := { o.data with
      entries := match e with
        | some e => NMap.put o.data.entries k e
        | none => NMap.erase o.data.entries k } }) s)

/-- Make room for entry `k` of a session's map (R102): a run twice as large is taken and the old one freed until it
holds the entry. `none`: no run is free. -/
def growMap (slot k : Nat) : Nat → State → Option State
  | 0, _ => none
  | fuel + 1, s =>
    let i := mapObj slot
    if k < mapCap s i then some s
    else
      let o := getObj s i
      let a := homeAcre slot
      match takeField a 1 (2 * o.frames) s with
      | none => none
      | some (f, s) =>
        let s := giveRun i o.home o.frames (takeNow i s)
        growMap slot k fuel
          (modObj i (fun o => { o with home := .fld a f, frames := 2 * o.frames, sealed := none, dirty := true }) s)

/-! ## Stacks -/

/-- Frames of a stack's home run: whole plots (R96). -/
def stackRun (g : Geom) : Nat := g.plots * 16

/-- A new object record in a general slot, in Near and DIRTY, zero-filled (R107). -/
def newObj (i : Nat) (kind : ObjKind) (profile frames principal : Nat) (home : Home) (owner : Option Nat)
    (data : ObjData) (s : State) : State :=
  modObj i (fun o =>
    { ObjRec.freeOf i o.nextCtr with
      stackId := stackIdOf s i, home := home, kind := kind, profile := profile, sstate := .priv, dirty := true,
      keySel := s.sec.curGen, refcnt := 1, principal := principal, owner := owner, frames := frames, data := data }) s

/-- Put every unit of an object into Near as dirty. -/
def allDirty (i : Nat) (a : Acre) (s : State) : State :=
  markDirty i a (List.range (unitsOf s (getObj s i)))
    ((missing s i a).foldl (fun s u => addRes i a u true s) s)

/-- Allocate the stack of map entry `k` for an append (R107, R111, R98): a general slot, a home run by the session's
policy, Near room. -/
def allocStack (slot k : Nat) (data : ObjData) (s : State) : Except Status State :=
  let d := desc s slot
  let a := homeAcre slot
  let g := geom s d.profile
  let p := (auxOf s slot).policy
  match takeByPolicy p.tier p.target a (stackRun g) s with
  | none => .error .noSpace
  | some (h, s1) =>
    match takeGeneral a s1 with
    | none => .error .noSpace
    | some (i, s1) =>
      let need := g.layers * g.sheaf + (4 * g.layers + 63) / 64 * 64
      match makeRoom a d.principal need true (roomFuel s1 a) s1 with
      | none => .error (noRoom s1 a d.principal)
      | some s1 =>
        match growMap slot k 24 s1 with
        | none => .error .noSpace
        | some s1 =>
          let s1 := newObj i .stack d.profile (stackRun g) d.principal h (some slot) data s1
          .ok (setEntry (mapObj slot) k (some { shared := false, ref := .record i }) (allDirty i a s1))

/-- An open attention entry reads some unit of the object. -/
def anyReader (s : State) (i : Nat) : Bool :=
  (NMap.vals s.fur.entries).any (fun e => e.open_ &&
    (match stackIndex s e.slot i with
     | some k => decide (64 * k < e.ctxHi)
     | none => false))

/-- Free an object whose references are gone: its home run, a staged copy and the Chest object behind it, and the
record. A move in progress gives its destination back. -/
def freeStack (i : Nat) (s : State) : State :=
  let o := getObj s i
  let s := match s.tier.moves.find? (fun m => m.obj = i) with
    | some m => giveHome m.dest o.run s
    | none => s
  let s := { s with tier := { s.tier with
    moves := s.tier.moves.filter (fun m => m.obj ≠ i), rounds := s.tier.rounds.filter (fun r => r.obj ≠ i),
    donorWait := s.tier.donorWait.filter (· ≠ i), wbQ := s.tier.wbQ.map (fun q => q.filter (· ≠ i)) } }
  let s := match o.home with
    | .chest loc =>
      (match o.stageLoc with
       | some (a, f) => giveField a f o.run (chestRelease loc s)
       | none => chestRelease loc s)
    | h => giveHeld i h o.run s
  freeObj i s

/-- Free a stack whose REFCNT is zero once no reader and no round holds it (R242, R120). -/
def sweepObj (i : Nat) (s : State) : State :=
  let o := getObj s i
  if o.refcnt = 0 && (o.sstate = .priv || o.sstate = .shared) && 0x800000 ≤ i && !anyReader s i && !o.wbActive then
    freeStack i s
  else s

/-- Every object whose references are gone. -/
def sweepAll (s : State) : State := (NMap.keys s.tier.objs).foldl (fun s i => sweepObj i s) s

/-- A reference to a stack falls by one (R242, R119, R120). -/
def dropRef (i : Nat) (s : State) : State := sweepObj i (modObj i (fun o => { o with refcnt := o.refcnt - 1 }) s)

/-- Release what a map entry names (R242, R154). -/
def releaseEntry (e : MapEntry) (s : State) : State :=
  match e.ref with
  | .record i => dropRef i s
  | .chestLoc loc => chestRelease loc s
  | .offDevice _ => s

/-- Release the map entries `k` with 64k at or above `head` (R242). -/
def releaseAbove (slot head : Nat) (s : State) : State :=
  let m := (getObj s (mapObj slot)).data.entries
  (m.filter (fun e => head ≤ 64 * e.1)).foldl
    (fun s e => releaseEntry e.2 (setEntry (mapObj slot) e.1 none s)) s

/-- The part of a stack's content below position `n` of the stack: the rows of each head at positions `n` and above
are zero (R117, R119). -/
def clipStack (g : Geom) (n : Nat) (data : ObjData) : ObjData :=
  let head := 64 * (g.rk + g.rv)
  let keep := fun addr =>
    let o := addr % g.sheaf
    if g.sheaf = 0 ∨ head = 0 then false
    else
      let r := o % head
      if r < 64 * g.rk then decide (r < n * g.rk) else decide (r - 64 * g.rk < n * g.rv)
  { data with bytes := data.bytes.filter (fun c => keep c.1) }

/-- Copy a SHARED stack to a private slot before an append to positions from `lo` (R119). Positions at or above
L mod 64 are zeroed where the prefix's last stack is partial; for a full stack nothing lies above. -/
def copyShared (slot k i lo : Nat) (s : State) : Except Status State :=
  let o := getObj s i
  match (if allRes s o (homeAcre slot) then none else readFault o) with
  | some st => .error st
  | none =>
    let data := if lo / 64 = k ∧ lo % 64 ≠ 0 then clipStack (geom s o.profile) (lo % 64) o.data else o.data
    match allocStack slot k data s with
    | .error st => .error st
    | .ok s => .ok (dropRef i s)

/-! ## Descriptor words (R64) -/

/-- Attention operations admitted and not completed. -/
def attnInflight (s : State) (slot : Nat) : Nat :=
  ((NMap.vals s.fur.entries).filter (fun e => e.open_ && e.slot = slot)).length

/-- Trims held at the descriptor. -/
def trimPend (s : State) (slot : Nat) : Nat :=
  ((auxOf s slot).held.filter (fun h => match h with
    | .trim _ _ => true
    | .setFloor _ _ => true
    | .parkTrim _ _ => true
    | .sample _ => true
    | _ => false)).length

/-- Write-backs and fetches of the session's objects in flight: rounds, and stagings (log 24). -/
def moveInflight (s : State) (slot : Nat) : Nat :=
  ((ownObjs s slot).filter (fun i => (getObj s i).wbActive)).length +
    (s.chest.stagings.filter (fun g => g.owner = slot)).length

/-- Number of the session's sheaves in Near: over its map's stacks, the layers present at its home Acre. -/
def residentCount (s : State) (slot : Nat) : Nat :=
  (getObj s (mapObj slot)).data.entries.foldl (fun n e => match e.2.ref with
    | .record i => n + ((getObj s i).res.get (homeAcre slot)).length
    | _ => n) 0

/-- Every sheaf below SPEC_HEAD is in Near, Field or Headland (R64); a staged copy counts as Field (R77). -/
def allReadable (s : State) (slot : Nat) : Bool :=
  (getObj s (mapObj slot)).data.entries.all (fun e => match e.2.ref with
    | .record i =>
      let o := getObj s i
      (match o.home with
       | .chest _ => o.staged || allRes s o (homeAcre slot)
       | _ => !o.lost)
    | _ => decide ((desc s slot).specHead ≤ 64 * e.1))

/-- Field address form of R388 within descriptors: Acre in [47:46], byte offset in [45:0]. -/
def fieldAddr (h : Home) : Nat :=
  match h with
  | .fld a f => a.num * 2 ^ 46 + f * 4096
  | _ => 0

/-- Bool as a bit at a place. -/
def at_ (b : Bool) (n : Nat) : Nat := if b then 2 ^ n else 0

/-- Word `n` of a slot's descriptor as a reader sees it; word 62 reads zero (R64). -/
def descWord (s : State) (slot n : Nat) : Word :=
  let d := desc s slot
  let i := mapObj slot
  BitVec.ofNat 64 <|
    match n with
    | 0 => slot + d.gen * 2 ^ 22 + d.state.code * 2 ^ 32 + d.profile * 2 ^ 36 + d.principal * 2 ^ 40 + 2 ^ 52 +
        d.prevState.code * 2 ^ 56
    | 1 => d.tenancyEpoch + d.ckptEpoch * 2 ^ 32
    | 2 => d.len + d.floor * 2 ^ 32
    | 3 => d.specHead + residentCount s slot * 2 ^ 32
    | 4 => if d.state = .free then 0 else
        fieldAddr (getObj s i).home + (if (getObj s i).res.get (homeAcre slot) = [] then 2 ^ 48 else 0) +
        at_ (getObj s i).dirty 51
    | 5 => d.mapStacks + d.prefixId * 2 ^ 24
    | 6 => if d.state = .free then 0 else fieldAddr (getObj s (drawerObj slot)).home + d.drawerPlots * 2 ^ 48
    | 7 => d.logCount
    | 8 => d.inboxWr + d.inboxRd * 2 ^ 32
    | 9 => at_ d.wakeDoorbell 0 + at_ d.wakeObject 1 + at_ d.wakeDeadline 2 + 8 + d.wakeCause.code * 2 ^ 4 +
        d.syncId * 2 ^ 8 + d.syncPred * 2 ^ 24 + d.window * 2 ^ 32
    | 10 => d.syncValue.toNat
    | 11 => d.deadline
    | 12 => attnInflight s slot + trimPend s slot * 2 ^ 16 + moveInflight s slot * 2 ^ 24 + at_ d.reviveActive 32 +
        at_ d.migrateActive 33 + at_ d.shadowPend 34 + at_ (d.state ≠ .free && allReadable s slot) 35 + at_ d.ready 36 +
        at_ d.pinned 37 + at_ d.wakeQueued 38
    | 13 => d.imageId + d.eventRing * 2 ^ 32 + d.streamRing * 2 ^ 48
    | 14 => d.migDevice + d.migHandle * 2 ^ 16
    | 15 => d.lastChange
    | 16 => d.maxNew + d.newCount * 2 ^ 32
    | 17 => d.toolOpen + d.toolClose * 2 ^ 32
    | 18 => d.stopCount + d.eosCount * 2 ^ 8
    | 19 => d.matchProg.toNat
    | 20 => d.toolcallStart + at_ d.inToolCall 32
    | 63 => d.seq
    | n => if 32 ≤ n ∧ n < 48 then (d.ctx.getD (n - 32) 0).toNat else 0

/-- The 512 bytes of a descriptor. -/
def descBytes (s : State) (slot : Nat) : List Byte :=
  (List.range 64).flatMap (fun n => leBytes 8 (descWord s slot n).toNat)

end Sys2Proof.Machine
end

