-- ==== Sys2Proof/Machine/SyncCore.lean ====
section
/-!
DEFINITION. Synchronisation objects: words, codes, predicates, and the watches of parked sessions (R344 to R350, R356,
R357).
-/
namespace Sys2Proof.Machine

/-- Kinds of object (R345, R347). -/
inductive SynKind where
  | free | lock | sem | cctr | barrier | reserved
  deriving DecidableEq, Repr

def SynKind.ofCode : Nat → SynKind
  | 0 => .free
  | 1 => .lock
  | 2 => .sem
  | 3 => .cctr
  | 4 => .barrier
  | _ => .reserved

/-- Acre of an object ID (R344). -/
def synAcre (obj : Nat) : Acre := Acre.ofNum (obj / 2 ^ 14)

/-- The live definition of an object (R345). -/
def synDef (s : State) (obj : Nat) : Word := live s .SYN_DEF (.acre (synAcre obj)) (obj % 2 ^ 14)

def synWord (s : State) (obj : Nat) : Word := NMap.get 0 s.sync.words obj

def setSynWord (obj : Nat) (w : Word) (s : State) : State :=
  { s with sync := { s.sync with words := NMap.putD 0 s.sync.words obj w } }

/-- The kind in an object's word (R347). -/
def synKind (s : State) (obj : Nat) : SynKind := SynKind.ofCode (field (synWord s obj) 63 61)

/-- LSTATE of a lock: 0 FREE, 1 HELD, 2 ABANDONED, 3 REPAIR. -/
def lstate (w : Word) : Nat := field w 47 46

/-- A lock's word. -/
def lockWord (lst holder : Nat) : Word := BitVec.ofNat 64 (2 ^ 61 + lst * 2 ^ 46 + holder)

/-- Bits [31:0]: the value reported (R347). -/
def synValue (w : Word) : Nat := field w 31 0

/-- CODE values of R349. -/
def cREAD : Nat := 0
def cGE : Nat := 1
def cNE : Nat := 2
def cPHASE : Nat := 3
def cFREE : Nat := 4
def cARMGE : Nat := 5
def cARMNE : Nat := 6
def cARMPHASE : Nat := 7
def cLOCK : Nat := 8
def cP : Nat := 9
def cARRIVE : Nat := 10
def cARMFREE : Nat := 11
def cUNLOCK : Nat := 12
def cV : Nat := 13
def cADD : Nat := 14
def cDISARM : Nat := 15

/-- The code takes objects of the kind (R349). -/
def kindFits (code : Nat) (k : SynKind) : Bool :=
  match k with
  | .free => false
  | .reserved => false
  | .lock => [0, 2, 4, 6, 8, 11, 12, 15].contains code
  | .sem => [0, 1, 2, 5, 6, 9, 13, 15].contains code
  | .cctr => [0, 1, 2, 5, 6, 14, 15].contains code
  | .barrier => [0, 2, 3, 6, 7, 10, 15].contains code

/-- Codes of `wait` and of `signal` (R349). -/
def waitCode (code : Nat) : Bool := [1, 2, 3, 4, 8, 9, 10].contains code
def signalCode (_code : Nat) : Bool := true

/-- The predicate code an ARM code registers (R356). -/
def armPred (code : Nat) : Nat :=
  if code = cARMGE then cGE else if code = cARMNE then cNE else if code = cARMPHASE then cPHASE else cFREE

/-- The operand lies in its range (R350). -/
def operandOk (code : Nat) (v : Word) : Bool :=
  let n := v.toNat
  if code = cP then decide (1 ≤ n) && decide (n ≤ 65535)
  else if code = cV || code = cADD then decide (1 ≤ n) && decide (n ≤ 0xFFFFFFFF)
  else if code = cARRIVE || code = cUNLOCK then decide (n ≤ 1)
  else true

/-- A predicate of R349 on an object's word. -/
def synHolds (w : Word) (pred : Nat) (v : Word) : Bool :=
  match SynKind.ofCode (field w 63 61) with
  | .sem =>
    if pred = cGE then decide (field v 31 0 ≤ synValue w)
    else if pred = cNE then synValue w != field v 31 0 else false
  | .cctr =>
    let c := field w 47 0
    if pred = cGE then decide ((c + 2 ^ 48 - field v 47 0) % 2 ^ 48 < 2 ^ 47)
    else if pred = cNE then c != field v 47 0 else false
  | .barrier =>
    if pred = cPHASE then field w 15 0 != field v 15 0
    else if pred = cNE then synValue w != field v 31 0 else false
  | .lock =>
    if pred = cFREE then lstate w = 0
    else if pred = cNE then synValue w != field v 31 0 else false
  | _ => false

/-- Remove a session's watch (R357). -/
def removeWatch (slot : Nat) (s : State) : State :=
  { s with sync := { s.sync with watches := s.sync.watches.filter (fun w => w.slot ≠ slot) } }

/-- The session's object wake can be registered: it is enabled, its object is not FREE and the predicate fits the
kind (R357). -/
def watchFits (s : State) (d : Desc) : Bool :=
  d.wakeObject && kindFits d.syncPred (synKind s d.syncId)

/-- Register the watch of a session (R357). -/
def addWatch (slot : Nat) (s : State) : State :=
  let d := desc s slot
  let s := removeWatch slot s
  if watchFits s d then
    { s with sync := { s.sync with
      watches := s.sync.watches ++ [{ slot := slot, obj := d.syncId, pred := d.syncPred, value := d.syncValue }] } }
  else s

end Sys2Proof.Machine
end

