-- ==== Sys2Proof/Machine/BureauOps.lean ====
section
/-!
DEFINITION. The Session Bureau's shared operations: ownership by a Shelf, the wake arbiter, intake, revival, parking,
trims, the matcher, and entry into FENCED (R66 to R91, R225 to R251).
-/
namespace Sys2Proof.Machine

/-! ## Ownership (R88, R91) -/

/-- The session has an operation in flight or held. -/
def busyOps (s : State) (slot : Nat) : Bool :=
  attnInflight s slot != 0 || !(auxOf s slot).held.isEmpty || moveInflight s slot != 0

/-- A line may leave its Shelf (R91). -/
def lineEvictable (s : State) (slot : Nat) : Bool := !(desc s slot).state.live && !busyOps s slot

/-- Set a directory entry; the empty entry is not listed. -/
def setDir (slot : Nat) (e : DirEntry) (s : State) : State :=
  { s with bur := { s.bur with dir := NMap.putD .empty s.bur.dir slot e } }

/-- Write a descriptor's home copy. -/
def setHome (slot : Nat) (d : Desc) (s : State) : State := { s with bur := { s.bur with home := NMap.put s.bur.home slot d } }

def setLine (a : Acre) (slot : Nat) (l : ShelfLine) (s : State) : State :=
  { s with bur := { s.bur with shelf := s.bur.shelf.set a (NMap.put (s.bur.shelf.get a) slot l) } }

def dropLine (a : Acre) (slot : Nat) (s : State) : State :=
  { s with bur := { s.bur with shelf := s.bur.shelf.set a (NMap.erase (s.bur.shelf.get a) slot) } }

/-- Evict a line: an O line is written back to its home (R91). -/
def evictLine (a : Acre) (slot : Nat) (s : State) : State :=
  match NMap.get? (s.bur.shelf.get a) slot with
  | none => s
  | some l =>
    let s := dropLine a slot s
    if l.own then setDir slot { dirOf s slot with st := .home } (setHome slot l.copy s)
    else
      match (dirOf s slot).st with
      | .shared l => setDir slot { dirOf s slot with st := (if l.filter (· ≠ a) = [] then .home else .shared (l.filter (· ≠ a))) } s
      | _ => s

/-- Room for one more line in a Shelf of 131,072: free, or made by evicting a line that may leave; which one is a free
choice (log 25). -/
def shelfRoom (a : Acre) (s : State) : Option State :=
  if (s.bur.shelf.get a).length < 131072 then some s
  else
    let c := (NMap.keys (s.bur.shelf.get a)).filter (fun k => lineEvictable s k)
    match c with
    | [] => none
    | x :: r => some (evictLine a ((x :: r).getD (freeBelow (r.length + 1) s) x) (drew s))

/-- Every S copy of a descriptor is invalidated (R88). -/
def dropShared (slot : Nat) (s : State) : State :=
  match (dirOf s slot).st with
  | .shared l => l.foldl (fun s a => dropLine a slot s) s
  | _ => s

/-- A Shelf takes a descriptor in O from its home. -/
def takeOwned (a : Acre) (slot : Nat) (s : State) : State :=
  let d := desc s slot
  let s := dropShared slot s
  setDir slot { dirOf s slot with st := .owned a, wb := none } (setLine a slot { own := true, copy := d } s)

/-- A write-back reaches its home: it is written into the home copy, and the home has no owner (R89). -/
def wbArrives (slot : Nat) (s : State) : State :=
  let e := dirOf s slot
  match e.wb with
  | none => s
  | some d => setDir slot { e with st := .home, wb := none, recalled := false } (setHome slot d s)

/-- An operation reaches the Shelf that owns the descriptor; where none owns it, the home Acre's Shelf takes it, after
a write-back in flight has reached the home. `none`: no line of that Shelf may be evicted (ST_BUSY, R91). -/
def own (slot : Nat) (s : State) : Option State :=
  let s := wbArrives slot s
  match (dirOf s slot).st with
  | .owned _ => some s
  | _ => (shelfRoom (homeAcre slot) s).map (takeOwned (homeAcre slot) slot)

/-! ## Principals (R72, R86) -/

/-- The Acre that keeps a principal (R86). -/
def prinAcre (p : Nat) : Acre := Acre.ofNum (p / 2 ^ 10)

def prinSessions (s : State) (p : Nat) : Nat := ((sessions s).filter (fun x => (desc s x).principal = p)).length
def prinLive (s : State) (p : Nat) : Nat :=
  ((sessions s).filter (fun x => (desc s x).principal = p && (desc s x).state.live)).length
def prinReviving (s : State) (p : Nat) : Nat :=
  ((sessions s).filter (fun x => (desc s x).principal = p && (desc s x).state = .reviving)).length

def prinLimit (s : State) (p hi lo : Nat) : Nat := liveF s .BUR_PRIN_LIMIT (.acre (prinAcre p)) p hi lo

/-- A fired wake of the principal may be admitted (R72). -/
def wakeAllowed (s : State) (p : Nat) : Bool :=
  (prinLimit s p 37 22 = 0xFFFF || decide (prinLive s p < prinLimit s p 37 22)) &&
    (prinLimit s p 45 38 = 0xFF || decide (prinReviving s p < prinLimit s p 45 38))

/-! ## Intake (R248) -/

/-- What intake has done so far. -/
structure Intake where
  rd     : Nat
  tokens : List Nat
  call   : Nat
  status : Status
  deriving DecidableEq, Repr

/-- Take in records from `rd`, `left` bytes of them before INBOX_WR, `room` positions of log free. -/
def intakeLoop (read : Nat → Nat → List Byte) (size wr : Nat) : Nat → Nat → Nat → Intake → Intake
  | 0, _, _, i => i
  | fuel + 1, left, room, i =>
    if left = 0 then i
    else
      let len := leNat (read i.rd 4)
      let kind := leNat (read (i.rd + 4) 1)
      let count := leNat (read (i.rd + 8) 4)
      let bad := len = 0 ∨ len % 16 ≠ 0 ∨ left < len ∨ size < i.rd + len ∨ (kind ≠ 1 ∧ kind ≠ 2) ∨
        (kind = 1 ∧ len < 16 + 4 * count)
      if bad then { i with rd := wr, status := .badFormat }
      else if kind = 2 then intakeLoop read size wr fuel (left - len) room { i with rd := (i.rd + len) % size }
      else if room < count then { i with status := .noSpace }
      else
        let ts := (List.range count).map (fun j => leNat (read (i.rd + 16 + 4 * j) 4))
        intakeLoop read size wr fuel (left - len) (room - count)
          { i with rd := (i.rd + len) % size, tokens := i.tokens ++ ts, call := leNat (read (i.rd + 12) 4) }

/-- Intake of a session at its REVIVING commit. `error`: the Drawer's frames fail their check. -/
def intake (slot : Nat) (s : State) : Except Status State :=
  let d := desc s slot
  let size := inboxSize s slot
  let x := auxOf s slot
  if size = 0 ∨ d.inboxRd = d.inboxWr then
    .ok (setAux slot { x with intakeCall := 0, intakeTokens := 0, intakeStatus := .ok } s)
  else match drawerFault s slot (inboxOff s slot) size with
    | some st => .error st
    | none =>
      let left := (d.inboxWr + size - d.inboxRd) % size
      let r := intakeLoop (fun o n => drawerRead s slot (inboxOff s slot + o) n) size d.inboxWr (left / 16 + 1) left
        (logCap s slot - d.logCount) { rd := d.inboxRd, tokens := [], call := 0, status := .ok }
      match logWrite slot d.logCount r.tokens s with
      | .error st => .error st
      | .ok s =>
        .ok (setAux slot { auxOf s slot with
              intakeCall := r.call, intakeTokens := r.tokens.length, intakeStatus := r.status }
          (commitDesc slot (fun d => { d with logCount := d.logCount + r.tokens.length, inboxRd := r.rd }) s))

/-! ## Fetching the window (R73, R76, R77) -/

/-- Create the record of a staged copy for a Chest-homed stack in map entry `k` and queue its staging (R100, R115).
`none`: no Field plots or no general slot. -/
def stageBegin (slot k loc : Nat) (cause : StageCause) (s : State) : Option State :=
  let r := chestRec s (locIndex loc)
  if !locValid s loc then none
  else
    let a := homeAcre slot
    let d := desc s slot
    let g := geom s r.profile
    match takeField a 16 (stackRun g) s with
    | none => none
    | some (f, s1) =>
      match takeGeneral a s1 with
      | none => none
      | some (i, s1) =>
        let cont := NMap.get? s1.chest.content (locIndex loc)
        let data := match cont with
          | some c => c.data
          | none => .empty
        let s1 := modObj i (fun o =>
          { ObjRec.freeOf i o.nextCtr with
            stackId := r.stackId, home := .chest loc, kind := .stack, profile := r.profile, sstate := .priv,
            imported := true, keySel := r.keySel, ctr := r.ctr, refcnt := 1, principal := d.principal,
            stageLoc := some (a, f), owner := some slot, frames := stackRun g, data := data, sealed := cont }) s1
        let s1 := setEntry (mapObj slot) k (some { shared := false, ref := .record i }) s1
        some { s1 with chest := { s1.chest with
          stagings := s1.chest.stagings ++
            [{ loc := loc, obj := i, owner := slot, cause := cause, left := maskDrives r.driveMask,
               segs := NMap.mapV r.pieces (fun _ p => p.1) }] } }

/-- Map entries of a session that lie in the Chest without a staged copy: index and locator. -/
def chestEntries (s : State) (slot : Nat) : List (Nat × Nat) :=
  (getObj s (mapObj slot)).data.entries.filterMap (fun e => match e.2.ref with
    | .chestLoc l => some (e.1, l)
    | _ => none)

/-- Stage the Chest-homed stacks of the window, ascending (R76). -/
def stageWindow (slot : Nat) (s : State) : State :=
  ((chestEntries s slot).filter (fun e => overlaps e.1 (windowOf s slot))).foldl
    (fun s e => (stageBegin slot e.1 e.2 (.revival slot) s).getD s) s

/-- Stage the other Chest-homed stacks, from the tail of the context towards its start (R77). -/
def stageRest (slot : Nat) (s : State) : State :=
  (chestEntries s slot).reverse.foldl (fun s e => (stageBegin slot e.1 e.2 (.background slot) s).getD s) s

/-- Records of the stacks the window overlaps. -/
def windowObjs (s : State) (slot : Nat) : List Nat :=
  (getObj s (mapObj slot)).data.entries.filterMap (fun e => match e.2.ref with
    | .record i => if overlaps e.1 (windowOf s slot) then some i else none
    | _ => none)

/-- Acre whose Field supplies an object: its home's, or that of its staged copy. -/
def sourceAcre (o : ObjRec) : Option Acre :=
  match o.home, o.stageLoc with
  | .fld a _, _ => some a
  | .chest _, some (a, _) => if o.staged then some a else none
  | _, _ => none

/-- Window objects of a session that an Acre's Field must supply. -/
def fetchFrom (s : State) (slot : Nat) (a : Acre) : List Nat :=
  (windowObjs s slot).filter (fun i =>
    sourceAcre (getObj s i) = some a && !(missing s i (homeAcre slot)).isEmpty)

/-- Queue the revival fetch on every Field that must supply window sheaves (R73, R74). -/
def queueFetch (slot : Nat) (s : State) : State :=
  let now := ktb s
  Acre.all.foldl (fun s a =>
    if (fetchFrom s slot a).isEmpty then s
    else { s with bur := { s.bur with revQ := s.bur.revQ.set a (s.bur.revQ.get a ++ [{ slot := slot, queuedAt := now }]) } }) s

/-- Headland-homed window sheaves are fetched over the TC4 shaper, in no Field's queue (R77). -/
def fetchHeadland (slot : Nat) (s : State) : Except Status State :=
  ((windowObjs s slot).filter (fun i => (getObj s i).home.tier = .headland)).foldl
    (fun r i => match r with
      | .error st => .error st
      | .ok s => fetchUnits i (homeAcre slot) false true (missing s i (homeAcre slot)) s) (.ok s)

/-- A session's revival fetch is forgotten (R67). -/
def dropFetch (slot : Nat) (s : State) : State :=
  { s with
    bur := { s.bur with revQ := s.bur.revQ.map (fun q => q.filter (fun f => f.slot ≠ slot)) } }

/-! ## Ends of held entries, and fences -/

/-- An attention entry ends with a status at its Shelf; an entry of a program raises its DONE (R334). -/
def endEntry (id : Nat) (st : Status) (s : State) : State :=
  match NMap.get? s.fur.entries id with
  | none => s
  | some e =>
    if e.status.isSome then s
    else
      let s := { s with fur := { s.fur with
        entries := NMap.put s.fur.entries id { e with status := some st, descSeq := (desc s e.slot).seq % 2 ^ 32 } } }
      let s := if e.credit then streamRelease (desc s e.slot).streamRing 256 s else s
      match e.src with
      | .tine slot tag _ out =>
        let el := leBytes 1 st.code ++ [0] ++ leBytes 2 e.q ++ leBytes 8 0 ++ leBytes 4 (desc s slot).seq ++ List.replicate 48 0
        let s := if st = .aborted then freeOuts slot tag s else match drawerWrite slot out el s with
          | .ok s => s
          | .error _ => s
        asyncEnd slot tag 6 (BitVec.ofNat 64 st.code) s
      | .arq _ _ _ => s

/-- End every operation held at a descriptor with a status (R70); what never completes (an implicit trim) is dropped. -/
def endHeld (slot : Nat) (st : Status) (s : State) : State :=
  let x := auxOf s slot
  let s := setAux slot { x with held := [], sampleHold := [] } s
  let s := x.sampleHold.foldl (fun s e => endEntry e.1 st s) s
  x.held.foldl (fun s h => match h with
    | .attn id => endEntry id st s
    | .trim src _ => finish src st 0 0 s
    | .setFloor src _ => finish src st 0 0 s
    | .park src _ => finish src st 0 0 s
    | .sample _ => s
    | .parkTrim _ _ => s) s

/-- Held attention requests only (R70). -/
def endHeldAttn (slot : Nat) (st : Status) (s : State) : State :=
  let x := auxOf s slot
  let (at_, rest) := x.held.partition (fun h => match h with
    | .attn _ => true
    | _ => false)
  let s := setAux slot { x with held := rest } s
  at_.foldl (fun s h => match h with
    | .attn id => endEntry id st s
    | _ => s) s

/-- The program's waits on objects end with a status (R354); their DONE event is raised unless `quiet`. -/
def endWaits (slot : Nat) (st : Status) (quiet : Bool) (s : State) : State :=
  let mine := s.sync.waits.filter (fun w => match w.who with
    | .session x _ => x = slot
    | .gate _ => false)
  let s := { s with sync := { s.sync with waits := s.sync.waits.filter (fun w => match w.who with
    | .session x _ => x ≠ slot
    | .gate _ => true) } }
  if quiet then s
  else mine.foldl (fun s w => match w.who with
    | .session x tag => asyncEnd x tag 6 (BitVec.ofNat 64 st.code) s
    | .gate _ => s) s

/-! ## The wake arbiter (R71, R72) -/

/-- Can the REVIVING commit of a session be made now: the principal's counts, a Shelf line, and stream room for the
RESUME record (R72, R91, R246). -/
def reviveRoom (s : State) (slot : Nat) : Bool :=
  wakeAllowed s (desc s slot).principal && (own slot s).isSome && streamRoom (desc s slot).streamRing 256 s

/-- The FENCED commit (R67): the program's waits end, the watch is dropped, held operations end. Locks are abandoned
by the caller's layer (R363); the slot is put on the list of locks to abandon. -/
def fencedCommit (slot : Nat) (st : Status) (s : State) : State :=
  let s := dropFetch slot (removeWatch slot s)
  let s := endHeld slot .fenced s
  let s := endWaits slot .fenced false s
  let s := if (auxOf s slot).resumeReserved then streamRelease (desc s slot).streamRing 256 s else s
  let s := commitState slot .fenced st (fun d =>
    { d with ready := false, reviveActive := false }) s
  setAux slot { auxOf s slot with fencing := false, resumeReserved := false, locksDue := true } s

/-- A session meets an integrity failure or a fence of a core (R67, R80, R124): it becomes FENCED after the last of its
admitted operations; from now on operations find it FENCED. -/
def fenceSession (slot : Nat) (st : Status) (s : State) : State :=
  match (desc s slot).state with
  | .free => s
  | .fenced => s
  | .retiring => s
  | _ =>
    match own slot s with
    | none => setAux slot { auxOf s slot with fencing := true } s
    | some s =>
      if attnInflight s slot = 0 then fencedCommit slot st s
      else setAux slot { auxOf s slot with fencing := true } s

/-- The REVIVING commit (R67, R238, R246, R248): PREV_STATE, NEW_COUNT = 0, then intake and the queueing of the window's
fetch. -/
def revivingCommit (slot : Nat) (s : State) : State :=
  match own slot s with
  | none => s
  | some s =>
    let d := desc s slot
    let prev := d.state
    let s := streamReserve d.streamRing 256 s
    let s := commitState slot .reviving .ok (fun d =>
      { d with prevState := prev, newCount := 0, wakeQueued := false, reviveActive := true, ready := false }) s
    let s := setAux slot { auxOf s slot with resumeReserved := true } s
    match intake slot s with
    | .error st => fenceSession slot st s
    | .ok s =>
      match fetchAll (mapObj slot) (homeAcre slot) s with
      | .error st => fenceSession slot st s
      | .ok s =>
        match fetchHeadland slot (stageWindow slot s) with
        | .error st => fenceSession slot st s
        | .ok s => queueFetch slot s

/-- Put a session's wake in its principal's queue (R72). -/
def queueWake (slot : Nat) (s : State) : State :=
  let p := (desc s slot).principal
  { s with bur := { s.bur with wakeQ := NMap.put s.bur.wakeQ p (NMap.get [] s.bur.wakeQ p ++ [slot]) } }

/-- Remove it. -/
def unqueueWake (slot : Nat) (s : State) : State :=
  let p := (desc s slot).principal
  let q := (NMap.get [] s.bur.wakeQ p).filter (· ≠ slot)
  { s with bur := { s.bur with
    wakeQ := if q = [] then NMap.erase s.bur.wakeQ p else NMap.put s.bur.wakeQ p q,
    getxRetry := s.bur.getxRetry.filter (fun e => e.2 ≠ slot) } }

/-- A wake condition reaches the wake arbiter of a parked or DORMANT session (R71, R72): WAKE_CAUSE is recorded and
every condition disarmed in one commit; the wake is admitted, or queued behind the principal's earlier ones. A session
whose wake has fired already records nothing more. -/
def fireWake (slot : Nat) (cause : WakeCause) (s : State) : State :=
  let d := desc s slot
  if !(d.state.parked || d.state = .dormant) || d.wakeQueued || (auxOf s slot).fencing then s
  else
    let s := removeWatch slot s
    let upd := fun (d : Desc) =>
      { d with wakeCause := cause, deadline := (if cause = .deadline then 0 else d.deadline) }
    if (NMap.get [] s.bur.wakeQ d.principal).isEmpty && reviveRoom s slot then
      revivingCommit slot (putDesc slot (upd (desc s slot)) s)
    else
      let s := match own slot s with
        | some s => s
        | none =>
          { s with bur := { s.bur with getxRetry := s.bur.getxRetry ++ [(homeAcre slot, slot)] } }
      let s := if streamRoom d.streamRing 256 s then s else bumpF .GEN_EVENTS (.acre (homeAcre slot)) 0 63 48 1 s
      queueWake slot (commitDesc slot (fun d => { upd d with wakeQueued := true }) s)

/-- The wake conditions that hold now, of those enabled (R71, R79, R357). -/
def wakesDue (s : State) (slot : Nat) : List WakeCause :=
  let d := desc s slot
  (if d.wakeDoorbell ∧ d.inboxWr ≠ d.inboxRd then [.doorbell] else []) ++
  (if watchFits s d && synHolds (synWord s d.syncId) d.syncPred d.syncValue then [.object] else []) ++
  (if d.wakeDeadline ∧ d.deadline ≠ 0 ∧ d.deadline ≤ ktb s then [.deadline] else [])

/-- Arm the wake conditions (R78, R79): the watch is registered; a condition that already holds fires in the same
step. Where several hold at once the arbiter's order is free (R40, log 26). -/
def armWakes (slot : Nat) (s : State) : State :=
  let s := addWatch slot s
  match wakesDue s slot with
  | [] => s
  | [c] => fireWake slot c s
  | cs => fireWake slot (cs.getD (freeBelow cs.length s) .doorbell) (drew s)

/-! ## Parking (R78, R244) -/

/-- The implicit trim of a park (R244). -/
def applyParkTrim (slot lenP : Nat) (fromDecode : Bool) (s : State) : State :=
  let d := desc s slot
  let d' := { d with len := lenP, specHead := lenP, logCount := (if fromDecode then lenP else d.logCount) }
  if d' = d then s else releaseAbove slot lenP (commitDesc slot (fun _ => d') s)

/-- The park commit from PREFILL or DECODE: the state and its records, MATCH_PROG and IN_TOOL_CALL cleared, the implicit
trim queued behind admitted attention, dirty objects queued for write-back, the wakes armed, the event raised. -/
def parkCommit (slot : Nat) (dest : SState) (code : Nat) (a b : Word) (s : State) : State :=
  let d := desc s slot
  let fromDecode := d.state = .decode
  let lenP := d.len
  let s := commitState slot dest .ok (fun d => { d with matchProg := 0, inToolCall := false, ready := false }) s
  let s := if attnInflight s slot = 0 && (auxOf s slot).held.isEmpty then applyParkTrim slot lenP fromDecode s
    else setAux slot { auxOf s slot with held := (auxOf s slot).held ++ [.parkTrim lenP fromDecode] } s
  let s := (ownObjs s slot).foldl (fun s i => queueWb i s) s
  let s := raiseEvent slot d.imageId code a b s
  armWakes slot s

/-- A stream record's common part. -/
def streamBase (s : State) (slot : Nat) (k : StreamKind) (pos a b : Nat) : StreamRec :=
  { kind := k, status := .ok, handle := handleOf s slot, ktb := ktb s, pos := pos, lenAfter := (desc s slot).len, a := a,
    b := b, tag := 0, tokens := [], inboxRd := 0, callId := 0, taken := 0 }

/-- END of a park by PARK: REASON 4 at LEN_P − 1, a 32-bit field that wraps at LEN_P = 0 (R245; log 205). -/
def parkByCommand (slot : Nat) (s : State) : State :=
  let d := desc s slot
  let pos := (d.len + 2 ^ 32 - 1) % 2 ^ 32
  let s := postStream d.streamRing (streamBase s slot .endRec pos 4 d.newCount) s
  parkCommit slot .idleWait 4 4 (BitVec.ofNat 64 pos) s

/-- PARK of a REVIVING session (R67, R70): the revival is abandoned, held requests end ST_NOT_RESIDENT, the wakes are
re-armed. -/
def parkReviving (slot : Nat) (s : State) : State :=
  let d := desc s slot
  let s := dropFetch slot s
  let s := streamRelease d.streamRing 256 s
  let s := setAux slot { auxOf s slot with resumeReserved := false } s
  let s := commitState slot d.prevState .ok (fun d =>
    { d with ready := false, reviveActive := false, matchProg := 0, inToolCall := false }) s
  let s := endHeldAttn slot .notResident s
  let s := applyParkTrim slot (desc s slot).len false s
  armWakes slot s

/-! ## The matcher (R236, R237) -/

/-- What ends a turn (R236). -/
inductive Hit where
  | toolcall
  | eos
  | eosInCall
  | stop (i : Nat)
  | maxNew
  deriving DecidableEq, Repr

/-- Matcher state carried through a commit. -/
structure Match where
  newCount : Nat
  prog     : Word
  inCall   : Bool
  start    : Nat
  deriving DecidableEq, Repr

/-- The settings the matcher reads (R82, R64). -/
structure StopSet where
  seqs      : List (List Nat)
  eos       : List Nat
  toolOpen  : Nat
  toolClose : Nat
  maxNew    : Nat
  deriving DecidableEq, Repr

/-- The stop set of a session: the STOP_COUNT sequences and the EOS_COUNT tokens of its Drawer header. -/
def stopSet (s : State) (slot : Nat) : StopSet :=
  let d := desc s slot
  { seqs := (List.range d.stopCount).map (fun i =>
      (List.range (leNat (drawerRead s slot (0x500 + i) 1))).map (fun j =>
        leNat (drawerRead s slot (0x100 + 64 * i + 4 * j) 4))),
    eos := (List.range d.eosCount).map (fun j => leNat (drawerRead s slot (0x600 + 4 * j) 4)),
    toolOpen := d.toolOpen, toolClose := d.toolClose, maxNew := d.maxNew }

/-- advance(i, k, t) of R236: the longest prefix of the sequence, at most k + 1 long, that ends its progress followed
by t. -/
def advance (q : List Nat) (k t : Nat) : Nat :=
  let s := q.take k ++ [t]
  ((List.range (min (k + 1) q.length)).map (fun j => min (k + 1) q.length - j)).find?
    (fun j => q.take j = s.drop (s.length - j)) |>.getD 0

/-- The stop sequences' part of match(p, t): progress words, and the first sequence that is complete. -/
def matchStops : List (List Nat) → Nat → Word → Nat → Option Nat × Word
  | [], _, w, _ => (none, w)
  | q :: r, i, w, t =>
    let k := advance q (field w (4 * i + 3) (4 * i)) t
    let (h, w') := matchStops r (i + 1) (setField w (4 * i + 3) (4 * i) (k % 16)) t
    if k = q.length then (some i, w') else (h, w')

/-- match(p, t) of R236; TOOL_OPEN or TOOL_CLOSE of 0xFFFF_FFFF disables tool-call matching. -/
def matchOne (c : StopSet) (p t : Nat) (m : Match) : Option Hit × Match :=
  let m := { m with newCount := m.newCount + 1 }
  let tools : Bool := decide (c.toolOpen ≠ 0xFFFFFFFF ∧ c.toolClose ≠ 0xFFFFFFFF)
  if m.inCall && tools && t = c.toolClose then (some .toolcall, m)
  else if c.eos.contains t then (some (if m.inCall then .eosInCall else .eos), m)
  else
    let (h, m) :=
      if m.inCall then (none, m)
      else
        let (h, w) := matchStops c.seqs 0 m.prog t
        match h with
        | some i => (some (Hit.stop i), { m with prog := w })
        | none =>
          if tools && t = c.toolOpen then (none, { m with prog := 0, inCall := true, start := p })
          else (none, { m with prog := w })
    match h with
    | some h => (some h, m)
    | none => if c.maxNew ≠ 0 ∧ m.newCount = c.maxNew then (some .maxNew, m) else (none, m)

/-- Match tokens in ascending positions up to the first hit: the hit, its position and the state left. -/
def matchRun (c : StopSet) : Nat → List Nat → Match → Option (Hit × Nat) × Match
  | _, [], m => (none, m)
  | p, t :: r, m =>
    match matchOne c p t m with
    | (some h, m) => (some (h, p), m)
    | (none, m) => matchRun c (p + 1) r m

/-- TOKENS records for positions [lo, hi), at most 16 a record (R245). -/
def postTokens (slot lo hi base : Nat) (tagOf : Nat → Word) : Nat → State → State
  | 0, s => s
  | fuel + 1, s =>
    if hi ≤ lo then s
    else
      let n := min 16 (hi - lo)
      let r := { streamBase s slot .tokens lo n (base + n) with
        tag := tagOf (lo + n - 1), tokens := (List.range n).map (fun j => tokenAt s slot (lo + j)) }
      postTokens slot (lo + n) hi (base + n) tagOf fuel (postStream (desc s slot).streamRing r s)

/-- Match and stream the generated positions [lo, hi) of a commit (R234 to R237): on a hit at q the later positions are
discarded, TOKENS and then TOOLCALL or END are streamed, and the session parks. -/
def matchCommit (slot lo hi : Nat) (tagOf : Nat → Word) (s : State) : State :=
  let d := desc s slot
  if !(d.state = .prefill || d.state = .decode) then s
  else
    let c := stopSet s slot
    let m0 : Match := { newCount := d.newCount, prog := d.matchProg, inCall := d.inToolCall, start := d.toolcallStart }
    let (h, m) := matchRun c lo ((List.range (hi - lo)).map (fun j => tokenAt s slot (lo + j))) m0
    let s := putDesc slot { desc s slot with
      newCount := m.newCount, matchProg := m.prog, inToolCall := m.inCall, toolcallStart := m.start } s
    match h with
    | none => postTokens slot lo hi d.newCount tagOf (hi - lo) s
    | some (h, q) =>
      let gone := (desc s slot).logCount - (q + 1)
      let s := commitDesc slot (fun d => { d with len := q + 1, specHead := q + 1, logCount := q + 1 }) s
      let s := releaseAbove slot (q + 1) s
      let s := bumpF .GEN_EVENTS (.acre (homeAcre slot)) 0 47 24 gone
        (bumpF .GEN_EVENTS (.acre (homeAcre slot)) 0 23 0 1 s)
      let s := postTokens slot lo (q + 1) d.newCount tagOf (hi - lo) s
      let ring := d.streamRing
      match h with
      | .toolcall =>
        let s := postStream ring (streamBase s slot .toolcall m.start q (q - m.start - 1)) s
        parkCommit slot .toolWait 3 (BitVec.ofNat 64 m.start) (BitVec.ofNat 64 q) s
      | h =>
        let reason := match h with
          | .eos => 1
          | .stop i => 2 + 256 * i
          | .maxNew => 3
          | .eosInCall => 5
          | .toolcall => 0
        let s := postStream ring (streamBase s slot .endRec q reason m.newCount) s
        parkCommit slot .idleWait 4 (BitVec.ofNat 64 (reason % 256)) (BitVec.ofNat 64 q) s

/-! ## Trims (R241 to R243) -/

/-- Apply a TRIM to its target: the status, and the state. -/
def applyTrim (slot t : Nat) (s : State) : Status × State :=
  let d := desc s slot
  if d.specHead < t then (.badFormat, s)
  else if t < d.floor then (.trimFloor, s)
  else if d.len ≤ t then
    (.ok, releaseAbove slot t (commitDesc slot (fun d => { d with specHead := t }) s))
  else
    let s := commitDesc slot (fun d =>
      { d with len := t, specHead := t, logCount := t, matchProg := 0,
               inToolCall := (if t ≤ d.toolcallStart then false else d.inToolCall) }) s
    let s := releaseAbove slot t s
    (.ok, postStream d.streamRing (streamBase s slot .rollback t d.len 0) s)

/-- Apply a SET_FLOOR (R226). -/
def applySetFloor (slot f : Nat) (s : State) : Status × State :=
  let d := desc s slot
  if d.len < f then (.badFormat, s)
  else if f ≤ d.floor then (.ok, s)
  else (.ok, commitDesc slot (fun d => { d with floor := f }) s)

end Sys2Proof.Machine
end

