-- ==== Sys2Proof/Machine/SyncOps.lean ====
section
/-!
DEFINITION. Changes of synchronisation objects: grants, watches, locks and their abandonment, and the operations of
`wait` and `signal` (R350 to R366).
-/
namespace Sys2Proof.Machine

/-- Locks a session holds (R353). -/
def heldLocks (s : State) (slot : Nat) : List Nat :=
  (s.sync.words.filter (fun e => field e.2 63 61 = 1 && (lstate e.2 = 1 || lstate e.2 = 3) &&
    synValue e.2 = handleOf s slot)).map (fun e => e.1)

/-- Remove one pending wait. -/
def dropWait (w : SyncWait) (s : State) : State :=
  { s with sync := { s.sync with waits := s.sync.waits.filter (· ≠ w) } }

/-- A wait ends granted: SYNC with the value and the status (R334, R355); an opened gate only leaves the table. -/
def grantWait (w : SyncWait) (st : Status) (s : State) : State :=
  let s := dropWait w s
  match w.who with
  | .session slot tag =>
    asyncEnd slot tag 8 (BitVec.ofNat 64 (synValue (synWord s w.obj) + st.code * 2 ^ 32)) s
  | .gate _ => s

/-- A wait ends without a grant: DONE with the status (R342, R354). -/
def failWait (w : SyncWait) (st : Status) (s : State) : State :=
  let s := dropWait w s
  match w.who with
  | .session slot tag => asyncEnd slot tag 6 (BitVec.ofNat 64 st.code) s
  | .gate _ => s

def waitsOn (s : State) (obj : Nat) : List SyncWait := s.sync.waits.filter (fun w => w.obj = obj)

/-- The first queued LOCK wait, and the first queued P wait (R352: granted strictly from the head; log 27). -/
def headOf (s : State) (obj code : Nat) : Option SyncWait := (waitsOn s obj).find? (fun w => w.code = code)

/-- The lock passes to its head LOCK waiter, or stays as `rest` says (R352, R363, R364). A waiter that already holds 16
locks ends ST_QUOTA instead (R353). -/
def passLock (obj : Nat) (repair : Bool) : Nat → State → State
  | 0, s => s
  | fuel + 1, s =>
    match headOf s obj cLOCK with
    | none => setSynWord obj (lockWord (if repair then 2 else 0) 0) s
    | some w =>
      match w.who with
      | .gate _ => passLock obj repair fuel (dropWait w s)
      | .session slot _ =>
        if 16 ≤ (heldLocks s slot).length then passLock obj repair fuel (failWait w .quota s)
        else
          grantWait w (if repair then .abandoned else .ok)
            (setSynWord obj (lockWord (if repair then 3 else 1) (handleOf s slot)) s)

/-- A queued wait can be granted on the word as it stands (R351). -/
def grantable (s : State) (w : SyncWait) : Bool :=
  let x := synWord s w.obj
  if w.code = cP then headOf s w.obj cP = some w && decide (field w.operand 31 0 ≤ synValue x)
  else if w.code = cARRIVE then field x 15 0 != w.phase
  else if w.code = cLOCK then headOf s w.obj cLOCK = some w && (lstate x = 0 || lstate x = 2)
  else synHolds x w.code w.operand

/-- The effect of a grant on the word (R351). -/
def takeGrant (w : SyncWait) (s : State) : State :=
  let x := synWord s w.obj
  if w.code = cP then grantWait w .ok (setSynWord w.obj (setField x 31 0 (synValue x - field w.operand 31 0)) s)
  else if w.code = cLOCK then passLock w.obj (lstate x = 2) 1 s
  else grantWait w .ok s

/-- Visit the queued waits from the head and grant each one whose condition holds (R352). -/
def grantLoop (obj : Nat) : Nat → State → State
  | 0, s => s
  | fuel + 1, s =>
    match (waitsOn s obj).find? (fun w => grantable s w) with
    | none => s
    | some w => grantLoop obj fuel (takeGrant w s)

/-- Evaluate the watches on an object, after the waits (R357). -/
def fireWatches (obj : Nat) (s : State) : State :=
  (s.sync.watches.filter (fun w => w.obj = obj)).foldl
    (fun s w => if synHolds (synWord s obj) w.pred w.value then fireWake w.slot .object s else s) s

/-- After a change of an object's word: the grants, then the watches (R352, R357). -/
def synChanged (obj : Nat) (s : State) : State :=
  fireWatches obj (grantLoop obj ((waitsOn s obj).length + 1) s)

/-- Abandon the locks a session holds (R363): each passes to its head waiter in REPAIR, or becomes ABANDONED. -/
def abandonLocks (slot : Nat) (s : State) : State :=
  (heldLocks s slot).foldl (fun s obj =>
    let s := bumpF .SYN_STAT (.acre (synAcre obj)) 0 39 16 1 s
    synChanged obj (passLock obj true ((waitsOn s obj).length + 1) s)) s

/-- Sessions whose locks are still to be abandoned. -/
def locksDue (s : State) : List Nat := (s.bur.aux.filter (fun e => e.2.locksDue)).map (fun e => e.1)

/-- Abandon the locks of every session fenced in this step; a wake this fires may fence a further session. -/
def settleLoop : Nat → State → State
  | 0, s => s
  | fuel + 1, s =>
    match locksDue s with
    | [] => s
    | slot :: _ => settleLoop fuel (abandonLocks slot (setAux slot { auxOf s slot with locksDue := false } s))

/-- The end of a step that may have fenced a session or emptied a DEGRADED Field (R363, R483). -/
def settle (s : State) : State := reinterleave (settleLoop (s.bur.aux.length + (sessions s).length) s)

/-- The outcome of a command whose effects may have fenced a session. -/
def okSettle (s : State) : Host.Outcome State Fault Refusal := ok (settle s)

/-! ## Operations (R349 to R353) -/

/-- Result of a `signal`: status and value after the operation. -/
abbrev SigRes := Status × Nat

/-- A program of principal `p` may operate on the object (R348). -/
def synAccess (s : State) (obj p : Nat) : Bool :=
  bit (synDef s obj) 15 || field (synDef s obj) 14 3 = p

/-- An operation refused because the object is CLOSING (R346). -/
def closingRefused (obj : Nat) (s : State) : State := bumpF .SYN_STAT (.acre (synAcre obj)) 0 63 40 1 s

/-- Checks every operation makes, in the order object, access, code and kind, operand (R346, R348 to R350; log 28).
`prin`: the caller's principal, or `none` for system firmware. -/
def synCheck (s : State) (obj code : Nat) (v : Word) (prin : Option Nat) : Option Status :=
  if s.sync.closing.contains obj then some .busy
  else if synKind s obj = .free then some .badHandle
  else if (match prin with
    | some p => !synAccess s obj p
    | none => false) then some .access
  else if !kindFits code (synKind s obj) then some .badFormat
  else if !operandOk code v then some .badFormat
  else none

/-- A session's handle as a lock holder. -/
def holds (s : State) (obj slot : Nat) : Bool :=
  (lstate (synWord s obj) = 1 || lstate (synWord s obj) = 3) && synValue (synWord s obj) = handleOf s slot

/-- UNLOCK (R364). -/
def doUnlock (obj slot : Nat) (v : Word) (s : State) : Status × State :=
  let x := synWord s obj
  let n := (waitsOn s obj).length + 1
  if !holds s obj slot then (.access, s)
  else if lstate x = 3 && v = 0 then (.ok, synChanged obj (passLock obj true n s))
  else (.ok, synChanged obj (passLock obj false n s))

/-- Count one arrival (R351). -/
def arrive (obj : Nat) (s : State) : State :=
  let x := synWord s obj
  let n := field x 31 16 + 1
  if n = field x 47 32 then setSynWord obj (setField (setField x 31 16 0) 15 0 ((field x 15 0 + 1) % 2 ^ 16)) s
  else setSynWord obj (setField x 31 16 n) s

/-- Apply a `signal` in its try form (R349 to R351, R364). `who`: the session, or `none` for system firmware. -/
def applySignal (obj code : Nat) (v : Word) (who : Option Nat) (s : State) : SigRes × State :=
  let val := fun (s : State) => synValue (synWord s obj)
  match synCheck s obj code v (who.map (fun x => (desc s x).principal)) with
  | some st => ((st, val s), if s.sync.closing.contains obj then closingRefused obj s else s)
  | none =>
    let x := synWord s obj
    if code = cREAD then ((.ok, val s), s)
    else if code = cGE ∨ code = cNE ∨ code = cPHASE ∨ code = cFREE then
      ((if synHolds x code v then .ok else .busy, val s), s)
    else if code = cLOCK then
      (match who with
       | none => ((.access, val s), s)
       | some slot =>
         if !(waitsOn s obj).isEmpty || holds s obj slot || !(lstate x = 0 || lstate x = 2) then ((.busy, val s), s)
         else if 16 ≤ (heldLocks s slot).length then ((.quota, val s), s)
         else
           let s := synChanged obj
             (setSynWord obj (lockWord (if lstate x = 2 then 3 else 1) (handleOf s slot)) s)
           ((if lstate x = 2 then .abandoned else .ok, val s), s))
    else if code = cP then
      (if !(waitsOn s obj).isEmpty || synValue x < field v 31 0 then ((.busy, val s), s)
       else
         let s := synChanged obj (setSynWord obj (setField x 31 0 (synValue x - field v 31 0)) s)
         ((.ok, val s), s))
    else if code = cARRIVE then
      let s := synChanged obj (arrive obj s)
      ((.ok, val s), s)
    else if code = cUNLOCK then
      (match who with
       | none => ((.access, val s), s)
       | some slot =>
         let r := doUnlock obj slot v s
         ((r.1, val r.2), r.2))
    else if code = cV then
      (if 0xFFFFFFFF < synValue x + field v 31 0 then ((.noSpace, val s), s)
       else
         let s := synChanged obj (setSynWord obj (setField x 31 0 (synValue x + field v 31 0)) s)
         ((.ok, val s), s))
    else if code = cADD then
      let s := synChanged obj (setSynWord obj (setField x 47 0 ((field x 47 0 + field v 31 0) % 2 ^ 48)) s)
      ((.ok, val s), s)
    else ((.badFormat, val s), s)

/-- ADD 1 by a work queue bound as a source (R358). -/
def addOne (obj : Nat) (s : State) : State :=
  let x := synWord s obj
  synChanged obj (setSynWord obj (setField x 47 0 ((field x 47 0 + 1) % 2 ^ 48)) s)

/-- Arm a session's object wake (R356, R357). -/
def armObject (slot obj pred : Nat) (v : Word) (s : State) : State :=
  let s := commitDesc slot (fun d => { d with syncId := obj, syncPred := pred, syncValue := v, wakeObject := true }) s
  let d := desc s slot
  if (d.state.parked || d.state = .dormant) && !d.wakeQueued then
    let s := addWatch slot s
    if watchFits s d && synHolds (synWord s obj) pred v then fireWake slot .object s else s
  else s

/-- Pending waits of an Acre's objects, gates included (R353). -/
def acreWaits (s : State) (a : Acre) : Nat := (s.sync.waits.filter (fun w => synAcre w.obj = a)).length

/-- Queue a wait that could not be granted at admission (R352, R353, R359). A failure still on its way to an earlier
wait of the same tag finds that wait gone and is dropped (R361). -/
def queueWait (w : SyncWait) (s : State) : State :=
  { s with sync := { s.sync with
      waits := s.sync.waits ++ [{ w with seq := s.sync.nextSeq }], nextSeq := s.sync.nextSeq + 1,
      victims := s.sync.victims.filter (fun v => v.1 ≠ w.obj || w.who ≠ .session v.2.1 v.2.2) } }

/-- Admission of a `wait` at the object (R351 to R353, R360). A refused wait ends with DONE (R342). -/
def admitWait (slot tag obj code : Nat) (v : Word) (timeout : Option Nat) (s : State) : State :=
  let w : SyncWait := { obj := obj, who := .session slot tag, code := code, operand := v, seq := 0,
                        phase := field (synWord s obj) 15 0, timeout := timeout }
  let fail := fun (st : Status) (s : State) => asyncEnd slot tag 6 (BitVec.ofNat 64 st.code) s
  let st := if !waitCode code && !s.sync.closing.contains obj && synKind s obj ≠ .free then some .badFormat
    else synCheck s obj code v (some (desc s slot).principal)
  match st with
  | some st => fail st (if s.sync.closing.contains obj then closingRefused obj s else s)
  | none =>
    if code = cLOCK && holds s obj slot then fail .deadlock s
    else if code = cLOCK && 16 ≤ (heldLocks s slot).length then fail .quota s
    else
      let full := decide (32768 ≤ acreWaits s (synAcre obj))
      if code = cARRIVE then
        (if full && field (synWord s obj) 31 16 + 1 ≠ field (synWord s obj) 47 32 then fail .noSpace s
         else synChanged obj (arrive obj (queueWait w s)))
      else
        let s' := queueWait w s
        match s'.sync.waits.getLast? with
        | none => s
        | some q =>
          if grantable s' q then synChanged obj (takeGrant q s')
          else if full then fail .noSpace s
          else s'

end Sys2Proof.Machine
end

