-- ==== Sys2Proof/Machine/HostOps.lean ====
section
/-!
DEFINITION. Wake requests at the Fallow arbiter, and what every command of the Host Queue ABI shares: its queue, its
kind of queue, limited mode, Fallow (R295 to R302, R520, R535 to R540).
-/
namespace Sys2Proof.Machine

def setFallow (f : FallowState) (s : State) : State := { s with power := { s.power with fallow := f } }

/-- Send a Fallow message to every neighbour whose entry is valid: KIND, ROUND, KTB, HINT (R531). -/
def fallowSendAll (kind hint : Nat) (s : State) : State :=
  let f := s.power.fallow
  (List.range 32).foldl (fun s n =>
    if bit (live s .PWR_FALLOW_NB_CFG (.yoke s.ckp.primary) n) 42 then emit (.fallowMsg n kind f.round (ktb s) hint) s else s) s

/-- Time until ACTIVE in µs, rounded up, at most 2,000: while waking, what is left of T_wake (R536; log 31). -/
def wakeHint (s : State) : Nat :=
  match s.power.fallow.wakeAt with
  | none => 2000
  | some t => min 2000 ((t + 2000000 - ktb s + 999) / 1000)

/-- Start a wake (R538 step 1); the request that starts it, and every later one, is counted as deferred. -/
def startWake (s : State) : State :=
  let f := s.power.fallow
  if f.mode = .fallow then setFallow { f with mode := .waking, wakeAt := some (ktb s), selfWake := none } s else s

/-- Count a deferred wake request (PWR_FALLOW_STATUS.DEFERRED). -/
def countDeferred (s : State) : State :=
  let f := s.power.fallow
  setFallow { f with deferred := min (f.deferred + 1) (2 ^ 16 - 1) } s

/-- A wake request ordered before the commit point cancels the agreement (R535): CANCEL to every neighbour, ACTIVE, and
ENTER ends ST_ABORTED. -/
def cancelAgreement (s : State) : State :=
  let f := s.power.fallow
  if f.mode = .preparing then
    let s := fallowSendAll 4 0 s
    setFallow { s.power.fallow with
      mode := .active, lastStatus := Status.aborted.code, entering := false, quiesced := false } s
  else s

/-- A wake request is deferred in FALLOW and WAKING (R536). -/
def deferring (s : State) : Bool := s.power.fallow.mode = .fallow || s.power.fallow.mode = .waking

/-- Kinds of queue a command may come by (R302). -/
inductive QKind where
  | admin | io | any
  deriving DecidableEq, Repr

/-- A command fetched from a submission queue (R296, R297, R302, R520, R535, R536). No queue pair of the number, or a
halted device: nothing. After the Fallow commit point it completes ST_WAKE_DEFERRED with the hint and starts the wake.
In limited mode before Stage 2 has ended every command but those of queues and rings completes ST_BUSY. A command on the
wrong kind of queue completes ST_BAD_FORMAT. Otherwise `f` runs. -/
def hostCmd (sq cid : Nat) (kind : QKind) (early : Bool) (f : State → State) (s : State) : State :=
  if s.obs.halted then s
  else match NMap.get? s.host.qps sq with
    | none => s
    | some _ =>
      if deferring s then
        postCqe sq cid .wakeDeferred (wakeHint (startWake s)) 0 (countDeferred (startWake s))
      else
        let s := cancelAgreement s
        if !early && s.power.stage != .s3 && s.power.stage != .serving then postCqe sq cid .busy 0 0 s
        else if (match kind with
          | .admin => sq != 0
          | .io => sq == 0
          | .any => false) then postCqe sq cid .badFormat 0 0 s
        else f s

/-- Whether the device takes new work that only the listed roles admit: tenancy, then LEAVE, then the role (R63, R491,
R492; log 62). -/
def admitNew (s : State) (roles : List Nat) : Option Status :=
  if s.sec.tenancy ≠ .bound then some .tenant
  else if s.ckp.leaving then some .redirect
  else if roles.contains (primF s .CKP_ROLE 0 1 0) then none
  else some .access

/-- A session's state as operations find it: FENCED from the fence on (R80). -/
def effState (s : State) (slot : Nat) : SState :=
  if (auxOf s slot).fencing then .fenced else (desc s slot).state

/-- A command that names a session: checks 1 to 3 of R63, then the owning Shelf (R88, R91), then `f` with the slot and
the state the operation finds. -/
def onSession (handle : Nat) (src : OpSrc) (f : Nat → SState → State → State) (s : State) : State :=
  let slot := slotOf handle
  match handleCheck s handle with
  | some st => finish src st 0 0 s
  | none =>
    match own slot s with
    | none => finish src .busy 0 0 s
    | some s => f slot (effState s slot) s

end Sys2Proof.Machine
end

