-- ==== Sys2Proof/Machine/SessionOps.lean ====
section
/-!
DEFINITION. Session operations of every source: PARK, REVIVE, DORMANT, RETIRE, TRIM, SET_FLOOR, and what they end
(R66 to R70, R78 to R81, R112, R115, R241, R290, R312).
-/
namespace Sys2Proof.Machine

/-- Hold an operation at a descriptor (R80). -/
def hold (slot : Nat) (h : HeldOp) (s : State) : State :=
  setAux slot { auxOf s slot with held := (auxOf s slot).held ++ [h] } s

/-- Count an admission that waits for stream credit (R246). -/
def stall (slot : Nat) (s : State) : State := bumpF .GEN_EVENTS (.acre (homeAcre slot)) 0 63 48 1 s

/-- PARK by the state it finds (R68). From PREFILL or DECODE it reserves stream space first, or waits for it
(R246). -/
def doPark (slot : Nat) (st : SState) (src : OpSrc) (s : State) : State :=
  match st with
  | .prefill | .decode =>
    if streamRoom (desc s slot).streamRing 256 s then finish src .ok 0 0 (parkByCommand slot s)
    else hold slot (.park src false) (stall slot s)
  | .reviving => finish src .ok 0 0 (parkReviving slot s)
  | .toolWait | .idleWait | .dormant => finish src .ok 0 0 s
  | .migrating => finish src .busy 0 0 s
  | .fenced => finish src .fenced 0 0 s
  | .free | .retiring => finish src .badHandle 0 0 s

/-- REVIVE by the state it finds (R68): in MIGRATING it is recorded and evaluated at the target. -/
def doRevive (slot : Nat) (st : SState) (src : OpSrc) (s : State) : State :=
  match st with
  | .prefill | .decode | .reviving => finish src .ok 0 0 s
  | .toolWait | .idleWait | .dormant => finish src .ok 0 0 (fireWake slot .explicit s)
  | .migrating =>
    let s := if (desc s slot).wakeQueued then s
      else commitDesc slot (fun d => { d with wakeQueued := true, wakeCause := .explicit }) s
    finish src .ok 0 0 s
  | .fenced => finish src .fenced 0 0 s
  | .free | .retiring => finish src .badHandle 0 0 s

/-- The contract of a session, if it holds one (R312). -/
def contractOf (s : State) (slot : Nat) : Option Contract :=
  (s.tin.contracts.get (homeAcre slot)).find? (fun c => c.slot = slot)

/-- End a decode deadline contract and post its CONTRACT record (R306, R312). -/
def endContract (slot reason : Nat) (s : State) : State :=
  match contractOf s slot with
  | none => s
  | some _ =>
    let a := homeAcre slot
    postEvent (desc s slot).eventRing
      { kind := 5, status := .ok, handle := handleOf s slot, ktb := ktb s, a := reason, b := 0, c := 0, extra := [] }
      { s with tin := { s.tin with
        contracts := s.tin.contracts.set a ((s.tin.contracts.get a).filter (fun c => c.slot ≠ slot)) } }

/-- Write an object back now, at the priority of its cause (R78): a round in flight ends, and a second runs where the
object is still DIRTY. -/
def writeBackNow (i : Nat) (s : State) : State :=
  let s := if (getObj s i).wbActive then wbFinish i s else s
  let s := if (getObj s i).dirty then wbStart i s else s
  if (getObj s i).wbActive then wbFinish i s else s

/-- Drop the staged copy of a stack and its record: the map entry names the Chest object again (R115, R154). A DIRTY
or WB_ACTIVE staged stack takes a Field home at its round instead, and stays. -/
def unstage (slot i : Nat) (s : State) : State :=
  let o := getObj s i
  match o.home, stackIndex s slot i with
  | .chest loc, some k =>
    if o.dirty || o.wbActive then s
    else
      let s := match o.stageLoc with
        | some (a, f) => giveField a f o.run s
        | none => s
      let s := { s with chest := { s.chest with stagings := s.chest.stagings.filter (fun g => g.obj ≠ i) } }
      freeObj i (setEntry (mapObj slot) k (some { shared := false, ref := .chestLoc loc }) s)
  | _, _ => s

/-- Drop the session's own Near copies; what stays DIRTY, for want of a donor, stays in Near (R106, R584). -/
def evictSession (slot : Nat) (s : State) : State :=
  (ownObjs s slot).foldl (fun s i => if (getObj s i).dirty then s else dropAllRes i s) s

/-- The DORMANT commit (R67): pins released, dirty objects written back, staged copies dropped, every Near copy of the
session evicted. -/
def dormantCommit (slot : Nat) (s : State) : State :=
  let s := (privStacks s slot).foldl (fun s i => modObj i (fun o => { o with pinned := false }) s) s
  let s := endContract slot 2 s
  let s := (ownObjs s slot).foldl (fun s i => writeBackNow i s) s
  let s := (privStacks s slot).foldl (fun s i => unstage slot i s) s
  let s := writeBackNow (mapObj slot) s
  let s := evictSession slot s
  commitState slot .dormant .ok (fun d => { d with pinned := false, ready := false }) s

/-- DORMANT by the state it finds (R68). It waits for attention admitted before the park (R78, R108; log 32). -/
def doDormant (slot : Nat) (st : SState) (src : OpSrc) (s : State) : State :=
  match st with
  | .prefill | .decode | .reviving | .migrating => finish src .busy 0 0 s
  | .toolWait | .idleWait =>
    if attnInflight s slot = 0 && (auxOf s slot).held.isEmpty then finish src .ok 0 0 (dormantCommit slot s)
    else hold slot (.park src true) s
  | .dormant => finish src .ok 0 0 s
  | .fenced => finish src .fenced 0 0 s
  | .free | .retiring => finish src .badHandle 0 0 s

/-- A directive over a session's objects ends because the session retires (R114): the object in step 2 finishes, the
others are not moved. -/
def abortDirectives (slot : Nat) (s : State) : State :=
  let mine := s.tier.directives.filter (fun d => d.slot = some slot)
  let s := { s with tier := { s.tier with directives := s.tier.directives.filter (fun d => d.slot ≠ some slot) } }
  mine.foldl (fun s d => postCqe d.sq d.cid .aborted d.done 0 s) s

/-- Held operations at the RETIRING commit (R70): attention ends ST_ABORTED; trims admitted before run on. -/
def retiringCommit (slot : Nat) (s : State) : State :=
  let d := desc s slot
  let s := if d.wakeQueued then unqueueWake slot s else s
  let s := dropFetch slot (removeWatch slot s)
  let s := if (auxOf s slot).resumeReserved then streamRelease d.streamRing 256 s else s
  let s := endHeldAttn slot .aborted s
  let s := (auxOf s slot).sampleHold.foldl (fun s e => endEntry e.1 .aborted s) s
  let s := setAux slot { auxOf s slot with sampleHold := [], resumeReserved := false, fencing := false } s
  let s := endContract slot 4 s
  let s := endWaits slot .aborted true s
  let s := { s with tin := { s.tin with
    asyncs := s.tin.asyncs.filter (fun o => !(o.slot = slot && (o.kind.timed || o.ended))),
    evq := s.tin.evq.map (fun q => q.filter (fun e => e.slot ≠ slot)) } }
  let s := abortDirectives slot s
  let s := commitState slot .retiring .ok (fun d =>
    { d with wakeQueued := false, ready := false, reviveActive := false }) s
  abandonLocks slot s

/-- RETIRE by the state it finds (R68). -/
def doRetire (slot : Nat) (st : SState) (src : OpSrc) (s : State) : State :=
  match st with
  | .migrating => finish src .busy 0 0 s
  | .free | .retiring => finish src .badHandle 0 0 s
  | _ => finish src .ok 0 0 (retiringCommit slot s)

/-- TRIM and SET_FLOOR by the state they find (R68, R226): admitted in PREFILL, DECODE and the parked states; held in
REVIVING, behind attention, and behind what is held already (R80). A TRIM below LEN reserves stream space (R246). -/
def trimAdmit (slot : Nat) (st : SState) (src : OpSrc) (h : HeldOp) (needs : Bool) (apply : State → Status × State)
    (s : State) : State :=
  match st with
  | .prefill | .decode | .toolWait | .idleWait =>
    if needs && !streamRoom (desc s slot).streamRing 256 s then hold slot h (stall slot s)
    else if attnInflight s slot = 0 && (auxOf s slot).held.isEmpty then
      let r := apply s
      finish src r.1 0 0 r.2
    else hold slot h s
  | .reviving => hold slot h s
  | .dormant => finish src .notResident 0 0 s
  | .migrating => finish src .busy 0 0 s
  | .fenced => finish src .fenced 0 0 s
  | .free | .retiring => finish src .badHandle 0 0 s

def doTrim (slot : Nat) (st : SState) (src : OpSrc) (t : Nat) (s : State) : State :=
  trimAdmit slot st src (.trim src t) (t < (desc s slot).len) (applyTrim slot t) s

def doSetFloor (slot : Nat) (st : SState) (src : OpSrc) (f : Nat) (s : State) : State :=
  trimAdmit slot st src (.setFloor src f) false (applySetFloor slot f) s

/-- Handlers of a session that run now. -/
def handlerRuns (s : State) (slot : Nat) : Bool := (NMap.vals s.tin.tines).any (fun c => !c.system && c.slot == slot)

/-- What still runs for the program of a session that is gone has no owner: its transfers keep nothing they read, its search writes no
result (log 202). -/
def disown (slot : Nat) (s : State) : State :=
  let mine := fun (x : KltSrc) => match x with
    | .tine y _ => if y = slot then KltSrc.dropped else x
    | _ => x
  { s with
    klt := { s.klt with
      reqs := s.klt.reqs.map (fun r => { r with src := mine r.src })
      conns := NMap.mapV s.klt.conns (fun _ c => { c with ops := c.ops.map (fun o => { o with src := mine o.src }) }) }
    gln := { s.gln with batches := NMap.mapV s.gln.batches (fun _ b => match b.src with
      | .srch y _ t o => if y = slot then { b with src := .srch slot 0 t o } else b
      | _ => b) } }

/-- The slot becomes FREE (R62): GEN + 1, or retired with GEN = 0 where GEN was 1,023. -/
def freeSlot (slot : Nat) (s : State) : State :=
  let a := homeAcre slot
  let d := desc s slot
  let g := if d.gen = 1023 then 0 else d.gen + 1
  let s := commitState slot .free .ok id s
  let seq := (desc s slot).seq
  let s := setCkptRow slot .empty s
  let s := putDesc slot { Desc.freeOf g s.sec.epoch with lastChange := (desc s slot).lastChange, seq := seq } s
  let s := { s with
    bur := { s.bur with
      slots := if g = 0 then s.bur.slots else s.bur.slots.set a ((s.bur.slots.get a).give slot),
      aux := NMap.erase s.bur.aux slot },
    tin := { s.tin with asyncs := s.tin.asyncs.filter (fun o => o.slot ≠ slot), lastTag := NMap.erase s.tin.lastTag slot } }
  disown slot s

/-- A RETIRING prefix without forks releases its references, its map and its token list, and its entry becomes free
(R120; log 49). -/
def prefixSweep (id : Nat) (s : State) : State :=
  match NMap.get? s.tier.prefixes id with
  | none => s
  | some p =>
    if !p.retiring || p.forks != 0 then s
    else
      let m := (getObj s p.mapSlot).data.entries
      let s := { s with tier := { s.tier with prefixes := NMap.erase s.tier.prefixes id } }
      let s := m.foldl (fun s e => releaseEntry e.2 s) s
      dropRef p.listSlot (dropRef p.mapSlot s)

/-- A fork leaves its prefix (R116). -/
def leavePrefix (p : Nat) (s : State) : State :=
  prefixSweep p
    { s with tier := { s.tier with prefixes := NMap.modify s.tier.prefixes p (fun e => { e with forks := e.forks - 1 }) } }

/-- Release everything a slot holds: the stacks its map names, the map, the Drawer and the prefix reference (R67,
R154). -/
def releaseAll (slot : Nat) (s : State) : State :=
  let d := desc s slot
  let s := releaseAbove slot 0 s
  let free := fun i (s : State) =>
    let o := getObj s i
    freeObj i (giveHeld i o.home o.run { s with tier := { s.tier with
      rounds := s.tier.rounds.filter (fun r => r.obj ≠ i), donorWait := s.tier.donorWait.filter (· ≠ i),
      wbQ := s.tier.wbQ.map (fun q => q.filter (· ≠ i)) } })
  let s := free (drawerObj slot) (free (mapObj slot) s)
  if d.prefixId = 0 then s else leavePrefix d.prefixId s

/-- Every count of R67's last row is zero, and no handler of the session runs. -/
def retireDone (s : State) (slot : Nat) : Bool :=
  (desc s slot).state = .retiring && attnInflight s slot = 0 && moveInflight s slot = 0 && trimPend s slot = 0 &&
    !handlerRuns s slot

end Sys2Proof.Machine
end

