-- ==== Sys2Proof/Machine/Bureau.lean ====
section
/-!
DEFINITION. The commands of the Session Bureau and its Shelves (chapter 02), and GEN_SET's block, which OPEN shares
(R85, R240, R298).
-/
namespace Sys2Proof.Machine

/-! ## OPEN (R85, R118, R298) -/

/-- A little-endian field of a data buffer. -/
def bufN (b : List Byte) (off n : Nat) : Nat := leNat ((b.drop off).take n)

/-- The OPEN block (R298). -/
structure OpenBlock where
  principal : Nat
  profile   : Nat
  home      : Nat
  prefixId  : Nat
  window    : Nat
  imageId   : Nat
  streamRing : Nat
  eventRing : Nat
  wakeEn    : Nat
  drawerPlots : Nat
  logFrames : Nat
  inboxFrames : Nat
  scratchFrames : Nat
  deadline  : Nat
  deriving DecidableEq, Repr

def openBlock (b : List Byte) : OpenBlock :=
  { principal := bufN b 0 2, profile := bufN b 2 1, home := bufN b 3 1, prefixId := bufN b 4 2, window := bufN b 6 2,
    imageId := bufN b 8 4, streamRing := bufN b 12 2, eventRing := bufN b 14 2, wakeEn := bufN b 16 1,
    drawerPlots := bufN b 17 1, logFrames := bufN b 20 4, inboxFrames := bufN b 24 4, scratchFrames := bufN b 28 4,
    deadline := bufN b 32 8 }

/-- The fields of the OPEN block lie in their ranges (R85). -/
def OpenBlock.inRange (o : OpenBlock) : Bool :=
  decide (o.principal ≤ 4095 ∧ (o.home ≤ 3 ∨ o.home = 0xFF) ∧ o.profile ≤ 15 ∧ o.imageId < 2 ^ 24 ∧ o.streamRing ≤ 4095 ∧
    (o.eventRing ≤ 255 ∨ o.eventRing = 0xFFFF) ∧ o.wakeEn < 16 ∧ 1 ≤ o.drawerPlots)

/-- The Drawer layout OPEN makes: log at frame 1, then inbox, then scratch, inside the Drawer (R83, R298). -/
def OpenBlock.layoutOk (o : OpenBlock) : Bool :=
  decide (1 + o.logFrames + o.inboxFrames + o.scratchFrames ≤ o.drawerPlots * 16)

/-- A GEN_SET block of 1,312 bytes (R298): its counts and its three tables as they lie in the Drawer header. -/
structure GenBlock where
  maxNew    : Nat
  toolOpen  : Nat
  toolClose : Nat
  stopCount : Nat
  eosCount  : Nat
  stopSeq   : List Byte
  stopLen   : List Byte
  eosSet    : List Byte
  deriving DecidableEq, Repr

def genBlock (b : List Byte) : GenBlock :=
  { maxNew := bufN b 0 4, toolOpen := bufN b 4 4, toolClose := bufN b 8 4, stopCount := bufN b 12 1,
    eosCount := bufN b 13 1, stopSeq := (b.drop 16).take 1024, stopLen := (b.drop 1040).take 16,
    eosSet := (b.drop 1056).take 256 }

/-- The block OPEN takes when none is given (R298). -/
def GenBlock.none : GenBlock :=
  { maxNew := 0, toolOpen := 0xFFFFFFFF, toolClose := 0xFFFFFFFF, stopCount := 0, eosCount := 0, stopSeq := [],
    stopLen := [], eosSet := [] }

/-- The block is valid under R240. -/
def GenBlock.ok (g : GenBlock) : Bool :=
  decide (g.stopCount ≤ 16) && decide (g.eosCount ≤ 64) &&
    (List.range g.stopCount).all (fun i => decide (1 ≤ (g.stopLen.getD i 0).toNat ∧ (g.stopLen.getD i 0).toNat ≤ 16))

/-- The descriptor words of the block. -/
def GenBlock.set (g : GenBlock) (d : Desc) : Desc :=
  { d with maxNew := g.maxNew, toolOpen := g.toolOpen, toolClose := g.toolClose, stopCount := g.stopCount,
           eosCount := g.eosCount, matchProg := 0 }

/-- The header bytes of the block. -/
def GenBlock.write (g : GenBlock) (m : Cells) : Cells :=
  Cells.writeN (Cells.writeN (Cells.writeN m 0x100 g.stopSeq) 0x500 g.stopLen) 0x600 g.eosSet

/-- The Drawer header OPEN writes (R82). -/
def OpenBlock.header (o : OpenBlock) (g : GenBlock) : Cells :=
  let w := fun m a v => Cells.writeN m a (leBytes 4 v)
  g.write (w (w (w (w (w (w (w [] 0 1) 0x4 1) 0x8 o.logFrames) 0xC (1 + o.logFrames)) 0x10 o.inboxFrames) 0x14
    (1 + o.logFrames + o.inboxFrames)) 0x18 o.scratchFrames)

/-- The Acre OPEN chooses: the one named, or under ANY the one with the most free slots, a tie to the lowest (R85). -/
def openAcre (s : State) (home : Nat) : Acre :=
  if home ≤ 3 then Acre.ofNum home
  else
    let n := fun a => (s.bur.slots.get a).count
    Acre.all.foldl (fun b a => if n b < n a then a else b) .a0

/-- Near bytes of a new Drawer and a map of one frame, with their residency blocks (R85). -/
def openNear (o : OpenBlock) : Nat :=
  (o.drawerPlots * 16 + 1) * 4096 + (4 * o.drawerPlots * 16 + 63) / 64 * 64 + 64

/-- The fixed records of a slot whose identity is exhausted: each needs a donor (R584, R85). -/
def openDonors (s : State) (slot : Nat) : Nat :=
  (if exhausted s (getObj s (mapObj slot)).idSlot then 1 else 0) +
    (if exhausted s (getObj s (drawerObj slot)).idSlot then 1 else 0)

/-- The fork conditions of R118. -/
def forkCheck (s : State) (o : OpenBlock) : Option Status :=
  if o.prefixId = 0 then none
  else match NMap.get? s.tier.prefixes o.prefixId with
    | none => some .badHandle
    | some p =>
      if p.retiring then some .badHandle
      else if p.profile ≠ o.profile ∨ o.logFrames * 1024 < p.len then some .badFormat
      else none

/-- The conditions of R85's table, in its order: the status of the first that fails. The state returned has the room
made in Near. -/
def openCheck (o : OpenBlock) (g : GenBlock) (short : Bool) (s : State) : Except Status State :=
  let a := openAcre s o.home
  let slot := ((s.bur.slots.get a).take.map (fun r => r.1)).getD 0
  if (admitNew s [1]).isSome then .error ((admitNew s [1]).getD .access)
  else if short || !o.inRange then .error .badFormat
  else if !(geom s o.profile).valid then .error .badFormat
  else if (s.bur.slots.get a).count = 0 then .error .noSpace
  else if prinLimit s o.principal 21 0 ≤ prinSessions s o.principal then .error .quota
  else if (fitting (s.tier.fldFree.get a) 16 (o.drawerPlots * 16)).isEmpty then .error .noSpace
  else if !o.layoutOk then .error .badFormat
  else match forkCheck s o with
    | some st => .error st
    | none =>
      if (NMap.get? s.host.streams o.streamRing).isNone ||
          (o.eventRing != 0xFFFF && (NMap.get? s.host.events o.eventRing).isNone) ||
          (o.imageId != 0 && (imageOf s o.imageId).isNone) then .error .badFormat
      else if !g.ok then .error .badFormat
      else if (s.tier.genFree.get a).count < openDonors s slot then .error .noSpace
      else match makeRoom a o.principal (openNear o) true (roomFuel s a) s with
        | none => .error (noRoom s a o.principal)
        | some s => .ok s

/-- Make the record of a new session's map or Drawer: homed in Field, in full in Near, DIRTY (R67). -/
def openObj (i : Nat) (kind : ObjKind) (frames principal slot : Nat) (home : Home) (data : ObjData) (s : State) :
    State :=
  let s := (takeDonor i (donorFuel s i) s).getD s
  let id := (getObj s i).idSlot
  let s := newObj i kind 0 frames principal home (some slot) data s
  let s := modObj i (fun o => { o with idSlot := id, stackId := stackIdOf s id }) s
  allDirty i (objAcre i) s

/-- The fork (R118): map from the prefix's map with every entry SHARED, references raised, the token list copied. -/
def forkPrefix (slot : Nat) (p : PrefixEntry) (s : State) : State :=
  let m := (getObj s p.mapSlot).data.entries
  let toks := (List.range p.len).map (fun j => leNat (Cells.readN (getObj s p.listSlot).data.bytes (4 * j) 4))
  let s := (growMap slot (m.length - 1) 24 s).getD s
  let s := modObj (mapObj slot) (fun o => { o with data := { o.data with
    entries := NMap.mapV m (fun _ e => { e with shared := true }) } }) s
  let s := m.foldl (fun s e => match e.2.ref with
    | .record i => modObj i (fun o => { o with refcnt := o.refcnt + 1 }) s
    | _ => s) s
  match logWrite slot 0 toks s with
  | .ok s => s
  | .error _ => s

/-- OPEN on a free slot after its checks (R67, R118, R62). -/
def openRun (sq cid : Nat) (o : OpenBlock) (g : GenBlock) (s : State) : State :=
  let a := openAcre s o.home
  match (s.bur.slots.get a).take with
  | none => postCqe sq cid .noSpace 0 0 s
  | some (slot, fl) =>
    match own slot s with
    | none => postCqe sq cid .busy 0 0 s
    | some s1 =>
      match takeField a 16 (o.drawerPlots * 16) s1 with
      | none => postCqe sq cid .noSpace 0 0 s
      | some (fd, s1) =>
        match takeField a 1 1 s1 with
        | none => postCqe sq cid .noSpace 0 0 s
        | some (fm, s1) =>
          let s := { s1 with bur := { s1.bur with slots := s1.bur.slots.set a fl } }
          let s := openObj (mapObj slot) .map 1 o.principal slot (.fld a fm) .empty s
          let s := openObj (drawerObj slot) .drawer (o.drawerPlots * 16) o.principal slot (.fld a fd)
            ⟨o.header g, []⟩ s
          let pe := NMap.get? s.tier.prefixes o.prefixId
          let len := match pe with
            | some p => p.len
            | none => 0
          let old := desc s slot
          let s := setHome slot (homeDesc s slot) s
          let s := putDesc slot
            { g.set (Desc.freeOf old.gen s.sec.epoch) with
              profile := o.profile, principal := o.principal, len := len, floor := len, specHead := len,
              logCount := len, prefixId := o.prefixId, drawerPlots := o.drawerPlots, window := o.window,
              wakeDoorbell := o.wakeEn.testBit 0, wakeDeadline := o.wakeEn.testBit 2, deadline := o.deadline,
              imageId := o.imageId, eventRing := o.eventRing, streamRing := o.streamRing,
              ctx := List.replicate 16 0, seq := old.seq } s
          let s := match pe with
            | some p =>
              let s := { s with tier := { s.tier with
                prefixes := NMap.put s.tier.prefixes o.prefixId { p with forks := p.forks + 1 } } }
              let s := forkPrefix slot p s
              putDesc slot { desc s slot with
                mapStacks := (getObj s (mapObj slot)).data.entries.length } s
            | none => s
          let s := setCkptRow slot { CkptRow.empty with auto := bit (live s .CKP_CTRL (.acre a) 0) 35 } s
          let s := if (shardOf s a).marked && !(shardOf s a).captured then setShard a (fun h => { h with fresh := h.fresh ++ [slot] }) s else s
          let s := commitState slot .idleWait .ok id s
          let s := raiseEvent slot o.imageId 1 0 0 s
          let s := armWakes slot s
          postCqe sq cid .ok (handleOf s slot) 0 s

/-- OPEN (R85). -/
def execOpenSession (sq cid : Nat) (buf : List Byte) (s : State) : Host.Outcome State Fault Refusal := running s <|
  okSettle (hostCmd sq cid .io false (fun s =>
    let o := openBlock buf
    let g := if 1376 ≤ buf.length then genBlock (buf.drop 64) else GenBlock.none
    match openCheck o g (decide (buf.length < 64)) s with
    | .error st => postCqe sq cid st 0 0 s
    | .ok s => openRun sq cid o g s) s)

/-! ## PARK, REVIVE, DORMANT, RETIRE (R68) -/

/-- PARK (R68, R78). -/
def execPark (sq cid handle : Nat) (s : State) : Host.Outcome State Fault Refusal := running s <|
  okSettle (hostCmd sq cid .io false
    (onSession handle (.host sq cid) (fun slot st => doPark slot st (.host sq cid))) s)

/-- REVIVE (R68, R71). -/
def execRevive (sq cid handle : Nat) (s : State) : Host.Outcome State Fault Refusal := running s <|
  okSettle (hostCmd sq cid .io false
    (onSession handle (.host sq cid) (fun slot st => doRevive slot st (.host sq cid))) s)

/-- DORMANT (R67, R68). -/
def execDormant (sq cid handle : Nat) (s : State) : Host.Outcome State Fault Refusal := running s <|
  okSettle (hostCmd sq cid .io false
    (onSession handle (.host sq cid) (fun slot st => doDormant slot st (.host sq cid))) s)

/-- RETIRE (R67, R68, R290). -/
def execRetire (sq cid handle : Nat) (s : State) : Host.Outcome State Fault Refusal := running s <|
  okSettle (hostCmd sq cid .io false
    (onSession handle (.host sq cid) (fun slot st => doRetire slot st (.host sq cid))) s)

/-- RETIRE_COMPLETE (R62, R67): once every count is zero the session's objects are released and the slot is FREE. -/
def execRetireComplete (slot : Nat) (s : State) : Host.Outcome State Fault Refusal := running s <|
  if retireDone s slot then
    match own slot s with
    | none => ok s
    | some s => ok (freeSlot slot (releaseAll slot s))
  else ok s

/-! ## Wakes (R71, R72, R585) -/

/-- WAKE_SET (R585): `en` is ARG0, `deadline` ARG1. -/
def execWakeSet (sq cid handle en deadline : Nat) (s : State) : Host.Outcome State Fault Refusal := running s <|
  okSettle (hostCmd sq cid .io false
    (onSession handle (.host sq cid) (fun slot st s =>
      match st with
      | .idleWait | .toolWait | .dormant =>
        let s := commitDesc slot (fun d =>
          { d with wakeDoorbell := en.testBit 0, wakeDeadline := en.testBit 2, deadline := deadline % 2 ^ 64 }) s
        postCqe sq cid .ok 0 0 (if (desc s slot).wakeQueued then s else armWakes slot s)
      | .fenced => postCqe sq cid .fenced 0 0 s
      | _ => postCqe sq cid .busy 0 0 s)) s)

/-- DEADLINE_WAKE (R71): the home Acre's timer. After the Fallow commit point the wake waits for ACTIVE (R539). -/
def execDeadlineWake (slot : Nat) (s : State) : Host.Outcome State Fault Refusal := running s <|
  let d := desc s slot
  let waits := (d.state.parked || d.state = .dormant) && !d.wakeQueued
  if !deferring s && waits && d.wakeDeadline && d.deadline ≠ 0 && d.deadline ≤ ktbOf s (.acre (homeAcre slot)) then
    okSettle (fireWake slot .deadline (cancelAgreement s))
  else ok s

/-- The oldest queued wake of a principal whose session is parked or DORMANT; a FENCED session's wake stays queued
(R72). -/
def oldestWake (s : State) (p : Nat) : Option Nat :=
  (NMap.get [] s.bur.wakeQ p).find? (fun x => (desc s x).state.parked || (desc s x).state = .dormant)

/-- QUEUED_WAKE_ADMIT (R72). -/
def execQueuedWakeAdmit (p : Nat) (s : State) : Host.Outcome State Fault Refusal := running s <|
  match oldestWake s p with
  | none => ok s
  | some slot => if reviveRoom s slot then okSettle (revivingCommit slot (unqueueWake slot s)) else ok s

/-- GETX_RETRY (R91): the oldest GETX of the Acre's Shelf made for a revival, when a line can leave it. -/
def execGetxRetry (a : Acre) (s : State) : Host.Outcome State Fault Refusal := running s <|
  match s.bur.getxRetry.find? (fun e => e.1 = a) with
  | none => ok s
  | some (_, slot) =>
    if oldestWake s (desc s slot).principal = some slot && reviveRoom s slot then
      okSettle (revivingCommit slot (unqueueWake slot s))
    else ok s

/-! ## Revival (R73, R74) -/

/-- Time the Field spent on revival fetches in the preceding 1 ms, ns (R74). -/
def dutyNs (s : State) (a : Acre) : Nat :=
  let now := ktbOf s (.acre a)
  (s.bur.duty.get a).foldl (fun n d =>
    n + (min (d.from_ + d.len) now - max d.from_ (now - 1000000))) 0

/-- The Field serves no revival fetch now, and its duty is below REVIVE_DUTY. -/
def fieldFree (s : State) (a : Acre) : Bool :=
  let now := ktbOf s (.acre a)
  (s.bur.duty.get a).all (fun d => d.from_ + d.len ≤ now) &&
    decide (dutyNs s a < liveF s .BUR_CTRL (.acre .a0) 0 22 16 * 10000)

/-- Bytes of a list of objects' missing units. -/
def missingBytes (s : State) (a : Acre) (l : List Nat) : Nat :=
  l.foldl (fun n i => n + (missing s i a).length * unitBytes s (getObj s i)) 0

/-- A Field takes up the fetch at the head of its queue: the queue's rest, and the time it takes: the bytes at 204.8 GB/s (R74;
log 33). -/
def fetchBegun (a : Acre) (f : RevFetch) (r : List RevFetch) (s : State) : State :=
  let now := ktbOf s (.acre a)
  let keep := (s.bur.duty.get a).filter (fun d => now - 1000000 < d.from_ + d.len)
  let bytes := missingBytes s (homeAcre f.slot) (fetchFrom s f.slot a)
  { s with bur := { s.bur with
    revQ := s.bur.revQ.set a r, duty := s.bur.duty.set a (keep ++ [{ slot := f.slot, from_ := now, len := bytes * 10 / 2048 }]) } }

/-- The sheaves of a list of objects come into the Near of an Acre, those without room excepted; or the check that fails. -/
def fetchObjs (a : Acre) (l : List Nat) (s : State) : Except Status State :=
  l.foldl (fun r i => match r with
    | .error st => .error st
    | .ok s => fetchUnits i a false true (missing s i a) s) (.ok s)

/-- REVIVAL_FETCH_START (R74): the Field of an Acre serves the oldest fetch queued on it. The sheaves it supplies come
into Near, those without room excepted; a failed check fences the session (R124). -/
def execRevivalFetchStart (a : Acre) (s : State) : Host.Outcome State Fault Refusal := running s <|
  if fieldFree s a then
    match s.bur.revQ.get a with
    | [] => ok s
    | f :: r =>
      match fetchObjs (homeAcre f.slot) (fetchFrom s f.slot a) (fetchBegun a f r s) with
      | .ok s => ok s
      | .error st => okSettle (fenceSession f.slot st (fetchBegun a f r s))
  else ok s

/-- The window's sheaves are in Near, or left where attention reads them: no fetch of the session is queued or running
and none of its window stacks is being staged (R73, R76). -/
def windowReady (s : State) (slot : Nat) : Bool :=
  Acre.all.all (fun a => (s.bur.revQ.get a).all (fun f => f.slot ≠ slot) &&
    (s.bur.duty.get a).all (fun d => d.slot ≠ slot || decide (d.from_ + d.len ≤ ktbOf s (.acre a)))) &&
  s.chest.stagings.all (fun g => g.cause ≠ .revival slot)

/-- The READY commit (R67, R249, R284): PREFILL or DECODE, the RESUME record, the READY event, and the staging of what
the Chest still holds (R77). -/
def readyCommit (slot : Nat) (s : State) : State :=
  let d := desc s slot
  let x := auxOf s slot
  let dest := if d.len < d.logCount then SState.prefill else .decode
  let s := commitState slot dest .ok (fun d => { d with ready := true, reviveActive := false }) s
  let s := streamRelease d.streamRing 256 s
  let s := setAux slot { x with resumeReserved := false } s
  let r := { streamBase s slot .resume d.len d.logCount d.wakeCause.code with
    status := x.intakeStatus, inboxRd := d.inboxRd, callId := x.intakeCall, taken := x.intakeTokens }
  let s := postStream d.streamRing r s
  let s := raiseEvent slot d.imageId 2 (BitVec.ofNat 64 d.wakeCause.code) (BitVec.ofNat 64 d.logCount) s
  stageRest slot s

/-! ## DESC_READ (R302) -/

/-- DESC_READ: the 512-byte descriptor of the session, word 62 zero, into the data buffer of `dlen` bytes. -/
def execDescRead (sq cid handle dlen : Nat) (s : State) : Host.Outcome State Fault Refusal := running s <|
  ok (hostCmd sq cid .io false (fun s =>
    match handleCheck s handle with
    | some st => postCqe sq cid st 0 0 s
    | none =>
      if dlen < 512 then postCqe sq cid .badFormat 0 0 s
      else postCqe sq cid .ok 0 0 (emit (.hostData sq cid (descBytes s (slotOf handle))) s)) s)

/-! ## Shelf coherence (R88 to R91) -/

/-- GETX (R89): a request of an Acre's Shelf reaches the home. A request beside one of the same Acre, or of the owner
itself, does not arise. An owner with no write-back on its way is sent RECALL. -/
def execGetx (a : Acre) (slot : Nat) (s : State) : Host.Outcome State Fault Refusal := running s <|
  let e := dirOf s slot
  let h := homeAcre slot
  if slot ≥ 2 ^ 22 || e.waiting.contains a || e.st = .owned a || 3 ≤ e.waiting.length then ok s
  else
    let s := { s with bur := { s.bur with getx := s.bur.getx.set h (s.bur.getx.get h + 1) } }
    let recalled := match e.st with
      | .owned _ => e.wb.isNone
      | _ => e.recalled
    ok (setDir slot { e with waiting := e.waiting ++ [a], recalled := recalled } s)

/-- RECALL (R89): the owning Shelf releases the line with a write-back, or answers WB_IN_FLIGHT where one is on its
way. -/
def execRecall (slot : Nat) (s : State) : Host.Outcome State Fault Refusal := running s <|
  let e := dirOf s slot
  match e.st, e.wb with
  | .owned a, none =>
    if !e.recalled then ok s
    else match NMap.get? (s.bur.shelf.get a) slot with
      | none => ok s
      | some l => ok (setDir slot { e with wb := some l.copy } (dropLine a slot s))
  | _, _ => ok s

/-- SHELF_WB (R89): a write-back reaches the home and is written into the home copy; the next queued GETX can be
granted. -/
def execShelfWb (slot : Nat) (s : State) : Host.Outcome State Fault Refusal := running s <| ok (wbArrives slot s)

/-- GETX_GRANT (R89 to R91): the grant for the oldest queued request reaches the requesting Shelf. S copies have been
invalidated; it carries RECALL while another request is queued. A Shelf that can free no line refuses its operation. -/
def execGetxGrant (slot : Nat) (s : State) : Host.Outcome State Fault Refusal := running s <|
  let e := dirOf s slot
  match e.st, e.waiting with
  | .owned _, _ => ok s
  | _, [] => ok s
  | _, a :: r =>
    let s := setDir slot { e with waiting := r } s
    match shelfRoom a s with
    | none => ok s
    | some s =>
      let s := takeOwned a slot s
      ok (setDir slot { dirOf s slot with recalled := !r.isEmpty } s)

/-- SHELF_EVICT (R91): a Shelf evicts a line whose session is not live and has no operation in flight; an O line goes
to its home by a write-back. -/
def execShelfEvict (a : Acre) (slot : Nat) (s : State) : Host.Outcome State Fault Refusal := running s <|
  match NMap.get? (s.bur.shelf.get a) slot with
  | none => ok s
  | some l =>
    if !lineEvictable s slot then ok s
    else if l.own then ok (setDir slot { dirOf s slot with wb := some l.copy } (dropLine a slot s))
    else ok (evictLine a slot s)

end Sys2Proof.Machine
end

