-- ==== Sys2Proof/Machine/F32.lean ====
section
/-!
DEFINITION. IEEE 754 binary32 arithmetic as the Furrows and Gleaners do it: values as exact dyadic numbers, one rounding to
nearest even, the stored element formats, the fixed sum tree and the exponential (R196 to R209).
-/
namespace Sys2Proof.Machine

/-- FP32 bit pattern. -/
abbrev F32 := BitVec 32

/-- An exact value: (−1)^neg × m × 2^e, an infinity, or NaN. -/
inductive FVal where
  | nan
  | inf (neg : Bool)
  | fin (neg : Bool) (m : Nat) (e : Int)
  deriving DecidableEq, Repr

/-- m × 2^k for k of either sign, and whether bits were lost: quotient and remainder of the shift. -/
def shiftRne (m : Nat) (k : Int) : Nat :=
  if 0 ≤ k then m * 2 ^ k.toNat
  else
    let d := (-k).toNat
    let q := m / 2 ^ d
    let r := m % 2 ^ d
    let half := 2 ^ (d - 1)
    if half < r || (r = half && q % 2 = 1) then q + 1 else q

/-- Magnitude bits of the value nearest to m × 2^e, ties to even, in a format of `mb` mantissa bits and the given bias; it
may lie beyond the format's largest encoding (R196, R202). -/
def roundMag (mb bias m : Nat) (e : Int) : Nat :=
  if m = 0 then 0
  else
    let emin : Int := 1 - (bias : Int) - mb
    let top : Int := e + Nat.log2 m
    let q := max (top - mb) emin
    shiftRne m (e - q) + (q - emin).toNat * 2 ^ mb

/-- Value of magnitude bits in such a format, infinities and NaN aside. -/
def magVal (neg : Bool) (mb bias bits : Nat) : FVal :=
  let ex := bits / 2 ^ mb
  let m := bits % 2 ^ mb
  if ex = 0 then .fin neg m (1 - (bias : Int) - mb)
  else .fin neg (m + 2 ^ mb) ((ex : Int) - bias - mb)

/-- Canonical NaN and the infinities of FP32. -/
def fNaN : F32 := 0x7FC00000
def fInf (neg : Bool) : F32 := if neg then 0xFF800000 else 0x7F800000

/-- One rounding to FP32 (R196). -/
def rn32 (v : FVal) : F32 :=
  match v with
  | .nan => fNaN
  | .inf n => fInf n
  | .fin n m e =>
    let b := roundMag 23 127 m e
    if 0x7F800000 ≤ b then fInf n else BitVec.ofNat 32 (b + if n then 2 ^ 31 else 0)

/-- The value of an FP32 pattern. -/
def val32 (x : F32) : FVal :=
  let n := x.getLsbD 31
  let b := x.toNat % 2 ^ 31
  if 0x7F800000 < b then .nan else if b = 0x7F800000 then .inf n else magVal n 23 127 b

/-- Exact negation, product and sum. The sum of exact zeros of unlike sign, and an exact cancellation, is +0. -/
def FVal.neg : FVal → FVal
  | .nan => .nan
  | .inf n => .inf (!n)
  | .fin n m e => .fin (!n) m e

def FVal.mul : FVal → FVal → FVal
  | .nan, _ => .nan
  | _, .nan => .nan
  | .inf a, .inf b => .inf (a != b)
  | .inf a, .fin b m _ => if m = 0 then .nan else .inf (a != b)
  | .fin a m _, .inf b => if m = 0 then .nan else .inf (a != b)
  | .fin a m e, .fin b n f => .fin (a != b) (m * n) (e + f)

def FVal.add : FVal → FVal → FVal
  | .nan, _ => .nan
  | _, .nan => .nan
  | .inf a, .inf b => if a = b then .inf a else .nan
  | .inf a, _ => .inf a
  | _, .inf b => .inf b
  | .fin a m e, .fin b n f =>
    if m = 0 && n = 0 then .fin (a && b) 0 0
    else
      let g := min e f
      let x : Int := (m * 2 ^ (e - g).toNat : Nat)
      let y : Int := (n * 2 ^ (f - g).toNat : Nat)
      let z := (if a then -x else x) + (if b then -y else y)
      .fin (decide (z < 0)) z.natAbs g

/-- Multiply by 2^k. -/
def FVal.scale (v : FVal) (k : Int) : FVal :=
  match v with
  | .fin n m e => .fin n m (e + k)
  | v => v

def fAdd (a b : F32) : F32 := rn32 ((val32 a).add (val32 b))
def fMul (a b : F32) : F32 := rn32 ((val32 a).mul (val32 b))
def fFma (a b c : F32) : F32 := rn32 (((val32 a).mul (val32 b)).add (val32 c))
def fNeg (a : F32) : F32 := rn32 (val32 a).neg
def fSub (a b : F32) : F32 := rn32 ((val32 a).add (val32 b).neg)
def fScale (a : F32) (k : Int) : F32 := rn32 ((val32 a).scale k)

/-- Division: the quotient with enough bits, and a sticky bit below them. -/
def fDiv (a b : F32) : F32 :=
  match val32 a, val32 b with
  | .nan, _ => fNaN
  | _, .nan => fNaN
  | .inf _, .inf _ => fNaN
  | .inf x, .fin y _ _ => fInf (x != y)
  | .fin x _ _, .inf y => rn32 (.fin (x != y) 0 0)
  | .fin x m e, .fin y n f =>
    if n = 0 then (if m = 0 then fNaN else fInf (x != y))
    else
      let p := m * 2 ^ 64
      let q := p / n
      rn32 (.fin (x != y) (2 * q + if p % n = 0 then 0 else 1) (e - f - 65))

/-- Order of two numbers that are not NaN; zeros of both signs are equal. -/
def fLt (a b : F32) : Bool :=
  match val32 a, val32 b with
  | .nan, _ => false
  | _, .nan => false
  | .inf x, .inf y => x && !y
  | .inf x, .fin _ _ _ => x
  | .fin _ _ _, .inf y => !y
  | .fin x m e, .fin y n f =>
    let g := min e f
    let u : Int := (m * 2 ^ (e - g).toNat : Nat)
    let v : Int := (n * 2 ^ (f - g).toNat : Nat)
    decide ((if x then -u else u) < (if y then -v else v))

def isNaN (a : F32) : Bool := val32 a = .nan
def isInf (a : F32) : Bool := a = fInf false || a = fInf true
def isFin (a : F32) : Bool := !isNaN a && !isInf a

/-- The maximum of R197: NaN if either is; +0 above −0. -/
def fMax (a b : F32) : F32 :=
  if isNaN a || isNaN b then fNaN
  else if fLt a b then b
  else if fLt b a then a
  else if a.getLsbD 31 then b else a

/-- rint of R197: the nearest integer, ties to even. -/
def rintZ (a : F32) : Int :=
  match val32 a with
  | .fin n m e => if n then -(shiftRne m e : Int) else shiftRne m e
  | _ => 0

/-- An integer as an FP32 value. -/
def fOfInt (z : Int) : F32 := rn32 (.fin (decide (z < 0)) z.natAbs 0)

/-- The fixed tree of R203 over a list of at most 2^fuel values. -/
def fTree : Nat → List F32 → F32
  | _, [] => 0
  | _, [x] => x
  | 0, x :: _ => x
  | fuel + 1, xs =>
    let h := 2 ^ Nat.log2 (xs.length - 1)
    fAdd (fTree fuel (xs.take h)) (fTree fuel (xs.drop h))

def treeSum (xs : List F32) : F32 := fTree 32 xs

/-- The table T of R208: the FP32 values nearest to 2^(j ÷ 64). -/
def expTable : List F32 :=
  [0x3F800000, 0x3F8164D2, 0x3F82CD87, 0x3F843A29, 0x3F85AAC3, 0x3F871F62, 0x3F88980F, 0x3F8A14D5,
   0x3F8B95C2, 0x3F8D1ADF, 0x3F8EA43A, 0x3F9031DC, 0x3F91C3D3, 0x3F935A2B, 0x3F94F4F0, 0x3F96942D,
   0x3F9837F0, 0x3F99E046, 0x3F9B8D3A, 0x3F9D3EDA, 0x3F9EF532, 0x3FA0B051, 0x3FA27043, 0x3FA43516,
   0x3FA5FED7, 0x3FA7CD94, 0x3FA9A15B, 0x3FAB7A3A, 0x3FAD583F, 0x3FAF3B79, 0x3FB123F6, 0x3FB311C4,
   0x3FB504F3, 0x3FB6FD92, 0x3FB8FBAF, 0x3FBAFF5B, 0x3FBD08A4, 0x3FBF179A, 0x3FC12C4D, 0x3FC346CD,
   0x3FC5672A, 0x3FC78D75, 0x3FC9B9BE, 0x3FCBEC15, 0x3FCE248C, 0x3FD06334, 0x3FD2A81E, 0x3FD4F35B,
   0x3FD744FD, 0x3FD99D16, 0x3FDBFBB8, 0x3FDE60F5, 0x3FE0CCDF, 0x3FE33F89, 0x3FE5B907, 0x3FE8396A,
   0x3FEAC0C7, 0x3FED4F30, 0x3FEFE4BA, 0x3FF28177, 0x3FF5257D, 0x3FF7D0DF, 0x3FFA83B3, 0x3FFD3E0C]

/-- exp32 of R207. -/
def exp32 (x : F32) : F32 :=
  if isNaN x then fNaN
  else if fLt 0x42B20000 x then fInf false
  else if fLt x 0xC2D00000 then 0
  else
    let n := rintZ (fMul x 0x42B8AA3B)
    let r := fFma (fOfInt (-n)) 0x3C317218 x
    let r := fFma (fOfInt (-n)) 0xAE02E308 r
    let j := (n % 64).toNat
    let k := (n - n % 64) / 64
    let t := fFma 0x3E2AAAAB r 0x3F000000
    let u := fMul r r
    let pm := fFma t u r
    let tj := expTable.getD j 0
    fScale (fFma tj pm tj) k

/-! ## Stored formats (R198, R199) -/

/-- BF16, and rounding to it. -/
def valBf16 (b : Nat) : FVal := val32 (BitVec.ofNat 32 (b * 2 ^ 16))

def rnBf16 (v : FVal) : Nat :=
  match v with
  | .nan => 0x7FC0
  | .inf n => if n then 0xFF80 else 0x7F80
  | .fin n m e =>
    let b := roundMag 7 127 m e
    (if 0x7F80 ≤ b then 0x7F80 else b) + if n then 2 ^ 15 else 0

/-- The E4M3 value nearest to a value whose magnitude rounds to at most 448. -/
def rnE4m3 (v : FVal) : FVal :=
  match v with
  | .fin n m e => magVal n 3 7 (roundMag 3 7 m e)
  | _ => .nan

/-- An element of a storage format from its bits. -/
def valElem (fmt b : Nat) : FVal :=
  let small := fun (eb mb bias : Nat) => magVal (b.testBit (eb + mb)) mb bias (b % 2 ^ (eb + mb))
  match fmt with
  | 0 => valBf16 b
  | 1 | 3 => if b % 128 = 127 then .nan else small 4 3 7
  | 2 | 4 => if 124 < b % 128 then .nan else if b % 128 = 124 then .inf (b.testBit 7) else small 5 2 15
  | 5 => small 2 3 1
  | 6 => small 3 2 3
  | _ => small 2 1 1

/-- Bits of element `i` of a row whose bytes `rd` gives. -/
def elemBits (fmt : Nat) (rd : Nat → Nat) (i : Nat) : Nat :=
  match fmt with
  | 0 => rd (2 * i) + 256 * rd (2 * i + 1)
  | 1 | 2 | 3 | 4 => rd i
  | 5 | 6 =>
    let g := i / 4
    ((rd (3 * g) + 256 * rd (3 * g + 1) + 65536 * rd (3 * g + 2)) / 2 ^ (6 * (i % 4))) % 64
  | _ => if i % 2 = 0 then rd (i / 2) % 16 else rd (i / 2) / 16

/-- Element bytes of a row of `d` elements; the scale bytes follow them (R95). -/
def elemBytes (fmt d : Nat) : Nat :=
  match fmt with
  | 0 => 2 * d
  | 1 | 2 | 3 | 4 => d
  | 5 | 6 => 3 * d / 4
  | _ => d / 2

/-- Block scale exponent of block `b` of a row: `none` is the NaN scale (R198 to R200). -/
def blockScale (fmt d : Nat) (rd : Nat → Nat) (b : Nat) : Option Int :=
  if fmt ≤ 2 then some 0
  else
    let x := rd (elemBytes fmt d + b)
    if x = 255 then none else some ((x : Int) - 127)

/-- Element `i` of a row as an array operand, without its block scale: NaN under the NaN scale. -/
def operand (fmt d : Nat) (rd : Nat → Nat) (i : Nat) : FVal :=
  match blockScale fmt d rd (i / 32) with
  | none => .nan
  | some _ => valElem fmt (elemBits fmt rd i)

end Sys2Proof.Machine
end

