-- ==== Sys2Proof/Machine/AttnMath.lean ====
section
/-!
DEFINITION. The attention arithmetic: query conversion, scores, sheaf partials, the merge, the fold tree and Emit
(R168 to R171, R201 to R219).
-/
namespace Sys2Proof.Machine

/-- What the arithmetic takes from a profile (R92, R170, R205). -/
structure AttnParams where
  g       : Geom
  causal  : Bool
  softcap : Bool
  hscale  : Bool
  sinks   : Nat
  window  : Nat
  scale   : F32
  cap     : F32
  deriving DecidableEq, Repr

/-- The live parameters of a profile on an Acre. -/
def attnParams (s : State) (a : Acre) (p : Nat) : AttnParams :=
  let v := live s .TIER_PROF_VAR (.acre a) p
  let c := live s .TIER_PROF_SCALE (.acre a) p
  { g := geom s p, causal := bit v 0, softcap := bit v 1, hscale := bit v 2, sinks := field v 15 8,
    window := field v 47 16, scale := BitVec.ofNat 32 (field c 31 0), cap := BitVec.ofNat 32 (field c 63 32) }

/-- HS of a query head (R170); FUR_HSCALE is indexed by PROFILE and HEAD. -/
def headScale (s : State) (a : Acre) (p j : Nat) : F32 :=
  BitVec.ofNat 32 (liveF s .FUR_HSCALE (.acre a) (p + 16 * j) 31 0)

/-- A row of array operands with the scale exponent of each block of 32. -/
structure OpRow where
  el : List FVal
  x  : List Int
  deriving DecidableEq, Repr

/-- A stored row of `d` elements in a format, from its bytes (R198 to R201). -/
def storedRow (fmt d : Nat) (rd : Nat → Nat) : OpRow :=
  { el := (List.range d).map (operand fmt d rd),
    x := (List.range (d / 32)).map (fun b => (blockScale fmt d rd b).getD 0) }

/-- Exponent of the leading bit of a finite non-zero value. -/
def leadExp (v : FVal) : Option Int :=
  match v with
  | .fin _ m e => if m = 0 then none else some (e + Nat.log2 m)
  | _ => none

/-- X_q of a block: ⌊log₂ amax⌋ − 7, or 0 where every finite element is 0 (R202). -/
def queryExp (els : List FVal) : Int :=
  match els.filterMap leadExp with
  | [] => 0
  | t :: r => r.foldl max t - 7

/-- A query head's row as operands: unchanged on the BF16 arrays, MXFP8 E4M3 on the FP8 arrays (R202). -/
def queryRow (fmt dk : Nat) (rd : Nat → Nat) : OpRow :=
  let raw := (List.range dk).map (fun i => valBf16 (rd (2 * i) + 256 * rd (2 * i + 1)))
  if fmt = 0 then { el := raw, x := List.replicate (dk / 32) 0 }
  else
    let xs := (List.range (dk / 32)).map (fun b => queryExp ((raw.drop (32 * b)).take 32))
    { el := (List.range dk).map (fun i => rnE4m3 ((raw.getD i .nan).scale (-(xs.getD (i / 32) 0)))), x := xs }

/-- dot of R204. -/
def dotRow (q k : OpRow) : F32 :=
  treeSum ((List.range q.x.length).map (fun b =>
    let t := (List.range 32).map (fun i =>
      rn32 ((q.el.getD (32 * b + i) .nan).mul (k.el.getD (32 * b + i) .nan)))
    fScale (treeSum t) (q.x.getD b 0 + k.x.getD b 0)))

/-- softcap of R205. -/
def softCap (cap s : F32) : F32 :=
  if isNaN s then fNaN
  else
    let v := fMul s (fDiv 0x3F800000 cap)
    let a := v &&& 0x7FFFFFFF
    let t := if isNaN v then fNaN
      else if !fLt a 0x41100000 then 0x3F800000
      else if fLt a 0x39800000 then a
      else
        let e := exp32 (fScale (fNeg a) 1)
        fDiv (fSub 0x3F800000 e) (fAdd 0x3F800000 e)
    fMul cap (if v.getLsbD 31 then fNeg t else t)

/-- A position is visible to a query position (R169). -/
def visible (p : AttnParams) (end_ lo hi i j : Nat) : Bool :=
  decide (j < end_) && decide (64 * lo ≤ j) && (hi = 0 || decide (j < 64 * hi)) && (!p.causal || decide (j ≤ i)) &&
    (p.window = 0 || decide (i < j + p.window) || decide (j < p.sinks))

/-- Score before the soft-cap, and the score (R205). -/
def scoreOf (p : AttnParams) (c : F32) (q k : OpRow) : F32 × F32 :=
  let s := fMul (dotRow q k) c
  (s, if p.softcap then softCap p.cap s else s)

/-- Weight P of a visible position and the exponent its products carry (R210). -/
def weightOf (fmt : Nat) (e : F32) : FVal :=
  if fmt = 0 then valBf16 (rnBf16 (val32 e)) else rnE4m3 ((val32 e).scale 8)

/-- The FP32 minus infinity: m of the EMPTY partial. -/
def fEmpty : F32 := 0xFF800000

/-- sheaf_partial of R210 over 64 positions: `none` for a position that is not visible, else its score and its V row.
`none`: EMPTY. -/
def sheafPartial (fmt dv : Nat) (ps : List (Option (F32 × OpRow))) : Option Partial :=
  let sc := ps.filterMap (fun x => x.map (fun y => y.1))
  match sc with
  | [] => none
  | s0 :: r =>
    let mb := r.foldl fMax s0
    if mb = fEmpty then none
    else
      let adj : Int := if fmt = 0 then 0 else -8
      let w := ps.map (fun x => x.map (fun y => (weightOf fmt (exp32 (fSub y.1 mb)), y.2)))
      let l := treeSum (w.map (fun x => match x with
        | none => 0
        | some y => rn32 (y.1.scale adj)))
      let o := (List.range dv).map (fun d => treeSum (w.map (fun x => match x with
        | none => 0
        | some y => rn32 ((y.1.mul (y.2.el.getD d .nan)).scale (y.2.x.getD (d / 32) 0 + adj)))))
      some { m := mb, l := l, o := o }

/-- merge of R211. -/
def mergePartial (a b : Option Partial) : Option Partial :=
  match a, b with
  | none, b => b
  | a, none => a
  | some a, some b =>
    let m := fMax a.m b.m
    let x := exp32 (fSub a.m m)
    let y := exp32 (fSub b.m m)
    some { m := m, l := fAdd (fMul a.l x) (fMul b.l y),
           o := (a.o.zip b.o).map (fun z => fAdd (fMul z.1 x) (fMul z.2 y)) }

/-- fold of R212 over the nodes at level `lo` that are present: (index at that level, partial). -/
def foldTree : Nat → Nat → List (Nat × Option Partial) → Option Partial
  | _, _, [] => none
  | 0, a, xs => (xs.find? (fun x => x.1 = a)).bind (fun x => x.2)
  | h + 1, a, xs =>
    mergePartial (foldTree h a (xs.filter (fun x => x.1 < a + 2 ^ h)))
      (foldTree h (a + 2 ^ h) (xs.filter (fun x => a + 2 ^ h ≤ x.1)))

/-- Fast mode: merge in the order given (R215). -/
def foldFast (xs : List (Option Partial)) : Option Partial := xs.foldl mergePartial none

/-- Emit of R216 and R217: the output values of one token and head. -/
def emitRow (exporting fp32 : Bool) (dv : Nat) (p : Option Partial) : List Byte :=
  match p with
  | none => List.replicate (dv * if exporting || fp32 then 4 else 2) 0
  | some p =>
    p.o.flatMap (fun o =>
      if exporting then leBytes 4 o.toNat
      else
        let y := fDiv o p.l
        if fp32 then leBytes 4 y.toNat else leBytes 2 (rnBf16 (val32 y)))

/-- The pair (m, l) of one token and head (R194, R217). -/
def lseRow (p : Option Partial) : List Byte :=
  match p with
  | none => leBytes 4 fEmpty.toNat ++ leBytes 4 0
  | some p => leBytes 4 p.m.toNat ++ leBytes 4 p.l.toNat

end Sys2Proof.Machine
end

