-- ==== Sys2Proof/Machine/FurrowOps.lean ====
section
/-!
DEFINITION. Attention and token queues: doorbells, admission, appends, work items, operations held at a descriptor, sample
records, item results (R165 to R195, R225 to R239).
-/
namespace Sys2Proof.Machine

/-! ## Near memory and rings (R172) -/

/-- Bytes of an Acre's Near outside the object caches. A Near address carries its Acre above bit 46 (R64). -/
def nearRead (s : State) (a : Acre) (addr n : Nat) : List Byte := Cells.readN (s.tier.near.get a) (addr % 2 ^ 46) n

def nearWrite (a : Acre) (addr : Nat) (bs : List Byte) (s : State) : State :=
  { s with tier := { s.tier with near := s.tier.near.set a (Cells.writeN (s.tier.near.get a) (addr % 2 ^ 46) bs) } }

/-- A request ring of an Acre: its configuration register and index. -/
structure RingCfg where
  base   : Nat
  size   : Nat
  enable : Bool
  deriving DecidableEq, Repr

def ringCfg (s : State) (r : Reg) (a : Acre) (i : Nat) : RingCfg :=
  let w := live s r (.acre a) i
  { base := field w 47 0, size := 2 ^ field w 52 48, enable := bit w 53 }

def arqCfg (s : State) (n : Nat) : RingCfg := ringCfg s .FUR_ARQ_CFG (Acre.ofNum (n / 64)) (n % 64)
def tkqCfg (s : State) (n : Nat) : RingCfg := ringCfg s .GEN_TKQ_CFG (Acre.ofNum (n / 64)) (n % 64)

/-- Bytes of a ring's stream from byte count `at_`. -/
def ringRead (s : State) (a : Acre) (c : RingCfg) (at_ n : Nat) : List Byte :=
  nearRead s a (c.base + 4096 + at_ % c.size) n

/-- The consumer count in a control page (R172). -/
def writeCi (a : Acre) (c : RingCfg) (ci : Nat) (s : State) : State := nearWrite a (c.base + 64) (leBytes 8 ci) s

def arqOf (s : State) (n : Nat) : Arq := NMap.get .empty s.fur.arqs n
def putArq (n : Nat) (q : Arq) (s : State) : State := { s with fur := { s.fur with arqs := NMap.put s.fur.arqs n q } }
def tkqOf (s : State) (n : Nat) : Tkq := NMap.get .empty s.gen.tkqs n
def putTkq (n : Nat) (q : Tkq) (s : State) : State := { s with gen := { s.gen with tkqs := NMap.put s.gen.tkqs n q } }

/-- PI of a control page is set to the take point (R173). -/
def writePi (a : Acre) (c : RingCfg) (pi : Nat) (s : State) : State := nearWrite a c.base (leBytes 8 pi) s

/-- Stop an ARQ, and latch ERROR (R173). -/
def stopArq (n : Nat) (st : Status) (s : State) : State :=
  setLiveF .FUR_ARQ_STATUS (.acre (Acre.ofNum (n / 64))) (n % 64) 40 40 1 (putArq n { arqOf s n with err := some st } s)

def stopTkq (n : Nat) (st : Status) (s : State) : State :=
  setLiveF .GEN_TKQ_STATUS (.acre (Acre.ofNum (n / 64))) (n % 64) 40 40 1 (putTkq n { tkqOf s n with err := some st } s)

/-- The doorbell of an ARQ with a producer count (R173). A stopped or disabled queue takes no notice. -/
def arqDoorbell (n pi : Nat) (s : State) : State :=
  let q := arqOf s n
  if !(arqCfg s n).enable || q.err.isSome || pi ≤ q.pi then s
  else if (arqCfg s n).size < pi - q.ci then stopArq n .noSpace s
  else putArq n { q with pi := pi, marks := q.marks ++ [(pi, ktb s)] } s

/-- The doorbell of a TKQ (R228). -/
def tkqDoorbell (n pi : Nat) (s : State) : State :=
  let q := tkqOf s n
  if !(tkqCfg s n).enable || q.err.isSome || pi ≤ q.pi then s
  else if (tkqCfg s n).size < pi - q.ci then stopTkq n .noSpace s
  else putTkq n { q with pi := pi, marks := q.marks ++ [(pi, ktb s)] } s

/-! ## Furrows and items -/

/-- Furrows of an Acre: F12a to F12a + 11 (R24). -/
def acreFurrows (a : Acre) : List Nat := (List.range 12).map (fun i => 12 * a.num + i)

/-- The Furrow is not fenced (R484). -/
def furrowUp (s : State) (f : Nat) : Bool :=
  !(live s .CKP_FENCE_MISC (.acre (Acre.ofNum (f / 12))) 0).getLsbD (f % 12)

/-- Furrows of an Acre in use. -/
def upFurrows (s : State) (a : Acre) : List Nat := (acreFurrows a).filter (furrowUp s)

def furUse (s : State) (f : Nat) : FurrowUse := NMap.get .idle s.fur.units f

def putFur (f : Nat) (u : FurrowUse) (s : State) : State :=
  { s with fur := { s.fur with units := NMap.putD .idle s.fur.units f u } }

/-- FUR_CTRL of an Acre. -/
def furCtl (s : State) (a : Acre) (hi lo : Nat) : Nat := liveF s .FUR_CTRL (.acre a) 0 hi lo

/-- Furrows outside the decode reserve, which is the RESERVE lowest-numbered Furrows in use (R184, R483). -/
def nonReserve (s : State) (a : Acre) : List Nat := (upFurrows s a).drop (furCtl s a 3 0)

def setEntryF (id : Nat) (f : AttnEntry → AttnEntry) (s : State) : State :=
  { s with fur := { s.fur with entries := NMap.modify s.fur.entries id f } }

/-- END of an entry (R169). -/
def AttnEntry.end_ (e : AttnEntry) : Nat := e.pos + e.q

/-- Some position of sheaf `k` is visible to some of `n` query positions from `i` (R169). -/
def sheafVisible (p : AttnParams) (e : AttnEntry) (i n k : Nat) : Bool :=
  (List.range n).any (fun t => (List.range 64).any (fun j => visible p e.end_ e.ctxLo e.ctxHi (i + t) (64 * k + j)))

/-- Visible sheaves of `n` query positions from `i`, ascending. -/
def visibleSheaves (p : AttnParams) (e : AttnEntry) (i n : Nat) : List Nat :=
  (List.range ((e.end_ + 63) / 64)).filter (fun k => sheafVisible p e i n k)

/-- Working-store bytes of a KV head and a token (R182). -/
def headBytes (g : Geom) : Nat := g.qpk * (2 * g.dk + 4 * g.dv + 8)

/-- Head group size and query block size (R182). -/
def splitOf (g : Geom) (q : Nat) : Nat × Nat :=
  let n := 15728640 / (q * headBytes g)
  if n = 0 then (1, 15728640 / headBytes g) else (min n g.heads, q)

/-- The items of an entry in dispatch order: head group, query block, ascending slice (R182, R183). -/
def itemsOf (s : State) (e : AttnEntry) (id : Nat) : List WorkItem :=
  let p := attnParams s e.acre (desc s e.slot).profile
  let (gs, bs) := splitOf p.g e.q
  let sl := 2 ^ furCtl s e.acre 7 4
  if gs = 0 || bs = 0 then []
  else
    (List.range ((p.g.heads + gs - 1) / gs)).flatMap (fun h =>
      (List.range ((e.q + bs - 1) / bs)).flatMap (fun b =>
        let n := min bs (e.q - b * bs)
        let ks := visibleSheaves p e (e.pos + b * bs) n
        let slices := (ks.map (fun k => k / sl)).eraseDups
        slices.map (fun x =>
          { id := 0, entry := id, pf := e.cls = .prefill, head := h * gs, heads := min gs (p.g.heads - h * gs), tok := b * bs,
            toks := n, lo := x * sl, hi := (x + 1) * sl, lead := slices.head? = some x, preempts := 0, saved := false })))

/-- Remove the items of an entry from the queues and the Furrows; their save areas go with them (R188). -/
def dropItems (id : Nat) (s : State) : State :=
  { s with
    fur := { s.fur with
      dvQ := s.fur.dvQ.map (fun q => q.filter (fun i => i.entry ≠ id)),
      pfQ := s.fur.pfQ.map (fun q => q.filter (fun i => i.entry ≠ id)),
      units := s.fur.units.filter (fun u => match u.2 with
        | .running i _ => i.entry ≠ id
        | .held i _ => i.entry ≠ id
        | .saving i => i.entry ≠ id
        | .idle => false) } }

/-! ## Bounds of R190, in ps -/

/-- ⌈n ÷ d⌉. -/
def ceilDiv (n d : Nat) : Nat := (n + d - 1) / d

/-- TC6's grant of R407 on eight ports with this device's settings, in 10^6 B/s (log 61). -/
def tc6Rate (s : State) : Nat :=
  let y := Die.yoke s.ckp.primary
  let q := (List.range 7).map (fun c => liveF s .TSC_DRR y 0 (8 * c + 7) (8 * c))
  let w := 50000 - liveF s .TSC_SHP y 7 31 0
  let share := w * q.getD 6 0 / max 1 (q.foldl (· + ·) 0)
  let r := liveF s .TSC_SHP y 6 31 0
  max 1 (8 * (if r = 0 then share else min r share) * 4096 / 4246)

/-- Where Gather finds a sheaf of a session (R189). -/
inductive SheafSrc where
  | near
  | field (a : Acre)
  | headland
  | chest (loc : Nat)
  | off
  | none
  deriving DecidableEq, Repr

/-- The source of layer `layer` of map entry `k` for a Furrow of the session's home Acre. -/
def sheafSrc (s : State) (slot layer k : Nat) : SheafSrc :=
  match mapEntry s slot k with
  | .none => .none
  | some e =>
    match e.ref with
    | .chestLoc l => .chest l
    | .offDevice _ => .off
    | .record i =>
      let o := getObj s i
      if isRes o (homeAcre slot) layer then .near
      else match o.home, o.stageLoc with
        | .fld a _, _ => .field a
        | .headland _ _, _ => .headland
        | .chest l, some (a, _) => if o.staged then .field a else .chest l
        | .chest l, Option.none => .chest l

/-- T_item of R190 for `n` sheaves, `g` KV heads and `q` tokens, the sheaves read from the listed sources. -/
def tItem (s : State) (g : Geom) (heads q : Nat) (src : List SheafSrc) : Nat :=
  let b := heads * 64 * (g.rk + g.rv)
  let ra := if g.fmt = 0 then 4150000 else 8350000
  let running := max 1 s.fur.units.length
  let duty := liveF s .BUR_CTRL (.acre .a0) 0 22 16
  let gather := fun x => match x with
    | SheafSrc.field _ => ceilDiv (b * 1000 * 10 * 100 * running) (2048 * max 1 (100 - duty))
    | .headland => ceilDiv (b * 1000000) (tc6Rate s)
    | _ => ceilDiv (b * 1000 * 100) 18432
  let fs := ceilDiv (128 * q * heads * g.qpk * g.dk * 1000000) ra
  let fb := ceilDiv (128 * q * heads * g.qpk * g.dv * 1000000) ra
  let e := ceilDiv (64 * q * heads * g.qpk * 1000) 128
  let ts := src.foldl (fun m x => max m (gather x)) (max fs (max fb e))
  let lat := src.foldl (fun m x => max m (match x with
    | .headland => liveF s .FUR_CTRL (.acre .a0) 0 45 30 * 1000000
    | .field _ => 1000000
    | _ => 0)) 0
  2000000 + lat + src.length * ts

/-- T_item of a waiting item. -/
def itemTime (s : State) (i : WorkItem) : Nat :=
  match NMap.get? s.fur.entries i.entry with
  | none => 0
  | some e =>
    let p := attnParams s e.acre (desc s e.slot).profile
    let ks := (visibleSheaves p e (e.pos + i.tok) i.toks).filter (fun k => i.lo ≤ k && k < i.hi)
    tItem s p.g i.heads i.toks (ks.map (fun k => sheafSrc s e.slot e.layer k))

/-! ## Pre-emption (R186) -/

/-- The Furrow holds prefill state and is not saving it. -/
def holdsPf (u : FurrowUse) : Bool :=
  match u with
  | .running i _ => i.pf
  | .held i _ => i.pf
  | _ => false

/-- The backlog condition. -/
def backlog (s : State) (a : Acre) : Bool :=
  let w := s.fur.dvQ.get a
  let n := ((acreFurrows a).filter (fun f => furrowUp s f && !holdsPf (furUse s f))).length
  let t := w.foldl (fun t i => t + itemTime s i) 0
  if n = 0 then !w.isEmpty else decide (furCtl s a 29 14 * 1000000 * n < t)

/-- Latch one pre-emption where the condition holds: the non-reserve Furrow whose PREFILL item started most recently
among those pre-empted fewer than PREEMPT_MAX times. -/
def latchCheck (a : Acre) (s : State) : State :=
  if furCtl s a 9 9 = 0 || (s.fur.latch.get a).isSome || !backlog s a then s
  else
    let c := (nonReserve s a).filterMap (fun f => match furUse s f with
      | .running i t => if i.pf && decide (i.preempts < furCtl s a 13 10) then some (f, t) else none
      | _ => none)
    match c with
    | [] => s
    | x :: r =>
      let y := r.foldl (fun b z => if b.2 ≤ z.2 then z else b) x
      { s with fur := { s.fur with latch := s.fur.latch.set a (some y.1) } }

/-- Queue the items of an admitted entry (R183). -/
def queueItems (id : Nat) (s : State) : State :=
  match NMap.get? s.fur.entries id with
  | none => s
  | some e =>
    let l := itemsOf s e id
    let l := (l.zip (List.range l.length)).map (fun x => { x.1 with id := s.fur.nextItem + x.2 })
    let s := { s with fur := { s.fur with nextItem := s.fur.nextItem + l.length } }
    let s := setEntryF id (fun e => { e with left := l.length }) s
    if e.cls = .prefill then { s with fur := { s.fur with pfQ := s.fur.pfQ.set e.acre (s.fur.pfQ.get e.acre ++ l) } }
    else latchCheck e.acre { s with fur := { s.fur with dvQ := s.fur.dvQ.set e.acre (s.fur.dvQ.get e.acre ++ l) } }

/-! ## Appends (R179) -/

/-- Make stack `k` of a session writable and wholly in Near for an append to positions from `lo`. -/
def readyStack (slot k lo : Nat) (s : State) : Except Status State :=
  match mapEntry s slot k with
  | none =>
    match allocStack slot k .empty s with
    | .error st => .error st
    | .ok s =>
      .ok (commitDesc slot (fun d => { d with mapStacks := max d.mapStacks (k + 1) }) s)
  | some e =>
    match e.ref with
    | .record i =>
      if e.shared then copyShared slot k i lo s
      else fetchUnits i (homeAcre slot) true false (missing s i (homeAcre slot)) s
    | _ => .error .notResident

/-- Make every stack of positions [lo, hi) ready. -/
def readyStacks (slot lo : Nat) : List Nat → State → Except Status State
  | [], s => .ok s
  | k :: r, s =>
    match readyStack slot k lo s with
    | .error st => .error st
    | .ok s => readyStacks slot lo r s

/-- Stacks of positions [lo, hi). -/
def stacksOf (lo hi : Nat) : List Nat := (List.range ((hi + 63) / 64 - lo / 64)).map (fun j => lo / 64 + j)

/-- Write the rows of one position: for each KV head the K row and, unless shared-KV, the V row (R175, R179). -/
def writeRow (g : Geom) (layer p : Nat) (rows : List Byte) (m : Cells) : Cells :=
  (List.range g.heads).foldl (fun m h =>
    let at_ := h * (g.rk + g.rv)
    let m := Cells.writeN m (layer * g.sheaf + g.kAt h (p % 64)) ((rows.drop at_).take g.rk)
    if g.rv = 0 then m else Cells.writeN m (layer * g.sheaf + g.vAt h (p % 64)) ((rows.drop (at_ + g.rk)).take g.rv)) m

/-- Write the rows of an appending entry into the Near copies (R179). -/
def writeRows (e : AttnEntry) (g : Geom) (s : State) : State :=
  let per := g.heads * (g.rk + g.rv)
  (List.range e.q).foldl (fun s t =>
    let p := e.pos + t
    match mapEntry s e.slot (p / 64) with
    | some ⟨_, .record i⟩ =>
      markDirty i e.acre [e.layer]
        (modObj i (fun o => { o with data := { o.data with
          bytes := writeRow g e.layer p (e.rows.drop (t * per)) o.data.bytes } }) s)
    | _ => s) s

/-- The rows an admitted appending entry has written above SPEC_HEAD are undefined (R310, R336). -/
def freeRows (e : AttnEntry) (s : State) : State :=
  let g := geom s (desc s e.slot).profile
  let lo := max e.pos (desc s e.slot).specHead
  if !e.append || !e.admitted then s
  else drew (writeRows { e with pos := lo, q := e.end_ - lo, rows := freeBytes e.rows.length s } g s)

/-- Bytes of a layer's sheaf in stack `k` as they stand. -/
def sheafBytes (s : State) (slot layer k : Nat) : Cells :=
  let cut := fun (d : ObjData) (sz : Nat) =>
    (d.bytes.filter (fun c => layer * sz ≤ c.1 && c.1 < (layer + 1) * sz)).map (fun c => (c.1 - layer * sz, c.2))
  let g := geom s (desc s slot).profile
  match mapEntry s slot k with
  | some ⟨_, .record i⟩ => cut (getObj s i).data g.sheaf
  | some ⟨_, .chestLoc l⟩ =>
    (match NMap.get? s.chest.content (locIndex l) with
     | some c => cut c.data g.sheaf
     | none => [])
  | _ => []

/-! ## Admission (R176, R233, R314) -/

/-- Checks 2 and 3 of R176 and those of R233. -/
def attnChecks (s : State) (e : AttnEntry) : Option Status :=
  let d := desc s e.slot
  let g := geom s d.profile
  let cap := logCap s e.slot
  if g.layers ≤ e.layer || e.badData || (e.ctxHi != 0 && decide (e.ctxHi < e.ctxLo)) ||
      ((e.ctxLo != 0 || e.ctxHi != 0) && !e.exporting) then some .badFormat
  else if e.append && (e.pos != d.specHead || (e.cls != .verify && d.specHead != d.len)) then some .badFormat
  else if !e.append && decide (d.specHead < e.end_) then some .badFormat
  else if e.append && e.cls = .prefill && decide (min d.logCount cap < e.end_) then some .badFormat
  else if e.append && e.cls != .prefill && d.logCount != d.len + 1 then some .badFormat
  else none

/-- The checks of a contracted Acre (R314). -/
def contractChecks (s : State) (e : AttnEntry) : Option Status :=
  if liveF s .BUR_GUAR_CTRL (.acre e.acre) 0 0 0 = 0 || e.cls = .prefill then none
  else match contractOf s e.slot with
    | none => some .quota
    | some c =>
      if c.cMax < e.end_ || c.qMax < e.q then some .quota
      else if (NMap.vals s.fur.entries).any (fun x => x.open_ && x.slot = e.slot && x.cls ≠ .prefill) then some .busy
      else
        let p := attnParams s e.acre (desc s e.slot).profile
        let ks := visibleSheaves p e e.pos e.q
        if ks.any (fun k => decide (64 * k < (desc s e.slot).specHead) && sheafSrc s e.slot e.layer k != .near) then
          some .notResident
        else none

/-- The entry appends on the last layer as DECODE, so it reserves stream space (R246). -/
def needsCredit (s : State) (e : AttnEntry) : Bool :=
  e.append && e.cls = .decode && e.layer + 1 == (geom s (desc s e.slot).profile).layers

/-- An appending DECODE or VERIFY entry that finds LOG_COUNT = LEN waits for its sample record (R232). -/
def waitsSample (s : State) (e : AttnEntry) : Bool :=
  e.append && e.cls != .prefill && (desc s e.slot).logCount == (desc s e.slot).len

/-- Admit an entry whose checks have passed: the append, the class's state change (R67), the snapshot of the layer at the
admission point (R80), the items. -/
def attnRun (id : Nat) (e : AttnEntry) (s : State) : State :=
  let d := desc s e.slot
  let g := geom s d.profile
  match (if e.append then readyStacks e.slot e.pos (stacksOf e.pos e.end_) s else .ok s) with
  | .error .integrity => fenceSession e.slot .integrity (endEntry id .integrity s)
  | .error st => endEntry id st s
  | .ok s =>
    let s := if e.append then writeRows e g s else s
    let pfOpen := (NMap.vals s.fur.entries).any (fun x => x.open_ && x.slot = e.slot && x.cls = .prefill)
    let dest := if e.cls = .prefill then SState.prefill else if pfOpen then d.state else .decode
    let s := if dest = (desc s e.slot).state then s else commitState e.slot dest .ok (fun d => d) s
    let ks := visibleSheaves (attnParams s e.acre d.profile) e e.pos e.q
    let credit := needsCredit s e
    let s := if credit then streamReserve d.streamRing 256 s else s
    let s := setEntryF id (fun x => { x with
      admitted := true, credit := credit, kv := ks.map (fun k => (k, sheafBytes s e.slot e.layer k)) }) s
    queueItems id s

/-- Bytes of a unit of a captured object. -/
def capUnit (s : State) (c : CapObj) : Nat :=
  if c.kind = .stack then (geom s c.profile).sheaf else if c.kind = .searchList then 131072 else 4096

/-- Bytes of the shadow's Near pool in use on an Acre (R469). -/
def poolUsed (s : State) (a : Acre) : Nat :=
  (shardOf s a).objs.foldl (fun n e => if e.2.copied then n else n + e.2.pool.length * capUnit s e.2) 0

/-- Bytes of copies an append makes before it writes: sheaves of dirty objects an open epoch has not yet copied (R80, R465). -/
def cowNeed (s : State) (e : AttnEntry) : Nat :=
  (stacksOf e.pos e.end_).foldl (fun n k =>
    match mapEntry s e.slot k with
    | some ⟨_, .record i⟩ =>
      (match capOf s i with
       | some c =>
         let o := getObj s i
         if c.gone || c.copied || c.taken = .ref || c.pool.contains e.layer || !(o.dirty || o.wbActive || c.taken = .shadow) then n
         else n + capUnit s c
       | none => n)
    | _ => n) 0

/-- The append must wait for pool space (R469). -/
def cowWaits (s : State) (e : AttnEntry) : Bool :=
  e.append && cowNeed s e != 0 &&
    decide (liveF s .CKP_CTRL (.acre e.acre) 0 15 0 * 2 ^ 20 < poolUsed s e.acre + cowNeed s e)

/-- Admission at the owning Shelf of an entry that no held operation precedes. -/
def attnAdmit (id : Nat) (s : State) : State :=
  match NMap.get? s.fur.entries id with
  | none => s
  | some e =>
    if e.status.isSome then s
    else match effState s e.slot with
      | .prefill | .decode =>
        if waitsSample s e && (attnChecks s e = none || attnChecks s e = some .badFormat) && !e.badData &&
            e.pos = (desc s e.slot).specHead then
          let x := auxOf s e.slot
          setAux e.slot { x with sampleHold := x.sampleHold ++ [(id, ktb s + 10000)] } s
        else match attnChecks s e with
          | some st => endEntry id st s
          | none =>
            if e.deadline != 0 && decide (e.deadline < ktb s) then endEntry id .timeout s
            else match contractChecks s e with
            | some st => endEntry id st s
            | none =>
              if needsCredit s e && !streamRoom (desc s e.slot).streamRing 256 s then
                hold e.slot (.attn id) (stall e.slot s)
              else if cowWaits s e then hold e.slot (.attn id) (bumpF .CKP_SHADOW (.acre e.acre) 0 51 28 1 s)
              else attnRun id e s
      | .reviving => hold e.slot (.attn id) s
      | .migrating => endEntry id .busy s
      | .fenced => endEntry id .fenced s
      | .free | .retiring => endEntry id .badHandle s
      | _ => endEntry id .notResident s

/-- An entry arrives at its session's descriptor (R63, R68, R70, R80). -/
def attnArrive (id : Nat) (s : State) : State :=
  match NMap.get? s.fur.entries id with
  | none => s
  | some e =>
    match handleCheck s e.handle with
    | some st => endEntry id st s
    | none =>
      match own e.slot s with
      | none => endEntry id .busy s
      | some s =>
        let x := auxOf s e.slot
        let heldAttn := (x.held.filter (fun h => match h with
          | .attn _ => true
          | _ => false)).length
        match effState s e.slot with
        | .reviving => if 256 ≤ heldAttn then endEntry id .busy s else hold e.slot (.attn id) s
        | .prefill | .decode =>
          if x.held.isEmpty && x.sampleHold.isEmpty then attnAdmit id s else hold e.slot (.attn id) s
        | _ => attnAdmit id s

/-! ## Sample records (R229 to R231) -/

/-- A SAMPLE record (R229). -/
structure SampleRec where
  handle : Nat
  count  : Nat
  commit : Bool
  pos    : Nat
  newLen : Nat
  tag    : Word
  tokens : List Nat
  deriving DecidableEq, Repr

def sampleRec (b : List Byte) : SampleRec :=
  let n := fun o k => leNat ((b.drop o).take k)
  { handle := n 0 4, count := n 6 1, commit := (n 7 1).testBit 0, pos := n 8 4, newLen := n 12 4,
    tag := BitVec.ofNat 64 (n 16 8), tokens := (List.range (n 6 1)).map (fun i => n (64 + 4 * i) 4) }

/-- The checks of R230. -/
def sampleCheck (s : State) (r : SampleRec) : Option Status :=
  match handleCheck s r.handle with
  | some st => some st
  | none =>
    let slot := slotOf r.handle
    let d := desc s slot
    let l := if r.commit then r.newLen else d.len
    match effState s slot with
    | .reviving | .migrating => some .busy
    | .idleWait | .toolWait | .dormant => some .notResident
    | .fenced => some .fenced
    | .free | .retiring => some .badHandle
    | .prefill | .decode =>
      if r.pos ≠ d.logCount then some .badFormat
      else if r.pos + r.count < l || l + 1 < r.pos + r.count then some .badFormat
      else if r.commit && (r.newLen < d.len || d.specHead < r.newLen) then some .badFormat
      else if logCap s slot < r.pos + r.count then some .noSpace
      else none

/-- The consumer count of a TKQ passes one record. -/
def tkqNext (n : Nat) (s : State) : State :=
  let q := tkqOf s n
  let q := { q with take := q.take + 128, ci := q.take + 128, holding := false, marks := marksPast q.marks (q.take + 128) }
  writeCi (Acre.ofNum (n / 64)) (tkqCfg s n) q.ci (putTkq n q s)

/-- Count a refused record (GEN_TKQ_REFUSE). -/
def tkqRefuse (n handle : Nat) (st : Status) (s : State) : State :=
  let a := Die.acre (Acre.ofNum (n / 64))
  setLiveF .GEN_TKQ_REFUSE a (n % 64) 63 32 handle
    (setLiveF .GEN_TKQ_REFUSE a (n % 64) 31 24 st.code (bumpF .GEN_TKQ_REFUSE a (n % 64) 23 0 1 s))

/-- Apply an accepted record (R231, R234, R243): the log, then with COMMIT the sample commit, its trim and its match. -/
def sampleApply (r : SampleRec) (s : State) : Except Status State :=
  let slot := slotOf r.handle
  match logWrite slot r.pos r.tokens s with
  | .error st => .error st
  | .ok s =>
    let x := auxOf s slot
    let s := setAux slot { x with
      tags := (List.range r.count).foldl (fun m j => NMap.putD 0 m (r.pos + j) r.tag) x.tags } s
    let old := (desc s slot).len
    let s := commitDesc slot (fun d =>
      if r.commit then { d with logCount := r.pos + r.count, len := r.newLen, specHead := r.newLen }
      else { d with logCount := r.pos + r.count }) s
    if !r.commit then .ok s
    else
      let s := releaseAbove slot r.newLen s
      let tags := (auxOf s slot).tags
      let s := matchCommit slot old r.newLen (fun p => NMap.get 0 tags p) s
      .ok (setAux slot { auxOf s slot with tags := (auxOf s slot).tags.filter (fun e => r.newLen ≤ e.1) } s)

/-- Admit the entries that waited for a sample record, in order (R232). -/
def releaseSample (slot : Nat) (s : State) : State :=
  let x := auxOf s slot
  let s := setAux slot { x with sampleHold := [] } s
  x.sampleHold.foldl (fun s e => attnAdmit e.1 s) s

/-- Apply the record at the take point of a TKQ: checked now, refused or applied (R230, R231). -/
def tkqApply (n : Nat) (s : State) : State :=
  let q := tkqOf s n
  let r := sampleRec (ringRead s (Acre.ofNum (n / 64)) (tkqCfg s n) q.take 128)
  match sampleCheck s r with
  | some st => tkqNext n (tkqRefuse n r.handle st s)
  | none =>
    match own (slotOf r.handle) s with
    | none => tkqNext n (tkqRefuse n r.handle .busy s)
    | some s =>
      match sampleApply r s with
      | .error st => tkqNext n (tkqRefuse n r.handle st (fenceSession (slotOf r.handle) st s))
      | .ok s => tkqNext n (releaseSample (slotOf r.handle) s)

/-- A sample record with COMMIT must wait: attention is in flight, something is held before it, or stream space lacks. -/
def sampleWaits (s : State) (slot : Nat) : Bool :=
  attnInflight s slot != 0 || !(auxOf s slot).held.isEmpty || !streamRoom (desc s slot).streamRing 256 s

/-! ## Draining what is held at a descriptor (R70, R80, R231, R246) -/

/-- Try the first held operation: it leaves the list and runs, or `none` where it must still wait. -/
def drainOne (slot : Nat) (s : State) : Option State :=
  let x := auxOf s slot
  let st := effState s slot
  let idle := attnInflight s slot = 0 && x.sampleHold.isEmpty
  let room := streamRoom (desc s slot).streamRing 256 s
  match x.held with
  | [] => none
  | h :: r =>
    let s' := setAux slot { x with held := r } s
    if st = .reviving then none
    else match h with
      | .attn id =>
        if !x.sampleHold.isEmpty then none
        else match NMap.get? s.fur.entries id with
          | none => some s'
          | some e => if st.live && ((needsCredit s e && !room) || cowWaits s e) then none else some (attnAdmit id s')
      | .trim src t =>
        if !idle || (decide (t < (desc s slot).len) && !room) then none
        else
          let q := applyTrim slot t s'
          some (finish src q.1 0 0 q.2)
      | .setFloor src f =>
        if !idle then none
        else
          let q := applySetFloor slot f s'
          some (finish src q.1 0 0 q.2)
      | .sample n => if attnInflight s slot != 0 || !room then none else some (tkqApply n s')
      | .park src dormant =>
        if dormant then
          if attnInflight s slot != 0 then none
          else if st.parked then some (finish src .ok 0 0 (dormantCommit slot s'))
          else some (doDormant slot st src s')
        else if !room && (st = .prefill || st = .decode) then none
        else if st = .prefill || st = .decode then some (finish src .ok 0 0 (parkByCommand slot s'))
        else some (doPark slot st src s')
      | .parkTrim lenP fd => if !idle then none else some (applyParkTrim slot lenP fd s')

def drainLoop (slot : Nat) : Nat → State → State
  | 0, s => s
  | fuel + 1, s =>
    match drainOne slot s with
    | none => s
    | some s => drainLoop slot fuel s

/-- Let what is held at a descriptor go on, in order. -/
def drainHeld (slot : Nat) (s : State) : State := drainLoop slot ((auxOf s slot).held.length + 4) s

/-- An entry of a session has ended: sheaves an EVICT left for it drop, stacks without references are freed, a fence that
waited for it commits, and what was held goes on (R80, R112, R242). -/
def attnEnded (slot : Nat) (s : State) : State :=
  let s := s.tier.evictLater.foldl (fun s i =>
    let o := getObj s i
    let keep := o.res.map (fun m => m.filter (fun e => attnReads s i e.1))
    let s := modObj i (fun o => { o with res := keep }) s
    if keep.toList.all (fun m => m.isEmpty) then
      { s with tier := { s.tier with evictLater := s.tier.evictLater.filter (· ≠ i) } }
    else s) s
  let s := sweepAll s
  if (auxOf s slot).fencing && attnInflight s slot = 0 then fencedCommit slot .fenced s
  else drainHeld slot s

end Sys2Proof.Machine
end

