-- ==== Sys2Proof/Machine/Furrow.lean ====
section
/-!
DEFINITION. The commands of the Furrows: batches, work items, pre-emption, completion, responses (chapter 05); and
REVIVAL_READY, which admits the attention held for it (R70, R73).
-/
namespace Sys2Proof.Machine

/-! ## Taking a batch (R172 to R177, R192) -/

/-- Query tokens of an entry (R175); `none` where QUNITS and QLAST disagree with the class. -/
def queryTokens (cls units last : Nat) : Option Nat :=
  if cls = 0 then (if units = 1 ∧ last = 0 then some 1 else none)
  else if cls = 1 then (if 1 ≤ units ∧ units ≤ 16 ∧ last = 0 then some units else none)
  else if 1 ≤ units ∧ units ≤ 16 ∧ 1 ≤ last ∧ last ≤ 64 then some (64 * (units - 1) + last)
  else none

/-- Round up to 64 bytes. -/
def up64 (n : Nat) : Nat := (n + 63) / 64 * 64

/-- Bytes of the output and partials blocks of an entry (R194). -/
def blockBytes (g : Geom) (q : Nat) (exporting fp32 : Bool) : Nat :=
  up64 (q * g.heads * g.qpk * g.dv * (if exporting || fp32 then 4 else 2)) +
    (if exporting then up64 (q * g.heads * g.qpk * 8) else 0)

/-- One entry of a batch as read from its bytes (R174, R175). -/
def parseEntry (s : State) (b : List Byte) (off cls flags deadline : Nat) (src : AttnSrc) : AttnEntry :=
  let n := fun o k => leNat ((b.drop (off + o)).take k)
  let handle := n 0 4
  let slot := slotOf handle
  let g := geom s (desc s slot).profile
  let ok := (handleCheck s handle).isNone
  let qt := queryTokens cls (n 6 1) (n 7 1)
  let q := qt.getD 0
  let qoff := n 12 4
  let kvoff := n 16 4
  let qb := q * g.heads * g.qpk * g.dk * 2
  let kb := q * g.heads * (g.rk + g.rv)
  let bad := qt.isNone || qoff % 64 != 0 || kvoff % 64 != 0 || decide (b.length < qoff + qb) ||
    (kvoff != 0 && decide (b.length < kvoff + kb))
  { src := src, acre := homeAcre slot, slot := slot, handle := handle,
    cls := (if cls = 0 then .decode else if cls = 1 then .verify else .prefill), layer := n 4 2, q := q, pos := n 8 4,
    append := kvoff != 0, ctxLo := n 20 4, ctxHi := n 24 4, exporting := flags.testBit 0, fast := flags.testBit 1,
    fp32Out := flags.testBit 2, deadline := deadline,
    qvec := if ok && !bad then (b.drop qoff).take qb else [],
    rows := if ok && !bad && kvoff != 0 then (b.drop kvoff).take kb else [],
    badData := bad, credit := false, infSeen := false, admitted := false, started := false, kv := [], left := 0, parts := [],
    aborted := false, abortLate := false, failed := none, status := none, spoilt := false, outBlk := [], lseBlk := [], descSeq := 0 }

/-- Reservation of an entry beyond its table element (R192). -/
def entryReserve (s : State) (e : AttnEntry) : Nat :=
  if (handleCheck s e.handle).isNone then blockBytes (geom s (desc s e.slot).profile) e.q e.exporting e.fp32Out else 0

/-- Response ring configuration: bytes and ENABLE; both Yokes hold the same (R192). -/
def rspCfg (s : State) (r : Nat) : Nat × Bool :=
  let w := live s .FUR_RSP_CFG (.yoke s.ckp.primary) r
  (2 ^ field w 28 24, bit w 29)

def rspRing (s : State) (r : Nat) : RspRing := NMap.get .empty s.fur.rings r

def putRing (r : Nat) (x : RspRing) (s : State) : State := { s with fur := { s.fur with rings := NMap.put s.fur.rings r x } }

/-- Bytes of a response ring neither written and unread nor reserved. -/
def rspRoom (s : State) (r : Nat) : Nat :=
  let x := rspRing s r
  (rspCfg s r).1 - (x.producer - x.consumer) - x.reserved

/-- A sample record whose doorbell is ordered before this time waits to be applied on the Acre (R232). -/
def sampleFirst (s : State) (a : Acre) (at_ : Nat) : Bool :=
  s.gen.tkqs.any (fun e => decide (e.1 / 64 = a.num) && e.2.err.isNone && !e.2.holding && decide (e.2.take + 128 ≤ e.2.pi) &&
    decide (markAt e.2.marks (e.2.take + 128) ≤ at_))

/-- CI of an ARQ passes every batch at its head that has been answered (R177). -/
def advanceCi (n : Nat) (s : State) : State :=
  let q := arqOf s n
  let done := q.batches.takeWhile (fun b => b.answered)
  match done.getLast? with
  | none => s
  | some b =>
    let q := { q with batches := q.batches.drop done.length, ci := b.endAt }
    writeCi (Acre.ofNum (n / 64)) (arqCfg s n) q.ci (putArq n q s)

/-- Bring new entries of a batch to their sessions' descriptors, in entry order. -/
def arriveAll (ids : List Nat) (s : State) : State := ids.foldl (fun s id => attnArrive id s) s

/-- The header of a batch (R174). -/
structure BatchHdr where
  len      : Nat
  fmt      : Nat
  cls      : Nat
  count    : Nat
  tag      : Nat
  ring     : Nat
  flags    : Nat
  deadline : Nat
  deriving DecidableEq, Repr

/-- The header at the take point of an ARQ. -/
def arqHdr (s : State) (arq : Nat) : BatchHdr :=
  let h := ringRead s (Acre.ofNum (arq / 64)) (arqCfg s arq) (arqOf s arq).take 64
  let n := fun o k => leNat ((h.drop o).take k)
  { len := n 0 4, fmt := n 4 1, cls := n 5 1, count := n 6 2, tag := n 8 8, ring := n 16 1, flags := n 17 1, deadline := n 24 8 }

/-- A pad batch: COUNT = 0 and LEN reaching the ring's end (R173). -/
def hdrPad (s : State) (arq : Nat) (h : BatchHdr) : Bool := h.count = 0 && ((arqOf s arq).take + h.len) % (arqCfg s arq).size = 0

/-- The header's own checks (R174, R176): FMT, LEN within the ring, and, but for a pad batch, CLASS, COUNT, an entry table within
LEN and an enabled response ring. -/
def hdrOk (s : State) (arq : Nat) (h : BatchHdr) : Bool :=
  decide (h.fmt = 1) && decide (h.len % 64 = 0) && decide (64 ≤ h.len) &&
    decide ((arqOf s arq).take % (arqCfg s arq).size + h.len ≤ (arqCfg s arq).size) &&
    (hdrPad s arq h || (decide (h.cls ≤ 2) && decide (1 ≤ h.count) && decide (h.count ≤ 256) && decide (64 + 32 * h.count ≤ h.len) &&
      (rspCfg s h.ring).2))

/-- The entries of the batch at the take point. -/
def batchEntries (s : State) (arq : Nat) (h : BatchHdr) : List AttnEntry :=
  let bytes := ringRead s (Acre.ofNum (arq / 64)) (arqCfg s arq) (arqOf s arq).take h.len
  (List.range h.count).map (fun i =>
    parseEntry s bytes (64 + 32 * i) h.cls h.flags h.deadline (.arq arq s.fur.nextBatch i))

/-- The largest record a batch can produce (R192). -/
def batchNeed (s : State) (h : BatchHdr) (es : List AttnEntry) : Nat :=
  64 + up64 (16 * h.count) + es.foldl (fun t e => t + entryReserve s e) 0

/-- A batch is taken: its credit is reserved, the take point passes it, its entries come to their sessions. Entries of a batch that an
abort has reached end at once (R309). -/
def batchTaken (arq : Nat) (h : BatchHdr) (s : State) : State :=
  let q := arqOf s arq
  let es := batchEntries s arq h
  let need := batchNeed s h es
  let first := s.fur.nextEntry
  let ids := (List.range h.count).map (fun i => first + i)
  let fast := h.flags.testBit 1 && es.all (fun e => furCtl s e.acre 8 8 = 1)
  let b : Batch := { serial := s.fur.nextBatch, tag := BitVec.ofNat 64 h.tag,
                     cls := (if h.cls = 0 then .decode else if h.cls = 1 then .verify else .prefill), count := h.count, ring := h.ring,
                     exporting := h.flags.testBit 0, fastUsed := fast, fp32Out := h.flags.testBit 2, endAt := q.take + h.len,
                     tAdmit := markAt q.marks (q.take + h.len), reserved := need, entries := ids, answered := false }
  let dead := q.aborts.contains q.take
  let es := if dead then es.map (fun e => { e with status := some .aborted, aborted := true }) else es
  let s := putArq arq { q with take := q.take + h.len, marks := marksPast q.marks (q.take + h.len), batches := q.batches ++ [b], aborts := q.aborts.filter (· ≠ q.take) } s
  let s := putRing h.ring { rspRing s h.ring with reserved := (rspRing s h.ring).reserved + need } s
  let s := { s with fur := { s.fur with
    nextEntry := first + h.count, nextBatch := s.fur.nextBatch + 1,
    entries := (ids.zip es).foldl (fun m e => NMap.put m e.1 { e.2 with fast := fast }) s.fur.entries } }
  if dead then s else arriveAll ids s

/-- A pad batch is passed over. -/
def padTaken (arq : Nat) (h : BatchHdr) (s : State) : State :=
  let q := arqOf s arq
  let b : Batch := { serial := s.fur.nextBatch, tag := 0, cls := .decode, count := 0, ring := 0, exporting := false,
                     fastUsed := false, fp32Out := false, endAt := q.take + h.len, tAdmit := markAt q.marks (q.take + h.len), reserved := 0,
                     entries := [], answered := true }
  advanceCi arq (putArq arq { q with take := q.take + h.len, marks := marksPast q.marks (q.take + h.len), batches := q.batches ++ [b] } s)

/-- An ARQ has a notified header to look at: it runs, holds fewer than 64 batches, and no sample record goes first. -/
def arqReady (s : State) (arq : Nat) : Bool :=
  let q := arqOf s arq
  !s.obs.halted && decide (arq < 256) && q.err.isNone && decide (q.take + 64 ≤ q.pi) && decide (q.batches.length < 64) &&
    !sampleFirst s (Acre.ofNum (arq / 64)) (markAt q.marks (q.take + 64))

/-- ARQ_BATCH_TAKE (R173, R174, R176, R192): the next notified batch of an ARQ is checked, given response credit and its
entries brought to their sessions. A batch that cannot be taken yet leaves the queue as it is. -/
def execArqBatchTake (arq : Nat) (s : State) : Host.Outcome State Fault Refusal := running s <|
  let h := arqHdr s arq
  if !arqReady s arq then ok s
  else if !hdrOk s arq h then ok (stopArq arq .badFormat s)
  else if (arqOf s arq).pi < (arqOf s arq).take + h.len then ok s
  else if hdrPad s arq h then ok (padTaken arq h s)
  else if (rspCfg s h.ring).1 < batchNeed s h (batchEntries s arq h) then ok (stopArq arq .noSpace s)
  else if rspRoom s h.ring < batchNeed s h (batchEntries s arq h) then
    ok (setLiveF .FUR_RSP_STATUS (.yoke .ye) h.ring 32 32 1 (setLiveF .FUR_RSP_STATUS (.yoke .yw) h.ring 32 32 1 s))
  else okSettle (batchTaken arq h s)

/-- SAMPLE_HOLD_TIMEOUT (R232): 10 µs have passed for an entry held for a sample record. -/
def execSampleHoldTimeout (entry : Nat) (s : State) : Host.Outcome State Fault Refusal := running s <|
  match NMap.get? s.fur.entries entry with
  | none => ok s
  | some e =>
    let x := auxOf s e.slot
    match x.sampleHold.find? (fun h => h.1 = entry) with
    | none => ok s
    | some h =>
      if ktb s < h.2 then ok s
      else
        okSettle (drainHeld e.slot
          (endEntry entry .badFormat (setAux e.slot { x with sampleHold := x.sampleHold.filter (fun y => y.1 ≠ entry) } s)))

/-! ## Items (R183 to R190) -/

/-- An entry ends before its completion: its items leave the queues and Furrows. -/
def entryStop (id : Nat) (st : Status) (s : State) : State :=
  match NMap.get? s.fur.entries id with
  | none => s
  | some e => attnEnded e.slot (endEntry id st (dropItems id s))

/-- Start an item on a Furrow; its entry has started. The deadline of an entry whose first item has not started is checked
(check 4 of R176). -/
def startItem (f : Nat) (i : WorkItem) (s : State) : State :=
  match NMap.get? s.fur.entries i.entry with
  | none => s
  | some e =>
    if !e.started && e.deadline != 0 && decide (e.deadline < ktb s) then entryStop i.entry .timeout s
    else putFur f (.running i (ktb s)) (setEntryF i.entry (fun e => { e with started := true }) s)

/-- The lowest-numbered free Furrow among those given. -/
def freeFurrow (s : State) (fs : List Nat) : Option Nat := fs.find? (fun f => furrowUp s f && furUse s f = .idle)

/-- ITEM_DISPATCH (R183, R184): the first DECODE or VERIFY item takes the lowest free Furrow; where none waits, the first
PREFILL item takes the lowest free Furrow outside the reserve, saved items by PREFILL_RESTORE first (R185). -/
def execItemDispatch (a : Acre) (s : State) : Host.Outcome State Fault Refusal := running s <|
  if s.obs.halted then ok s
  else match s.fur.dvQ.get a with
    | i :: r =>
      (match freeFurrow s (acreFurrows a) with
       | none => ok s
       | some f => okSettle (latchCheck a (startItem f i { s with fur := { s.fur with dvQ := s.fur.dvQ.set a r } })))
    | [] =>
      match s.fur.pfQ.get a, freeFurrow s (nonReserve s a) with
      | i :: r, some f => if i.saved then ok s else okSettle (startItem f i { s with fur := { s.fur with pfQ := s.fur.pfQ.set a r } })
      | _, _ => ok s

/-- PREFILL_RESTORE (R185, R186 step 6): the oldest saved PREFILL item resumes on a non-reserve Furrow; its save area is
released. -/
def execPrefillRestore (a : Acre) (s : State) : Host.Outcome State Fault Refusal := running s <|
  match s.fur.dvQ.get a, s.fur.pfQ.get a, freeFurrow s (nonReserve s a) with
  | [], i :: r, some f =>
    if !i.saved || s.obs.halted then ok s
    else
      ok (putFur f (.running { i with saved := false } (ktb s)) { s with fur := { s.fur with pfQ := s.fur.pfQ.set a r } })
  | _, _, _ => ok s

/-- Byte `n` of a list as a number. -/
def byteAt (b : List Byte) (off n : Nat) : Nat := (b.getD (off + n) 0).toNat

/-- The node of one query token and head over an item's slice (R210, R213, R215), and whether a score was ±∞. -/
def itemNode (p : AttnParams) (hs : Nat → F32) (e : AttnEntry) (i : WorkItem) (ks : List Nat) (t j : Nat) :
    Option Partial × Bool :=
  let g := p.g
  let q := queryRow g.fmt g.dk (byteAt e.qvec ((t * g.heads * g.qpk + j) * g.dk * 2))
  let c := fMul p.scale (if p.hscale then hs j else 0x3F800000)
  let h := j / g.qpk
  let one := fun k =>
    let m := NMap.get [] e.kv k
    let rd := fun off n => (Cells.read m (off + n)).toNat
    (List.range 64).map (fun x =>
      if visible p e.end_ e.ctxLo e.ctxHi (e.pos + t) (64 * k + x) then
        let kr := storedRow g.fmt g.dk (rd (g.kAt h x))
        let vr := if g.shared then { kr with el := kr.el.take g.dv, x := kr.x.take (g.dv / 32) }
          else storedRow g.fmt g.dv (rd (g.vAt h x))
        let sc := scoreOf p c q kr
        some (sc.1, sc.2, vr)
      else none)
  let rows := ks.map (fun k => (k, one k))
  let inf := rows.any (fun r => r.2.any (fun y => match y with
    | some z => isInf z.1
    | none => false))
  let parts := rows.map (fun r => (r.1, sheafPartial g.fmt g.dv (r.2.map (fun y => y.map (fun z => (z.2.1, z.2.2))))))
  (if e.fast then foldFast (parts.map (fun x => x.2))
   else foldTree (Nat.log2 (i.hi - i.lo)) i.lo parts, inf)

/-- EMPTY as a stored partial, and back. -/
def ofPartial (p : Option Partial) : Partial := p.getD { m := fEmpty, l := 0, o := [] }
def toPartial (p : Partial) : Option Partial := if p.m = fEmpty then none else some p

/-- Sheaves an item reads. -/
def itemSheaves (s : State) (e : AttnEntry) (i : WorkItem) : List Nat :=
  (visibleSheaves (attnParams s e.acre (desc s e.slot).profile) e (e.pos + i.tok) i.toks).filter
    (fun k => i.lo ≤ k && k < i.hi)

/-- Gather's allocation of a sheaf it read from Field or Headland, by the fill mode (R105); never waits, never fails. -/
def gatherFill (e : AttnEntry) (s : State) (k : Nat) : State :=
  match mapEntry s e.slot k with
  | some ⟨_, .record i⟩ =>
    let o := getObj s i
    let a := e.acre
    if isRes o a e.layer then
      modObj i (fun o => { o with res := o.res.set a (NMap.modify (o.res.get a) e.layer (fun r => { r with ref := true })) }) s
    else
      let mode := ((auxOf s e.slot).policy.fill).getD (liveF s .TIER_NEAR_CTRL (.acre a) 0 33 32)
      if mode = 2 || (mode = 1 && overlaps k (windowOf s e.slot)) then
        match makeRoom a o.principal (unitBytes s o) false (roomFuel s a) s with
        | some s => addRes i a e.layer false s
        | none => s
      else s
  | _ => s

/-- What Gather meets at an item's sheaves: a failure, a sheaf that must be staged first, or nothing. -/
def gatherCheck (s : State) (e : AttnEntry) (ks : List Nat) : Option Status × Option (Nat × Nat) :=
  let bad := ks.findSome? (fun k => match mapEntry s e.slot k with
    | some ⟨_, .record i⟩ =>
      let o := getObj s i
      if isRes o e.acre e.layer || (o.home.tier = Tier.chest && !o.staged && !o.lost) then none else readFault o
    | some ⟨_, .offDevice _⟩ => some .notResident
    | _ => none)
  (bad, ks.findSome? (fun k => match sheafSrc s e.slot e.layer k with
    | .chest l => some (k, l)
    | _ => none))

/-- The item on a Furrow. -/
def itemOn (u : FurrowUse) : Option WorkItem :=
  match u with
  | .running i _ => some i
  | .held i _ => some i
  | _ => none

/-- Of the sheaves an item read from Headland, how many took longer than HL_LAT_US is free (R190; log 187). -/
def headlandLate (e : AttnEntry) (ks : List Nat) (s : State) : State :=
  let n := (ks.filter (fun k => sheafSrc s e.slot e.layer k == .headland)).length
  if n = 0 then s else bumpF .FUR_EVENTS (.acre e.acre) 0 63 40 (freeBelow (n + 1) s) (drew s)

/-- The item's node joins its entry and its Furrow is free; a latched pre-emption of it is void (R186 step 3, R213). -/
def itemDone (furrow : Nat) (i : WorkItem) (e : AttnEntry) (ks : List Nat) (s : State) : State :=
  let s := ks.foldl (gatherFill e) (headlandLate e ks s)
  let prof := (desc s e.slot).profile
  let p := attnParams s e.acre prof
  let rs := (List.range i.toks).flatMap (fun t =>
    (List.range (i.heads * p.g.qpk)).map (fun j =>
      itemNode p (headScale s e.acre prof) e i ks (i.tok + t) (i.head * p.g.qpk + j)))
  let part : SlicePart := { group := i.head, block := i.tok, slice := i.lo / (i.hi - i.lo), parts := rs.map (fun r => ofPartial r.1) }
  let s := setEntryF i.entry (fun e => { e with
    left := e.left - 1, parts := e.parts ++ [part], infSeen := e.infSeen || rs.any (fun r => r.2) }) s
  let s := if s.fur.latch.get e.acre = some furrow then
      bumpF .FUR_EVENTS (.acre e.acre) 0 39 24 1 { s with fur := { s.fur with latch := s.fur.latch.set e.acre none } }
    else s
  putFur furrow .idle s

/-- The item waits at a Chest sheaf, and staging is asked for at class 2 of R153 (R77). -/
def itemHold (furrow : Nat) (i : WorkItem) (e : AttnEntry) (k l : Nat) (s : State) : State :=
  let s := putFur furrow (.held i k) s
  match mapEntry s e.slot k with
  | some ⟨_, .chestLoc _⟩ => (stageBegin e.slot k l (.gather e.slot) s).getD s
  | _ => s

/-- The entry of an item whose sheaf cannot be read ends; a failed check fences the session (R124, R189). -/
def itemFail (i : WorkItem) (e : AttnEntry) (st : Status) (s : State) : State :=
  let s := attnEnded e.slot (endEntry i.entry st (dropItems i.entry s))
  if st = .notResident then s else fenceSession e.slot st s

/-- ITEM_COMPLETE (R189, R190, R210 to R215): the item on a Furrow has read its sheaves. A sheaf that lies in the Chest
unstaged holds it; a failed check ends the entry; otherwise its node joins the entry. -/
def execItemComplete (furrow : Nat) (s : State) : Host.Outcome State Fault Refusal := running s <|
  match itemOn (furUse s furrow) with
  | none => ok s
  | some i =>
    if s.obs.halted || !furrowUp s furrow then ok s
    else match NMap.get? s.fur.entries i.entry with
      | none => ok (putFur furrow .idle s)
      | some e =>
        match gatherCheck s e (itemSheaves s e i) with
        | (some st, _) => okSettle (itemFail i e st s)
        | (none, some (k, l)) => ok (itemHold furrow i e k l s)
        | (none, none) => ok (itemDone furrow i e (itemSheaves s e i) s)

/-! ## Pre-emption (R186) -/

/-- PREEMPT_SAVE (R186 step 3): the latched Furrow reaches a sheaf boundary. The pre-emption is void where the backlog is
gone or no save area can be had; otherwise the save begins. -/
def execPreemptSave (a : Acre) (s : State) : Host.Outcome State Fault Refusal := running s <|
  match s.fur.latch.get a with
  | none => ok s
  | some f =>
    let void := fun (s : State) =>
      bumpF .FUR_EVENTS (.acre a) 0 39 24 1 { s with fur := { s.fur with latch := s.fur.latch.set a none } }
    match furUse s f with
    | .running i _ =>
      let prin := match NMap.get? s.fur.entries i.entry with
        | some e => (desc s e.slot).principal
        | none => 0
      if !backlog s a then ok (void s)
      else match makeRoom a prin 16777216 false (roomFuel s a) s with
        | none => ok (void s)
        | some s =>
          ok (putFur f (.saving i) s)
    | .saving _ => ok s
    | _ => ok (void s)

/-- PREEMPT_SAVE_DONE (R186 step 5): the working store is saved; the item waits after the items saved before it, and the
Furrow is free. -/
def execPreemptSaveDone (furrow : Nat) (s : State) : Host.Outcome State Fault Refusal := running s <|
  match furUse s furrow with
  | .saving i =>
    let a := Acre.ofNum (furrow / 12)
    let q := s.fur.pfQ.get a
    let q := q.takeWhile (fun x => x.saved) ++ [{ i with saved := true, preempts := i.preempts + 1 }] ++ q.dropWhile (fun x => x.saved)
    let latch := if s.fur.latch.get a = some furrow then none else s.fur.latch.get a
    let s := acctAdd ((NMap.get? s.fur.entries i.entry).elim 0 (fun e => (desc s e.slot).principal)) 6 1 s
    ok (bumpF .FUR_EVENTS (.acre a) 0 23 0 1
      (putFur furrow .idle { s with fur := { s.fur with pfQ := s.fur.pfQ.set a q, latch := s.fur.latch.set a latch } }))
  | _ => ok s

/-! ## Completion (R80, R180, R191, R216) -/

/-- The folded partial of a token and head of an entry (R212, R213, R215). -/
def entryPartial (e : AttnEntry) (g : Geom) (gs bs t j : Nat) : Option Partial :=
  let group := j / g.qpk / gs * gs
  let block := t / bs * bs
  let mine := e.parts.filter (fun x => x.group = group && x.block = block)
  let at_ := fun (x : SlicePart) =>
    let heads := min gs (g.heads - group) * g.qpk
    (x.parts[(t - block) * heads + (j - group * g.qpk)]?).bind toPartial
  if e.fast then foldFast (mine.map at_) else foldTree 26 0 (mine.map (fun x => (x.slice, at_ x)))

/-- Fold and Emit of a whole entry: output block, partials block, EMPTY outputs, and whether a NaN is in it. -/
def entryOutput (s : State) (e : AttnEntry) : List Byte × List Byte × Nat × Bool :=
  let g := geom s (desc s e.slot).profile
  let (gs, bs) := splitOf g e.q
  let ps := (List.range e.q).flatMap (fun t => (List.range (g.heads * g.qpk)).map (fun j => entryPartial e g gs bs t j))
  let nan := ps.any (fun p => match p with
    | none => false
    | some p => isNaN p.m || isNaN p.l || p.o.any isNaN || (!e.exporting && p.o.any (fun o => isNaN (fDiv o p.l))))
  (ps.flatMap (emitRow e.exporting e.fp32Out g.dv), if e.exporting then ps.flatMap lseRow else [],
   if e.exporting then 0 else (ps.filter (fun p => p.isNone)).length, nan)

/-- Lengths and matching at the completion point of an entry that appends on the last layer (R180, R234). -/
def advanceLengths (e : AttnEntry) (s : State) : State :=
  let d := desc s e.slot
  if !e.append || e.layer + 1 ≠ (geom s d.profile).layers then s
  else match e.cls with
    | .verify => commitDesc e.slot (fun d => { d with specHead := e.end_ }) s
    | .prefill => commitDesc e.slot (fun d => { d with len := e.end_, specHead := e.end_, matchProg := 0 }) s
    | .decode =>
      let s := commitDesc e.slot (fun d => { d with len := e.end_, specHead := e.end_ }) s
      matchCommit e.slot (e.end_ - 1) e.end_ (fun _ => 0) s

/-- The result of `attn` and `append`: the blocks, then the entry element, in the result area (R339). -/
def tineOutput (slot out : Nat) (e : AttnEntry) (s : State) : State :=
  let ol := up64 e.outBlk.length
  let blk := e.outBlk ++ List.replicate (ol - e.outBlk.length) 0 ++ e.lseBlk
  let el := leBytes 1 (e.status.getD .ok).code ++ [0] ++ leBytes 2 e.q ++ leBytes 4 (if e.outBlk.isEmpty then 0 else 64) ++
    leBytes 4 (if e.lseBlk.isEmpty then 0 else 64 + ol) ++ leBytes 4 e.descSeq ++ List.replicate 48 0
  match drawerWrite slot (out + 64) blk s with
  | .error _ => s
  | .ok s =>
    match drawerWrite slot out el s with
    | .error _ => s
    | .ok s => s

/-- An entry of the session on the same layer was admitted before this one and has not ended. -/
def earlierOpen (s : State) (id : Nat) (e : AttnEntry) : Bool :=
  s.fur.entries.any (fun x => decide (x.1 < id) && x.2.open_ && x.2.slot = e.slot && x.2.layer = e.layer)

/-- What an entry puts out: its blocks, its EMPTY outputs, whether a NaN and whether ±∞ was seen. All of it is undefined where the program
stored to the operands (R336). -/
def entryBlocks (s : State) (e : AttnEntry) : List Byte × List Byte × Nat × Bool × Bool :=
  let (o, l, empties, nan) := entryOutput s e
  if e.spoilt then
    let b := freeBytes (o.length + l.length) s
    (b.take o.length, b.drop o.length, freeBelow (empties + 1) (drew s), decide (freeBelow 2 (drew (drew s)) = 1),
     decide (freeBelow 2 (drew (drew (drew s))) = 1))
  else (o, l, empties, nan, e.infSeen)

/-- The completion point of an entry: events counted, lengths advanced, stream credit returned, the blocks kept for the batch or
written for the session program. -/
def entryDone (entry : Nat) (e : AttnEntry) (s : State) : State :=
  let (o, l, empties, nan, inf) := entryBlocks s e
  let s := if e.spoilt then drew (drew (drew (drew s))) else s
  let s := bumpF .FUR_NUM_EVENTS (.acre e.acre) 0 47 24 empties
    (bumpF .FUR_NUM_EVENTS (.acre e.acre) 0 23 0 (if nan then 1 else 0)
      (bumpF .FUR_NUM_EVENTS (.acre e.acre) 0 63 48 (if inf then 1 else 0) s))
  let s := if e.fast then setLiveF .FUR_ARITH (.acre e.acre) 0 8 8 1 s else s
  let s := advanceLengths e s
  let s := if e.credit then streamRelease (desc s e.slot).streamRing 256 s else s
  let e' := { e with outBlk := o, lseBlk := l, credit := false, descSeq := (desc s e.slot).seq % 2 ^ 32,
                     status := some (if e.abortLate then .abortLate else .ok) }
  let s := setEntryF entry (fun _ => e') s
  match e.src with
  | .tine slot tag _ out => asyncEnd slot tag 6 (BitVec.ofNat 64 (e'.status.getD .ok).code) (tineOutput slot out e' s)
  | .arq arq batch _ =>
    let at_ := ((NMap.get .empty s.fur.arqs arq).batches.find? (fun b => b.serial = batch)).elim 0 (fun b => b.tAdmit)
    traceOp (.acre e.acre) e.handle (if e.append then 0x91 else 0x90) (e'.status.getD .ok)
      (match e.cls with
       | .decode => 0
       | .verify => 1
       | .prefill => 2) at_ (desc s e.slot).principal s

/-- ENTRY_COMPLETE (R80, R180, R191, R309): the lead items have folded and emitted. On one layer entries complete in
admission order. -/
def execEntryComplete (entry : Nat) (s : State) : Host.Outcome State Fault Refusal := running s <|
  match NMap.get? s.fur.entries entry with
  | none => ok s
  | some e =>
    if !e.open_ || e.left != 0 || earlierOpen s entry e || s.obs.halted then ok s
    else match own e.slot s with
      | none => ok s
      | some s => okSettle (attnEnded e.slot (entryDone entry e s))

/-! ## Responses (R192 to R194) -/

/-- The entry table and blocks of a record: table bytes, block bytes, for entries from record offset `off`. -/
def recordBody : List AttnEntry → Nat → List Byte × List Byte
  | [], _ => ([], [])
  | e :: r, off =>
    let has := e.status = some .ok || e.status = some .abortLate
    let o := if has then e.outBlk ++ List.replicate (up64 e.outBlk.length - e.outBlk.length) 0 else []
    let l := if has then e.lseBlk ++ List.replicate (up64 e.lseBlk.length - e.lseBlk.length) 0 else []
    let el := leBytes 1 (e.status.getD .ok).code ++ [0] ++ leBytes 2 e.q ++ leBytes 4 (if o.isEmpty then 0 else off) ++
      leBytes 4 (if l.isEmpty then 0 else off + o.length) ++ leBytes 4 e.descSeq
    let (t, b) := recordBody r (off + o.length + l.length)
    (el ++ t, o ++ l ++ b)

/-- Hand an operation to the KLT engine. -/
def kltPost (r : KltReq) (s : State) : State := { s with klt := { s.klt with reqs := s.klt.reqs ++ [r] } }

/-- Write a record into a response ring: a pad record where it would cross the end, the record, then the producer count
with a doorbell-flagged write (R192). `cls`: FMT of the record; `tc`: the traffic class. -/
def rspEmit (ring tc : Nat) (rec : List Byte) (reserved : Nat) (fmt : Nat) (s : State) : State :=
  let x := rspRing s ring
  let y := Die.yoke s.ckp.primary
  let (size, _) := rspCfg s ring
  let conn := liveF s .FUR_RSP_CFG y ring 23 0
  let base := (live s .FUR_RSP_BASE y ring).toNat
  let key := liveF s .FUR_RSP_KEY y ring 31 0
  let piaddr := (live s .FUR_RSP_PIADDR y ring).toNat
  let room := size - x.producer % size
  let w := fun at_ bs db (s : State) => kltPost { conn := conn, tc := tc, op := .write at_ key bs db, src := .rsp ring } s
  let (s, p) := if rec.length ≤ room then (s, x.producer)
    else (w (base + x.producer % size) (leBytes 4 room ++ leBytes 1 fmt ++ List.replicate 12 0 ++ [0x80] ++
            List.replicate 46 0) false s, x.producer + room)
  let s := w (base + p % size) rec false s
  let pi := p + rec.length
  let s := w piaddr (leBytes 8 pi) true s
  putRing ring { x with producer := pi, reserved := x.reserved - reserved } s

/-- The response record of a batch (R193); ARQ_CI is the count before this batch is passed. -/
def batchRecord (s : State) (arq : Nat) (b : Batch) : List Byte :=
  let es := b.entries.filterMap (fun i => NMap.get? s.fur.entries i)
  let off := 64 + up64 (16 * b.count)
  let (t, blk) := recordBody es off
  let flags := (if b.exporting then 1 else 0) + (if b.fastUsed then 2 else 0) + (if b.fp32Out then 4 else 0)
  let st := if es.all (fun e => e.status = some .ok) then Status.ok else .partialOk
  leBytes 4 (off + blk.length) ++ leBytes 1 0x01 ++ leBytes 1 st.code ++ leBytes 2 b.count ++
    leBytes 8 b.tag.toNat ++ leBytes 1 arq ++ leBytes 1 flags ++ leBytes 2 0 ++ leBytes 4 ((arqOf s arq).ci % 2 ^ 32) ++
    leBytes 8 b.tAdmit ++ leBytes 8 (ktb s) ++ List.replicate 24 0 ++
    t ++ List.replicate (up64 (16 * b.count) - 16 * b.count) 0 ++ blk

/-- A batch is answered: its entries are forgotten, and CI passes every answered batch at the head. -/
def batchAnswered (arq : Nat) (b : Batch) (s : State) : State :=
  let s := putArq arq { arqOf s arq with batches := (arqOf s arq).batches.map (fun x =>
    if x.serial = b.serial then { x with answered := true } else x) } s
  advanceCi arq { s with fur := { s.fur with entries := s.fur.entries.filter (fun e => !b.entries.contains e.1) } }

/-- BATCH_RESPONSE (R177, R192, R193): every entry of a batch has ended; the record is handed to the KLT engine in TC6 and
the ARQ's CI advances. -/
def execBatchResponse (arq serial : Nat) (s : State) : Host.Outcome State Fault Refusal := running s <|
  match (arqOf s arq).batches.find? (fun b => b.serial = serial && !b.answered) with
  | none => ok s
  | some b =>
    if s.obs.halted || (b.entries.filterMap (fun i => NMap.get? s.fur.entries i)).any (fun e => e.status.isNone) then ok s
    else ok (batchAnswered arq b (rspEmit b.ring 6 (batchRecord s arq b) b.reserved 0x01 s))

/-- ARQ_ERROR_CLEAR (R173): clearing ERROR sets PI to the take point and resumes the queue. -/
def execArqErrorClear (arq : Nat) (s : State) : Host.Outcome State Fault Refusal := running s <|
  let q := arqOf s arq
  match q.err with
  | none => ok s
  | some _ =>
    ok (setLiveF .FUR_ARQ_STATUS (.acre (Acre.ofNum (arq / 64))) (arq % 64) 40 40 0 
      (writePi (Acre.ofNum (arq / 64)) (arqCfg s arq) q.take (putArq arq { q with err := none, pi := q.take, marks := [], aborts := [] } s)))

/-! ## REVIVAL_READY (R67, R73) -/

/-- REVIVAL_READY (R67, R70, R73): the window's sheaves are in Near, or readable where room lacked; READY is committed and
held requests are admitted in the order in which they arrived. -/
def execRevivalReady (slot : Nat) (s : State) : Host.Outcome State Fault Refusal := running s <|
  if (desc s slot).state = .reviving && !(auxOf s slot).fencing && windowReady s slot && !s.obs.halted then
    match own slot s with
    | none => ok s
    | some s => okSettle (drainHeld slot (readyCommit slot s))
  else ok s

end Sys2Proof.Machine
end

