-- ==== Sys2Proof/Machine/TierDir.lean ====
section
/-!
DEFINITION. The placement directives' shared operations: what a directive names, home moves, staging, prefetch, eviction,
pins (R110 to R115, R132, R586).
-/
namespace Sys2Proof.Machine

/-- Start the directive of a command over the records it works on. -/
def dirStart (sq cid opc : Nat) (slot : Option Nat) (objs : List Nat) (s : State) : State :=
  { s with tier := { s.tier with
    directives := s.tier.directives ++
      [{ sq := sq, cid := cid, opc := opc, slot := slot, done := 0, left := objs, failed := none }] } }

/-- The index a handle names (R252): tenancy, generation, then FREE and RETIRING slots. -/
def idxCheck (s : State) (handle : Nat) : Except Status (Nat × Index) :=
  let slot := handle % 2 ^ 12
  if s.sec.tenancy ≠ .bound then .error .tenant
  else if handle / 2 ^ 12 % 16 ≠ NMap.get 1 s.gln.gens slot then .error .staleGen
  else match NMap.get? s.gln.indexes slot with
    | none => .error .badHandle
    | some x => if x.st = .retiring then .error .badHandle else .ok (slot, x)

/-- What a directive names: the session, if it names one or one of its stacks, and map or list entries as (key, entry).
A session names its private stacks; a prefix its stacks. -/
structure Named where
  slot    : Option Nat
  single  : Bool
  entries : List (Nat × MapEntry)
  deriving DecidableEq, Repr

/-- The state a session directive meets: FENCED and MIGRATING sessions take none (R80, R113; log 45). -/
def sessionDir (s : State) (handle : Nat) : Except Status Nat :=
  match handleCheck s handle with
  | some st => .error st
  | none =>
    match effState s (slotOf handle) with
    | .fenced => .error .fenced
    | .migrating => .error .busy
    | _ => .ok (slotOf handle)

def named (s : State) (t : DirTarget) : Except Status Named :=
  match t with
  | .session h =>
    match sessionDir s h with
    | .error st => .error st
    | .ok slot => .ok ⟨some slot, false, (getObj s (mapObj slot)).data.entries.filter (fun e => !e.2.shared)⟩
  | .stack h k =>
    match sessionDir s h with
    | .error st => .error st
    | .ok slot =>
      match mapEntry s slot k with
      | none => .error .badFormat
      | some e => .ok ⟨some slot, true, [(k, e)]⟩
  | .prefixOf id =>
    if s.sec.tenancy ≠ .bound then .error .tenant
    else match NMap.get? s.tier.prefixes id with
      | none => .error .badHandle
      | some p => .ok ⟨none, false, (getObj s p.mapSlot).data.entries⟩
  | .searchList h l =>
    match idxCheck s h with
    | .error st => .error st
    | .ok (_, x) =>
      match NMap.get? x.lists l with
      | none => .error .badFormat
      | some e => .ok ⟨none, true, [(l, ⟨false, e.ref⟩)]⟩

/-- The records among named entries. -/
def Named.records (n : Named) : List Nat :=
  n.entries.filterMap (fun e => match e.2.ref with
    | .record i => some i
    | _ => none)

/-! ## Home moves (R113) -/

/-- The object lies where the move would put it. -/
def atTarget (o : ObjRec) (tier : Tier) (target : Option Nat) : Bool :=
  match o.home, tier, target with
  | .fld _ _, .fld, none => true
  | .fld a _, .fld, some n => a.num == n
  | .headland _ _, .headland, none => true
  | .headland b _, .headland, some n => b == n
  | .chest _, .chest, none => true
  | _, _, _ => false

/-- The destination of a move: the staged run of a staged copy where it fits, a run by tier and target, or the Chest. -/
def moveDest (i : Nat) (tier : Tier) (target : Option Nat) (s : State) : Option (Home × State) :=
  let o := getObj s i
  match tier with
  | .chest => some (.chest (target.getD 4), s)
  | _ =>
    match o.home, o.stageLoc, tier with
    | .chest _, some (a, f), .fld =>
      if target = none ∨ target = some a.num then some (.fld a f, s)
      else takeByPolicy tier target (objAcre i) o.run s
    | _, _, _ => takeByPolicy tier target (objAcre i) o.run s

/-- Step 1 of R113: MOVE_ACTIVE, a run at the target; step 2's redirect where the object is DIRTY or WB_ACTIVE.
`none`: no run. -/
def moveStart (i : Nat) (tier : Tier) (target : Option Nat) (cause : MoveCause) (s : State) : Option State :=
  match moveDest i tier target s with
  | none => none
  | some (d, s) =>
    let o := getObj s i
    let redirect := (o.dirty || o.wbActive) && tier != .chest
    let s := modObj i (fun o => { o with moveActive := true }) s
    some (queueWb i { s with tier := { s.tier with
      moves := s.tier.moves ++ [{ obj := i, dest := d, ctr0 := o.ctr, redirect := redirect, cause := cause }] } })

/-- Start the moves of a directive's objects in order; the first that finds no run ends the directive's starts with
ST_NO_SPACE. -/
def movesStart (sq cid : Nat) (tier : Tier) (target : Option Nat) : List Nat → State → State
  | [], s => s
  | i :: r, s =>
    if atTarget (getObj s i) tier target then movesStart sq cid tier target r (dirStep sq cid i none s)
    else match moveStart i tier target (.directive sq cid) s with
      | some s => movesStart sq cid tier target r s
      | none => (i :: r).foldl (fun s j => dirStep sq cid j (some .noSpace) s) s

/-- Set what a list table entry names. -/
def setList (slot l : Nat) (r : MapRef) (s : State) : State :=
  { s with gln := { s.gln with indexes := NMap.modify s.gln.indexes slot (fun x =>
    { x with lists := NMap.modify x.lists l (fun e => { e with ref := r }) }) } }

/-- Stage a search list that lies in the Chest, in the Field of its index's home Acre (R115, R256). -/
def stageList (slot l loc : Nat) (cause : StageCause) (s : State) : Option State :=
  let r := chestRec s (locIndex loc)
  let a := Acre.ofNum (slot / 2 ^ 10)
  match NMap.get? s.gln.indexes slot, locValid s loc with
  | some x, true =>
    (match takeField a 16 ((r.frames + 15) / 16 * 16) s with
     | none => none
     | some (f, s) =>
       match takeGeneral a s with
       | none => none
       | some (i, s) =>
         let cont := NMap.get? s.chest.content (locIndex loc)
         let data := match cont with
           | some c => c.data
           | none => .empty
         let s := modObj i (fun o =>
           { ObjRec.freeOf i o.nextCtr with
             stackId := r.stackId, home := .chest loc, kind := .searchList, sstate := .priv, imported := true,
             keySel := r.keySel, ctr := r.ctr, refcnt := 1, principal := x.principal, stageLoc := some (a, f),
             frames := r.frames, data := data, sealed := cont }) s
         let s := setList slot l (.record i) s
         some { s with chest := { s.chest with
           stagings := s.chest.stagings ++
             [{ loc := loc, obj := i, owner := 2 ^ 22 + slot, cause := cause, left := maskDrives r.driveMask,
                segs := NMap.mapV r.pieces (fun _ p => p.1) }] } })
  | _, _ => none

/-- Stage the Chest object behind an entry of what a directive names. -/
def stageEntry (t : DirTarget) (k loc : Nat) (cause : StageCause) (s : State) : Option State :=
  match t with
  | .session h => stageBegin (slotOf h) k loc cause s
  | .stack h _ => stageBegin (slotOf h) k loc cause s
  | .searchList h _ => stageList (h % 2 ^ 12) k loc cause s
  | .prefixOf _ => none

/-- What an entry of the named thing leads to now. -/
def entryNow (s : State) (t : DirTarget) (k : Nat) : Option MapRef :=
  match t with
  | .session h => (mapEntry s (slotOf h) k).map (fun e => e.ref)
  | .stack h _ => (mapEntry s (slotOf h) k).map (fun e => e.ref)
  | .searchList h _ => (NMap.get? s.gln.indexes (h % 2 ^ 12)).bind (fun x => (NMap.get? x.lists k).map (fun e => e.ref))
  | .prefixOf _ => none

/-- Stage the named Chest entries for a directive: the records made, and whether all were. -/
def stageAll (t : DirTarget) (sq cid : Nat) : List (Nat × MapEntry) → State → List Nat × Bool × State
  | [], s => ([], true, s)
  | (k, e) :: r, s =>
    match e.ref with
    | .chestLoc loc =>
      (match stageEntry t k loc (.directive sq cid) s with
       | none => ([], false, s)
       | some s =>
         let i := match entryNow s t k with
           | some (.record i) => i
           | _ => 0
         let (l, b, s) := stageAll t sq cid r s
         (i :: l, b, s))
    | _ => stageAll t sq cid r s

/-- Drop the staged copy of a search list (R115). -/
def unstageList (slot l i : Nat) (s : State) : State :=
  let o := getObj s i
  match o.home with
  | .chest loc =>
    if o.dirty || o.wbActive then s
    else
      let s := match o.stageLoc with
        | some (a, f) => giveField a f o.run s
        | none => s
      freeObj i (setList slot l (.chestLoc loc)
        { s with chest := { s.chest with stagings := s.chest.stagings.filter (fun g => g.obj ≠ i) } })
  | _ => s

/-- The index and list that name a record. -/
def listOf (s : State) (i : Nat) : Option (Nat × Nat) :=
  s.gln.indexes.findSome? (fun e => (e.2.lists.find? (fun l => l.2.ref = .record i)).map (fun l => (e.1, l.1)))

/-- Drop a staged copy, whoever owns it. -/
def unstageAny (i : Nat) (s : State) : State :=
  match (getObj s i).owner, listOf s i with
  | some slot, _ => unstage slot i s
  | none, some (x, l) => unstageList x l i s
  | none, none => s

/-- Reads of an old home admitted before step 3 of R113: open attention entries that read the object, and revival fetches
of sessions that name it. -/
def oldReaders (s : State) (i : Nat) : List Nat × List Nat :=
  ((s.fur.entries.filter (fun e => e.2.open_ &&
      (match stackIndex s e.2.slot i with
       | some k => decide (64 * k < e.2.ctxHi)
       | none => false))).map (fun e => e.1),
   (Acre.all.flatMap (fun a => (s.bur.revQ.get a).map (fun f => f.slot))).filter (fun x => (stackIndex s x i).isSome))

/-- Step 3 of R113 for an object whose copy stands: HOME takes the new location; the old run waits for its readers
(step 4), and a staged copy's Chest object is released (R154). -/
def publishHome (i : Nat) (m : HomeMove) (s : State) : State :=
  let o := getObj s i
  let old := o.home
  let s := modObj i (fun o => { o with home := m.dest, stageLoc := none, staged := false }) s
  let s := match old with
    | .chest loc =>
      let s := chestRelease loc s
      (match o.stageLoc with
       | some (a, f) => if m.dest = .fld a f then s else giveField a f o.run s
       | none => s)
    | _ =>
      let (e, r) := oldReaders s i
      { s with tier := { s.tier with
        oldRuns := s.tier.oldRuns ++ [{ obj := i, home := old, frames := o.run, entries := e, revivals := r }] } }
  moveEnd i old.tier none s

/-- An object leaves a draining window (R132): to its placement policy's Field target, else to the Chest. -/
def drainMove (b i : Nat) (s : State) : State :=
  let o := getObj s i
  let target := match o.owner with
    | some slot => if (auxOf s slot).policy.tier = .fld then (auxOf s slot).policy.target else none
    | none => none
  match moveStart i .fld target (.drain b) s with
  | some s => s
  | none => (moveStart i .chest none (.drain b) s).getD s

/-- Objects homed in a borrow entry's window. -/
def windowHomes (s : State) (b : Nat) : List Nat :=
  (s.tier.objs.filter (fun e => match e.2.home with
    | .headland x _ => x = b && e.2.sstate != .free
    | _ => false)).map (fun e => e.1)

/-- A borrow entry set DRAINING: the Shanum moves every object homed in the window by itself (R132). -/
def drainWindow (b : Nat) (s : State) : State :=
  (windowHomes s b).foldl (fun s i => if (getObj s i).moveActive then s else drainMove b i s) s

/-! ## Eviction and pins -/

/-- Drop the Near copies of an object on every Acre, except what an admitted entry reads, which drops later (R112). -/
def dropCopies (i : Nat) (s : State) : State :=
  let o := getObj s i
  let keep := o.res.map (fun m => m.filter (fun e => attnReads s i e.1))
  let s := modObj i (fun o => { o with res := keep }) s
  if keep.toList.all (fun m => m.isEmpty) then s
  else { s with tier := { s.tier with evictLater := s.tier.evictLater ++ [i] } }

/-- The tail stack of a session: the last entry of its map. -/
def tailStack (s : State) (slot : Nat) : Option Nat :=
  ((getObj s (mapObj slot)).data.entries.getLast?).map (fun e => e.1)

/-- Pinned bytes of a principal on an Acre (R110). -/
def pinnedUse (s : State) (a : Acre) (p : Nat) : Nat :=
  (NMap.vals s.tier.objs).foldl (fun n o => if o.principal = p && isPinned s o then n + objNear s a o else n) (bitmapBytes s a (· == p))

/-- Records of the objects pinned by a pin: a session's own objects, one stack, or a prefix's stacks. -/
def pinObjs (s : State) (t : DirTarget) (n : Named) : List Nat :=
  match t with
  | .session h => ownObjs s (slotOf h)
  | _ => n.records

end Sys2Proof.Machine
end

