-- ==== Sys2Proof/Machine/Tier.lean ====
section
/-!
DEFINITION. The commands of the four tiers: profile unbinding, write-back rounds, the evictor, the placement directives,
shared prefixes, borrowed windows (chapter 03).
-/
namespace Sys2Proof.Machine

/-- A session, shared prefix, object record or Chest stack uses the profile slot (R97). -/
def profileUsed (s : State) (profile : Nat) : Bool :=
  (sessions s).any (fun x => (desc s x).profile = profile) ||
    (NMap.vals s.tier.prefixes).any (fun p => p.profile = profile) ||
    (NMap.vals s.tier.objs).any (fun o => o.kind = .stack && o.sstate != .free && o.profile = profile) ||
    (NMap.vals s.chest.map).any (fun r => r.valid && r.kind = .stack && r.profile = profile)

/-- VALID cleared in the live and the shadow entry of an Acre. -/
def profileClear (profile : Nat) (s : State) (a : Acre) : State :=
  setShadow .TIER_PROF_GEOM (.acre a) profile (setField (shadow s .TIER_PROF_GEOM (.acre a) profile) 38 38 0)
    (setLiveF .TIER_PROF_GEOM (.acre a) profile 38 38 0 s)

/-- PROFILE_UNBIND (R97, R84). -/
def execProfileUnbind (sq cid profile : Nat) (s : State) : Host.Outcome State Fault Refusal := running s <|
  ok (hostCmd sq cid .admin false (fun s =>
    if 15 < profile then postCqe sq cid .badFormat 0 0 s
    else if !(geom s profile).valid then postCqe sq cid .ok 0 0 s
    else if profileUsed s profile then postCqe sq cid .busy 0 0 s
    else postCqe sq cid .ok 0 0 (Acre.all.foldl (profileClear profile) s)) s)

/-- WRITE_BACK_ROUND (R106, R126): the round of a DIRTY object starts. -/
def execWriteBackRound (obj : Nat) (s : State) : Host.Outcome State Fault Refusal := running s <| ok (wbStart obj s)

/-- WRITE_BACK_COMPLETE (R126): every frame and tag of the round is written. -/
def execWriteBackComplete (obj : Nat) (s : State) : Host.Outcome State Fault Refusal := running s <|
  ok (sweepObj obj (wbFinish obj s))

/-- Evict until free space reaches HIGH_WM, or nothing may be taken. -/
def evictLoop (a : Acre) (goal : Nat) : Nat → State → State
  | 0, s => s
  | fuel + 1, s =>
    if goal ≤ nearFree s a then s
    else match evictOne a 4096 [0, 1] s with
      | some s => evictLoop a goal fuel s
      | none =>
        match (victims s a 4096).find? (fun v => v.2.2.1 = 2) with
        | some v => if (getObj s v.1).wbActive then s else evictLoop a goal fuel (wbFinish v.1 (wbStart v.1 s))
        | none =>
          match evictOne a 4096 [3] s with
          | some s => evictLoop a goal fuel s
          | none => s

/-- NEAR_EVICT (R108): free space below LOW_WM; the evictor runs until HIGH_WM. It makes room for no principal, so it
takes no sheaf of one at or below its reservation. -/
def execNearEvict (a : Acre) (s : State) : Host.Outcome State Fault Refusal := running s <|
  if nearFree s a < liveF s .TIER_NEAR_CTRL (.acre a) 0 15 0 * 2 ^ 20 then
    ok (evictLoop a (liveF s .TIER_NEAR_CTRL (.acre a) 0 31 16 * 2 ^ 20) (roomFuel s a) s)
  else ok s

/-- STACK_FETCH_FOR_APPEND (R107): the missing sheaves of a stack named by a session's map come into Near before an
append. -/
def execStackFetchForAppend (slot k : Nat) (s : State) : Host.Outcome State Fault Refusal := running s <|
  match mapEntry s slot k with
  | some ⟨false, .record i⟩ =>
    let a := homeAcre slot
    if (getObj s i).sstate = .free then ok s
    else match fetchUnits i a true true (missing s i a) s with
      | .ok s => ok s
      | .error .integrity => okSettle (fenceSession slot .integrity s)
      | .error _ => ok s
  | _ => ok s

/-! ## Directives (R112) -/

/-- A Field or Headland target as the commands give it: an Acre, a borrow entry, or ANY (0xFFFF_FFFF). -/
def placeTarget (tier : Tier) (n : Nat) : Option (Option Nat) :=
  if n = 0xFFFFFFFF then some none
  else match tier with
    | .fld => if n < 4 then some (some n) else none
    | .headland => if n < 1024 then some (some n) else none
    | .chest => if n < 4 then some (some n) else none
    | _ => none

/-- SET_POLICY (R111, R112): tier 1 or 2, its target, and the fill mode of R105. RESULT0 counts the one object (R300). -/
def execSetPolicy (sq cid handle tier target fill : Nat) (s : State) : Host.Outcome State Fault Refusal := running s <|
  ok (hostCmd sq cid .io false (fun s =>
    match sessionDir s handle with
    | .error st => postCqe sq cid st 0 0 s
    | .ok slot =>
      let t := if tier = 1 then some Tier.fld else if tier = 2 then some Tier.headland else none
      match t.bind (fun t => (placeTarget t target).map (fun n => (t, n))), decide (fill ≤ 2) with
      | some (t, n), true =>
        postCqe sq cid .ok 1 0
          (setAux slot { auxOf s slot with policy := { isSet := true, tier := t, target := n, fill := some fill } } s)
      | _, _ => postCqe sq cid .badFormat 0 0 s) s)

/-- SET_HOME (R112, R113). -/
def execSetHome (sq cid : Nat) (t : DirTarget) (tier target : Nat) (s : State) : Host.Outcome State Fault Refusal := running s <|
  ok (hostCmd sq cid .io false (fun s =>
    match named s t with
    | .error st => postCqe sq cid st 0 0 s
    | .ok n =>
      let tr := if tier = 1 then some Tier.fld else if tier = 2 then some Tier.headland else if tier = 3 then some Tier.chest
        else none
      let isPrefix := match t with
        | .prefixOf _ => true
        | _ => n.entries.any (fun e => e.2.shared)
      match tr.bind (fun x => (placeTarget x target).map (fun y => (x, y))) with
      | none => postCqe sq cid .badFormat 0 0 s
      | some (tier, target) =>
        if isPrefix && tier = Tier.chest then postCqe sq cid .badFormat 0 0 s
        else if n.records.any (fun i => (getObj s i).moveActive) then postCqe sq cid .busy 0 0 s
        else
          let (staged, all, s) := if tier = Tier.chest && target = none then ([], true, s) else stageAll t sq cid n.entries s
          let objs := n.records ++ staged
          if objs.isEmpty then postCqe sq cid (if all then .ok else .noSpace) 0 0 s
          else
            let s := dirStart sq cid 0x31 n.slot (objs ++ if all then [] else [0x2000000]) s
            let s := movesStart sq cid tier target objs s
            if all then s else dirStep sq cid 0x2000000 (some .noSpace) s) s)

/-- HOME_MOVE_COPY_DONE (R113 step 3): the raw copy of an object is complete. It is published where CTR is unchanged and
DIRTY stayed 0; otherwise the copy is discarded and the next round is redirected. A frame of a lost object is not
delivered, which ends the move. -/
def execHomeMoveCopyDone (obj : Nat) (s : State) : Host.Outcome State Fault Refusal := running s <|
  match s.tier.moves.find? (fun m => m.obj = obj) with
  | none => ok s
  | some m =>
    let o := getObj s obj
    let chestDest := m.dest.tier = Tier.chest
    if m.redirect || chestDest || (o.home.tier = .chest && !o.staged) then ok s
    else if o.lost then
      ok (moveEnd obj o.home.tier (readFault o) (if o.stageLoc.map (fun x => Home.fld x.1 x.2) = some m.dest then s
        else giveHome m.dest o.run s))
    else if o.ctr = m.ctr0 && !o.dirty && !o.wbActive then ok (publishHome obj m s)
    else
      ok (queueWb obj { s with tier := { s.tier with
        moves := s.tier.moves.map (fun x => if x.obj = obj then { x with redirect := true } else x) } })

/-- A reader admitted before the old home was given up has not finished (R113 step 4). -/
def oldRunBusy (s : State) (r : OldRun) : Bool :=
  r.entries.any (fun e => match NMap.get? s.fur.entries e with
    | some x => x.open_
    | none => false) ||
  r.revivals.any (fun x => Acre.all.any (fun a => (s.bur.revQ.get a).any (fun f => f.slot = x)))

/-- OLD_RUN_FREE (R113 step 4): every reader admitted before step 3 has finished. -/
def execOldRunFree (obj : Nat) (s : State) : Host.Outcome State Fault Refusal := running s <|
  match s.tier.oldRuns.find? (fun r => r.obj = obj) with
  | none => ok s
  | some r =>
    if oldRunBusy s r then ok s
    else ok (giveRun r.obj r.home r.frames { s with tier := { s.tier with oldRuns := s.tier.oldRuns.erase r } })

/-- STAGE (R115, R256): Chest-homed stacks and search lists get staged copies in the home Acre's Field. -/
def execStage (sq cid : Nat) (t : DirTarget) (s : State) : Host.Outcome State Fault Refusal := running s <|
  ok (hostCmd sq cid .io false (fun s =>
    match named s t with
    | .error st => postCqe sq cid st 0 0 s
    | .ok n =>
      match t with
      | .prefixOf _ => postCqe sq cid .badFormat 0 0 s
      | _ =>
        let (objs, all, s) := stageAll t sq cid n.entries s
        if objs.isEmpty then postCqe sq cid (if all then .ok else .noSpace) 0 0 s
        else
          let s := dirStart sq cid 0x32 n.slot objs s
          if all then s
          else
            { s with tier := { s.tier with directives := s.tier.directives.map (fun d =>
              if d.sq = sq ∧ d.cid = cid then { d with failed := some .noSpace } else d) } }) s)

/-- UNSTAGE (R112, R115): ST_BUSY while a named staged copy is read. -/
def execUnstage (sq cid : Nat) (t : DirTarget) (s : State) : Host.Outcome State Fault Refusal := running s <|
  ok (hostCmd sq cid .io false (fun s =>
    match named s t with
    | .error st => postCqe sq cid st 0 0 s
    | .ok n =>
      match t with
      | .prefixOf _ => postCqe sq cid .badFormat 0 0 s
      | _ =>
        let objs := n.records.filter (fun i => (getObj s i).home.tier = .chest)
        if objs.any (fun i => anyReader s i) then postCqe sq cid .busy 0 0 s
        else
          let gone := objs.filter (fun i => !(getObj s i).dirty && !(getObj s i).wbActive)
          postCqe sq cid .ok gone.length 0 (objs.foldl (fun s i => unstageAny i s) s)) s)

/-- Acres whose Near a named object's copies go to (R104): the session's home Acre; for a prefix, every Acre with a forked
session; for a search list, the index's home Acre. -/
def copyAcres (s : State) (t : DirTarget) (n : Named) : List Acre :=
  match t, n.slot with
  | _, some slot => [homeAcre slot]
  | .prefixOf id, none => Acre.all.filter (fun a => (sessions s).any (fun x => homeAcre x = a && (desc s x).prefixId = id))
  | .searchList h _, none => [Acre.ofNum (h / 2 ^ 10)]
  | _, none => []

/-- Fetch the named objects in order: the count fetched in full, the first failure, the state. -/
def prefetchRun (a : Acre) : List Nat → State → Nat × Option Status × State
  | [], s => (0, none, s)
  | i :: r, s =>
    match fetchUnits i a true false (missing s i a) s with
    | .ok s =>
      let (n, st, s) := prefetchRun a r s
      (n + 1, st, s)
    | .error e =>
      let s := match fetchUnits i a true true (missing s i a) s with
        | .ok s => s
        | .error _ => s
      let (n, st, s) := prefetchRun a r s
      (n, some (st.getD e), s)

/-- PREFETCH (R586): positions [lo, hi) of a session, a stack, a prefix or a search list. -/
def execPrefetch (sq cid : Nat) (t : DirTarget) (lo hi : Nat) (s : State) : Host.Outcome State Fault Refusal := running s <|
  okSettle (hostCmd sq cid .io false (fun s =>
    match named s t with
    | .error st => postCqe sq cid st 0 0 s
    | .ok n =>
      let es := match t with
        | .session _ => n.entries.filter (fun e => overlaps e.1 (lo, hi))
        | _ => n.entries
      let objs := ({ n with entries := es } : Named).records
      let away := es.any (fun e => match e.2.ref with
        | .record i => (getObj s i).home.tier = .chest && !(getObj s i).staged &&
            !(copyAcres s t n).all (fun a => allRes s (getObj s i) a)
        | _ => true)
      if away then postCqe sq cid .notResident 0 0 s
      else
        let (c, st, s) := (copyAcres s t n).foldl (fun r a =>
          let (k, st, s) := prefetchRun a objs r.2.2
          (max r.1 k, (match r.2.1 with
            | some x => some x
            | none => st), s)) (0, none, s)
        let s := postCqe sq cid (st.getD .ok) c 0 s
        match st, n.slot with
        | some .integrity, some slot => fenceSession slot .integrity s
        | _, _ => s) s)

/-- EVICT (R112). -/
def execEvict (sq cid : Nat) (t : DirTarget) (s : State) : Host.Outcome State Fault Refusal := running s <|
  ok (hostCmd sq cid .io false (fun s =>
    match named s t with
    | .error st => postCqe sq cid st 0 0 s
    | .ok n =>
      let liveTail := match n.slot with
        | some slot => if (desc s slot).state.live then tailStack s slot else none
        | none => none
      let skip := fun (e : Nat × MapEntry) => match e.2.ref with
        | .record i => isPinned s (getObj s i) || liveTail = some e.1
        | _ => true
      let objs := ({ n with entries := n.entries.filter (fun e => !skip e) } : Named).records
      if n.single && n.entries.any (fun e => match e.2.ref with
          | .record i => isPinned s (getObj s i) || liveTail = some e.1
          | _ => false) then postCqe sq cid .busy 0 0 s
      else
        let s := objs.foldl (fun s i => writeBackNow i s) s
        let gone := objs.filter (fun i => !(getObj s i).dirty)
        postCqe sq cid .ok gone.length 0 (gone.foldl (fun s i => dropCopies i s) s)) s)

/-- PIN (R110): refused where the principal's pinned bytes would exceed its reservation on some Acre. RESULT0 counts the stacks named
(R300). -/
def execPin (sq cid : Nat) (t : DirTarget) (s : State) : Host.Outcome State Fault Refusal := running s <|
  ok (hostCmd sq cid .io false (fun s =>
    match named s t with
    | .error st => postCqe sq cid st 0 0 s
    | .ok n =>
      let objs := (pinObjs s t n).filter (fun i => !isPinned s (getObj s i))
      let past := Acre.all.any (fun a => objs.any (fun i =>
        let p := (getObj s i).principal
        let add := objs.foldl (fun k j => if (getObj s j).principal = p then k + objNear s a (getObj s j) else k) 0
        decide (0 < add ∧ prinResv s a p < pinnedUse s a p + add)))
      if past then postCqe sq cid .quota 0 0 s
      else
        let s := match t with
          | .session h => commitDesc (slotOf h) (fun d => { d with pinned := true }) s
          | .prefixOf id =>
            n.records.foldl (fun s i => modObj i (fun o => { o with pinned := true }) s)
              { s with tier := { s.tier with prefixes := NMap.modify s.tier.prefixes id (fun p => { p with pinned := true }) } }
          | _ => n.records.foldl (fun s i => modObj i (fun o => { o with pinned := true }) s) s
        postCqe sq cid .ok n.entries.length 0 s) s)

/-- UNPIN (R110): a contract of the session ends (R312). -/
def execUnpin (sq cid : Nat) (t : DirTarget) (s : State) : Host.Outcome State Fault Refusal := running s <|
  ok (hostCmd sq cid .io false (fun s =>
    match named s t with
    | .error st => postCqe sq cid st 0 0 s
    | .ok n =>
      let s := match t with
        | .session h =>
          let slot := slotOf h
          endContract slot 1 (commitDesc slot (fun d => { d with pinned := false })
            ((privStacks s slot).foldl (fun s i => modObj i (fun o => { o with pinned := false }) s) s))
        | .prefixOf id =>
          n.records.foldl (fun s i => modObj i (fun o => { o with pinned := false }) s)
            { s with tier := { s.tier with prefixes := NMap.modify s.tier.prefixes id (fun p => { p with pinned := false }) } }
        | _ => n.records.foldl (fun s i => modObj i (fun o => { o with pinned := false }) s) s
      postCqe sq cid .ok n.entries.length 0 s) s)

/-! ## Shared prefixes (R116, R117, R120) -/

/-- The first free prefix number from `n` on, cyclically among 1 to 0xFFFF. -/
def freePrefix (s : State) : Nat → Nat → Option Nat
  | 0, _ => none
  | fuel + 1, n =>
    let id := n % 65535 + 1
    if (NMap.get? s.tier.prefixes id).isNone then some id else freePrefix s fuel (n + 1)

/-- The least power of two of frames that holds `n` map entries (R102). -/
def mapFrames (n : Nat) : Nat → Nat → Nat
  | 0, f => f
  | fuel + 1, f => if n ≤ f * 512 then f else mapFrames n fuel (2 * f)

/-- A new object of a prefix, written to its home in one round. -/
def prefixObj (a : Acre) (kind : ObjKind) (profile frames al principal : Nat) (data : ObjData) (s : State) :
    Option (Nat × State) :=
  match takeFieldAny al frames s (ringFrom a), kind with
  | none, _ => none
  | some (h, s), _ =>
    match takeGeneral a s with
    | none => none
    | some (i, s) =>
      let need := if kind = .stack then (geom s profile).layers * (geom s profile).sheaf else frames * 4096
      match makeRoom a principal need true (roomFuel s a) s with
      | none => none
      | some s =>
        let s := modObj i (fun o => { o with sstate := .shared })
          (newObj i kind profile frames principal h none data s)
        some (i, wbFinish i (wbStart i (allDirty i a s)))

/-- The prefix table entry, its map, token list and partial stack (R117). `none`: something finds no room. -/
def prefixBuild (slot len principal : Nat) (s : State) : Option (Nat × State) :=
  let d := desc s slot
  let full := len / 64
  let m := (getObj s (mapObj slot)).data.entries
  match freePrefix s 65535 (freeBelow 65535 s) with
  | none => none
  | some id =>
    let s := drew s
    let a := Acre.ofNum id
    let fulls := (m.filter (fun e => e.1 < full)).map (fun e => (e.1, { e.2 with shared := true }))
    let part : Option (NMap MapEntry × State) :=
      if len % 64 = 0 then some ([], s)
      else match NMap.get? m full with
        | some ⟨_, .record i⟩ =>
          (prefixObj a .stack d.profile (stackRun (geom s d.profile)) 16 principal
            (clipStack (geom s d.profile) (len % 64) (getObj s i).data) s).map
            (fun r => ([(full, { shared := true, ref := .record r.1 })], r.2))
        | _ => none
    match part with
    | none => none
    | some (pe, s) =>
      let toks := (List.range len).map (fun p => tokenAt s slot p)
      match prefixObj a .tokenList 0 ((4 * len + 4095) / 4096) 1 principal ⟨Cells.writeN [] 0 (tokenBytes toks), []⟩ s with
      | none => none
      | some (lo, s) =>
        match prefixObj a .map 0 (mapFrames ((len + 63) / 64) 24 1) 1 principal ⟨[], fulls ++ pe⟩ s with
        | none => none
        | some (mo, s) =>
          let e : PrefixEntry :=
            { profile := d.profile, len := len, mapSlot := mo, listSlot := lo, principal := principal, forks := 0,
              retiring := false, pinned := false }
          let s := fulls.foldl (fun s e => match e.2.ref with
            | .record i =>
              setEntry (mapObj slot) e.1 (some e.2)
                (modObj i (fun o => { o with sstate := .shared, refcnt := o.refcnt + 1, owner := none }) s)
            | _ => s) s
          let s := { s with tier := { s.tier with prefixes := NMap.put s.tier.prefixes id e } }
          some (id, commitDesc slot (fun d => { d with floor := max d.floor len }) s)

/-- Every stack of a session below position `len` is homed in Field or Headland (R117). -/
def prefixHomed (s : State) (slot len : Nat) : Bool :=
  (List.range ((len + 63) / 64)).all (fun k => match NMap.get? (getObj s (mapObj slot)).data.entries k with
    | some ⟨_, .record i⟩ => (getObj s i).home.tier != .chest && !(getObj s i).lost
    | _ => false)

/-- PREFIX_CREATE (R117). RESULT0 returns the prefix ID. -/
def execPrefixCreate (sq cid handle len principal : Nat) (s : State) : Host.Outcome State Fault Refusal := running s <|
  ok (hostCmd sq cid .io false
    (onSession handle (.host sq cid) (fun slot st s =>
      let d := desc s slot
      if st = .fenced then postCqe sq cid .fenced 0 0 s
      else if (admitNew s [1]).isSome then postCqe sq cid ((admitNew s [1]).getD .access) 0 0 s
      else if st ≠ .idleWait then postCqe sq cid .busy 0 0 s
      else if len = 0 || d.len < len || 4095 < principal then postCqe sq cid .badFormat 0 0 s
      else if !prefixHomed s slot len then postCqe sq cid .notResident 0 0 s
      else match prefixBuild slot len principal s with
        | none => postCqe sq cid .noSpace 0 0 s
        | some (id, s) => postCqe sq cid .ok id 0 s)) s)

/-- PREFIX_RETIRE (R120). -/
def execPrefixRetire (sq cid id : Nat) (s : State) : Host.Outcome State Fault Refusal := running s <|
  ok (hostCmd sq cid .io false (fun s =>
    if s.sec.tenancy ≠ .bound then postCqe sq cid .tenant 0 0 s
    else match NMap.get? s.tier.prefixes id with
      | none => postCqe sq cid .badHandle 0 0 s
      | some p =>
        let s := { s with tier := { s.tier with prefixes := NMap.put s.tier.prefixes id { p with retiring := true } } }
        postCqe sq cid .ok 0 0 (prefixSweep id s)) s)

/-- BORROW_EMPTY (R132): nothing is homed in a DRAINING window, or on its way there. -/
def execBorrowEmpty (b : Nat) (s : State) : Host.Outcome State Fault Refusal := running s <|
  match NMap.get? s.tier.borrow b with
  | none => ok s
  | some e =>
    let coming := s.tier.moves.any (fun m => match m.dest with
      | .headland x _ => x = b
      | _ => false)
    if e.st = .draining && (windowHomes s b).isEmpty && !coming then
      ok { s with tier := { s.tier with borrow := NMap.put s.tier.borrow b { e with st := .empty } } }
    else ok s

end Sys2Proof.Machine
end

