-- ==== Sys2Proof/Machine/GlnOps.lean ====
section
/-!
DEFINITION. Vector search: index objects, scores and ranking, passes on Gleaners, admission at an index, updates, responses
(R252 to R276).
-/
namespace Sys2Proof.Machine

/-! ## Index objects (R254) -/

def putIdx (slot : Nat) (x : Index) (s : State) : State :=
  { s with gln := { s.gln with indexes := NMap.put s.gln.indexes slot x } }

def modIdx (slot : Nat) (f : Index → Index) (s : State) : State :=
  { s with gln := { s.gln with indexes := NMap.modify s.gln.indexes slot f } }

/-- Home Acre of an index slot (R252). -/
def idxAcre (slot : Nat) : Acre := Acre.ofNum (slot / 2 ^ 10)

/-- The handle of an index slot. -/
def idxHandle (s : State) (slot : Nat) : Nat := NMap.get 1 s.gln.gens slot * 2 ^ 12 + slot

/-- Frames of `n` vectors of dimension `d`, and of `n` words of `w` bytes. -/
def vecFrames (n d : Nat) : Nat := (4 * d * n + 4095) / 4096
def auxFrames (n w : Nat) : Nat := (w * n + 4095) / 4096

/-- Frames of a centroid, list or side object. -/
def centroidFrames (x : Index) : Nat := 1 + vecFrames x.nlist x.d + auxFrames x.nlist 16
def listFrames (d n : Nat) : Nat := 1 + vecFrames n d + auxFrames n 4

/-- The header frame of an object of an index. -/
def idxHeader (x : Index) (handle sub list count cap vecs : Nat) : List Byte :=
  [1, BitVec.ofNat 8 sub] ++ leBytes 2 handle ++ leBytes 4 list ++ leBytes 4 count ++ leBytes 4 cap ++ leBytes 2 x.d ++
    leBytes 1 x.metric ++ leBytes 1 x.idBits ++ leBytes 4 x.nlist ++ leBytes 4 1 ++ leBytes 4 (1 + vecFrames vecs x.d)

/-- FP32 values of consecutive bytes. -/
def f32s : List Byte → List F32
  | a :: b :: c :: d :: r => BitVec.ofNat 32 (leNat [a, b, c, d]) :: f32s r
  | _ => []

def f32Bytes (v : List F32) : List Byte := v.flatMap (fun x => leBytes 4 x.toNat)

/-- Vector `i` of an object of dimension `d`. -/
def idxVec (s : State) (obj d i : Nat) : List F32 := f32s (Cells.readN (getObj s obj).data.bytes (4096 + 4 * d * i) (4 * d))

/-- Word `i` of the ID region of an object made for `cap` vectors. -/
def idxWord (s : State) (obj d cap i : Nat) : Nat :=
  leNat (Cells.readN (getObj s obj).data.bytes ((1 + vecFrames cap d) * 4096 + 4 * i) 4)

/-! ## Scores and ranking (R257, R258) -/

def score (metric : Nat) (q x : List F32) : F32 :=
  if metric = 0 then treeSum (List.zipWith (fun a b => fMul (fSub a b) (fSub a b)) q x) else treeSum (List.zipWith fMul q x)

/-- `a` ranks better than `b`. -/
def better (metric : Nat) (a b : Cand) : Bool :=
  let lt := if metric = 0 then fLt a.score b.score else fLt b.score a.score
  let gt := if metric = 0 then fLt b.score a.score else fLt a.score b.score
  lt || (!gt && (decide (a.id < b.id) || (a.id == b.id && decide (a.shard < b.shard))))

/-- Put a candidate in its place, best first. -/
def insertCand (metric : Nat) (c : Cand) : List Cand → List Cand
  | [] => [c]
  | x :: r => if better metric c x then c :: x :: r else x :: insertCand metric c r

/-- The best `k` of two lists. -/
def mergeCands (metric k : Nat) (l : List Cand) (cs : List Cand) : List Cand :=
  cs.foldl (fun l c => (insertCand metric c l).take k) l

/-- Split candidates by NaN scores: those that rank, and how many do not. -/
def dropNaN (cs : List Cand) : List Cand × Nat :=
  (cs.filter (fun c => !isNaN c.score), (cs.filter (fun c => isNaN c.score)).length)

def bumpNaN (a : Acre) (n : Nat) (s : State) : State := bumpF .GLN_EVENTS (.acre a) 0 23 0 n s

/-! ## Filters (R263) -/

/-- The filter passes an item. -/
def filterOk (s : State) (a : Acre) (f item : Nat) : Bool :=
  if f = 0 then true
  else
    let base := liveF s .GLN_FLT_RANGE (.acre a) f 29 0
    let bits := liveF s .GLN_FLT_RANGE (.acre a) f 62 32
    let addr := liveF s .GLN_FLT_ADDR (.acre a) f 47 0
    if item < base || base + bits ≤ item then false
    else
      let i := item - base
      ((nearRead s a (addr + i / 8) 1).headD 0).getLsbD (i % 8)

/-! ## Passes and Gleaners (R264, R267, R268) -/

/-- Gleaners of an Acre: G4a to G4a + 3 (R24). -/
def glnUnits (a : Acre) : List Nat := (List.range 4).map (fun i => 4 * a.num + i)

def glnUp (s : State) (g : Nat) : Bool := !(live s .CKP_FENCE_MISC (.acre (Acre.ofNum (g / 4))) 0).getLsbD (12 + g % 4)

/-- The principal a pass works for (R502). -/
def passPrin (s : State) (p : GlnPass) : Nat :=
  let slot := match p with
    | .centroid n => (NMap.get? s.gln.batches n).elim 0 (fun b => b.slot)
    | .visit n _ => (NMap.get? s.gln.batches n).elim 0 (fun b => b.slot)
    | .compact i => i
  (NMap.get? s.gln.indexes slot).elim 0 (fun x => x.principal)

def setBatch (serial : Nat) (f : SBatch → SBatch) (s : State) : State :=
  { s with gln := { s.gln with batches := NMap.modify s.gln.batches serial f } }

/-- Queue a pass on an Acre. -/
def queuePass (a : Acre) (p : GlnRun) (s : State) : State :=
  { s with gln := { s.gln with passQ := s.gln.passQ.set a (s.gln.passQ.get a ++ [p]) } }

/-- End every entry of a batch that has no status yet. -/
def failQueries (st : Status) (b : SBatch) : SBatch :=
  { b with queries := b.queries.map (fun q => if q.status.isSome then q else { q with status := some st }) }

/-- A pass starts on a Gleaner. A centroid pass past its batch's DEADLINE ends the entries ST_TIMEOUT (check 3 of R262). -/
def startPass (g : Nat) (p : GlnRun) (s : State) : State :=
  let s := { s with gln := { s.gln with units := NMap.put s.gln.units g { p with at_ := ktb s } } }
  match p.pass with
  | .centroid b =>
    setBatch b (fun b => if b.deadline ≠ 0 ∧ b.deadline < ktb s then failQueries .timeout b else b) s
  | _ => s

/-- The pass a free Gleaner takes: the first of high priority, else the one it saved, else the first of low priority. -/
def nextPass (a : Acre) (g : Nat) (s : State) : Option (GlnRun × State) :=
  let q := s.gln.passQ.get a
  let take := fun (p : GlnRun) => some (p, { s with gln := { s.gln with passQ := s.gln.passQ.set a (q.erase p) } })
  match q.find? (fun p => !p.low) with
  | some p => take p
  | none =>
    match NMap.get? s.gln.saved g with
    | some p => some (p, { s with gln := { s.gln with saved := NMap.erase s.gln.saved g } })
    | none =>
      if liveF s .GLN_CTRL (.acre a) 0 7 7 = 0 then none
      else match q with
        | [] => none
        | p :: _ => take p

/-- Every Gleaner of an Acre is fenced: its waiting entries end ST_FENCED (R268). -/
def glnAllDown (a : Acre) (s : State) : State :=
  if (glnUnits a).any (glnUp s) then s
  else
    let mine := s.gln.batches.filter (fun e => e.2.acre = a && (e.2.phase = .held || e.2.phase = .centroid || e.2.phase = .visits))
    let fail := fun (b : SBatch) => { failQueries .fenced b with
      updates := b.updates.map (fun u => if u.status.isSome then u else { u with status := some .fenced }), visits := [], phase := .visits }
    { s with gln := { s.gln with
      batches := mine.foldl (fun m e => NMap.put m e.1 (fail e.2)) s.gln.batches,
      indexes := NMap.mapV s.gln.indexes (fun _ x => { x with waiting := x.waiting.filter (fun w => match w with
        | .batch n => !(mine.any (fun e => e.1 = n))
        | _ => true) }),
      passQ := s.gln.passQ.set a ((s.gln.passQ.get a).filter (fun p => match p.pass with
        | .compact _ => true
        | _ => false)) } }

/-- Every free Gleaner of an Acre takes a pass, in ascending order. -/
def glnDispatch (a : Acre) (s : State) : State :=
  let s := glnAllDown a s
  (glnUnits a).foldl (fun s g =>
    if !glnUp s g || (NMap.get? s.gln.units g).isSome then s
    else match nextPass a g s with
      | some (p, s) => startPass g p s
      | none => s) s

def freeGln (g : Nat) (s : State) : State := { s with gln := { s.gln with units := NMap.erase s.gln.units g } }

/-! ## Admission at an index (R264, R270) -/

def SBatch.running (b : SBatch) : Bool := b.phase = .centroid || b.phase = .visits || b.phase = .members

/-- Batches running on an Acre. -/
def acreBatches (s : State) (a : Acre) : Nat := ((NMap.vals s.gln.batches).filter (fun b => b.running && b.acre = a)).length

/-- Queries of an index admitted and not complete. -/
def idxQueries (s : State) (slot : Nat) : Nat :=
  ((NMap.vals s.gln.batches).filter (fun b => b.cls = 0 && b.slot = slot && (b.phase = .centroid || b.phase = .visits))).length

/-- A batch no entry of which passed its checks needs no pass. -/
def allFailed (b : SBatch) : Bool := b.queries.all (fun q => q.status.isSome) && b.updates.all (fun u => u.status.isSome)

/-- Start a query batch: its centroid pass is queued. -/
def startQuery (serial : Nat) (b : SBatch) (s : State) : State :=
  queuePass b.acre { pass := .centroid serial, low := b.bulk, at_ := ktb s } (setBatch serial (fun b => { b with phase := .centroid }) s)

/-- The latest record below `n` of an item in the side object. -/
def latestSide (s : State) (x : Index) (item : Nat) : Nat → Option Nat
  | 0 => none
  | n + 1 => if idxWord s x.side x.d x.sideCap n % 2 ^ 30 = item then some n else latestSide s x item n

/-- Write bytes of the side object; its chunks are DIRTY. -/
def sideWrite (slot at_ : Nat) (bs : List Byte) (s : State) : State :=
  match NMap.get? s.gln.indexes slot with
  | none => s
  | some x =>
    markDirty x.side (idxAcre slot) ((List.range ((at_ + bs.length + 131071) / 131072 - at_ / 131072)).map (fun j => at_ / 131072 + j))
      (modObj x.side (fun o => { o with data := { o.data with bytes := Cells.writeN o.data.bytes at_ bs } }) s)

/-- An UPDATE entry applies (R269). -/
def applyUpdate (slot : Nat) (u : SUpdate) (s : State) : Status × State :=
  match NMap.get? s.gln.indexes slot with
  | none => (.badHandle, s)
  | some x =>
    if x.sideCap ≤ x.sideUsed then (.noSpace, s)
    else
      let n := x.sideUsed
      let ins := u.op = 1
      let s := if ins then sideWrite slot (4096 + 4 * x.d * n) (f32Bytes u.vec) s else s
      let s := sideWrite slot ((1 + vecFrames x.sideCap x.d) * 4096 + 4 * n) (leBytes 4 (u.item + if ins then 0 else 2 ^ 31)) s
      let s := sideWrite slot 8 (leBytes 4 (n + 1)) s
      let seen := (NMap.get? x.shadow u.item).isSome || (NMap.get? x.newShadow u.item).isSome
      let live := match (if seen then latestSide s x u.item n else none) with
        | some r => NMap.erase x.sideLive r
        | none => x.sideLive
      let live := if ins then NMap.put live n () else live
      (.ok, modIdx slot (fun x =>
        { x with sideUsed := n + 1, sideLive := live,
                 shadow := if x.st = .compacting then x.shadow else NMap.put x.shadow u.item (),
                 newShadow := if x.st = .compacting then NMap.put x.newShadow u.item () else x.newShadow }) s)

/-- The entries of an UPDATE batch apply in order; one past its DEADLINE has no effect. -/
def applyUpdates (slot deadline : Nat) : List SUpdate → State → List SUpdate × State
  | [], s => ([], s)
  | u :: r, s =>
    let (u, s) := match u.status with
      | some _ => (u, s)
      | none =>
        if deadline ≠ 0 ∧ deadline < ktb s then ({ u with status := some .timeout }, s)
        else
          let (st, s) := applyUpdate slot u s
          ({ u with status := some st }, s)
    let (l, s) := applyUpdates slot deadline r s
    (u :: l, s)

/-! ## Responses (R272, R340) -/

/-- A result: item, score, shard ordinal. -/
def candBytes (c : Cand) : List Byte := leBytes 4 c.id ++ leBytes 4 c.score.toNat ++ leBytes 1 c.shard ++ List.replicate 7 0

/-- One entry of a response: status, results, SHARD_MAP. -/
structure SResult where
  status : Status
  cands  : List Cand
  map    : Nat
  deriving DecidableEq, Repr

/-- Entry table and result blocks, the first block at record offset `off`. -/
def searchBody : List SResult → Nat → List Byte × List Byte
  | [], _ => ([], [])
  | e :: r, off =>
    let blk := e.cands.flatMap candBytes
    let el := leBytes 1 e.status.code ++ [0] ++ leBytes 2 e.cands.length ++ leBytes 4 (if e.cands.isEmpty then 0 else off) ++
      leBytes 8 e.map
    let (t, b) := searchBody r (off + blk.length)
    (el ++ t, blk ++ b)

/-- The record of a batch. -/
def searchRecord (b : SBatch) (srq ci done : Nat) (rs : List SResult) : List Byte :=
  let n := rs.length
  let (t, blk) := searchBody rs (64 + up64 (16 * n))
  let body := t ++ List.replicate (up64 (16 * n) - 16 * n) 0 ++ blk
  let len := up64 (64 + body.length)
  leBytes 4 len ++ [0x41] ++ leBytes 1 (if rs.all (fun r => r.status = .ok) then Status.ok else .partialOk).code ++ leBytes 2 n ++
    leBytes 8 b.tag.toNat ++ leBytes 1 srq ++ [0] ++ leBytes 2 b.index ++ leBytes 4 (ci % 2 ^ 32) ++ leBytes 8 b.tAdmit ++
    leBytes 8 done ++ List.replicate 24 0 ++ body ++ List.replicate (len - 64 - body.length) 0

def srqOf (s : State) (n : Nat) : Srq := NMap.get .empty s.gln.srqs n
def putSrq (n : Nat) (q : Srq) (s : State) : State := { s with gln := { s.gln with srqs := NMap.put s.gln.srqs n q } }
def srqCfg (s : State) (n : Nat) : RingCfg := ringCfg s .GLN_SRQ_CFG (Acre.ofNum (n / 16)) (n % 16)

/-- Stop an SRQ (R173, R261). -/
def stopSrq (n : Nat) (st : Status) (s : State) : State :=
  setLiveF .GLN_SRQ_STATUS (.acre (Acre.ofNum (n / 16))) (n % 16) 40 40 1 (putSrq n { srqOf s n with err := some st } s)

/-- The doorbell of an SRQ with a producer count. -/
def srqDoorbell (n pi : Nat) (s : State) : State :=
  let q := srqOf s n
  if !(srqCfg s n).enable || q.err.isSome || pi ≤ q.pi then s
  else if (srqCfg s n).size < pi - q.ci then stopSrq n .noSpace s
  else putSrq n { q with pi := pi, marks := q.marks ++ [(pi, ktb s)] } s

/-- The batches at the head of an SRQ that have been answered. -/
def srqDone (s : State) (n : Nat) : List Nat :=
  (srqOf s n).batches.takeWhile (fun b => match NMap.get? s.gln.batches b with
    | some b => b.phase = .done
    | none => true)

/-- CI of an SRQ passes every batch at its head that has been answered; those batches are gone. -/
def advanceSrq (n : Nat) (s : State) : State :=
  let done := srqDone s n
  match done.getLast? with
  | none => s
  | some b =>
    let q := srqOf s n
    let ci := match NMap.get? s.gln.batches b with
      | some b => b.endAt
      | none => q.ci
    let s := { s with gln := { s.gln with batches := s.gln.batches.filter (fun e => !done.contains e.1) } }
    writeCi (Acre.ofNum (n / 16)) (srqCfg s n) ci (putSrq n { q with ci := ci, batches := q.batches.drop done.length } s)

/-- A member's record reaches the coordinator (R275 step 4): it counts where its batch still waits and it lands before D_s;
otherwise it is discarded and counted. -/
def shardLand (a : Acre) (ord : Nat) (record : List Byte) (s : State) : State :=
  let tag := leNat ((record.drop 8).take 8)
  match s.gln.batches.find? (fun e => e.2.cls = 2 && e.2.acre = a && e.2.phase = .members && e.2.memberTag = tag && decide (ktb s < e.2.deadline)) with
  | none => bumpF .GLN_EVENTS (.acre a) 0 39 24 1 s
  | some e =>
    setBatch e.1 (fun b => if b.answers.any (fun x => x.ord = ord) then b
      else { b with answers := b.answers ++ [{ ord := ord, landed := ktb s, record := record }] }) s

/-- A batch has its results: the record is handed over, or the results are written for a session program or a coordinator,
and the batch is over. -/
def searchEmit (serial : Nat) (rs : List SResult) (s : State) : State :=
  match NMap.get? s.gln.batches serial with
  | none => s
  | some b =>
    let s := setBatch serial (fun b => { b with phase := .done }) s
    match b.src with
    | .srq n =>
      advanceSrq n (rspEmit b.ring 5 (searchRecord b n (srqOf s n).ci (ktb s) rs) b.reserved 0x41 s)
    | .srch slot tag _ out =>
      let s := { s with gln := { s.gln with batches := NMap.erase s.gln.batches serial } }
      let r := rs.headD { status := .ok, cands := [], map := 0 }
      let el := (searchBody [r] 64).1
      let own := s.tin.asyncs.any (fun o => o.slot = slot && o.tag = tag && !o.ended)
      let write := fun at_ bs (s : State) => match drawerWrite slot at_ bs s with
        | .ok s => s
        | .error _ => s
      asyncEnd slot tag 6 (BitVec.ofNat 64 r.status.code)
        (if r.status = .aborted then freeOuts slot tag s
         else if own then write out el (write (out + 64) (r.cands.flatMap candBytes) s) else s)
    | .member p ord =>
      let s := { s with gln := { s.gln with batches := NMap.erase s.gln.batches serial } }
      match NMap.get? s.gln.batches p with
      | some c => shardLand c.acre ord (searchRecord b 0 0 (ktb s) rs) s
      | none => s

/-- The results of an UPDATE batch, and of entries that ended before any pass. -/
def plainResults (b : SBatch) : List SResult :=
  if b.cls = 1 then b.updates.map (fun u => { status := u.status.getD .ok, cands := [], map := 0 })
  else b.queries.map (fun q => { status := q.status.getD .ok, cands := [], map := 0 })

/-- Start a compaction (step 1 of R271). -/
def startCompact (slot sq cid : Nat) (s : State) : State :=
  match NMap.get? s.gln.indexes slot with
  | none => postCqe sq cid .badHandle 0 0 s
  | some x =>
    if x.st ≠ .active then postCqe sq cid .busy 0 0 s
    else
      queuePass (idxAcre slot) { pass := .compact slot, low := true, at_ := ktb s }
        (putIdx slot { x with st := .compacting, freeze := x.sideUsed, newShadow := [], built := none, compactBy := some (sq, cid) } s)

/-- Let what waits at an index go on, in order (R270). -/
def idxAdvance (slot : Nat) : Nat → State → State
  | 0, s => s
  | fuel + 1, s =>
    match NMap.get? s.gln.indexes slot with
    | none => s
    | some x =>
      let pop := modIdx slot (fun x => { x with waiting := x.waiting.drop 1 })
      match x.waiting with
      | [] => s
      | .batch n :: _ =>
        (match NMap.get? s.gln.batches n with
         | none => idxAdvance slot fuel (pop s)
         | some b =>
           if b.cls = 1 then
             if idxQueries s slot ≠ 0 then s
             else
               let (us, s) := applyUpdates slot b.deadline b.updates (pop s)
               let s := setBatch n (fun b => { b with updates := us }) s
               idxAdvance slot fuel (searchEmit n (plainResults { b with updates := us }) s)
           else if 4 ≤ acreBatches s b.acre then s
           else idxAdvance slot fuel (startQuery n b (pop s)))
      | .compact sq cid :: _ => if idxQueries s slot ≠ 0 then s else idxAdvance slot fuel (startCompact slot sq cid (pop s))
      | .switch :: _ => s

/-- Release an object of an index. -/
def releaseList (r : MapRef) (s : State) : State := releaseEntry ⟨false, r⟩ s

/-- A RETIRING index whose admitted work is over becomes FREE: objects and bitmaps released, generation + 1 (R252, R256). -/
def idxSweep (slot : Nat) (s : State) : State :=
  match NMap.get? s.gln.indexes slot with
  | none => s
  | some x =>
    if x.st ≠ .retiring || !x.waiting.isEmpty || idxQueries s slot ≠ 0 then s
    else
      let s := { s with gln := { s.gln with
        indexes := NMap.erase s.gln.indexes slot,
        gens := NMap.putD 1 s.gln.gens slot (NMap.get 1 s.gln.gens slot % 15 + 1) } }
      let s := x.lists.foldl (fun s e => releaseList e.2.ref s) s
      dropRef x.side (dropRef x.centroid s)

/-- Everything that can go on after a pass, a batch or a change of an index of an Acre. -/
def glnGoOn (a : Acre) (s : State) : State :=
  let slots := (NMap.keys s.gln.indexes).filter (fun x => idxAcre x = a)
  let s := slots.foldl (fun s x => idxAdvance x ((NMap.get? s.gln.indexes x).elim 0 (fun i => i.waiting.length) + 1) s) s
  glnDispatch a (slots.foldl (fun s x => idxSweep x s) s)

/-- Bring a batch to its index (R270). A batch without a passing entry is answered at the merge. -/
def admitSearch (serial : Nat) (s : State) : State :=
  match NMap.get? s.gln.batches serial with
  | none => s
  | some b =>
    match NMap.get? s.gln.indexes b.slot, allFailed b with
    | some _, false =>
      glnGoOn b.acre (modIdx b.slot (fun x => { x with waiting := x.waiting ++ [.batch serial] }) s)
    | _, _ => setBatch serial (fun b => { b with phase := .visits }) s

/-! ## Reading the entries of a batch (R262) -/

/-- Check and read a QUERY entry: `x` is its index; `before` the sum of NPROBE so far. -/
def queryEntry (s : State) (a : Acre) (x : Index) (b : List Byte) (off before : Nat) : SQuery :=
  let n := fun o k => leNat ((b.drop (off + o)).take k)
  let qoff := n 0 4
  let q := f32s ((b.drop qoff).take (4 * x.d))
  let np := n 4 4
  let k := n 8 2
  let f := n 10 2
  let bad := qoff % 64 != 0 || decide (b.length < qoff + 4 * x.d) || np = 0 || decide (x.nlist < np) || k = 0 || decide (1024 < k) ||
    decide (1023 < f) || (f != 0 && liveF s .GLN_FLT_ADDR (.acre a) f 48 48 = 0) || decide (65536 < before + np) || !q.all isFin
  { q := q, nprobe := np, k := k, filter := f, probes := [], cands := [], status := if bad then some .badFormat else none,
    abortLate := false, fltMoved := false }

def queryEntries (s : State) (a : Acre) (x : Index) (b : List Byte) (count : Nat) : List SQuery :=
  ((List.range count).foldl (fun (acc : List SQuery × Nat) i =>
    let e := queryEntry s a x b (64 + 16 * i) acc.2
    (acc.1 ++ [e], acc.2 + e.nprobe)) ([], 0)).1

def updateEntry (x : Index) (b : List Byte) (off : Nat) : SUpdate :=
  let n := fun o k => leNat ((b.drop (off + o)).take k)
  let item := n 0 4
  let op := n 4 1
  let voff := n 8 4
  let v := if op = 1 then f32s ((b.drop voff).take (4 * x.d)) else []
  let bad := decide (2 ^ x.idBits ≤ item) || (op != 1 && op != 2) ||
    (op == 1 && (voff % 64 != 0 || decide (b.length < voff + 4 * x.d) || !v.all isFin))
  { item := item, op := op, vec := v, status := if bad then some .badFormat else none }

/-- The first check of R262, for an Acre's SRQ: the index, or why its entries fail. -/
def searchIndex (s : State) (a : Acre) (handle : Nat) : Except Status (Nat × Index) :=
  match idxCheck s handle with
  | .error st => .error st
  | .ok (slot, x) => if x.st = .building then .error .busy else if idxAcre slot ≠ a then .error .badFormat else .ok (slot, x)

/-! ## Building list objects (R256, R271) -/

/-- The content of a list object. -/
def listData (x : Index) (handle l : Nat) (items : List (Nat × List F32)) : ObjData :=
  let n := items.length
  let m := Cells.writeN [] 0 (idxHeader x handle 2 l n n n)
  let m := Cells.writeN m 4096 (items.flatMap (fun e => f32Bytes e.2))
  ⟨Cells.writeN m ((1 + vecFrames n x.d) * 4096) (items.flatMap (fun e => leBytes 4 e.1)), []⟩

/-- Build a list object in Near and write it home in one round; an empty list needs none. -/
def buildList (slot : Nat) (x : Index) (l : Nat) (items : List (Nat × List F32)) (s : State) : Except Status (Option ListEnt × State) :=
  let a := idxAcre slot
  let n := items.length
  let frames := listFrames x.d n
  if n = 0 then .ok (none, s)
  else if 65536 < frames then .error .noSpace
  else match takeByPolicy x.tier x.target a ((frames + 15) / 16 * 16) s with
    | none => .error .noSpace
    | some (h, s) =>
      match takeGeneral a s with
      | none => .error .noSpace
      | some (i, s) =>
        match makeRoom a x.principal (frames * 4096 + 4 * ((frames + 31) / 32)) true (roomFuel s a) s with
        | none => .error (noRoom s a x.principal)
        | some s =>
          let s := newObj i .searchList 0 frames x.principal h none (listData x (idxHandle s slot) l items) s
          .ok (some { ref := .record i, count := n }, writeBackNow i (allDirty i a s))

end Sys2Proof.Machine
end

