-- ==== Sys2Proof/Machine/Gleaner.lean ====
section
/-!
DEFINITION. The commands of the Gleaners: search queues, passes, indexes, compaction, sharded search (chapter 08).
-/
namespace Sys2Proof.Machine

/-! ## Search queues (R261, R262) -/

/-- Reservation of a search batch's record. -/
def searchReserve (cls count : Nat) (ks : List Nat) : Nat :=
  up64 (64 + up64 (16 * count) + if cls = 1 then 0 else ks.foldl (fun t k => t + 16 * k) 0)

/-- A member batch of a sharded batch: CLASS QUERY, the group's INDEX, RING, D_s, and a TAG of its own (R275 step 1). -/
def memberBatch (bytes : List Byte) (tag ring index ds : Nat) : List Byte :=
  (bytes.take 5) ++ [0] ++ ((bytes.drop 6).take 2) ++ leBytes 8 tag ++ leBytes 1 ring ++ ((bytes.drop 17).take 1) ++
    leBytes 2 index ++ ((bytes.drop 20).take 4) ++ leBytes 8 ds ++ bytes.drop 32

/-- Members of a group: ordinal and device. -/
def groupMembers (s : State) (a : Acre) (g : Nat) : List (Nat × Nat) :=
  (List.range (liveF s .GLN_GRP_CFG (.acre a) g 6 0)).map (fun m => (m, liveF s .GLN_GRP_MEM (.acre a) (g * 64 + m) 14 0))

/-- Entries of a sharded batch, checked for what the coordinator can check of them (R262; log 63): where it holds the
group's index all of R262, otherwise the ranges that name no index. -/
def shardEntries (s : State) (a : Acre) (bytes : List Byte) (count : Nat) (index : Nat) : List SQuery :=
  match idxCheck s index with
  | .ok (_, x) => queryEntries s a { x with nlist := 65536 } bytes count
  | .error _ =>
    (List.range count).map (fun i =>
      let n := fun o k => leNat ((bytes.drop (64 + 16 * i + o)).take k)
      let bad := n 0 4 % 64 != 0 || decide (bytes.length ≤ n 0 4) || n 4 4 = 0 || decide (65536 < n 4 4) || n 8 2 = 0 ||
        decide (1024 < n 8 2) || decide (1023 < n 10 2)
      { q := [], nprobe := n 4 4, k := n 8 2, filter := n 10 2, probes := [], cands := [],
        status := if bad then some .badFormat else none, abortLate := false, fltMoved := false })

/-- Send the member batches of a sharded batch; the coordinator's own copy runs here (R274, R275). -/
def shardSend (serial : Nat) (a : Acre) (g : Nat) (bytes : List Byte) (count ds : Nat) (s : State) : State :=
  let index := liveF s .GLN_GRP_CFG (.acre a) g 52 37
  (groupMembers s a g).foldl (fun s m =>
    let ring := liveF s .GLN_GRP_MEM (.acre a) (g * 64 + m.1) 22 15
    let b := memberBatch bytes (g + 256 * serial) ring index ds
    if m.2 ≠ s.sec.deviceId then kltPost { conn := 0, tc := 5, op := .member g m.1 b, src := .shard serial } s
    else
      let home := Acre.ofNum (index / 2 ^ 10)
      let es := match searchIndex s home index with
        | .ok (_, x) => queryEntries s home x b count
        | .error st =>
          (List.range count).map (fun _ =>
            { q := [], nprobe := 0, k := 1, filter := 0, probes := [], cands := [], status := some st, abortLate := false, fltMoved := false })
      let n := s.gln.nextBatch
      let mb : SBatch :=
        { serial := n, src := .member serial m.1, acre := home, cls := 0, tag := BitVec.ofNat 64 (g + 256 * serial),
          slot := index % 2 ^ 12, index := index, ring := ring, bulk := (leNat ((bytes.drop 17).take 1)).testBit 0, deadline := ds,
          endAt := 0, tAdmit := ktb s, reserved := 0, phase := .held, queries := es, updates := [], visits := [], answers := [],
          memberTag := 0 }
      admitSearch n { s with gln := { s.gln with nextBatch := n + 1, batches := NMap.put s.gln.batches n mb } }) s

/-- The header of a search batch. -/
structure SrqHdr where
  len      : Nat
  fmt      : Nat
  cls      : Nat
  count    : Nat
  tag      : Nat
  ring     : Nat
  flags    : Nat
  index    : Nat
  deadline : Nat
  deriving DecidableEq, Repr

/-- The header at the take point of an SRQ (R262). -/
def srqHdr (s : State) (srq : Nat) : SrqHdr :=
  let h := ringRead s (Acre.ofNum (srq / 16)) (srqCfg s srq) (srqOf s srq).take 64
  let n := fun o k => leNat ((h.drop o).take k)
  { len := n 0 4, fmt := n 4 1, cls := n 5 1, count := n 6 2, tag := n 8 8, ring := n 16 1, flags := n 17 1, index := n 18 2,
    deadline := n 24 8 }

/-- A pad batch: COUNT = 0 and LEN reaching the ring's end (R173). -/
def srqPad (s : State) (srq : Nat) (h : SrqHdr) : Bool := h.count = 0 && ((srqOf s srq).take + h.len) % (srqCfg s srq).size = 0

/-- The header's own checks (R173, R262): FMT, LEN within the ring, and, but for a pad batch, CLASS, COUNT, an entry table within
LEN and an enabled response ring. -/
def srqHdrOk (s : State) (srq : Nat) (h : SrqHdr) : Bool :=
  decide (h.fmt = 1) && decide (h.len % 64 = 0) && decide (64 ≤ h.len) &&
    decide ((srqOf s srq).take % (srqCfg s srq).size + h.len ≤ (srqCfg s srq).size) &&
    (srqPad s srq h || (decide (h.cls ≤ 2) && decide (1 ≤ h.count) && decide (h.count ≤ if h.cls = 1 then 4096 else 64) &&
      decide (64 + 16 * h.count ≤ h.len) && (rspCfg s h.ring).2))

/-- The batch at the take point. -/
def srqBytes (s : State) (srq : Nat) (h : SrqHdr) : List Byte :=
  ringRead s (Acre.ofNum (srq / 16)) (srqCfg s srq) (srqOf s srq).take h.len

/-- The largest record the batch can produce (R262, R272). -/
def srqNeed (s : State) (srq : Nat) (h : SrqHdr) : Nat :=
  searchReserve h.cls h.count ((List.range h.count).map (fun i => min 1024 (leNat (((srqBytes s srq h).drop (64 + 16 * i + 8)).take 2))))

/-- An entry that ends before it is looked at. -/
def noQuery (st : Status) : SQuery :=
  { q := [], nprobe := 0, k := 1, filter := 0, probes := [], cands := [], status := some st, abortLate := false, fltMoved := false }

def noUpdate (st : Status) : SUpdate := { item := 0, op := 2, vec := [], status := some st }

/-- A batch of the header whose entries have not been looked at. -/
def srqBatch (s : State) (srq : Nat) (h : SrqHdr) : SBatch :=
  let q := srqOf s srq
  { serial := s.gln.nextBatch, src := .srq srq, acre := Acre.ofNum (srq / 16), cls := h.cls, tag := BitVec.ofNat 64 h.tag,
    slot := h.index % 2 ^ 12, index := h.index, ring := h.ring, bulk := h.flags.testBit 0, deadline := h.deadline, endAt := q.take + h.len,
    tAdmit := markAt q.marks (q.take + h.len), reserved := 0, phase := .done, queries := [], updates := [], visits := [], answers := [],
    memberTag := 0 }

/-- The take point passes a batch. -/
def srqPass (srq : Nat) (b : SBatch) (s : State) : State :=
  let q := srqOf s srq
  putSrq srq { q with take := b.endAt, marks := marksPast q.marks b.endAt, batches := q.batches ++ [b.serial],
                      aborts := q.aborts.filter (· ≠ q.take) }
    { s with gln := { s.gln with nextBatch := b.serial + 1, batches := NMap.put s.gln.batches b.serial b } }

/-- The KTB by which a sharded batch's members must have answered (R275 step 1): T_admit plus the group's time, or the batch's own
DEADLINE where that is earlier. -/
def shardDs (s : State) (b : SBatch) : Nat :=
  let t := b.tAdmit + liveF s .GLN_GRP_CFG (.acre b.acre) (b.index % 256) 31 8 * 1000
  if b.deadline = 0 then t else min b.deadline t

/-- A batch is taken: credit reserved, and the batch brought to its index, or its members sent. Entries of a batch that an abort has
reached end ST_ABORTED (R309); those of a disabled group or of an index that cannot serve them end as R262 and R274 say. -/
def srqTaken (srq : Nat) (h : SrqHdr) (s : State) : State :=
  let bytes := srqBytes s srq h
  let need := srqNeed s srq h
  let a := Acre.ofNum (srq / 16)
  let b := { srqBatch s srq h with reserved := need, phase := .held }
  let reserve := fun (s : State) => putRing h.ring { rspRing s h.ring with reserved := (rspRing s h.ring).reserved + need } s
  let all := fun (st : Status) (b : SBatch) =>
    if h.cls = 1 then { b with updates := List.replicate h.count (noUpdate st) } else { b with queries := List.replicate h.count (noQuery st) }
  if (srqOf s srq).aborts.contains (srqOf s srq).take then reserve (srqPass srq (all .aborted { b with phase := .visits }) s)
  else if h.cls = 2 then
    let g := h.index % 256
    if liveF s .GLN_GRP_CFG (.acre a) g 7 7 = 0 then reserve (srqPass srq (all .badHandle { b with phase := .visits }) s)
    else
      let es := shardEntries s a bytes h.count (liveF s .GLN_GRP_CFG (.acre a) g 52 37)
      let b := { b with queries := es, deadline := shardDs s b, phase := .members, memberTag := g + 256 * b.serial }
      shardSend b.serial a g bytes h.count b.deadline (reserve (srqPass srq b s))
  else
    let b := match searchIndex s a h.index with
      | .error st => all st b
      | .ok (_, x) =>
        if h.cls = 1 then { b with updates := (List.range h.count).map (fun i => updateEntry x bytes (64 + 16 * i)) }
        else { b with queries := queryEntries s a x bytes h.count }
    admitSearch b.serial (reserve (srqPass srq b s))

/-- An SRQ has a notified header to look at: it runs and holds fewer than 64 batches (R261). -/
def srqReady (s : State) (srq : Nat) : Bool :=
  let q := srqOf s srq
  !s.obs.halted && decide (srq < 64) && q.err.isNone && decide (q.take + 64 ≤ q.pi) && decide (q.batches.length < 64)

/-- SRQ_BATCH_TAKE (R261, R262, R264, R269, R270, R275): the next notified batch of an SRQ is checked and given response
credit; its passes start, its updates apply, or it waits at its index. -/
def execSrqBatchTake (srq : Nat) (s : State) : Host.Outcome State Fault Refusal := running s <|
  let h := srqHdr s srq
  if !srqReady s srq then ok s
  else if !srqHdrOk s srq h then ok (stopSrq srq .badFormat s)
  else if (srqOf s srq).pi < (srqOf s srq).take + h.len then ok s
  else if srqPad s srq h then ok (advanceSrq srq (srqPass srq (srqBatch s srq h) s))
  else if (rspCfg s h.ring).1 < srqNeed s srq h then ok (stopSrq srq .noSpace s)
  else if rspRoom s h.ring < srqNeed s srq h then
    ok (setLiveF .FUR_RSP_STATUS (.yoke .ye) h.ring 32 32 1 (setLiveF .FUR_RSP_STATUS (.yoke .yw) h.ring 32 32 1 s))
  else if h.cls ≠ 1 && 4 ≤ acreBatches s (Acre.ofNum (srq / 16)) then ok s
  else okSettle (srqTaken srq h s)

/-- SRQ_ERROR_CLEAR (R173, R261): clearing ERROR sets PI to the take point and resumes the queue. -/
def execSrqErrorClear (srq : Nat) (s : State) : Host.Outcome State Fault Refusal := running s <|
  let q := srqOf s srq
  match q.err with
  | none => ok s
  | some _ =>
    ok (setLiveF .GLN_SRQ_STATUS (.acre (Acre.ofNum (srq / 16))) (srq % 16) 40 40 0 
      (writePi (Acre.ofNum (srq / 16)) (srqCfg s srq) q.take (putSrq srq { q with err := none, pi := q.take, marks := [], aborts := [] } s)))

/-! ## Passes (R258, R259, R264, R265, R267) -/

/-- Probe sets: the NPROBE lists whose centroids rank best, and the NaN scores met. -/
def probeSet (metric : Nat) (cs : List (List F32)) (q : SQuery) : List Nat × Nat :=
  let all := (cs.zip (List.range cs.length)).map (fun c => ({ score := score metric q.q c.1, id := c.2, shard := 0 } : Cand))
  let (ok, n) := dropNaN all
  ((mergeCands metric q.nprobe [] ok).map (fun c => c.id), n)

/-- The centroid pass of a batch has scored its queries (R259, R264): the probe sets are formed; one visit for each distinct list in
ascending order and, last, one for the side object (numbered NLIST) are queued. -/
def centroidEnd (a : Acre) (b : SBatch) (x : Index) (s : State) : State :=
  let cs := (List.range x.nlist).map (fun i => idxVec s x.centroid x.d i)
  let rs := b.queries.map (fun q => if q.status.isSome then (q, 0) else
    let (p, n) := probeSet x.metric cs q
    ({ q with probes := p }, n))
  let s := bumpNaN a (rs.foldl (fun n r => n + r.2) 0) s
  let qs := rs.map (fun r => r.1)
  let lists := (List.range x.nlist).filter (fun l => qs.any (fun q => q.status.isNone && q.probes.contains l))
  let visits := if qs.all (fun q => q.status.isSome) then [] else lists ++ [x.nlist]
  let s := setBatch b.serial (fun b => { b with queries := qs, visits := visits, phase := .visits }) s
  visits.foldl (fun s l => queuePass a { pass := .visit b.serial l, low := b.bulk, at_ := ktb s } s) s

/-- CENTROID_PASS_DONE (R259, R264). -/
def execCentroidPassDone (gleaner : Nat) (s : State) : Host.Outcome State Fault Refusal := running s <|
  match NMap.get? s.gln.units gleaner with
  | some ⟨.centroid serial, _, _⟩ =>
    if s.obs.halted || !glnUp s gleaner then ok s
    else
      let a := Acre.ofNum (gleaner / 4)
      let s := freeGln gleaner s
      match NMap.get? s.gln.batches serial with
      | none => okSettle (glnGoOn a s)
      | some b =>
        match NMap.get? s.gln.indexes b.slot with
        | none => okSettle (glnGoOn a s)
        | some x => okSettle (glnGoOn a (centroidEnd a b x s))
  | _ => ok s

/-- What a visit scores: item IDs and vectors; or why the list cannot be read. Items with a set shadow bit are left out. -/
def visitItems (s : State) (x : Index) (a : Acre) (l : Nat) : Except Status (List (Nat × List F32)) :=
  if l = x.nlist then
    .ok (((List.range x.sideUsed).filter (fun r => (NMap.get? x.sideLive r).isSome)).map (fun r =>
      (idxWord s x.side x.d x.sideCap r % 2 ^ 30, idxVec s x.side x.d r)))
  else if x.damagedLists.contains l then .error .integrity
  else match NMap.get? x.lists l with
    | none => .ok []
    | some e =>
      match e.ref with
      | .record i =>
        let o := getObj s i
        (match (if allRes s o a then none else readFault o) with
         | some st => .error st
         | none =>
           .ok (((List.range e.count).map (fun j => (idxWord s i x.d e.count j, idxVec s i x.d j))).filter (fun it =>
             (NMap.get? x.shadow it.1).isNone && (NMap.get? x.newShadow it.1).isNone)))
      | _ => .error .notResident

/-- Reading a list may cache its chunks in Near (R255); REF is set. -/
def visitFill (x : Index) (a : Acre) (l : Nat) (s : State) : State :=
  match NMap.get? x.lists l with
  | some ⟨.record i, _⟩ =>
    let s := modObj i (fun o => { o with res := o.res.set a ((o.res.get a).map (fun e => (e.1, { e.2 with ref := true }))) }) s
    if liveF s .TIER_NEAR_CTRL (.acre a) 0 33 32 = 2 then
      (match fetchUnits i a false true (missing s i a) s with
       | .ok s => s
       | .error _ => s)
    else s
  | _ => s

/-- A list, or the side object, has been scored against the queries that probe it (R257 to R259, R263 to R265). A list that cannot be
read ends them; one that fails its tag marks the index DAMAGED. -/
def visitEnd (a : Acre) (b : SBatch) (x : Index) (l : Nat) (s : State) : State :=
  let mine := fun q : SQuery => q.status.isNone && (l == x.nlist || q.probes.contains l)
  let done := fun (b : SBatch) => { b with visits := b.visits.filter (· ≠ l) }
  match visitItems s x a l with
  | .error st =>
    let s := if st = .integrity && !x.damagedLists.contains l then
        modIdx b.slot (fun x => { x with damaged := true, damagedLists := x.damagedLists ++ [l] }) s
      else s
    setBatch b.serial (fun b => done { b with queries := b.queries.map (fun q => if mine q then { q with status := some st } else q) }) s
  | .ok items =>
    let s := visitFill x a l s
    let rs := b.queries.map (fun q => if !mine q then (q, 0) else
      let all := (items.filter (fun it => filterOk s a q.filter it.1)).map (fun it =>
        ({ score := score x.metric q.q it.2, id := it.1, shard := 0 } : Cand))
      let (ok, n) := dropNaN all
      ({ q with cands := mergeCands x.metric q.k q.cands ok }, n))
    setBatch b.serial (fun b => done { b with queries := rs.map (fun r => r.1) }) (bumpNaN a (rs.foldl (fun n r => n + r.2) 0) s)

/-- LIST_VISIT_DONE (R257 to R259, R263 to R265). -/
def execListVisitDone (gleaner : Nat) (s : State) : Host.Outcome State Fault Refusal := running s <|
  match NMap.get? s.gln.units gleaner with
  | some ⟨.visit serial l, _, _⟩ =>
    if s.obs.halted || !glnUp s gleaner then ok s
    else
      let a := Acre.ofNum (gleaner / 4)
      let s := freeGln gleaner s
      match NMap.get? s.gln.batches serial with
      | none => okSettle (glnGoOn a s)
      | some b =>
        match NMap.get? s.gln.indexes b.slot with
        | none => okSettle (glnGoOn a s)
        | some x => okSettle (glnGoOn a (visitEnd a b x l s))
  | _ => ok s

/-- The OP records of a search batch that answers (R506, R509). -/
def traceSearch (b : SBatch) (st : Status) (s : State) : State :=
  match b.src with
  | .srq _ => traceOp (.acre b.acre) b.index 0x92 st b.cls b.tAdmit ((NMap.get? s.gln.indexes b.slot).elim 0 (fun x => x.principal)) s
  | _ => s

/-- An undefined result set: any candidates, no more than K of them (R263; log 200). -/
def undefSet (s : State) (i k : Nat) : List Cand :=
  ((Config.freeSet s.freeCtr i).take k).map (fun c => { score := c.1, id := c.2 % 2 ^ 30, shard := 0 })

/-- The answers of a query batch whose visits have ended: each query's best K, or the status that ended it. -/
def queryResults (s : State) (b : SBatch) : List SResult :=
  (b.queries.zip (List.range b.queries.length)).map (fun e => match e.1.status with
    | some st => { status := st, cands := [], map := 0 }
    | none => { status := if e.1.abortLate then .abortLate else .ok, cands := if e.1.fltMoved then undefSet s e.2 e.1.k else e.1.cands, map := 0 })

/-- A drawn free value, where a result set is undefined. -/
def queryDrew (b : SBatch) (s : State) : State := if b.queries.any (fun q => q.fltMoved) then drew s else s

/-- The first status of a batch's answers that is not ST_OK. -/
def firstBad (rs : List SResult) : Status := (rs.find? (fun r => r.status != .ok)).elim .ok (fun r => r.status)

/-- SEARCH_MERGE (R259, R264, R272, R309): every visit has ended; the lead's results are the answer. -/
def execSearchMerge (serial : Nat) (s : State) : Host.Outcome State Fault Refusal := running s <|
  match NMap.get? s.gln.batches serial with
  | none => ok s
  | some b =>
    if b.phase ≠ .visits || !b.visits.isEmpty || s.obs.halted then ok s
    else if b.cls = 1 then okSettle (glnGoOn b.acre (searchEmit serial (plainResults b) (traceSearch b .ok s)))
    else okSettle (glnGoOn b.acre (searchEmit serial (queryResults s b) (traceSearch b (firstBad (queryResults s b)) (queryDrew b s))))

/-- A Gleaner may leave its low-priority pass: no Gleaner of its Acre is free, it is not fenced and has no saved context (R267). -/
def maySwitch (s : State) (g : Nat) (r : GlnRun) : Bool :=
  r.low && (glnUnits (Acre.ofNum (g / 4))).all (fun g => !glnUp s g || (NMap.get? s.gln.units g).isSome) && glnUp s g &&
    (NMap.get? s.gln.saved g).isNone && decide (g < 16) && !s.obs.halted

/-- A Gleaner saves the context of pass `r` and takes the waiting pass `p`; the switch is counted (R267, R502). -/
def switched (g : Nat) (r p : GlnRun) (s : State) : State :=
  let a := Acre.ofNum (g / 4)
  let s := { s with gln := { s.gln with
    saved := NMap.put s.gln.saved g r, passQ := s.gln.passQ.set a ((s.gln.passQ.get a).erase p) } }
  bumpF .GLN_EVENTS (.acre a) 0 63 40 1 (startPass g p (acctAdd (passPrin s r.pass) 7 1 s))

/-- GLEANER_SWITCH (R267): a Gleaner that runs a low-priority pass saves its context and takes the waiting high-priority pass,
where no Gleaner of the Acre is free. -/
def execGleanerSwitch (gleaner : Nat) (s : State) : Host.Outcome State Fault Refusal := running s <|
  match NMap.get? s.gln.units gleaner, (s.gln.passQ.get (Acre.ofNum (gleaner / 4))).find? (fun p => !p.low) with
  | some r, some p => if maySwitch s gleaner r then ok (switched gleaner r p s) else ok s
  | _, _ => ok s

/-! ## Indexes (R253 to R256, R299) -/

/-- Free index slots of an Acre, ascending. -/
def freeIdx (s : State) (a : Acre) : List Nat :=
  ((List.range 1024).map (fun i => a.num * 1024 + i)).filter (fun x => (NMap.get? s.gln.indexes x).isNone)

/-- The Acre IDX_CREATE chooses (R299). -/
def idxHome (s : State) (t : Nat) : Acre :=
  if t ≤ 3 then Acre.ofNum t
  else
    let n := fun (a : Acre) => (s.gln.indexes.filter (fun e => idxAcre e.1 = a)).length
    Acre.all.foldl (fun b a => if n a < n b then a else b) .a0

/-- The index an IDX_CREATE block describes; `none`: a field is out of range. -/
def idxBlock (buf : List Byte) : Option Index :=
  let n := fun o k => bufN buf o k
  let tier := if n 14 1 = 1 then some Tier.fld else if n 14 1 = 2 then some Tier.headland else none
  let d := n 0 2
  match tier.bind (fun t => (placeTarget t (n 16 4)).map (fun x => (t, x))) with
  | none => none
  | some (t, x) =>
    if buf.length < 64 || d % 16 ≠ 0 || d < 16 || 4096 < d || 2 < n 2 1 || n 3 1 < 16 || 30 < n 3 1 || n 4 4 = 0 || 65536 < n 4 4 ||
        n 8 4 < 64 || 1048576 < n 8 4 || 4095 < n 12 2 || buf.length < 64 + 4 * d * n 4 4 then none
    else some { st := .building, d := d, metric := n 2 1, idBits := n 3 1, nlist := n 4 4, sideCap := n 8 4, principal := n 12 2,
                tier := t, target := x, centroid := 0, side := 0, lists := [], sideUsed := 0, freeze := 0, shadow := [],
                newShadow := [], sideLive := [], damagedLists := [], damaged := false, built := none, compactBy := none, waiting := [] }

/-- Make a pinned object of an index in the Near of its Acre, homed in Field. -/
def idxObj (a : Acre) (frames principal : Nat) (data : ObjData) (s : State) : Option (Nat × State) :=
  match takeFieldAny 16 ((frames + 15) / 16 * 16) s (ringFrom a) with
  | none => none
  | some (h, s) =>
    match takeGeneral a s with
    | none => none
    | some (i, s) =>
      match makeRoom a principal (frames * 4096) true (roomFuel s a) s with
      | none => none
      | some s =>
        let s := newObj i .searchList 0 frames principal h none data s
        some (i, modObj i (fun o => { o with pinned := true }) (allDirty i a s))

/-- The slot a new index of an Acre takes: a free choice among the free ones (R299). -/
def idxSlot (s : State) (a : Acre) : Nat := (freeIdx s a).getD (freeBelow (freeIdx s a).length s) 0

/-- Make an index on Acre `a` (R253 to R256): the centroid and side objects in Near, pinned, and the bitmaps zero. The result is its
handle. -/
def idxMake (a : Acre) (x : Index) (buf : List Byte) (s : State) : Except Status (Nat × State) :=
  let cf := centroidFrames x
  let sf := listFrames x.d x.sideCap
  if (freeIdx s a).isEmpty || 65536 < cf || 65536 < sf then .error .noSpace
  else if prinResv s a x.principal < pinnedUse s a x.principal + (cf + sf) * 4096 + x.bitmaps then .error .quota
  else
    let slot := idxSlot s a
    let h := idxHandle s slot
    let cd := Cells.writeN (Cells.writeN [] 0 (idxHeader x h 1 0xFFFFFFFF x.nlist x.nlist x.nlist)) 4096
      ((buf.drop 64).take (4 * x.d * x.nlist))
    let sd := Cells.writeN [] 0 (idxHeader x h 3 0xFFFFFFFF 0 x.sideCap x.sideCap)
    match idxObj a cf x.principal ⟨cd, []⟩ s with
    | none => .error (noRoom s a x.principal)
    | some (c, s1) =>
      match idxObj a sf x.principal ⟨sd, []⟩ s1 with
      | none => .error (noRoom s a x.principal)
      | some (d, s1) => .ok (h, putIdx slot { x with centroid := c, side := d } (drew s1))

/-- IDX_CREATE (R253 to R256, R299). -/
def execIdxCreate (sq cid target : Nat) (buf : List Byte) (s : State) : Host.Outcome State Fault Refusal := running s <|
  ok (hostCmd sq cid .io false (fun s =>
    match admitNew s [1, 3] with
    | some st => postCqe sq cid st 0 0 s
    | none =>
      if 3 < target && target ≠ 0xFF then postCqe sq cid .badFormat 0 0 s
      else match idxBlock buf with
        | none => postCqe sq cid .badFormat 0 0 s
        | some x =>
          match idxMake (idxHome s target) x buf s with
          | .error st => postCqe sq cid st 0 0 s
          | .ok (h, s) => postCqe sq cid .ok h 0 s) s)

/-- A list block of an IDX_LOAD: its items, or nothing where an ID or a value is out of range (R254, R299). -/
def listBlock (x : Index) (buf : List Byte) : Option (List (Nat × List F32)) :=
  let n := bufN buf 0 4
  let vo := 64 + up64 (4 * n)
  if buf.length < vo + 4 * x.d * n then none
  else
    let ids := (List.range n).map (fun i => bufN buf (64 + 4 * i) 4)
    let vs := (List.range n).map (fun i => f32s ((buf.drop (vo + 4 * x.d * i)).take (4 * x.d)))
    if ids.any (fun i => 2 ^ x.idBits ≤ i) || vs.any (fun v => !v.all isFin) then none else some (ids.zip vs)

/-- The list table of an index names a list; an empty list is not named. -/
def nameList (slot list : Nat) (e : Option ListEnt) (s : State) : State :=
  match e with
  | some e => modIdx slot (fun x => { x with lists := NMap.put x.lists list e }) s
  | none => s

/-- IDX_LOAD (R256, R299): the list object is built in Near, written in one round, and named by the list table. -/
def execIdxLoad (sq cid handle list : Nat) (buf : List Byte) (s : State) : Host.Outcome State Fault Refusal := running s <|
  ok (hostCmd sq cid .io false (fun s =>
    match idxCheck s handle with
    | .error st => postCqe sq cid st 0 0 s
    | .ok (slot, x) =>
      if s.ckp.leaving then postCqe sq cid .redirect 0 0 s
      else if x.st ≠ .building || (NMap.get? x.lists list).isSome then postCqe sq cid .busy 0 0 s
      else if x.nlist ≤ list || buf.length < 64 then postCqe sq cid .badFormat 0 0 s
      else if 65536 < listFrames x.d (bufN buf 0 4) then postCqe sq cid .noSpace 0 0 s
      else match listBlock x buf with
        | none => postCqe sq cid .badFormat 0 0 s
        | some items =>
          match buildList slot x list items s with
          | .error st => postCqe sq cid st 0 0 s
          | .ok (e, s) => postCqe sq cid .ok 0 0 (nameList slot list e s)) s)

/-- IDX_PUBLISH (R256): the centroid object is written back and the index is ACTIVE. -/
def execIdxPublish (sq cid handle : Nat) (s : State) : Host.Outcome State Fault Refusal := running s <|
  ok (hostCmd sq cid .io false (fun s =>
    match idxCheck s handle with
    | .error st => postCqe sq cid st 0 0 s
    | .ok (slot, x) =>
      if x.st ≠ .building then postCqe sq cid .busy 0 0 s
      else postCqe sq cid .ok 0 0 (modIdx slot (fun x => { x with st := .active }) (writeBackNow x.centroid s))) s)

/-- IDX_COMPACT (R270, R271 step 1): admitted like an UPDATE batch. -/
def execIdxCompact (sq cid handle : Nat) (s : State) : Host.Outcome State Fault Refusal := running s <|
  okSettle (hostCmd sq cid .io false (fun s =>
    match idxCheck s handle with
    | .error st => postCqe sq cid st 0 0 s
    | .ok (slot, x) =>
      if x.st ≠ .active then postCqe sq cid .busy 0 0 s
      else glnGoOn (idxAcre slot) (modIdx slot (fun x => { x with waiting := x.waiting ++ [.compact sq cid] }) s)) s)

/-! ## Compaction (R271) -/

/-- The list an insert is assigned to: the centroid that ranks best, a tie to the lowest list; where no centroid ranks the
spec names none (log 64). -/
def assignList (x : Index) (cs : List (List F32)) (other : Nat) (v : List F32) : Nat :=
  ((probeSet x.metric cs { q := v, nprobe := 1, k := 1, filter := 0, probes := [], cands := [], status := none, abortLate := false, fltMoved := false }).1).headD
    (other % max 1 x.nlist)

/-- End a compaction that made no switch: new lists released, the bitmaps joined, the index ACTIVE again. -/
def compactFail (slot : Nat) (st : Status) (s : State) : State :=
  match NMap.get? s.gln.indexes slot with
  | none => s
  | some x =>
    let s := (x.built.getD []).foldl (fun s e => match e.2 with
      | some l => releaseList l.ref s
      | none => s) s
    let s := { s with gln := { s.gln with
      passQ := s.gln.passQ.map (fun q => q.filter (fun p => p.pass ≠ .compact slot)),
      units := s.gln.units.filter (fun u => u.2.pass ≠ .compact slot),
      saved := s.gln.saved.filter (fun u => u.2.pass ≠ .compact slot) } }
    let s := modIdx slot (fun x => { x with
      st := if x.st = .compacting then .active else x.st, built := none, newShadow := [],
      shadow := x.newShadow.foldl (fun m e => NMap.put m e.1 ()) x.shadow, compactBy := none,
      waiting := x.waiting.filter (fun w => w ≠ .switch) }) s
    match x.compactBy with
    | some (sq, cid) => postCqe sq cid st 0 0 s
    | none => s

/-- Build the new list objects of a compaction in list order. -/
def buildLists (slot : Nat) (x : Index) : List (Nat × List (Nat × List F32)) → NMap (Option ListEnt) → State →
    Except Status (NMap (Option ListEnt)) × NMap (Option ListEnt) × State
  | [], m, s => (.ok m, m, s)
  | (l, items) :: r, m, s =>
    match buildList slot x l items s with
    | .error st => (.error st, m, s)
    | .ok (e, s) => buildLists slot x r (NMap.put m l e) s

/-- The live inserts below N0, each with the list it is assigned to (R271 step 2). -/
def compactIns (s : State) (x : Index) : List (Nat × Nat × List F32) :=
  let cs := (List.range x.nlist).map (fun i => idxVec s x.centroid x.d i)
  ((List.range x.freeze).filter (fun r => (NMap.get? x.sideLive r).isSome)).map (fun r =>
    let v := idxVec s x.side x.d r
    (assignList x cs (freeBelow 65536 s) v, idxWord s x.side x.d x.sideCap r % 2 ^ 30, v))

/-- A list as a compaction reads it, shadowed items too. -/
def compactRead (s : State) (x : Index) (a : Acre) (l : Nat) : Except Status (List (Nat × List F32)) :=
  visitItems s { x with shadow := [], newShadow := [] } a l

/-- The lists that hold a shadowed item or receive an insert (R271 step 2); one that cannot be read counts. -/
def compactLists (s : State) (x : Index) (a : Acre) : List Nat :=
  (List.range x.nlist).filter (fun l => (compactIns s x).any (fun e => e.1 = l) || (match compactRead s x a l with
    | .ok items => items.any (fun it => (NMap.get? x.shadow it.1).isSome)
    | .error _ => true))

/-- The new content of those lists: the old items not shadowed, then the inserts in record order. -/
def compactWork (s : State) (x : Index) (a : Acre) : List (Nat × List (Nat × List F32)) :=
  (compactLists s x a).map (fun l =>
    let old := match compactRead s x a l with
      | .ok items => items.filter (fun it => (NMap.get? x.shadow it.1).isNone)
      | .error _ => []
    (l, old ++ ((compactIns s x).filter (fun e => e.1 = l)).map (fun e => e.2)))

/-- A list the compaction must read cannot be read (log 65). -/
def compactBlocked (s : State) (x : Index) (a : Acre) : Bool :=
  (compactLists s x a).any (fun l => match compactRead s x a l with
    | .ok _ => false
    | .error _ => true)

/-- The new lists of a compaction are built; it waits for its switch, or ends ST_NO_SPACE (R271 steps 3 and 4). -/
def compactBuilt (gleaner slot : Nat) (x : Index) (s : State) : State :=
  let a := idxAcre slot
  let r := buildLists slot x (compactWork s x a) [] (drew (freeGln gleaner s))
  let s := modIdx slot (fun x => { x with built := some r.2.1 }) r.2.2
  match r.1 with
  | .error _ => glnGoOn a (compactFail slot .noSpace s)
  | .ok _ => glnGoOn a (modIdx slot (fun x => { x with waiting := x.waiting ++ [.switch] }) s)

/-- COMPACTION_BUILD_DONE (R271 steps 2 and 3): the pass on a Gleaner has assigned the live inserts below N0 and rebuilt the
lists that hold a shadowed item or receive one. It waits while a list it must read lies unstaged in the Chest or fails its
check (log 65); where a new list finds no room or is too large the compaction ends ST_NO_SPACE. -/
def execCompactionBuildDone (gleaner : Nat) (s : State) : Host.Outcome State Fault Refusal := running s <|
  match NMap.get? s.gln.units gleaner with
  | some ⟨.compact slot, _, _⟩ =>
    (match NMap.get? s.gln.indexes slot with
     | none => ok (freeGln gleaner s)
     | some x =>
       if s.obs.halted || !glnUp s gleaner || compactBlocked s x (idxAcre slot) then ok s
       else okSettle (compactBuilt gleaner slot x s))
  | _ => ok s

/-- The records [N0, SIDE_USED) at the front of the side object, with their side-live bits. -/
def sideForward (s : State) (x : Index) : List Byte × List Byte × NSet :=
  let rs := (List.range (x.sideUsed - x.freeze)).map (fun j => x.freeze + j)
  (rs.flatMap (fun r => f32Bytes (idxVec s x.side x.d r)), rs.flatMap (fun r => leBytes 4 (idxWord s x.side x.d x.sideCap r)),
   (x.sideLive.filter (fun e => x.freeze ≤ e.1)).map (fun e => (e.1 - x.freeze, ())))

/-- The list table with the new lists of a compaction. -/
def switchLists (x : Index) (m : NMap (Option ListEnt)) : NMap ListEnt :=
  m.foldl (fun t e => match e.2 with
    | some l => NMap.put t e.1 l
    | none => NMap.erase t e.1) x.lists

/-- The switch of a compaction (R271 steps 4 and 5): the list table takes the new objects, the later records move to the front, the
shadow bitmap takes the new one, and the index is ACTIVE; the old lists are released and the command ends ST_OK. -/
def switchDone (slot : Nat) (x : Index) (m : NMap (Option ListEnt)) (w : List IdxWait) (s : State) : State :=
  let (vs, ws, lv) := sideForward s x
  let old := m.filterMap (fun e => NMap.get? x.lists e.1)
  let s := sideWrite slot ((1 + vecFrames x.sideCap x.d) * 4096) ws (sideWrite slot 4096 vs
    (sideWrite slot 8 (leBytes 4 (x.sideUsed - x.freeze)) s))
  let s := putIdx slot { x with
    st := .active, lists := switchLists x m, sideUsed := x.sideUsed - x.freeze, freeze := 0, shadow := x.newShadow, newShadow := [],
    sideLive := lv, built := none, compactBy := none, waiting := w } s
  let s := old.foldl (fun s e => releaseList e.ref s) s
  match x.compactBy with
  | some (sq, cid) => postCqe sq cid .ok 0 0 s
  | none => s

/-- COMPACTION_SWITCH (R271 steps 4 and 5). -/
def execCompactionSwitch (slot : Nat) (s : State) : Host.Outcome State Fault Refusal := running s <|
  match NMap.get? s.gln.indexes slot with
  | none => ok s
  | some x =>
    match x.built, x.waiting with
    | some m, .switch :: w =>
      if idxQueries s slot ≠ 0 || s.obs.halted then ok s
      else okSettle (glnGoOn (idxAcre slot) (switchDone slot x m w s))
    | _, _ => ok s

/-- An index goes to RETIRING (R256, R270): a compaction, and one that waits, ends ST_ABORTED; admitted batches go on. -/
def idxRetired (slot : Nat) (x : Index) (s : State) : State :=
  let s := if x.st = .compacting then compactFail slot .aborted s else s
  let s := x.waiting.foldl (fun s w => match w with
    | .compact q c => postCqe q c .aborted 0 0 s
    | _ => s) s
  modIdx slot (fun x => { x with st := .retiring, waiting := x.waiting.filter (fun w => match w with
    | .batch _ => true
    | _ => false) }) s

/-- IDX_RETIRE (R256, R270): new work is refused, a compaction ends ST_ABORTED, and the slot becomes FREE once admitted work is
complete. -/
def execIdxRetire (sq cid handle : Nat) (s : State) : Host.Outcome State Fault Refusal := running s <|
  okSettle (hostCmd sq cid .io false (fun s =>
    match idxCheck s handle with
    | .error st => postCqe sq cid st 0 0 s
    | .ok (slot, x) => postCqe sq cid .ok 0 0 (glnGoOn (idxAcre slot) (idxRetired slot x s))) s)

/-! ## Sharded search (R275) -/

/-- Entry `i` of a member's record: its candidates with the member's ordinal; `none` where it did not answer ST_OK. -/
def answerOf (r : ShardAns) (i : Nat) : Option (List Cand) :=
  let n := fun o k => leNat ((r.record.drop o).take k)
  let e := 64 + 16 * i
  if n e 1 ≠ 0 then none
  else some ((List.range (n (e + 2) 2)).map (fun j =>
    { score := BitVec.ofNat 32 (n (n (e + 4) 4 + 16 * j + 4) 4), id := n (n (e + 4) 4 + 16 * j) 4, shard := r.ord }))

/-- The metric of a group's index: of the coordinator's own index of that handle, else as the order of the members' results
shows, else free (log 66). -/
def shardMetric (s : State) (index : Nat) (rs : List (List Cand)) : Nat :=
  match idxCheck s index with
  | .ok (_, x) => x.metric
  | .error _ =>
    let pairs := rs.flatMap (fun l => l.zip (l.drop 1))
    if pairs.any (fun p => fLt p.1.score p.2.score) then 0
    else if pairs.any (fun p => fLt p.2.score p.1.score) then 1
    else freeBelow 2 s

/-- The answers of a sharded batch: the results of the members that answered, merged; ST_TIMEOUT where none did, ST_PARTIAL where some
did not (R275 steps 5 and 6). -/
def shardResults (s : State) (b : SBatch) : List SResult :=
  let members := groupMembers s b.acre (b.index % 256)
  let index := liveF s .GLN_GRP_CFG (.acre b.acre) (b.index % 256) 52 37
  (b.queries.zip (List.range b.queries.length)).map (fun e => match e.1.status with
    | some st => { status := st, cands := [], map := 0 }
    | none =>
      let as := b.answers.filterMap (fun r => (answerOf r e.2).map (fun c => (r.ord, c)))
      let m := shardMetric s index (as.map (fun x => x.2))
      { status := if as.isEmpty then .timeout else if members.length ≤ as.length then (if e.1.abortLate then .abortLate else .ok)
          else .partialOk,
        cands := as.foldl (fun l x => mergeCands m e.1.k l x.2) [], map := as.foldl (fun t x => t + 2 ^ x.1) 0 })

/-- A sharded batch waits for its members: some have not answered and D_s has not come (R275). -/
def shardWaits (s : State) (b : SBatch) : Bool :=
  decide (b.answers.length < (groupMembers s b.acre (b.index % 256)).length) && decide (ktb s < b.deadline) && !allFailed b

/-- A drawn free value, where an entry's order may have needed one. -/
def shardDrew (b : SBatch) (s : State) : State := if b.queries.any (fun q => q.status.isNone) then drew s else s

/-- SHARD_DEADLINE (R275 steps 5 and 6): every member has answered, or D_s has come: the answered results are merged and the
record is emitted. -/
def execShardDeadline (serial : Nat) (s : State) : Host.Outcome State Fault Refusal := running s <|
  match NMap.get? s.gln.batches serial with
  | none => ok s
  | some b =>
    if b.phase ≠ .members || s.obs.halted || shardWaits s b then ok s
    else okSettle (glnGoOn b.acre (searchEmit serial (shardResults s b) (traceSearch b (firstBad (shardResults s b)) (shardDrew b s))))

end Sys2Proof.Machine
end

