-- ==== Sys2Proof/Machine/AbortOps.lean ====
section
/-!
DEFINITION. Aborts of attention and search: an abort and the completion race to the completion point; the abort that comes
first ends the operation, a late one is reported where the record has not been handed over (R309 to R311).
-/
namespace Sys2Proof.Machine

/-- Abort an attention entry: whether the abort won, and the state. The rows it has written are undefined (R310). -/
def abortEntry (id : Nat) (s : State) : Bool × State :=
  match NMap.get? s.fur.entries id with
  | none => (false, s)
  | some e =>
    if e.status.isSome then
      (false, if e.status = some .ok then setEntryF id (fun e => { e with status := some .abortLate }) s else s)
    else
      let x := auxOf s e.slot
      let s := setAux e.slot { x with
        held := x.held.filter (fun h => h ≠ .attn id), sampleHold := x.sampleHold.filter (fun h => h.1 ≠ id) } s
      (true, entryStop id .aborted (setEntryF id (fun e => { e with aborted := true }) (freeRows e s)))

/-- Abort a search batch: entries not at their completion point end ST_ABORTED; its passes and visits are dropped. Whether
any entry was ended. -/
def abortSearch (serial : Nat) (s : State) : Bool × State :=
  match NMap.get? s.gln.batches serial with
  | none => (false, s)
  | some b =>
    if b.phase = .done then (false, setBatch serial (fun b => { b with queries := b.queries.map (fun q => { q with abortLate := true }) }) s)
    else
      let open_ := b.queries.any (fun q => q.status.isNone) || b.updates.any (fun u => u.status.isNone)
      let mine := fun (p : GlnRun) => match p.pass with
        | .centroid n => n == serial
        | .visit n _ => n == serial
        | .compact _ => false
      let s := setBatch serial (fun b => { failQueries .aborted b with
        visits := [], phase := if b.phase = .members then .members else .visits
        updates := b.updates.map (fun u => if u.status.isSome then u else { u with status := some .aborted }) }) s
      let s := { s with gln := { s.gln with
        passQ := s.gln.passQ.map (fun q => q.filter (fun p => !mine p))
        units := s.gln.units.filter (fun e => !mine e.2), saved := s.gln.saved.filter (fun e => !mine e.2)
        indexes := NMap.mapV s.gln.indexes (fun _ x => { x with waiting := x.waiting.filter (fun w => w ≠ .batch serial) }) } }
      (open_, glnGoOn b.acre s)

/-- Byte counts of the batches of a ring between two counts that carry a TAG. -/
def taggedBatches (read : Nat → List Byte) (tag : Word) (end_ : Nat) : Nat → Nat → List Nat
  | 0, _ => []
  | fuel + 1, at_ =>
    if end_ < at_ + 64 then []
    else
      let h := read at_
      let len := leNat (h.take 4)
      if len = 0 then []
      else (if leNat ((h.drop 8).take 8) = tag.toNat then [at_] else []) ++ taggedBatches read tag end_ fuel (at_ + len)

/-- A batch abort of an ARQ (R309): the entries of the batches with that TAG between CI and PI. -/
def arqAbort (n : Nat) (tag : Word) (s : State) : State :=
  let q := arqOf s n
  let ids := (q.batches.filter (fun b => !b.answered && b.tag = tag)).flatMap (fun b => b.entries)
  let s := ids.foldl (fun s id => (abortEntry id s).2) s
  let c := arqCfg s n
  let l := taggedBatches (fun at_ => ringRead s (Acre.ofNum (n / 64)) c at_ 64) tag q.pi (c.size / 64) q.take
  let q := arqOf s n
  if l.isEmpty then s else putArq n { q with aborts := q.aborts ++ l } s

/-- A batch abort of an SRQ. -/
def srqAbort (n : Nat) (tag : Word) (s : State) : State :=
  let q := srqOf s n
  let s := (q.batches.filter (fun b => match NMap.get? s.gln.batches b with
    | some b => b.tag = tag
    | none => false)).foldl (fun s b => (abortSearch b s).2) s
  let c := srqCfg s n
  let l := taggedBatches (fun at_ => ringRead s (Acre.ofNum (n / 16)) c at_ 64) tag q.pi (c.size / 64) q.take
  let q := srqOf s n
  if l.isEmpty then s else putSrq n { q with aborts := q.aborts ++ l } s

end Sys2Proof.Machine
end

