-- ==== Sys2Proof/Machine/HostQueue.lean ====
section
/-!
DEFINITION. The queues and rings of the Host Queue ABI: doorbells, interrupts, negotiation, creation and deletion (R295 to
R308), and decode deadline contracts (R312, R313).
-/
namespace Sys2Proof.Machine

def putQp (q : Nat) (x : QPair) (s : State) : State := { s with host := { s.host with qps := NMap.put s.host.qps q x } }

/-- A doorbell of a queue or ring that does not exist is ignored and counted (R304). -/
def badDoorbell (s : State) : State := { s with host := { s.host with badDb := min (s.host.badDb + 1) (2 ^ 24 - 1) } }

/-- A submission entry as its 64 bytes give it (R297). -/
def sqEntry (sq : Nat) (b : List Byte) : OutCmd :=
  let n := fun o k => leNat ((b.drop o).take k)
  { sq := sq, cid := n 2 2, opc := n 0 1, target := n 4 4, fence := (n 1 1).testBit 1, at_ := 0 }

/-- The tail of a queue pair moves; the entries the new tail covers wait to be fetched, and are fetched as far as fences allow. -/
def sqRung (sq tail : Nat) (entries : List (List Byte)) (qp : QPair) (s : State) : State :=
  let t := tail % qp.sqDepth
  let n := (t + qp.sqDepth - qp.sqTail) % qp.sqDepth
  let s := putQp sq { qp with sqTail := t, unfetched := qp.unfetched ++ (entries.take n).map (sqEntry sq) } s
  fetchLoop sq (qp.unfetched.length + n) { s with host := { s.host with lastSq := sq } }

/-- SQ_TAIL_DOORBELL (R296, R297, R301, R304): the new tail, and the entries between the old tail and it; the Yoke fetches
them. -/
def execSqTailDoorbell (sq tail : Nat) (entries : List (List Byte)) (s : State) : Host.Outcome State Fault Refusal := running s <|
  if s.obs.halted then ok s
  else match NMap.get? s.host.qps sq with
    | none => ok (badDoorbell s)
    | some qp => ok (sqRung sq tail entries qp s)

/-- Post waiting completion entries while the CQ has room. -/
def cqDrain (q : Nat) : Nat → State → State
  | 0, s => s
  | fuel + 1, s =>
    match NMap.get? s.host.qps q with
    | none => s
    | some qp =>
      match qp.waiting with
      | [] => s
      | e :: r => if cqFull qp then s else cqDrain q fuel (cqWrite q { qp with waiting := r } e s)

/-- CQ_HEAD_DOORBELL (R304): entries up to the new head are free; waiting entries are posted. -/
def execCqHeadDoorbell (cq head : Nat) (s : State) : Host.Outcome State Fault Refusal := running s <|
  match NMap.get? s.host.qps cq with
  | none => ok (badDoorbell s)
  | some qp => ok (cqDrain cq qp.waiting.length (putQp cq { qp with cqHead := head % qp.cqDepth } s))

/-- A ring with a new consumer byte count; a count that is not above the old one, or lies past the producer, changes nothing. -/
def consumed (r : Ring) (count : Nat) : Ring :=
  { r with consumer := if r.consumer < count ∧ count ≤ r.producer then count else r.consumer }

/-- Sessions of a stream ring that hold operations, in ascending slot order. -/
def ringHolders (s : State) (ring : Nat) : List Nat :=
  (sessions s).filter (fun x => (desc s x).streamRing = ring && !(auxOf s x).held.isEmpty)

def putStream (ring : Nat) (r : Ring) (s : State) : State := { s with host := { s.host with streams := NMap.put s.host.streams ring r } }
def putEvRing (ring : Nat) (r : Ring) (s : State) : State := { s with host := { s.host with events := NMap.put s.host.events ring r } }

/-- STREAM_RING_DOORBELL (R246, R304): the consumer byte count returns credit; admissions that wait for it at sessions of the
ring go on, in ascending slot order. -/
def execStreamRingDoorbell (ring count : Nat) (s : State) : Host.Outcome State Fault Refusal := running s <|
  match NMap.get? s.host.streams ring with
  | none => ok (badDoorbell s)
  | some r => okSettle ((ringHolders s ring).foldl (fun s x => drainHeld x s) (putStream ring (consumed r count) s))

/-- Post what waits for an event ring: first one LOST record with the count dropped, then the buffered records (R307). -/
def evDrain (ring : Nat) : Nat → State → State
  | 0, s => s
  | fuel + 1, s =>
    match NMap.get? s.host.events ring with
    | none => s
    | some r =>
      let w := NMap.get EvWait.empty s.host.evWait ring
      let setW := fun (w : EvWait) (s : State) => { s with host := { s.host with evWait := NMap.putD .empty s.host.evWait ring w } }
      if ringFree r < 64 then s
      else if w.lost ≠ 0 then
        evDrain ring fuel (eventWrite ring r
          { kind := 4, status := .ok, handle := 0, ktb := ktb s, a := w.lost, b := 0, c := 0, extra := [] } (setW { w with lost := 0 } s))
      else match w.waiting with
        | [] => s
        | e :: t => evDrain ring fuel (eventWrite ring r e (setW { w with waiting := t } s))

def evFuel (s : State) (ring : Nat) : Nat := (NMap.get EvWait.empty s.host.evWait ring).waiting.length + 1

/-- EVENT_RING_DOORBELL (R304, R307). -/
def execEventRingDoorbell (ring count : Nat) (s : State) : Host.Outcome State Fault Refusal := running s <|
  match NMap.get? s.host.events ring with
  | none => ok (badDoorbell s)
  | some r => ok (evDrain ring (evFuel s ring) (putEvRing ring (consumed r count) s))

/-- DELAY_NS have passed since the first record that is not yet signalled (R308). -/
def coalDue (s : State) (c : Coalesce) : Bool :=
  c.count != 0 && decide (c.firstAt + liveF s .YOK_HQ_INT (.yoke (hostYoke s)) 0 31 0 ≤ ktb s)

/-- MSIX_COALESCE (R308): DELAY_NS have passed since the first unsignalled record of a CQ (kind 0), a stream ring (1) or an
event ring (2); the vector is signalled. -/
def execMsixCoalesce (kind n : Nat) (s : State) : Host.Outcome State Fault Refusal := running s <|
  match kind with
  | 0 =>
    (match NMap.get? s.host.qps n with
     | some q => if coalDue s q.coal then ok (emit (.msix q.vector) (putQp n { q with coal := ⟨0, 0⟩ } s)) else ok s
     | none => ok s)
  | 1 =>
    (match NMap.get? s.host.streams n with
     | some r =>
       if coalDue s r.coal then ok (emit (.msix r.vector) (putStream n { r with coal := ⟨0, 0⟩ } s))
       else ok s
     | none => ok s)
  | _ =>
    match NMap.get? s.host.events n with
    | some r =>
      if coalDue s r.coal then ok (emit (.msix r.vector) (putEvRing n { r with coal := ⟨0, 0⟩ } s))
      else ok s
    | none => ok s

/-- YOK_HQ_NEGOTIATE (R295): the range's bytes are MIN_MAJOR, MIN_MINOR, MAX_MAJOR, MAX_MINOR; version 1.0 is agreed where the
range holds it. -/
def execYokHqNegotiate (range : BitVec 32) (s : State) : Host.Outcome State Fault Refusal := running s <|
  let b := fun i => range.toNat / 2 ^ (8 * i) % 256
  let lo := b 0 * 256 + b 1
  let hi := b 2 * 256 + b 3
  if lo ≤ 0x100 ∧ 0x100 ≤ hi then ok { s with host := { s.host with agreed := some 0x100, negStatus := .ok } }
  else ok { s with host := { s.host with agreed := none, negStatus := .version } }

/-- A new queue pair. -/
def newQp (sqBase cqBase sqDepth cqDepth vector : Nat) : QPair :=
  { sqBase := sqBase, cqBase := cqBase, sqDepth := sqDepth, cqDepth := cqDepth, sqHead := 0, sqTail := 0, cqHead := 0, cqTail := 0,
    phase := true, vector := vector, coal := ⟨0, 0⟩, waiting := [], unfetched := [] }

/-- YOK_HQ_AQ_EN (R295, R296): 1 creates the admin queue pair, once a version has been agreed; 0 deletes every queue. Registers whose
values break R296 create nothing (log 68). The admin CQ signals vector 0 (log 68). -/
def execYokHqAqEn (enable : Bool) (s : State) : Host.Outcome State Fault Refusal := running s <|
  let y := Die.yoke (hostYoke s)
  if enable then
    let log2 := liveF s .YOK_HQ_AQ_DEPTH y 0 3 0
    let sqBase := (live s .YOK_HQ_ASQ_BASE y).toNat
    let cqBase := (live s .YOK_HQ_ACQ_BASE y).toNat
    if s.host.agreed.isNone || (NMap.get? s.host.qps 0).isSome then ok s
    else if log2 = 0 || 12 < log2 || sqBase % 4096 ≠ 0 || cqBase % 4096 ≠ 0 then ok s
    else ok (setLiveF .YOK_HQ_AQ_EN y 0 0 0 1 (putQp 0 (newQp sqBase cqBase (2 ^ log2) (2 ^ log2) 0) s))
  else ok (setLiveF .YOK_HQ_AQ_EN y 0 0 0 0 { s with host := { s.host with qps := [], outstanding := [] } })

/-- An MSI-X vector a queue or ring may name (R308). -/
def vectorOk (v : Nat) : Bool := decide (v < 2048) || v == 0xFFFF

/-- The operands of CREATE_QP are within their ranges (R296, R308). -/
def qpOk (q sqBase cqBase sqLog2 cqLog2 vector : Nat) : Bool :=
  decide (1 ≤ q ∧ q ≤ 255) && sqBase % 4096 == 0 && cqBase % 4096 == 0 && decide (1 ≤ sqLog2 ∧ sqLog2 ≤ 16) &&
    decide (1 ≤ cqLog2 ∧ cqLog2 ≤ 16) && vectorOk vector

/-- CREATE_QP (R296): depths are given as exponents. -/
def execCreateQp (sq cid q sqBase cqBase sqLog2 cqLog2 vector : Nat) (s : State) : Host.Outcome State Fault Refusal := running s <|
  ok (hostCmd sq cid .admin true (fun s =>
    if !qpOk q sqBase cqBase sqLog2 cqLog2 vector then postCqe sq cid .badFormat 0 0 s
    else if (NMap.get? s.host.qps q).isSome then postCqe sq cid .busy 0 0 s
    else postCqe sq cid .ok 0 0 (putQp q (newQp sqBase cqBase (2 ^ sqLog2) (2 ^ cqLog2) vector) s)) s)

/-- DELETE_QP (R296). -/
def execDeleteQp (sq cid q : Nat) (s : State) : Host.Outcome State Fault Refusal := running s <|
  ok (hostCmd sq cid .admin true (fun s =>
    if q = 0 || 255 < q then postCqe sq cid .badFormat 0 0 s
    else if (NMap.get? s.host.qps q).isNone then postCqe sq cid .badHandle 0 0 s
    else postCqe sq cid .ok 0 0 { s with host := { s.host with
      qps := NMap.erase s.host.qps q, outstanding := s.host.outstanding.filter (fun c => c.sq ≠ q) } }) s)

/-- A new ring. -/
def newRing (base k paddr vector : Nat) : Ring :=
  { base := base, k := k, paddr := paddr, vector := vector, producer := 0, consumer := 0, reserved := 0, coal := ⟨0, 0⟩ }

/-- A ring's operands are within their ranges. -/
def ringOk (n most base k vector : Nat) : Bool :=
  decide (n ≤ most) && base % 4096 == 0 && decide (12 ≤ k ∧ k ≤ 24) && vectorOk vector

/-- STREAM_CREATE (R305). -/
def execStreamCreate (sq cid ring base k paddr vector : Nat) (s : State) : Host.Outcome State Fault Refusal := running s <|
  ok (hostCmd sq cid .admin true (fun s =>
    if !ringOk ring 4095 base k vector then postCqe sq cid .badFormat 0 0 s
    else if (NMap.get? s.host.streams ring).isSome then postCqe sq cid .busy 0 0 s
    else postCqe sq cid .ok 0 0 (putStream ring (newRing base k paddr vector) s)) s)

/-- STREAM_DELETE (R305). -/
def execStreamDelete (sq cid ring : Nat) (s : State) : Host.Outcome State Fault Refusal := running s <|
  ok (hostCmd sq cid .admin true (fun s =>
    if (NMap.get? s.host.streams ring).isNone then postCqe sq cid .badHandle 0 0 s
    else if (sessions s).any (fun x => (desc s x).streamRing = ring) then postCqe sq cid .busy 0 0 s
    else postCqe sq cid .ok 0 0 { s with host := { s.host with streams := NMap.erase s.host.streams ring } }) s)

/-- EVRING_CREATE (R306, R307): what waits under the number is posted. -/
def execEvringCreate (sq cid ring base k paddr vector : Nat) (s : State) : Host.Outcome State Fault Refusal := running s <|
  ok (hostCmd sq cid .admin true (fun s =>
    if !ringOk ring 255 base k vector then postCqe sq cid .badFormat 0 0 s
    else if (NMap.get? s.host.events ring).isSome then postCqe sq cid .busy 0 0 s
    else postCqe sq cid .ok 0 0 (evDrain ring (evFuel s ring) (putEvRing ring (newRing base k paddr vector) s))) s)

/-- EVRING_DELETE (R306). -/
def execEvringDelete (sq cid ring : Nat) (s : State) : Host.Outcome State Fault Refusal := running s <|
  ok (hostCmd sq cid .admin true (fun s =>
    if (NMap.get? s.host.events ring).isNone then postCqe sq cid .badHandle 0 0 s
    else postCqe sq cid .ok 0 0 { s with host := { s.host with events := NMap.erase s.host.events ring } }) s)

/-- The operands of ROUTE_SET are within their ranges (R291). -/
def routeOk (principal route conn base len key perm : Nat) : Bool :=
  decide (principal ≤ 4095 ∧ route ≤ 63 ∧ conn < 2 ^ 24 ∧ base < 2 ^ 64 ∧ len ≤ 2 ^ 32 ∧ key < 2 ^ 32 ∧ perm ≤ 7)

/-- Set a route, by its principal × 64 + number; one of length 0 is empty. -/
def setRoute (i : Nat) (r : Route) (s : State) : State :=
  { s with tin := { s.tin with routes := if r.len = 0 then NMap.erase s.tin.routes i else NMap.put s.tin.routes i r } }

/-- ROUTE_SET (R291): perm bit 0 read, bit 1 write, bit 2 doorbell; length 0 empties the route. -/
def execRouteSet (sq cid principal route conn base len key perm : Nat) (s : State) : Host.Outcome State Fault Refusal := running s <|
  ok (hostCmd sq cid .admin false (fun s =>
    if !routeOk principal route conn base len key perm then postCqe sq cid .badFormat 0 0 s
    else postCqe sq cid .ok 0 0 (setRoute (principal * 64 + route)
      { conn := conn, base := base, len := len, key := key, canRead := perm.testBit 0, canWrite := perm.testBit 1,
        canDb := perm.testBit 2 } s)) s)

/-! ## Decode deadline contracts (R312, R313) -/

/-- An entry at the contract's largest size: END = C_MAX, Q = Q_MAX (R313). -/
def contractEntry (s : State) (slot cMax qMax : Nat) : AttnEntry :=
  let d := desc s slot
  let g := geom s d.profile
  { src := .arq 0 0 0, acre := homeAcre slot, slot := slot, handle := 0, cls := .verify, layer := g.layers - 1, q := qMax,
    pos := cMax - qMax, append := true, ctxLo := 0, ctxHi := 0, exporting := false, fast := false, fp32Out := false, deadline := 0,
    qvec := [], rows := [], badData := false, credit := false, infSeen := false, admitted := false, started := false, kv := [],
    left := 0, parts := [], aborted := false, abortLate := false, failed := none, status := none, spoilt := false, outBlk := [], lseBlk := [],
    descSeq := 0 }

/-- The items of that entry, and T_item of each with every sheaf in Near, in ps. -/
def contractItems (s : State) (slot cMax qMax : Nat) : List (WorkItem × Nat) :=
  let e := contractEntry s slot cMax qMax
  let p := attnParams s e.acre (desc s slot).profile
  (itemsOf s e 0).map (fun i =>
    let n := ((visibleSheaves p e (e.pos + i.tok) i.toks).filter (fun k => i.lo ≤ k && k < i.hi)).length
    (i, tItem s p.g i.heads i.toks (List.replicate n .near)))

/-- W of a contract, in ps (R313). -/
def contractW (s : State) (slot cMax qMax : Nat) : Nat := (contractItems s slot cMax qMax).foldl (fun n i => n + i.2) 0

/-- The least n with m ≤ 2^n. -/
def log2up (m : Nat) : Nat := if m ≤ 1 then 0 else Nat.log2 (m - 1) + 1

/-- T_app with one new stack, T_max, T_merge and T_emit of R191 for that entry, in ps. The output is BF16 (log 69). -/
def contractFixed (s : State) (slot cMax qMax : Nat) : Nat :=
  let g := geom s (desc s slot).profile
  let items := contractItems s slot cMax qMax
  let groups := (items.map (fun i => (i.1.head, i.1.tok))).eraseDups
  let m := groups.foldl (fun m x => max m (items.filter (fun i => (i.1.head, i.1.tok) = x)).length) 0
  let app := 500000 + ceilDiv (qMax * g.heads * (g.rk + g.rv) * 1000) 83 + 2000000 + ceilDiv (g.layers * g.sheaf * 1000) 410
  let merge := 500000 + 200000 * log2up m
  let emit := 500000 + ceilDiv (qMax * g.heads * g.qpk * g.dv * 2 * 1000) (83 * max 1 groups.length)
  app + items.foldl (fun n i => max n i.2) 0 + merge + emit

/-- D of a contract in ns, with ΣW (ps) over the contracts of the Acre (R313). -/
def contractD (s : State) (slot cMax qMax sumW : Nat) : Nat :=
  ceilDiv (3000000 + 5450000 + contractFixed s slot cMax qMax + ceilDiv sumW (max 1 (furCtl s (homeAcre slot) 3 0))) 1000

/-- ΣW of the contracts on an Acre, in ps. -/
def sumW (s : State) (a : Acre) : Nat := (s.tin.contracts.get a).foldl (fun n c => n + contractW s c.slot c.cMax c.qMax) 0

/-- Every contract of an Acre meets its D_REQ when ΣW is `w`. -/
def contractsHold (s : State) (a : Acre) (w : Nat) : Bool :=
  (s.tin.contracts.get a).all (fun c => decide (contractD s c.slot c.cMax c.qMax w ≤ c.dReq))

/-- A sheaf below SPEC_HEAD is not in Near (R312). -/
def sheafAway (s : State) (slot : Nat) : Bool :=
  let d := desc s slot
  let layers := (geom s d.profile).layers
  (List.range ((d.specHead + 63) / 64)).any (fun k => match mapEntry s slot k with
    | some ⟨_, .record i⟩ => (List.range layers).any (fun l => !isRes (getObj s i) (homeAcre slot) l)
    | _ => true)

/-- The contracts of a session's home Acre that other sessions hold. -/
def otherContracts (s : State) (slot : Nat) : List Contract := (s.tin.contracts.get (homeAcre slot)).filter (fun c => c.slot ≠ slot)

def setContracts (a : Acre) (l : List Contract) (s : State) : State := { s with tin := { s.tin with contracts := s.tin.contracts.set a l } }

/-- ΣW of a session's home Acre with a contract of the session at these sizes, in ps. -/
def newSumW (s : State) (slot cMax qMax : Nat) : Nat :=
  sumW (setContracts (homeAcre slot) (otherContracts s slot) s) (homeAcre slot) + contractW s slot cMax qMax

/-- DEADLINE_SET (R312, R313): ARG0 C_MAX, ARG1 Q_MAX, ARG2 D_REQ. A session that holds a contract has it replaced (log 70). -/
def execDeadlineSet (sq cid handle cMax qMax dReq : Nat) (s : State) : Host.Outcome State Fault Refusal := running s <|
  okSettle (hostCmd sq cid .io false
    (onSession handle (.host sq cid) (fun slot st s =>
      let a := homeAcre slot
      if st = .fenced then postCqe sq cid .fenced 0 0 s
      else if st = .migrating then postCqe sq cid .busy 0 0 s
      else if s.ckp.leaving then postCqe sq cid .redirect 0 0 s
      else if qMax = 0 || 16 < qMax || cMax < qMax || 2 ^ 32 ≤ cMax then postCqe sq cid .badFormat 0 0 s
      else if liveF s .BUR_GUAR_CTRL (.acre a) 0 0 0 = 0 || furCtl s a 3 0 = 0 || 256 ≤ (otherContracts s slot).length then postCqe sq cid .quota 0 0 s
      else if !(desc s slot).pinned || sheafAway s slot then postCqe sq cid .notResident 0 0 s
      else
        let w := newSumW s slot cMax qMax
        let d := contractD s slot cMax qMax w
        if dReq < d || !contractsHold (setContracts a (otherContracts s slot) s) a w then postCqe sq cid .quota 0 0 s
        else postCqe sq cid .ok d 0 (setContracts a (otherContracts s slot ++ [{ slot := slot, cMax := cMax, qMax := qMax, dReq := dReq }]) s))) s)

/-- DEADLINE_CLEAR (R306, R312). -/
def execDeadlineClear (sq cid handle : Nat) (s : State) : Host.Outcome State Fault Refusal := running s <|
  okSettle (hostCmd sq cid .io false
    (onSession handle (.host sq cid) (fun slot st s =>
      if st = .fenced then postCqe sq cid .fenced 0 0 s
      else if st = .migrating then postCqe sq cid .busy 0 0 s
      else match contractOf s slot with
        | none => postCqe sq cid .badHandle 0 0 s
        | some _ => postCqe sq cid .ok 0 0 (endContract slot 5 s))) s)

end Sys2Proof.Machine
end

