-- ==== Sys2Proof/Machine/KltCore.lean ====
section
/-!
DEFINITION. The KLT engine's parts: settings, peers, addresses, where an operation's end is reported, class queues, paths,
packets, acknowledgements (chapters 12 and 13).
-/
namespace Sys2Proof.Machine

/-! ## Settings, connections, peers -/

def setKlt (f : KltState → KltState) (s : State) : State := { s with klt := f s.klt }
def setTsc (f : TscState → TscState) (s : State) : State := { s with tsc := f s.tsc }

def connOf (s : State) (n : Nat) : Option Conn := NMap.get? s.klt.conns n
def putConn (n : Nat) (c : Conn) (s : State) : State := setKlt (fun k => { k with conns := NMap.put k.conns n c }) s
def modConn (n : Nat) (f : Conn → Conn) (s : State) : State :=
  setKlt (fun k => { k with conns := NMap.modify k.conns n f }) s
def dropConn (n : Nat) (s : State) : State := setKlt (fun k => { k with conns := NMap.erase k.conns n }) s

/-- The Yoke that holds a connection (R372). -/
def connYoke (n : Nat) : Yoke := if n % 2 = 0 then .yw else .ye
/-- KTB at the Yoke that holds a connection. -/
def connNow (s : State) (n : Nat) : Nat := ktbOf s (.yoke (connYoke n))

/-- Peer entries in use: entry and KLT_PEER_CFG (a VALID entry differs from reset). -/
def peerEntries (s : State) : List (Nat × Word) :=
  let k0 := regKey .KLT_PEER_CFG (.yoke s.ckp.primary) 0
  (s.regs.live.filter (fun e => e.1 / 2 ^ 32 = k0 / 2 ^ 32 && bit e.2 15)).map (fun e => (e.1 % 2 ^ 32, e.2))

/-- The VALID peer entry of an endpoint. -/
def peerEntry (s : State) (ep : Nat) : Option Nat := ((peerEntries s).find? (fun e => field e.2 14 0 = ep)).map (fun e => e.1)
def peerOf (s : State) (entry : Nat) : Peer := NMap.get .unknown s.klt.peers entry
def putPeer (entry : Nat) (p : Peer) (s : State) : State :=
  setKlt (fun k => { k with peers := NMap.putD .unknown k.peers entry p }) s

/-- The connection leaves the rack: its peer has RACK = 0 (R398). -/
def wide (s : State) (c : Conn) : Bool := !bit (live s .KLT_PEER_CFG (.yoke s.ckp.primary) c.entry) 16

/-- Congestion settings of a class: TARGET_NS, AI, MD_MAX, G, INIT_CWND. -/
def ccF (s : State) (tc hi lo : Nat) : Nat := primF s .KLT_CC tc hi lo

/-! ## Local memory (R388) -/

/-- Bytes at a Shanum address: Near, Field or a Yoke page. -/
def localBytes (s : State) (addr n : Nat) : List Byte :=
  let a := Acre.ofNum (addr / 2 ^ 46)
  match bitsOf addr 51 48 with
  | 0 => nearRead s a (addr % 2 ^ 46) n
  | 1 => Cells.readN (s.klt.fieldPlain.get a) (addr % 2 ^ 46) n
  | _ => Cells.readN (s.klt.pages.get (if addr.testBit 46 then .ye else .yw)) (addr % 2 ^ 46) n

/-- A write changes a byte of the bitmap of filter `f` of an Acre (R263). -/
def fltChanges (s : State) (a : Acre) (addr : Nat) (bs : List Byte) (f : Nat) : Bool :=
  let lo := liveF s .GLN_FLT_ADDR (.acre a) f 47 0 % 2 ^ 46
  let n := (liveF s .GLN_FLT_RANGE (.acre a) f 62 32 + 7) / 8
  (List.range bs.length).any (fun i => decide (lo ≤ addr + i ∧ addr + i < lo + n) && nearRead s a (addr + i) 1 != [bs.getD i 0])

/-- Admitted queries whose filter the write changes have an undefined result set from now on (R263; log 200). -/
def filterTouch (a : Acre) (addr : Nat) (bs : List Byte) (s : State) : State :=
  { s with gln := { s.gln with batches := NMap.mapV s.gln.batches (fun _ b =>
    if b.acre ≠ a then b
    else { b with queries := b.queries.map (fun q =>
      if q.filter ≠ 0 && q.status.isNone && fltChanges s a addr bs q.filter then { q with fltMoved := true } else q) }) } }

def localPut (addr : Nat) (bs : List Byte) (s : State) : State :=
  let a := Acre.ofNum (addr / 2 ^ 46)
  match bitsOf addr 51 48 with
  | 0 => nearWrite a (addr % 2 ^ 46) bs (filterTouch a (addr % 2 ^ 46) bs s)
  | 1 => setKlt (fun k => { k with fieldPlain := k.fieldPlain.set a (Cells.writeN (k.fieldPlain.get a) (addr % 2 ^ 46) bs) }) s
  | _ =>
    let y : Yoke := if addr.testBit 46 then .ye else .yw
    setKlt (fun k => { k with pages := k.pages.set y (Cells.writeN (k.pages.get y) (addr % 2 ^ 46) bs) }) s

/-- The raw frame at a Field address; a frame nothing has written reads as zeros under a zero tag, as Stage 2 left it. -/
def rawFrame (s : State) (addr : Nat) : RawFrame :=
  NMap.get ⟨List.replicate 4096 0, List.replicate 16 0⟩ (s.tier.lentFrames.get (Acre.ofNum (addr / 2 ^ 46))) (addr % 2 ^ 46 / 4096)

def putRaw (addr : Nat) (f : RawFrame) (s : State) : State :=
  let a := Acre.ofNum (addr / 2 ^ 46)
  { s with tier := { s.tier with
    lentFrames := s.tier.lentFrames.set a (NMap.put (s.tier.lentFrames.get a) (addr % 2 ^ 46 / 4096) f) } }

/-! ## Ends of operations -/

def pwqOf (s : State) (q : Nat) : Option Pwq := NMap.get? s.klt.pwqs q
def putPwq (q : Nat) (p : Pwq) (s : State) : State := setKlt (fun k => { k with pwqs := NMap.put k.pwqs q p }) s

/-- Status of a multicast all of whose entries have completed (R393). -/
def mcastStatus (m : NMap (Nat × Option Status)) : Status :=
  let bad := (NMap.vals m).filterMap (fun e => e.2)
  if bad.isEmpty then .ok else if bad.length < m.length then .partialOk else bad.headD .ok

/-- An operation has ended: its owner learns of it. -/
def kltEnd (src : KltSrc) (st : Status) (s : State) : State :=
  match src with
  | .tine slot tag => asyncEnd slot tag 6 (BitVec.ofNat 64 st.code) (if st = .aborted then freeOuts slot tag s else s)
  | .pwq q idx =>
    match pwqOf s q with
    | none => s
    | some p => putPwq q { p with inflight := NMap.modify p.inflight idx (fun r => { r with status := some st }) } s
  | .mcast q idx d =>
    match pwqOf s q with
    | none => s
    | some p =>
      let upd := fun (r : PwqReq) =>
        let m := NMap.modify r.mcast d (fun e => (e.1 - 1, if e.2.isSome || st = .ok then e.2 else some st))
        { r with mcast := m, status := if (NMap.vals m).all (fun e => e.1 = 0) then some (mcastStatus m) else none }
      putPwq q { p with inflight := NMap.modify p.inflight idx upd } s
  | .drain _ _ | .migration _ _ | .transfer _ _ _ => setKlt (fun k => { k with ended := k.ended ++ [(src, st)] }) s
  | .rsp _ | .shard _ | .trace _ | .device | .dropped => s

/-! ## Class queues (R402) -/

def portOf (s : State) (p : Nat) : EgressPort := NMap.get .empty s.tsc.ports p
def putPort (p : Nat) (x : EgressPort) (s : State) : State := setTsc (fun t => { t with ports := NMap.put t.ports p x }) s
def portYoke (p : Nat) : Yoke := if p < 4 then .yw else .ye
def portQ (x : EgressPort) (c : Nat) : List QPkt := NMap.get [] x.queues c

/-- Length of a class's queue, in packets. -/
def qLen (s : State) (c : Nat) : Nat := 8 * primF s .TSC_QLEN 0 (8 * c + 7) (8 * c)

def upPorts (s : State) : List Nat := (List.range 8).filter (fun p => (portOf s p).up)

/-- Wire bytes of a packet by its payload (R369, R405). -/
def wireBytes (payload : Nat) : Nat := payload + 134

def queuePkt (p c : Nat) (q : QPkt) (s : State) : State :=
  let x := portOf s p
  putPort p { x with queues := NMap.put x.queues c (portQ x c ++ [q]) } s

/-- A TC7 packet on a port that is up, any of them (log 71). An ACK without NAK replaces a queued one of its connection, a
heartbeat one to the same peer; the others wait behind a full queue (R402). -/
def sendTc7 (conn peer payload : Nat) (pkt : WirePkt) (s : State) : State :=
  let ports := upPorts s
  match ports[freeBelow ports.length s]? with
  | none => drew s
  | some p =>
    let s := drew s
    let q : QPkt := { pkt := pkt, conn := conn, psn := none, wire := wireBytes payload, at_ := ktbOf s (.yoke (portYoke p)),
                      e := freeBelow 256 s, peer := peer }
    let s := drew s
    let same : QPkt → Bool := fun o =>
      match o.pkt, pkt with
      | .ack a, .ack b => decide (o.conn = conn) && a.nak.isNone && b.nak.isNone
      | .heartbeat a _, .heartbeat b _ => decide (a = b)
      | _, _ => false
    let x := portOf s p
    if (portQ x 7).any same then
      putPort p { x with queues := NMap.put x.queues 7 ((portQ x 7).map (fun o => if same o then { q with at_ := o.at_ } else o)) } s
    else queuePkt p 7 q s

/-! ## Paths (R384) -/

def suspect (c : Conn) (p : Path) : Bool := (NMap.get? c.suspect (p.port * 256 + p.e)).isSome

/-- The next path of the rotation on which a class-`c` packet finds a slot, skipping suspect paths unless every path is
suspect, and the path `last` when another will do. -/
def nextPath (s : State) (c : Conn) (last : Option Path) : Option Path :=
  let all := (List.range (8 * c.entropy)).map (fun i => (⟨(c.nextPort + i) % 8, (c.nextE + i) % c.entropy⟩ : Path))
  let up := all.filter (fun p => (portOf s p.port).up)
  let fit := up.filter (fun p => decide ((portQ (portOf s p.port) c.tc).length < qLen s c.tc))
  let ok := if up.all (suspect c) then fit else fit.filter (fun p => !suspect c p)
  match ok.find? (fun p => some p ≠ last) with
  | some p => some p
  | none => ok.head?

/-- The rotation goes on from the path taken. -/
def Conn.rotate (c : Conn) (p : Path) : Conn := { c with nextPort := (p.port + 1) % 8, nextE := (p.e + 1) % c.entropy }

/-! ## Sending (R377, R394) -/

/-- Packets of an operation (R371, R380). -/
def opPackets : KltOp → Nat
  | .write _ _ d _ => (d.length + 4095) / 4096
  | .frameWrite _ _ f _ => f.length
  | .read _ _ _ _ => 1
  | .frameRead _ _ _ _ => 1
  | .member _ _ _ => 0

/-- The opcodes of the frame operations (R398). -/
def KltOp.isFrame : KltOp → Bool
  | .frameWrite _ _ _ _ => true
  | .frameRead _ _ _ _ => true
  | _ => false

/-- The packet `idx` of an operation, or one unit of a read asked for again: header and payload, TS_TX still open. -/
def opPacket (s : State) (c : Conn) (o : SndOp) (psn idx : Nat) (again retx : Bool) : KHdr × List Byte × List Byte :=
  let h : KHdr := { ver := c.ver, opc := 0, first := idx = 0, last := idx + 1 = o.count, db := false, retx := retx,
                    ackNow := false, tc := c.tc, dconn := c.peerNum, cgen := c.peerGen, psn := psn, msn := o.msn, addr := 0, key := 0,
                    plen := 0, sep := s.sec.deviceId, tsTx := 0, moff := 4096 * idx, mlen := 0, ce := false }
  match o.op with
  | .write addr key d db =>
    let part := (d.drop (4096 * idx)).take 4096
    ({ h with opc := 1, db := db && h.last, addr := addr + 4096 * idx, key := key, plen := part.length, mlen := d.length }, part, [])
  | .frameWrite addr key f db =>
    let x := f.getD idx ([], [])
    ({ h with opc := 2, db := db && h.last, addr := addr + 4096 * idx, key := key, plen := 4112, mlen := 4096 * f.length }, x.1, x.2)
  | .read addr key len _ =>
    if again then ({ h with opc := 3, first := true, last := true, retx := true, addr := addr + idx, key := key, moff := idx,
                            mlen := min 4096 (len - idx) }, [], [])
    else ({ h with opc := 3, addr := addr, key := key, moff := 0, mlen := len }, [], [])
  | .frameRead addr key len _ =>
    if again then ({ h with opc := 4, first := true, last := true, retx := true, addr := addr + idx, key := key, moff := idx,
                            mlen := 4096 }, [], [])
    else ({ h with opc := 4, addr := addr, key := key, moff := 0, mlen := len }, [], [])
  | .member _ _ _ => (h, [], [])

/-- Packets sent and neither acknowledged nor known lost. -/
def inFlight (c : Conn) : Nat := ((NMap.vals c.inflight).filter (fun p => !p.sacked && !p.lost)).length

/-- The window admits a new packet (R394): fewer in flight than ⌊CWND⌋ and the peer's receive window; below one packet, the
spacing of SRTT ÷ CWND. -/
def windowOpen (s : State) (n : Nat) (c : Conn) : Bool :=
  let room := decide ((c.nextPsn + 2 ^ 32 - c.acked) % 2 ^ 32 < c.peerRwin)
  if c.cwnd < 256 then
    room && inFlight c = 0 && decide (c.lastSend + c.srtt.getD 0 * 256 / max c.cwnd 1 ≤ connNow s n)
  else room && decide (inFlight c < c.cwnd / 256)

/-- Put a packet of a connection into the class queue of a path. -/
def enqueueData (n : Nat) (c : Conn) (p : Path) (psn : Option Nat) (h : KHdr) (payload tag : List Byte) (s : State) : State :=
  queuePkt p.port c.tc
    { pkt := .data h payload tag, conn := n, psn := psn, wire := wireBytes (payload.length + tag.length),
      at_ := ktbOf s (.yoke (portYoke p.port)), e := p.e, peer := c.entry } s

/-- Every queue of the connection's class is full: the wait is counted once, at the port whose turn it is (R402). -/
def stallConn (n : Nat) (c : Conn) (s : State) : State :=
  if c.stalled then s
  else
    let p := c.nextPort % 8
    putConn n { c with stalled := true } (bumpF .TSC_QCOUNT (.yoke (portYoke p)) (p % 4 + 4 * c.tc) 31 0 1 s)

/-- Send one lost packet of a connection again (R387); a unit asked for again is a new PSN, which the window must admit (R380, R394). -/
def resendOne (n : Nat) (s : State) : Option State :=
  match connOf s n with
  | none => none
  | some c =>
    match c.inflight.find? (fun e => e.2.lost && (decide (0 < e.2.sends) || windowOpen s n c)) with
    | none => none
    | some (psn, p) =>
      match c.ops.find? (fun o => o.msn = p.msn), nextPath s c (some p.path) with
      | some o, some path =>
        let (h, d, t) := opPacket s c o psn p.idx p.again true
        let c := { c.rotate path with
          inflight := NMap.put c.inflight psn { p with path := path, sentAt := none, sends := p.sends + 1, lost := false }
          retx := min (c.retx + 1) (2 ^ 32 - 1), stalled := false, lastSend := if p.sends = 0 then connNow s n else c.lastSend }
        some (enqueueData n c path (some psn) h d t (putConn n c s))
      | none, _ => some (putConn n { c with inflight := NMap.erase c.inflight psn } s)
      | some _, none => none

/-- Send the next packet of the first operation not wholly sent. -/
def sendOne (n : Nat) (s : State) : Option State :=
  match connOf s n with
  | none => none
  | some c =>
    match c.ops.find? (fun o => o.sent < o.count && !o.cut) with
    | none => none
    | some o =>
      if !windowOpen s n c then none
      else match nextPath s c none with
        | none => none
        | some path =>
          let psn := c.nextPsn
          let (h, d, t) := opPacket s c o psn o.sent false false
          let first := if o.sent = 0 then psn else o.first
          let c := { c.rotate path with
            nextPsn := (psn + 1) % 2 ^ 32, lastSend := connNow s n, stalled := false
            inflight := NMap.put c.inflight psn { msn := o.msn, idx := o.sent, again := false, path := path, sentAt := none,
                                                  sends := 1, sacked := false, lost := false }
            ops := c.ops.map (fun x => if x.msn = o.msn then { x with sent := x.sent + 1, first := first } else x) }
          some (enqueueData n c path (some psn) h d t (putConn n c s))

/-- Send the next read response of a connection, under its window (R380, R397). -/
def respondOne (n : Nat) (s : State) : Option State :=
  match connOf s n with
  | none => none
  | some c =>
    match c.rsps with
    | [] => none
    | r :: rest =>
      if c.cwnd ≥ 256 && !decide (inFlight c < c.cwnd / 256) then none
      else match nextPath s c none with
        | none => none
        | some path =>
          let h : KHdr := { ver := c.ver, opc := if r.tag.isEmpty then 5 else 6, first := false, last := false, db := false,
                            retx := false, ackNow := false, tc := c.tc, dconn := c.peerNum, cgen := c.peerGen, psn := 0, msn := r.msn, addr := 0,
                            key := 0, plen := r.data.length + r.tag.length, sep := s.sec.deviceId, tsTx := 0, moff := r.moff, mlen := 0, ce := false }
          let y := connYoke n
          let s := setKlt (fun k => { k with staging := k.staging.set y (k.staging.get y - r.data.length) }) s
          let c := { c.rotate path with rsps := rest, stalled := false }
          some (enqueueData n c path none h r.data r.tag (putConn n c s))

/-- Send what the window and the queues admit: lost packets first, then responses, then new packets. -/
def pumpConn (n : Nat) : Nat → State → State
  | 0, s => s
  | fuel + 1, s =>
    match resendOne n s with
    | some s => pumpConn n fuel s
    | none =>
      match respondOne n s with
      | some s => pumpConn n fuel s
      | none =>
        match sendOne n s with
        | some s => pumpConn n fuel s
        | none =>
          match connOf s n with
          | none => s
          | some c =>
            let more := !c.rsps.isEmpty || c.inflight.any (fun e => e.2.lost && (decide (0 < e.2.sends) || windowOpen s n c)) ||
              (c.ops.any (fun o => o.sent < o.count && !o.cut) && windowOpen s n c)
            if more && (nextPath s c none).isNone then stallConn n c s else s

/-- A connection takes an operation (R374, R392, R398), or the operation ends at once. -/
def takeReq (r : KltReq) (s : State) : State :=
  match r.op with
  | .member g ord d =>
    match NMap.get? s.klt.mcl (g % 256 * 64 + ord) with
    | none => s
    | some e =>
      let off := freeBelow (2 ^ 24) s
      let s := drew s
      let pi := freeBelow (2 ^ 64) s
      let s := drew s
      setKlt (fun k => { k with reqs :=
        { r with conn := e.conn, op := .write (e.base + off) e.key d false } ::
        { r with conn := e.conn, op := .write e.dbAddr e.key (leBytes 8 pi) true } :: k.reqs }) s
  | op =>
    match connOf s r.conn with
    | none => kltEnd r.src .access s
    | some c =>
      if c.st = .closing then kltEnd r.src .aborted s
      else if c.st ≠ .open_ then kltEnd r.src .access s
      else if wide s c && !op.isFrame then kltEnd r.src .access s
      else
        let o : SndOp := { msn := c.nextMsn, op := op, src := r.src, first := 0, count := opPackets op, sent := 0, cut := false, nak := none,
                           reading := (match op with
                             | .read _ _ _ _ => true
                             | .frameRead _ _ _ _ => true
                             | _ => false), units := [], lastRsp := 0, bad := none, done := false }
        putConn r.conn { c with nextMsn := (c.nextMsn + 1) % 2 ^ 32, ops := c.ops ++ [o] } s

/-- Hand every waiting operation to its connection. -/
def takeReqs : Nat → State → State
  | 0, s => s
  | fuel + 1, s =>
    match s.klt.reqs with
    | [] => s
    | r :: rest => takeReqs fuel (takeReq r (setKlt (fun k => { k with reqs := rest }) s))

/-- The engines go on: operations are taken, and every connection sends what it may. -/
def kltPump (s : State) : State :=
  let s := takeReqs (3 * s.klt.reqs.length) s
  (NMap.keys s.klt.conns).foldl (fun s n => pumpConn n 8192 s) s

/-! ## Acknowledgements (R385, R386) -/

/-- SACK bits of a connection. -/
def sackOf (c : Conn) : Nat :=
  (List.range 256).foldl (fun v k => if (NMap.get? c.got ((c.frontier + 1 + k) % 2 ^ 32)).isSome then v + 2 ^ k else v) 0

/-- Hand an ACK of a connection to a port. -/
def sendAck (n : Nat) (nak : Option (Nat × Nat)) (s : State) : State :=
  match connOf s n with
  | none => s
  | some c =>
    let now := connNow s n
    let a : KAck := { tc := c.tc, dconn := c.peerNum, cgen := c.peerGen, frontier := c.frontier, nak := nak,
                      ceCount := c.ceCount % 2 ^ 24, tsEcho := c.tsEcho, ackDelay := (now - c.tsAt) % 2 ^ 32, sep := s.sec.deviceId,
                      sack := sackOf c }
    sendTc7 n c.entry 16 (.ack a) (putConn n { c with arrivals := 0, firstArrival := none } s)

/-! ## Results of commands (R399) -/

/-- KLT_CMD_RESULT (R399). -/
def kltResult (y : Yoke) (st : Status) (value : Nat) (s : State) : State :=
  setLive .KLT_CMD_RESULT (.yoke y) 0 (BitVec.ofNat 64 (st.code + 2 ^ 8 + value * 2 ^ 32)) s

/-- A command waiting for its result gets it. -/
def cmdDone (op arg : Nat) (st : Status) (value : Nat) (s : State) : State :=
  match s.klt.cmds.find? (fun c => c.2.1 = op && c.2.2 = arg) with
  | none => s
  | some c => kltResult c.1 st value (setKlt (fun k => { k with cmds := k.cmds.filter (fun x => x ≠ c) }) s)

/-! ## Failure (R375) -/

/-- A connection fails: its operations end, its held doorbells never fire, and a CONN_OPEN that waits for it ends. -/
def failConn (n : Nat) (st : Status) (s : State) : State :=
  match connOf s n with
  | none => s
  | some c =>
    if c.st = .failed then s
    else
      let y := connYoke n
      let held := (c.rsps.map (fun r => r.data.length)).foldl (· + ·) 0
      let s := setKlt (fun k => { k with staging := k.staging.set y (k.staging.get y - held) }) s
      let s := putConn n { c with st := .failed, ops := [], inflight := [], rsps := [], got := [] } s
      let s := setTsc (fun t => { t with ports := NMap.mapV t.ports (fun _ p =>
        let queues := NMap.mapV p.queues (fun _ q => q.filter (fun x => !(x.conn == n && x.psn.isSome)))
        { p with queues := queues, deficit := p.deficit.filter (fun e => !(NMap.get [] queues e.1).isEmpty) }) }) s
      cmdDone 1 n st 0 (c.ops.foldl (fun s o => kltEnd o.src st s) s)

end Sys2Proof.Machine
end

