-- ==== Sys2Proof/Machine/Klt.lean ====
section
/-!
DEFINITION. The commands of the KLT transport: placement, reads, acknowledgement, loss, connections, heartbeats, regions,
posted work queues (chapter 12).
-/
namespace Sys2Proof.Machine

/-! ## Placement (R377 to R379, R388, R398, R401) -/

/-- Offset of a PSN above another, modulo 2³² (R370). -/
def psnAbove (p base : Nat) : Nat := (p + 2 ^ 32 - base) % 2 ^ 32

/-- A request queue: its kind and number. -/
inductive QRef where
  | arq (n : Nat)
  | tkq (n : Nat)
  | srq (n : Nat)
  | pwq (n : Nat)
  deriving DecidableEq, Repr

/-- The queue whose control page or ring holds a Near address, and the offset from its control page (R172, R390). -/
def queueAt (s : State) (addr : Nat) : Option (QRef × Nat) :=
  let a := Acre.ofNum (addr / 2 ^ 46)
  let off := addr % 2 ^ 46
  if bitsOf addr 51 48 ≠ 0 then none
  else
    let hit := fun (c : RingCfg) => c.enable && decide (c.base % 2 ^ 46 ≤ off) && decide (off < c.base % 2 ^ 46 + 4096 + c.size)
    let at_ := fun (c : RingCfg) => off - c.base % 2 ^ 46
    match (List.range 64).find? (fun i => hit (arqCfg s (64 * a.num + i))) with
    | some i => some (.arq (64 * a.num + i), at_ (arqCfg s (64 * a.num + i)))
    | none =>
      match (List.range 64).find? (fun i => hit (tkqCfg s (64 * a.num + i))) with
      | some i => some (.tkq (64 * a.num + i), at_ (tkqCfg s (64 * a.num + i)))
      | none =>
        match (List.range 16).find? (fun i => hit (srqCfg s (16 * a.num + i))) with
        | some i => some (.srq (16 * a.num + i), at_ (srqCfg s (16 * a.num + i)))
        | none =>
          (s.klt.pwqs.find? (fun e => e.2.acre = a.num && hit ⟨e.2.base, e.2.size, true⟩)).map
            (fun e => (.pwq e.1, off - e.2.base % 2 ^ 46))

/-- The classes a target admits (R401); a QUEUE region that covers no queue admits none (log 72). -/
def classOk (s : State) (r : Region) (addr tc : Nat) : Bool :=
  match r.kind with
  | .inbox => tc = 4 || tc = 0
  | .frame => decide (2 ≤ tc) && decide (tc ≤ 6)
  | .plain =>
    match r.dbk with
    | 1 =>
      match queueAt s addr with
      | some (.arq _, _) => tc = 6
      | some (.tkq _, _) => tc = 6
      | some (.srq _, _) => tc = 5
      | some (.pwq _, _) => decide (tc ≤ 6)
      | none => false
    | 3 => tc = 6
    | 4 => tc = 5
    | _ => decide (tc ≤ 6)

/-- The inbox a write of `n` bytes at an INBOX address falls into: step 7 of R377 (R83, R388). -/
def inboxCheck (s : State) (r : Region) (addr n : Nat) : Option Status :=
  let handle := addr / 2 ^ 32
  let slot := slotOf handle
  match handleCheck s handle with
  | some st => some st
  | none => if (desc s slot).principal ≠ r.principal || inboxSize s slot < addr % 2 ^ 32 + n then some .access else none

/-- Steps 4 to 7 of R377 for a packet: the region, or the refusal. -/
def regionCheck (s : State) (c : Conn) (h : KHdr) (n : Nat) : Except Status (Nat × Region) :=
  let i := h.key / 2 ^ 16
  match NMap.get? s.klt.regions i with
  | none => .error .access
  | some r =>
    let tag := h.key % 2 ^ 16
    if r.st = .revoking || some tag = r.revTag then .error .revoked
    else if r.st ≠ .valid || tag ≠ r.tag then .error .access
    else
      let isFrame := h.opc = 2 || h.opc = 4
      let isWrite := h.opc = 1 || h.opc = 2
      let kindOk := match r.kind with
        | .plain => !isFrame
        | .frame => isFrame
        | .inbox => h.opc = 1
      let allowed := if isWrite then r.canWrite else r.canRead
      let peerOk := match r.peer with
        | some p => p = h.sep
        | none => (peerEntry s h.sep).isSome
      let dbOk := !h.db || (r.canDb && r.dbk ≠ 0 && (if isFrame then r.dbk = 6 else r.dbk ≠ 6))
      if !kindOk || !allowed || !peerOk || !dbOk || !classOk s r h.addr h.tc || (wide s c && !isFrame) then .error .access
      else if r.kind ≠ .inbox && (h.addr < r.base || r.base + r.len < h.addr + n || h.addr / 2 ^ 52 ≠ 0 ||
          (isFrame && (h.addr % 4096 ≠ 0 || n % 4096 ≠ 0))) then .error .access
      else if r.kind = .inbox then
        match inboxCheck s r h.addr n with
        | some st => .error st
        | none => .ok (i, r)
      else .ok (i, r)

/-- A Fallow page: a PLAIN region of 4 KiB with DBK NOTIFY (R531; log 73). -/
def fallowPage (s : State) (key : Nat) : Bool :=
  match NMap.get? s.klt.regions (key / 2 ^ 16) with
  | some r => r.kind = .plain && r.len = 4096 && r.dbk = 5 && r.tag = key % 2 ^ 16
  | none => false

/-- A doorbell of the INBOX kind: INBOX_WR becomes the offset at which the write ends; the event or the wake follows; a
MIGRATING session's is also forwarded (R69, R71, R284, R379). -/
def inboxDoorbell (addr : Nat) (bs : List Byte) (s : State) : State :=
  let handle := addr / 2 ^ 32
  let slot := slotOf handle
  if (handleCheck s handle).isSome then s
  else
    let size := inboxSize s slot
    let s := commitDesc slot (fun d => { d with inboxWr := (addr % 2 ^ 32 + bs.length) % size }) s
    let d := desc s slot
    if d.state = .migrating then emit (.forward d.migDevice d.migHandle (addr % 2 ^ 32) bs) s
    else if d.state.parked || d.state = .dormant then
      if d.wakeDoorbell then fireWake slot .doorbell s
      else raiseEvent slot d.imageId 5 (BitVec.ofNat 64 d.inboxWr) 0 s
    else s

/-- Records that have come into a reply ring: each counts as landed (R274, R275). The producer count came with the doorbell. -/
def replyRecords (a : Acre) (ord base size pos end_ : Nat) : Nat → State → State
  | 0, s => s
  | fuel + 1, s =>
    if end_ ≤ pos then s
    else
      let len := leNat (nearRead s a (base + pos % size) 4)
      if len = 0 then s
      else
        let rec_ := nearRead s a (base + pos % size) len
        let pad := ((rec_.drop 17).head?.getD 0).getLsbD 7
        replyRecords a ord base size (pos + len) end_ fuel (if pad then s else shardLand a ord rec_ s)

/-- A doorbell of the REPLY kind: DB_ARG names the group, the peer endpoint the member (log 74). -/
def replyDoorbell (a : Acre) (group peer pi : Nat) (s : State) : State :=
  match (groupMembers s a group).find? (fun m => m.2 = peer) with
  | none => s
  | some (ord, _) =>
    let size := 2 ^ liveF s .GLN_GRP_CFG (.acre a) group 36 32
    let base := liveF s .GLN_GRP_REPLY (.acre a) group 47 0 + ord * size
    let key := (a.num * 2 ^ 8 + group) * 64 + ord
    let from_ := NMap.get 0 s.gln.replyAt key
    replyRecords a ord base size from_ pi (size / 64 + 1)
      { s with gln := { s.gln with replyAt := NMap.put s.gln.replyAt key pi } }

/-- The doorbell of a QUEUE region (R379): offset 0 notifies the queue of its producer count. -/
def queueDoorbell (addr : Nat) (bs : List Byte) (s : State) : State :=
  let pi := leNat (bs.take 8)
  match queueAt s addr with
  | some (.arq n, 0) => arqDoorbell n pi s
  | some (.tkq n, 0) => tkqDoorbell n pi s
  | some (.srq n, 0) => srqDoorbell n pi s
  | some (.pwq n, 0) =>
    match pwqOf s n with
    | some p => if pi ≤ p.pi || p.size < pi - p.ci then s else putPwq n { p with pi := pi } s
    | none => s
  | some (.arq n, 128) => arqAbort n (BitVec.ofNat 64 pi) s
  | some (.srq n, 128) => srqAbort n (BitVec.ofNat 64 pi) s
  | _ => s

/-- A doorbell fires at its completion point (R379). -/
def fireDoorbell (peer idx addr : Nat) (bs : List Byte) (s : State) : State :=
  match NMap.get? s.klt.regions idx with
  | none => s
  | some r =>
    match r.kind, r.dbk with
    | .plain, 1 => queueDoorbell addr bs s
    | .inbox, 2 => inboxDoorbell addr bs s
    | .plain, 4 => replyDoorbell (Acre.ofNum (addr / 2 ^ 46)) r.dbArg peer (leNat (bs.take 8)) s
    | _, 5 => if synKind s r.dbArg = .cctr && synAccess s r.dbArg r.principal then addOne r.dbArg s else s
    | _, _ => s

/-- FRONTIER passes every PSN that is placed or refused, firing doorbells in PSN order; a read at FRONTIER is checked
(R377 steps 4 to 7), and holds FRONTIER until it is executed (R378 to R380). -/
def frontierOn (n : Nat) : Nat → State → State
  | 0, s => s
  | fuel + 1, s =>
    match connOf s n with
    | none => s
    | some c =>
      match NMap.get? c.got c.frontier with
      | none => s
      | some p =>
        let next := { c with got := NMap.erase c.got c.frontier, frontier := (c.frontier + 1) % 2 ^ 32 }
        match p.refused with
        | some st =>
          let counts := st ≠ .wakeDeferred
          frontierOn n fuel (putConn n { next with refusedSinceDb := if p.isDb then false else c.refusedSinceDb || counts } s)
        | none =>
          match p.read with
          | some (h, _) =>
            if p.validated.isSome then s
            else match regionCheck s c h h.mlen with
              | .ok (i, _) => putConn n { c with got := NMap.put c.got c.frontier { p with validated := some i } } s
              | .error st =>
                let s := bumpF .KLT_DROPS (.yoke (connYoke n)) 0 63 48 1 s
                let s := putConn n { next with refusedSinceDb := true } s
                frontierOn n fuel (sendAck n (some (c.frontier, st.code)) s)
          | none =>
            if p.isDb then
              let s := putConn n { next with refusedSinceDb := false } s
              frontierOn n fuel (match p.db with
                | some (i, addr, bs) => if c.refusedSinceDb then s else fireDoorbell c.peer i addr bs s
                | none => s)
            else frontierOn n fuel (putConn n next s)

/-- Gaps: runs of missing PSNs, each of which ends below a PSN received (R386). -/
def gaps (c : Conn) : Nat :=
  (c.got.filter (fun e => e.1 ≠ c.frontier && (NMap.get? c.got ((e.1 + 2 ^ 32 - 1) % 2 ^ 32)).isNone)).length

/-- A sequenced packet's steps 1 to 3 of R377: dropped with the state that leaves, or taken by its connection. -/
def rcvCheck (h : KHdr) (s : State) : State ⊕ (Nat × Conn) :=
  let n := h.dconn
  let y := Die.yoke (connYoke n)
  match connOf s n with
  | none => .inl (bumpF .KLT_DROPS y 0 31 16 1 s)
  | some c =>
    if c.st ≠ .open_ && c.st ≠ .closing || NMap.get 0 s.klt.cgens n ≠ h.cgen || c.peer ≠ h.sep || c.tc ≠ h.tc then
      .inl (bumpF .KLT_DROPS y 0 31 16 1 s)
    else
      let c := if h.ce then { c with ceCount := c.ceCount + 1 } else c
      let off := psnAbove h.psn c.frontier
      if 2 ^ 31 ≤ off || (off < c.rwin && (NMap.get? c.got h.psn).isSome) then
        .inl (sendAck n none (bumpF .KLT_DROPS y 0 47 32 1 (putConn n c s)))
      else if c.rwin ≤ off then .inl (if h.ce then sendAck n none (putConn n c s) else putConn n c s)
      else .inr (n, c)

/-- A packet taken: it stands at its PSN, FRONTIER advances, and an ACK goes as R386 says. A refusal is reported at once by a NAK
of its own (R385). -/
def rcvTake (n : Nat) (c : Conn) (h : KHdr) (p : RcvPkt) (s : State) : State :=
  let now := connNow s n
  let before := gaps c
  let c := { c with got := NMap.put c.got h.psn p, arrivals := c.arrivals + 1, firstArrival := some (c.firstArrival.getD now),
                    tsEcho := h.tsTx, tsAt := now,
                    msnHigh := (match c.msnHigh with
                      | none => some h.msn
                      | some m => if psnAbove h.msn m < 2 ^ 31 then some h.msn else some m) }
  let s := frontierOn n (c.got.length + 1) (putConn n c s)
  match p.refused, connOf s n with
  | _, none => s
  | some st, some _ => sendAck n (some (h.psn, st.code)) (bumpF .KLT_DROPS (.yoke (connYoke n)) 0 63 48 1 s)
  | none, some c' =>
    if gaps c' ≠ before || h.ce || h.db || h.ackNow || primF s .KLT_CTRL 0 59 52 ≤ c'.arrivals then sendAck n none s else s

/-- Whether the package is in FALLOW or WAKING, or the packet's message was begun there: refused ST_WAKE_DEFERRED in place
of step 4 (R537); otherwise, in PREPARING, the packet cancels the agreement (R535, R536). -/
def wakeGate (n : Nat) (c : Conn) (h : KHdr) (s : State) : Bool × State :=
  if fallowPage s h.key then (false, s)
  else if deferring s then (true, countDeferred (startWake s))
  else
    let _ := n
    match c.msnW with
    | some m => if 2 ^ 31 ≤ psnAbove h.msn m || h.msn = m then (true, s) else (false, cancelAgreement s)
    | none => (false, cancelAgreement s)

def plainPkt (st : Option Status) : RcvPkt := ⟨st, none, false, none, none⟩

/-- A packet placed in region `i`. -/
def placedPkt (h : KHdr) (i : Nat) (bytes : List Byte) : RcvPkt :=
  { refused := none, db := if h.db then some (i, h.addr, bytes) else none, isDb := h.db, read := none, validated := none }

/-- Place the payload of a WRITE: an inbox record in the Drawer of its session, other bytes at their address (R377, R388). -/
def placeWrite (h : KHdr) (data : List Byte) (r : Region) (s : State) : Except Status State :=
  if r.kind = .inbox then drawerWrite (slotOf (h.addr / 2 ^ 32)) (inboxOff s (slotOf (h.addr / 2 ^ 32)) + h.addr % 2 ^ 32) data s
  else .ok (localPut h.addr data s)

/-- A WRITE or FRAME_WRITE packet: `place` writes its payload, or refuses it. -/
def rcvWrite (h : KHdr) (len : Nat) (bytes : List Byte) (place : Nat → Region → State → Except Status State) (s : State) : State :=
  match rcvCheck h s with
  | .inl s => s
  | .inr (n, c) =>
    let (deferred, s) := wakeGate n c h s
    let refuse := fun (st : Status) (s : State) => rcvTake n c h { plainPkt (some st) with isDb := h.db } s
    if deferred then refuse .wakeDeferred s
    else match regionCheck s c h len with
      | .error st => refuse st s
      | .ok (i, r) =>
        match place i r s with
        | .error st => refuse st s
        | .ok s => rcvTake n c h (placedPkt h i bytes) s

/-- KLT_WRITE (R377 to R379): a WRITE packet is checked and placed, FRONTIER advances, and doorbells fire. -/
def execKltWrite (h : KHdr) (data : List Byte) (s : State) : Host.Outcome State Fault Refusal := running s <|
  let h := { h with opc := 1 }
  okSettle (rcvWrite h data.length data (fun _ r s => placeWrite h data r s) s)

/-- FRAME_WRITE (R381, R398): a raw frame and its tag are placed in a FRAME region. -/
def execFrameWrite (h : KHdr) (frame tag : List Byte) (s : State) : Host.Outcome State Fault Refusal := running s <|
  let h := { h with opc := 2 }
  okSettle (rcvWrite h 4096 frame (fun _ _ s => .ok (putRaw h.addr ⟨frame, tag⟩ s)) s)

/-- A read request that waits for FRONTIER. -/
def readPkt (h : KHdr) (frames : Bool) : RcvPkt := { refused := none, db := none, isDb := false, read := some (h, frames), validated := none }

/-- A read request packet (R377 steps 1 to 3; R380): it waits for FRONTIER. -/
def rcvRead (h : KHdr) (frames : Bool) (s : State) : State :=
  match rcvCheck h s with
  | .inl s => s
  | .inr (n, c) =>
    let (deferred, s) := wakeGate n c h s
    if deferred then rcvTake n c h (plainPkt (some .wakeDeferred)) s
    else rcvTake n c h (readPkt h frames) s

/-- READ_REQ (R380). -/
def execReadReq (h : KHdr) (s : State) : Host.Outcome State Fault Refusal := running s <|
  okSettle (rcvRead { h with opc := 3 } false s)

/-- FRAME_READ_REQ (R380, R381). -/
def execFrameReadReq (h : KHdr) (s : State) : Host.Outcome State Fault Refusal := running s <|
  okSettle (rcvRead { h with opc := 4 } true s)

/-- Lend windows whose region has drained are FREE again, and their plots return to the lender (R130, R132). -/
def lendSweep (s : State) : State :=
  s.tier.lend.foldl (fun s w =>
    let drained := match w.2.key with
      | none => true
      | some k => (match NMap.get? s.klt.regions (k / 2 ^ 16) with
        | some r => r.st ≠ .revoking || r.tag ≠ k % 2 ^ 16
        | none => true)
    if w.2.st = .revoking && drained then
      let n := w.2.plots * 16
      let s := { s with tier := { s.tier with
        lend := NMap.erase s.tier.lend w.1,
        lentFrames := s.tier.lentFrames.set w.2.acre ((s.tier.lentFrames.get w.2.acre).filter (fun e =>
          e.1 < w.2.basePlot * 16 || w.2.basePlot * 16 + n ≤ e.1)) } }
      giveField w.2.acre (w.2.basePlot * 16) n s
    else s) s

/-- A revoked region has drained: REV_TAG = TAG, the region is FREE, and REG_REVOKE completes (R389 steps 4 and 5). -/
def revokeDrained (i : Nat) (s : State) : State :=
  match NMap.get? s.klt.regions i with
  | none => s
  | some r =>
    let busy := (NMap.vals s.klt.conns).any (fun c => c.got.any (fun e => e.2.validated = some i))
    if r.st ≠ .revoking || busy then s
    else
      let s := lendSweep (setKlt (fun k => { k with regions := NMap.put k.regions i { r with st := .free, revTag := some r.tag } }) s)
      match s.klt.cmds.find? (fun c => c.2.1 = 4 && c.2.2 = i) with
      | none => s
      | some c => kltResult c.1 .ok 0 (setKlt (fun k => { k with cmds := k.cmds.filter (fun x => x ≠ c) }) s)

/-- Revoke a lend window (R130, R132, R389): its region is REVOKING at once. -/
def revokeWindow (w : Nat) (s : State) : State :=
  match NMap.get? s.tier.lend w with
  | none => s
  | some x =>
    if x.st ≠ .active then s
    else
      let s := { s with tier := { s.tier with lend := NMap.put s.tier.lend w { x with st := .revoking } } }
      match x.key with
      | none => lendSweep s
      | some k =>
        let i := k / 2 ^ 16
        let s := setKlt (fun q => { q with regions := NMap.modify q.regions i (fun r =>
          if r.tag = k % 2 ^ 16 && r.st = .valid then { r with st := .revoking } else r) }) s
        lendSweep (revokeDrained i s)

/-- The responses of a read: the whole range, in 4 KiB units (R380, R381). -/
def readResponses (s : State) (h : KHdr) (frames : Bool) : List RspPkt :=
  (List.range ((h.mlen + 4095) / 4096)).map (fun k =>
    if frames then
      let f := rawFrame s (h.addr + 4096 * k)
      { msn := h.msn, moff := h.moff + 4096 * k, data := f.data, tag := f.tag }
    else
      { msn := h.msn, moff := h.moff + 4096 * k, data := localBytes s (h.addr + 4096 * k) (min 4096 (h.mlen - 4096 * k)), tag := [] })

/-- The read at FRONTIER runs: its range goes into staging, the responses are queued, and FRONTIER goes on (R380). -/
def readRun (conn : Nat) (c : Conn) (h : KHdr) (frames : Bool) (i : Nat) (s : State) : State :=
  let y := connYoke conn
  let rs := readResponses s h frames
  let s := setKlt (fun k => { k with staging := k.staging.set y (k.staging.get y + h.mlen) }) s
  let s := putConn conn { c with got := NMap.erase c.got c.frontier, frontier := (c.frontier + 1) % 2 ^ 32, rsps := c.rsps ++ rs } s
  kltPump (revokeDrained i (sendAck conn none (frontierOn conn (c.got.length + 1) s)))

/-- READ_EXECUTE (R380): the read at FRONTIER runs where its Yoke's staging has room. -/
def execReadExecute (conn : Nat) (s : State) : Host.Outcome State Fault Refusal := running s <|
  match connOf s conn with
  | none => ok s
  | some c =>
    match NMap.get? c.got c.frontier with
    | some { read := some (h, frames), validated := some i, .. } =>
      if 2 ^ 25 < s.klt.staging.get (connYoke conn) + h.mlen then ok s else okSettle (readRun conn c h frames i s)
    | _ => ok s

/-! ## The sender's side (R378, R380, R384 to R387, R394 to R397) -/

/-- The operation's last packet rings a doorbell. -/
def SndOp.isDb (o : SndOp) : Bool :=
  match o.op with
  | .write _ _ _ b => b
  | .frameWrite _ _ _ b => b
  | _ => false

/-- Operations end in order (R378): a write when the acknowledged FRONTIER has passed its last PSN, a refused one when every
earlier one has ended; a doorbell with a refused PSN between the doorbell before it and itself ends ST_ABORTED (R379).
Answers what is left, what has ended, and the refused PSNs that the next doorbell meets. An operation that has ended stays
while `live` packets of it may still have to be sent again (R387). -/
def endOps (acked : Nat) (live : Nat → Bool) : List SndOp → Bool → List Nat → List SndOp × List (KltSrc × Status) × List Nat
  | [], _, naks => ([], [], naks)
  | o :: os, earlier, naks =>
    let last := (o.first + o.count + (2 ^ 32 - 1)) % 2 ^ 32
    let after := if o.isDb && o.sent = o.count then naks.filter (fun p => 0 < psnAbove p last && psnAbove p last < 2 ^ 31) else naks
    let gone := fun (src : KltSrc) (st : Status) (r : List SndOp × List (KltSrc × Status) × List Nat) =>
      ((if live o.msn then { o with src := .dropped, cut := true, reading := false, done := true } :: r.1 else r.1), (src, st) :: r.2.1, r.2.2)
    if o.done then gone .dropped .ok (endOps acked live os earlier after)
    else match o.nak with
    | some st => if earlier then gone o.src st (endOps acked live os true after) else (o :: os, [], naks)
    | none =>
      if !((o.sent = o.count || o.cut) && (o.sent = 0 || psnAbove acked ((o.first + o.sent) % 2 ^ 32) < 2 ^ 31)) then (o :: os, [], naks)
      else if o.reading then
        let (l, e, k) := endOps acked live os false after
        (o :: l, e, k)
      else
        let st := o.bad.getD (if o.isDb && naks.any (fun p => 2 ^ 31 ≤ psnAbove p last) then .aborted else .ok)
        gone o.src st (endOps acked live os earlier after)

/-- A connection that is closing goes on once its operations have ended (R374). -/
def closeStep (n : Nat) (s : State) : State :=
  match connOf s n with
  | none => s
  | some c =>
    if c.st ≠ .closing || c.ops.any (fun o => !o.done) || s.klt.reqs.any (fun r => r.conn = n) then s
    else if c.closeGot then dropConn n (sendTc7 n c.entry 32 (.closeAck c.peerNum c.peerGen) s)
    else if !c.closeSent then
      sendTc7 n c.entry 32 (.close c.peerNum c.peerGen)
        (putConn n { c with closeSent := true, tries := 1, triedAt := connNow s n } s)
    else s

def settleOps (n : Nat) (s : State) : State :=
  match connOf s n with
  | none => s
  | some c =>
    let (left, ended, naks) := endOps c.acked (fun m => c.inflight.any (fun e => e.2.msn = m)) c.ops true c.naks
    let s := putConn n { c with ops := left, naks := naks } s
    closeStep n (ended.foldl (fun s e => kltEnd e.1 e.2 s) s)

/-- CWND kept between 1/256 packet and the receive window (R394). -/
def clampCwnd (c : Conn) (w : Nat) : Nat := max 1 (min w (256 * c.peerRwin))

/-- A delay-controlled acknowledgement (R395) of `k` packets with sample `rtt`. -/
def delayAck (s : State) (now k rtt : Nat) (c : Conn) : Conn :=
  let target := ccF s c.tc 15 0
  if rtt < target then { c with cwnd := clampCwnd c (c.cwnd + 16 * ccF s c.tc 23 16 * k * 256 / c.cwnd) }
  else if c.srtt.getD 0 ≤ now - c.tDec then
    let f := min (ccF s c.tc 30 24 * 256 / 100) (8 * (rtt - target) * 256 / (10 * rtt))
    { c with cwnd := clampCwnd c (c.cwnd * (256 - f) / 256), tDec := now }
  else c

/-- A loss, at most once per SRTT (R395, R396). -/
def lossCut (s : State) (now : Nat) (c : Conn) : Conn :=
  if c.srtt.getD 0 ≤ now - c.tDec then { c with cwnd := clampCwnd c (c.cwnd * (256 - ccF s c.tc 30 24 * 256 / 100) / 256), tDec := now } else c

/-- The round-trip estimators (R386). -/
def takeRtt (rtt : Nat) (c : Conn) : Conn :=
  match c.srtt with
  | none => { c with srtt := some rtt, rttvar := rtt / 2 }
  | some m =>
    let d := if m ≤ rtt then rtt - m else m - rtt
    { c with
      srtt := some (if m ≤ rtt then m + (rtt - m) / 8 else m - (m - rtt) / 8)
      rttvar := if c.rttvar ≤ d then c.rttvar + (d - c.rttvar) / 4 else c.rttvar - (c.rttvar - d) / 4 }

/-- RTO (R386), ns. -/
def rto (s : State) (c : Conn) : Nat := max (primF s .KLT_CTRL2 0 31 16 * 1000) (c.srtt.getD 0 + 4 * c.rttvar)

/-- A TC7 packet names a connection that exists, is OPEN or CLOSING, and has this peer; an ACK of another is dropped (R377 step 1). -/
def ackNames (s : State) (n cgen sep : Nat) (c : Conn) : Bool :=
  (c.st = .open_ || c.st = .closing) && NMap.get 0 s.klt.cgens n = cgen && c.peer = sep

/-- What an ACK tells the sender (an older CE_COUNT, of an ACK that was overtaken, tells nothing): FRONTIER and SACK bits, a NAK of one operation, the CE echo, a round-trip sample (R378, R385, R386,
R395). A deferral is no refusal for the doorbell rule (R537). -/
def ackConn (s : State) (a : KAck) (now : Nat) (c : Conn) : Conn :=
  let forward := psnAbove a.frontier c.acked < 2 ^ 31
  let acked := if forward then a.frontier else c.acked
  let below := fun (p : Nat) => decide (psnAbove p acked ≥ 2 ^ 31)
  let sacks := fun (p : Nat) => psnAbove p (acked + 1) < 256 && forward && a.sack.testBit (psnAbove p (a.frontier + 1))
  let ceRise := (a.ceCount + 2 ^ 24 - c.ceSeen % 2 ^ 24) % 2 ^ 24
  let fresh := (c.inflight.filter (fun e => !e.2.sacked && (below e.1 || sacks e.1))).length
  let inflight := (c.inflight.filter (fun e => !below e.1)).map (fun e => (e.1, if sacks e.1 then { e.2 with sacked := true } else e.2))
  let (ops, inflight) : List SndOp × NMap SndPkt := match a.nak with
    | none => (c.ops, inflight)
    | some (p, st) =>
      let status := (Status.ofCode st).getD .access
      let msn := (NMap.get? c.inflight p).map (fun (x : SndPkt) => x.msn)
      (c.ops.map (fun (o : SndOp) => if some o.msn = msn && o.nak.isNone then { o with nak := some status } else o), NMap.erase inflight p)
  let c := { c with acked := acked, inflight := inflight, ops := ops.map (fun o =>
                      if o.reading && o.lastRsp = 0 && o.sent = o.count && psnAbove acked ((o.first + o.count) % 2 ^ 32) < 2 ^ 31 then { o with lastRsp := now } else o),
                    ceSeen := c.ceSeen + (if ceRise < 2 ^ 23 then ceRise else 0), winAcked := c.winAcked + fresh
                    naks := (match a.nak with
                      | some (p, st) => if (NMap.get? c.inflight p).isSome && st ≠ Status.wakeDeferred.code then p :: c.naks else c.naks
                      | none => c.naks) }
  let sample := if c.tsUsed = some a.tsEcho then none else some ((now + 2 ^ 33 - a.tsEcho - a.ackDelay) % 2 ^ 32)
  match sample with
  | none => c
  | some rtt =>
    let c := takeRtt rtt { c with tsUsed := some a.tsEcho }
    if 5 ≤ c.tc then delayAck s now fresh rtt c else c

/-- ACK (R378, R385, R386, R395): the sender's FRONTIER, SACK bits, a round-trip sample, CE echo, a NAK; operations end. -/
def execAck (a : KAck) (s : State) : Host.Outcome State Fault Refusal := running s <|
  let n := a.dconn
  match connOf s n with
  | none => ok (bumpF .KLT_DROPS (.yoke (connYoke n)) 0 31 16 1 s)
  | some c =>
    if !ackNames s n a.cgen a.sep c then ok (bumpF .KLT_DROPS (.yoke (connYoke n)) 0 31 16 1 s)
    else okSettle (kltPump (settleOps n (putConn n (ackConn s a (connNow s n) c) s)))

/-- ACK_DELAY_EXPIRY (R386). -/
def execAckDelayExpiry (conn : Nat) (s : State) : Host.Outcome State Fault Refusal := running s <|
  match connOf s conn with
  | some { firstArrival := some t, .. } =>
    ok (if t + primF s .KLT_CTRL 0 51 36 ≤ connNow s conn then sendAck conn none s else s)
  | _ => ok s

/-- A PSN handed to its port at KTB `tx` is lost (R387): a PSN sent after it is known received and the reordering time has passed, or RTO has. -/
def psnLost (s : State) (now : Nat) (c : Conn) (p : SndPkt) (tx : Nat) : Bool :=
  let passed := c.inflight.any (fun e => e.2.sacked && (match e.2.sentAt with
    | some t => decide (tx < t)
    | none => false))
  !p.sacked && !p.lost && ((passed && decide (tx + c.srtt.getD 0 + primF s .KLT_CTRL2 0 15 0 ≤ now)) || decide (tx + rto s c ≤ now))

/-- A lost PSN: its path becomes suspect, the window shrinks, and it waits to be sent again (R384, R387, R395). -/
def markLost (s : State) (now psn : Nat) (c : Conn) (p : SndPkt) : Conn :=
  lossCut s now { c with suspect := NMap.put c.suspect (p.path.port * 256 + p.path.e) (now + primF s .KLT_CTRL2 0 51 36 * 1000)
                         inflight := NMap.put c.inflight psn { p with lost := true } }

/-- LOSS_DETECT (R387): the PSN is lost by the reordering time or by RTO; its path becomes suspect, the window shrinks, and it
is sent again; beyond MAX_RETX the connection fails (R375). -/
def execLossDetect (conn psn : Nat) (s : State) : Host.Outcome State Fault Refusal := running s <|
  match connOf s conn with
  | none => ok s
  | some c =>
    match NMap.get? c.inflight psn with
    | none => ok s
    | some p =>
      match p.sentAt with
      | none => ok s
      | some tx =>
        if !psnLost s (connNow s conn) c p tx then ok s
        else if primF s .KLT_CTRL2 0 35 32 < p.sends then okSettle (failConn conn .timeout s)
        else okSettle (kltPump (putConn conn (markLost s (connNow s conn) psn c p) s))

/-- SUSPECT_HOLD_EXPIRY (R384): a path stops being suspect. -/
def execSuspectHoldExpiry (conn port e : Nat) (s : State) : Host.Outcome State Fault Refusal := running s <|
  match connOf s conn with
  | none => ok s
  | some c =>
    match NMap.get? c.suspect (port * 256 + e) with
    | none => ok s
    | some t => ok (if t ≤ connNow s conn then putConn conn { c with suspect := NMap.erase c.suspect (port * 256 + e) } s else s)

/-- An ECN-controlled connection at the end of a window (R396): F, alpha and CWND. -/
def ecnWindow (s : State) (now : Nat) (c : Conn) : Conn :=
  let rise := c.ceSeen - c.winCe
  let f := if c.winAcked = 0 then 0 else min 256 (rise * 256 / c.winAcked)
  let g := 2 ^ ccF s c.tc 34 31
  let alpha := if c.alpha ≤ f then c.alpha + (f - c.alpha) / g else c.alpha - (c.alpha - f) / g
  let cwnd := if 0 < rise then c.cwnd * (512 - alpha) / 512 else c.cwnd + 16 * ccF s c.tc 23 16
  { c with alpha := alpha, cwnd := clampCwnd c cwnd, winAt := now, winCe := c.ceSeen, winAcked := 0 }

/-- CC_WINDOW_END (R396): at the end of each SRTT an ECN-controlled connection updates alpha and CWND. -/
def execCcWindowEnd (conn : Nat) (s : State) : Host.Outcome State Fault Refusal := running s <|
  match connOf s conn with
  | none => ok s
  | some c =>
    if 5 ≤ c.tc || connNow s conn < c.winAt + c.srtt.getD 0 || c.srtt.isNone then ok s
    else okSettle (kltPump (putConn conn (ecnWindow s (connNow s conn) c) s))

/-! ## Read responses (R380, R381) -/

/-- A response marked CE is counted, and acknowledged at once (R369, R386). -/
def rspMarked (n : Nat) (h : KHdr) (s : State) : State :=
  if h.ce then sendAck n none (modConn n (fun c => { c with ceCount := c.ceCount + 1 }) s) else s

/-- A unit of a read has come: `place` puts it where the read asked for it. The read ends at its last unit. -/
def rspUnit (h : KHdr) (place : SndOp → State → Except Status State) (s : State) : State :=
  let n := h.dconn
  match connOf s n with
  | none => bumpF .KLT_DROPS (.yoke (connYoke n)) 0 31 16 1 s
  | some c =>
    if c.st ≠ .open_ && c.st ≠ .closing || NMap.get 0 s.klt.cgens n ≠ h.cgen || c.peer ≠ h.sep then
      bumpF .KLT_DROPS (.yoke (connYoke n)) 0 31 16 1 s
    else match c.ops.find? (fun o => o.msn = h.msn && o.reading) with
      | none => rspMarked n h s
      | some o =>
        let s := rspMarked n h s
        let unit := h.moff / 4096
        if (NMap.get? o.units unit).isSome then s
        else
          let len := match o.op with
            | .read _ _ l _ => l
            | .frameRead _ _ l _ => l
            | _ => 0
          if len ≤ h.moff then s
          else
            let (bad, s) := match place o s with
              | .ok s => (o.bad, s)
              | .error st => (some (o.bad.getD st), s)
            let o := { o with units := NMap.put o.units unit (), lastRsp := connNow s n, bad := bad }
            let c := (connOf s n).getD c
            if (len + 4095) / 4096 ≤ o.units.length then
              let s := putConn n { c with ops := c.ops.map (fun x => if x.msn = o.msn then { o with src := .dropped, done := true, reading := false } else x) } s
              settleOps n (kltEnd o.src (bad.getD .ok) s)
            else putConn n { c with ops := c.ops.map (fun x => if x.msn = o.msn then o else x) } s

/-- Where a read's bytes go: a session program's scratch region, or a Shanum address. -/
def readPlace (o : SndOp) (moff : Nat) (data : List Byte) (s : State) : Except Status State :=
  let loc := match o.op with
    | .read _ _ _ l => l
    | .frameRead _ _ _ l => l
    | _ => 0
  match o.src with
  | .tine slot _ => drawerWrite slot (loc + moff) data s
  | .dropped => .ok s
  | _ => .ok (localPut (loc + moff) data s)

/-- READ_RSP (R380): a response is placed at the requester; the read completes at its last unit. -/
def execReadRsp (h : KHdr) (data : List Byte) (s : State) : Host.Outcome State Fault Refusal := running s <|
  okSettle (kltPump (rspUnit h (fun o s => readPlace o h.moff data s) s))

/-- A frame that was read: raw into Field, or opened into Near where its tag passes (R381). -/
def framePlace (o : SndOp) (moff : Nat) (f : RawFrame) (plain : List Byte) (good : Bool) (s : State) : Except Status State :=
  let loc := match o.op with
    | .frameRead _ _ _ l => l
    | _ => 0
  if bitsOf loc 51 48 = 1 then .ok (putRaw (loc + moff) f s)
  else if good then readPlace o moff plain s else .error .integrity

/-- FRAME_READ_RSP (R381): a frame and its tag go raw into Field, or through the check of the Yoke link into Near, where
`plain` is what the frame opens to and `good` the outcome of its tag. -/
def execFrameReadRsp (h : KHdr) (frame tag plain : List Byte) (good : Bool) (s : State) : Host.Outcome State Fault Refusal := running s <|
  okSettle (kltPump (rspUnit h (fun o s => framePlace o h.moff ⟨frame, tag⟩ plain good s) s))

/-- Bytes a read wants. -/
def readLen : KltOp → Nat
  | .read _ _ l _ => l
  | .frameRead _ _ l _ => l
  | _ => 0

/-- A unit of a read is missing at RTO, and no request for it, of the whole read or of the unit, is on its way (R380). -/
def unitDue (s : State) (conn : Nat) (c : Conn) (o : SndOp) (unit : Nat) : Bool :=
  !(c.inflight.any (fun e => e.2.msn = o.msn && (!e.2.again || e.2.idx = unit * 4096))) && (NMap.get? o.units unit).isNone && decide (unit * 4096 < readLen o.op) &&
    decide (o.lastRsp ≠ 0) && decide (o.lastRsp + rto s c ≤ connNow s conn)

/-- A unit is asked for again: a new PSN, the same MSN (R380). -/
def askUnit (c : Conn) (msn unit : Nat) : Conn :=
  let p : SndPkt := { msn := msn, idx := unit * 4096, again := true, path := ⟨c.nextPort, c.nextE⟩, sentAt := none, sends := 0,
                      sacked := false, lost := true }
  { c with nextPsn := (c.nextPsn + 1) % 2 ^ 32, inflight := NMap.put c.inflight c.nextPsn p }

/-- READ_UNIT_TIMEOUT (R380): a unit still missing at RTO is asked for again, with a new PSN and the same MSN. -/
def execReadUnitTimeout (conn msn unit : Nat) (s : State) : Host.Outcome State Fault Refusal := running s <|
  match connOf s conn with
  | none => ok s
  | some c =>
    match c.ops.find? (fun o => o.msn = msn && o.reading) with
    | none => ok s
    | some o => if unitDue s conn c o unit then okSettle (kltPump (putConn conn (askUnit c msn unit) s)) else ok s

/-! ## Connections (R372 to R375) -/

/-- A free connection number, any of them (log 75). -/
def pickConn (s : State) : Option (Nat × State) :=
  let used := NMap.keys s.klt.conns
  let start := freeBelow 262143 s
  let order := (List.range (used.length + 1)).map (fun i => 1 + (start + i) % 262143)
  if 262143 ≤ used.length then none
  else (order.find? (fun n => !used.contains n)).map (fun n => (n, drew s))

/-- Own domain as advertised: 0 where joining was refused (R58). -/
def ownDomain (s : State) : Nat := if s.cfg.domain = .refused then 0 else primF s .CFG_DOMAIN 0 15 0

/-- A new connection on a number: its CGEN rises by one at each reuse (R372). -/
def newConn (n : Nat) (st : ConnSt) (peer entry tc entropy rwin principal : Nat) (s : State) : Conn × State :=
  let gen := match NMap.get? s.klt.cgens n with
    | none => 0
    | some g => (g + 1) % 256
  let now := connNow s n
  ({ st := st, peer := peer, entry := entry, peerNum := 0, peerGen := 0, tc := tc, ver := 1, entropy := entropy, rwin := rwin,
     peerRwin := 64, principal := principal, reqId := 0, initiator := false, tries := 0, triedAt := now, closeSent := false,
     closeGot := false, frontier := 0, got := [], refusedSinceDb := false, ceCount := 0, arrivals := 0, firstArrival := none,
     tsEcho := 0, tsAt := 0, msnHigh := none, msnW := none, nextPsn := 0, nextMsn := 0, acked := 0, inflight := [], ops := [], rsps := [],
     naks := [], stalled := false, nextPort := 0, nextE := 0, suspect := [], lastSend := 0,
     cwnd := 256 * ccF s tc 47 35, alpha := 256, tDec := 0, winAt := now, winCe := 0, winAcked := 0, ceSeen := 0, tsUsed := none,
     srtt := none, rttvar := 0, retx := 0 },
   setKlt (fun k => { k with cgens := NMap.put k.cgens n gen }) s)

/-- The checks of R373, in order. -/
def connCheck (r : ConnReq) (s : State) : Option Status :=
  if s.sec.tenancy ≠ .bound then some .tenant
  else match peerEntry s r.sep with
    | none => some .access
    | some e =>
      let strict := bit (live s .CFG_DOMAIN (.yoke s.ckp.primary)) 24
      let diverges := match NMap.get? s.cfg.divergent e with
        | some d => d.counted
        | none => false
      if s.cfg.domain = .refused || r.domain ≠ ownDomain s || (strict && diverges) then some .access
      else if 1 < r.minVer || r.maxVer < 1 then some .version
      else if 6 < r.tc then some .badFormat
      else none

/-- Answer a CONNECT_REQ. -/
def connAnswer (r : ConnReq) (a : ConnRsp) (s : State) : State :=
  sendTc7 0 ((peerEntry s r.sep).getD 8192) 32 (.connectRsp a) s

/-- Answer a CONNECT_REQ and keep the answer for a repeated one (R373). -/
def connGive (r : ConnReq) (a : ConnRsp) (s : State) : State :=
  connAnswer r a (setKlt (fun k => { k with answers := k.answers ++ [(r.sep, r.reqId, a)] }) s)

def connRefuse (r : ConnReq) (st : Status) (s : State) : State :=
  connGive r { sep := s.sec.deviceId, status := st, ver := 0, tc := r.tc, entropy := r.entropy, rconn := 0, rcgen := 0, rwin := 0, reqId := r.reqId } s

/-- The responder takes a free number and is OPEN (R373); its own RWIN and principal, and an ENTROPY not above the request, are free
choices (log 75). -/
def connAccept (r : ConnReq) (n : Nat) (s : State) : State :=
  let rwin := 64 + freeBelow 4033 s
  let s := drew s
  let prin := freeBelow 4096 s
  let s := drew s
  let ent := 1 + freeBelow r.entropy s
  let s := drew s
  let (c, s) := newConn n .open_ r.sep ((peerEntry s r.sep).getD 0) r.tc ent rwin prin s
  let s := putConn n { c with peerNum := r.sconn, peerGen := r.scgen, peerRwin := r.rwin, reqId := r.reqId } s
  connGive r { sep := s.sec.deviceId, status := .ok, ver := 1, tc := r.tc, entropy := ent, rconn := n,
               rcgen := NMap.get 0 s.klt.cgens n, rwin := rwin, reqId := r.reqId } s

/-- CONNECT_REQ (R373): checked and answered; a repeated one is answered as before. -/
def execConnectReq (r : ConnReq) (s : State) : Host.Outcome State Fault Refusal := running s <|
  match s.klt.answers.find? (fun x => x.1 = r.sep && x.2.1 = r.reqId) with
  | some (_, _, a) => ok (connAnswer r a s)
  | none =>
    match connCheck r s with
    | some st => ok (connRefuse r st s)
    | none =>
      match pickConn s with
      | none => ok (connRefuse r .noSpace s)
      | some (n, s) => ok (connAccept r n s)

/-- The CONNECT_REQ of a connection. -/
def sendConnect (n : Nat) (s : State) : State :=
  match connOf s n with
  | none => s
  | some c =>
    let r : ConnReq := { sep := s.sec.deviceId, minVer := 1, maxVer := 1, tc := c.tc, entropy := c.entropy, sconn := n,
                         scgen := NMap.get 0 s.klt.cgens n, rwin := c.rwin, domain := ownDomain s, reqId := c.reqId }
    sendTc7 0 c.entry 32 (.connectReq r) (putConn n { c with tries := c.tries + 1, triedAt := connNow s n } s)

/-- The initiator's connection once it has its CONNECT_RSP: OPEN, with the agreed values and its first round-trip sample (R373, R386). -/
def connOpened (s : State) (n : Nat) (r : ConnRsp) (c : Conn) : Conn :=
  takeRtt (connNow s n - c.triedAt)
    { c with st := .open_, ver := r.ver, entropy := r.entropy, peerNum := r.rconn, peerGen := r.rcgen, peerRwin := r.rwin }

/-- CONNECT_RSP (R373): the initiator's open completes. -/
def execConnectRsp (r : ConnRsp) (s : State) : Host.Outcome State Fault Refusal := running s <|
  match s.klt.conns.find? (fun e => e.2.st = .connecting && e.2.peer = r.sep && e.2.reqId = r.reqId) with
  | none => ok s
  | some (n, c) =>
    if r.status ≠ .ok then ok (cmdDone 1 n r.status 0 (dropConn n s))
    else okSettle (kltPump (cmdDone 1 n .ok (n + NMap.get 0 s.klt.cgens n * 2 ^ 24) (putConn n (connOpened s n r c) s)))

/-- CONNECT_RESEND (R373): sent again after 100 µs; after eight sends the open completes ST_TIMEOUT. -/
def execConnectResend (conn : Nat) (s : State) : Host.Outcome State Fault Refusal := running s <|
  match connOf s conn with
  | none => ok s
  | some c =>
    if c.st ≠ .connecting || connNow s conn < c.triedAt + 100000 then ok s
    else if c.tries < 8 then ok (sendConnect conn s)
    else ok (cmdDone 1 conn .timeout 0 (dropConn conn s))

/-- The connection a TC7 packet of a peer names. -/
def tc7Conn (s : State) (dconn cgen sep : Nat) : Option Conn :=
  match connOf s dconn with
  | none => none
  | some c => if NMap.get 0 s.klt.cgens dconn = cgen && c.peer = sep && (c.st = .open_ || c.st = .closing) then some c else none

/-- CLOSE (R374): answered by CLOSE_ACK once the operations outstanding have completed. -/
def execClose (dconn cgen sep : Nat) (s : State) : Host.Outcome State Fault Refusal := running s <|
  match tc7Conn s dconn cgen sep with
  | none => ok s
  | some _ => okSettle (closeStep dconn (modConn dconn (fun c => { c with st := .closing, closeGot := true }) (takeReqs (3 * s.klt.reqs.length) s)))

/-- CLOSE_ACK (R374): the connection is FREE. -/
def execCloseAck (dconn cgen sep : Nat) (s : State) : Host.Outcome State Fault Refusal := running s <|
  match tc7Conn s dconn cgen sep with
  | none => ok s
  | some c => ok (if c.closeSent then dropConn dconn s else s)

/-- CLOSE_RESEND (R374). -/
def execCloseResend (conn : Nat) (s : State) : Host.Outcome State Fault Refusal := running s <|
  match connOf s conn with
  | none => ok s
  | some c =>
    if !c.closeSent || connNow s conn < c.triedAt + 100000 then ok s
    else if c.tries < 8 then
      ok (sendTc7 conn c.entry 32 (.close c.peerNum c.peerGen) (putConn conn { c with tries := c.tries + 1, triedAt := connNow s conn } s))
    else ok (dropConn conn s)

/-! ## Heartbeats (R376) -/

/-- A HEARTBEAT is compared with the own configuration (R59). -/
def compareBeat (entry : Nat) (b : Beat) (s : State) : State :=
  let own := ownDomain s
  let upd := fun (d : NMap Divergence) => { s with cfg := { s.cfg with divergent := d } }
  if own = 0 || b.domain ≠ own || !s.cfg.fpValid || !b.fpValid then s
  else if b.fp = s.cfg.fp then upd (NMap.erase s.cfg.divergent entry)
  else match NMap.get? s.cfg.divergent entry with
    | some _ => s
    | none => upd (NMap.put s.cfg.divergent entry ⟨ktb s, false⟩)

/-- HEARTBEAT (R59, R376): the peer is UP. -/
def execHeartbeat (sep : Nat) (b : Beat) (s : State) : Host.Outcome State Fault Refusal := running s <|
  match peerEntry s sep with
  | none => ok s
  | some e =>
    ok (compareBeat e b (putPeer e { peerOf s e with st := .up, lastHb := ktb s, leaving := b.leaving, fallow := b.fallow, role := b.role } s))

/-- The heartbeat this device sends (R57, R376, R491, R492, R530). -/
def ownBeat (s : State) : Beat :=
  { domain := ownDomain s, liveGen := s.cfg.liveGen.toNat, fpValid := s.cfg.fpValid, leaving := s.ckp.leaving,
    fallow := deferring s, role := primF s .CKP_ROLE 0 1 0, fp := s.cfg.fp,
    commitAt := match s.cfg.pendingC with
      | some c => if c.scheduled then c.applyAt else 0
      | none => 0,
    ktb := ktb s }

/-- HEARTBEAT_SEND (R376). -/
def execHeartbeatSend (entry : Nat) (s : State) : Host.Outcome State Fault Refusal := running s <|
  let cfg := live s .KLT_PEER_CFG (.yoke s.ckp.primary) entry
  let p := peerOf s entry
  if !bit cfg 15 || !bit cfg 17 || ktb s < p.sentHb + primF s .KLT_CTRL 0 31 16 * 1000 then ok s
  else ok (sendTc7 0 entry 80 (.heartbeat entry (ownBeat s)) (putPeer entry { p with sentHb := ktb s } s))

/-- Consent to a neighbour that is DOWN ends (R532). -/
def dropConsent (entry : Nat) (s : State) : State :=
  setFallow { s.power.fallow with
    neighbours := NMap.mapV s.power.fallow.neighbours (fun k n =>
      if liveF s .PWR_FALLOW_NB_CFG (.yoke s.ckp.primary) k 12 0 = entry then { n with consent := false } else n) } s

/-- The connections of a peer entry fail (R375). -/
def failPeer (entry : Nat) (s : State) : State :=
  (s.klt.conns.filter (fun e => e.2.entry = entry && (e.2.st = .open_ || e.2.st = .closing))).foldl (fun s e => failConn e.1 .timeout s) s

/-- PEER_DOWN (R375, R376): a silent peer becomes DOWN, and its connections fail. -/
def execPeerDown (entry : Nat) (s : State) : Host.Outcome State Fault Refusal := running s <|
  if !bit (live s .KLT_PEER_CFG (.yoke s.ckp.primary) entry) 15 || (peerOf s entry).st = .down || ktb s < (peerOf s entry).lastHb + primF s .KLT_CTRL 0 35 32 * primF s .KLT_CTRL 0 31 16 * 1000 then ok s
  else okSettle (failPeer entry (dropConsent entry (putPeer entry { peerOf s entry with st := .down } s)))

/-! ## Commands of system firmware (R399) -/

def cmdArg (s : State) (y : Yoke) (r : Reg) : Nat := (live s r (.yoke y)).toNat

/-- Why a CONN_OPEN with these ARG0 bits is refused before a number is sought (R373, R399). -/
def connOpenCheck (s : State) (a : Nat) : Option Status :=
  let cfg := live s .KLT_PEER_CFG (.yoke s.ckp.primary) (bitsOf a 12 0)
  if 6 < bitsOf a 15 13 || bitsOf a 36 24 < 64 || 4096 < bitsOf a 36 24 then some .badFormat
  else if s.sec.tenancy ≠ .bound then some .tenant
  else if !bit cfg 15 || s.cfg.domain = .refused then some .access
  else none

/-- A connection of number `n` is CONNECTING, and its CONNECT_REQ is sent (R373). -/
def connBegin (y : Yoke) (a n : Nat) (s : State) : State :=
  let cfg := live s .KLT_PEER_CFG (.yoke s.ckp.primary) (bitsOf a 12 0)
  let (c, s) := newConn n .connecting (field cfg 14 0) (bitsOf a 12 0) (bitsOf a 15 13) (bitsOf a 23 16 + 1) (bitsOf a 36 24) (bitsOf a 48 37) s
  let id := s.klt.nextReqId
  let s := setKlt (fun k => { k with nextReqId := (id + 1) % 2 ^ 64, cmds := k.cmds ++ [(y, 1, n)] }) s
  sendConnect n (putConn n { c with reqId := id, initiator := true } s)

/-- CONN_OPEN (R373, R399): the connection is CONNECTING and its CONNECT_REQ is sent. -/
def execConnOpen (y : Yoke) (s : State) : Host.Outcome State Fault Refusal := running s <|
  let a := cmdArg s y .KLT_CMD_ARG0
  match connOpenCheck s a with
  | some st => ok (kltResult y st 0 s)
  | none =>
    match pickConn s with
    | none => ok (kltResult y .noSpace 0 s)
    | some (n, s) => ok (connBegin y a n s)

/-- CONN_CLOSE (R374, R375, R399): new operations are refused, and CLOSE follows the last; a FAILED connection is freed; one
still CONNECTING is busy (log 208). -/
def execConnClose (y : Yoke) (s : State) : Host.Outcome State Fault Refusal := running s <|
  let n := bitsOf (cmdArg s y .KLT_CMD_ARG0) 23 0
  match connOf s n with
  | none => ok (kltResult y .badHandle 0 s)
  | some c =>
    if c.st = .connecting then ok (kltResult y .busy 0 s)
    else
      let s := kltResult y .ok 0 s
      if c.st = .failed then ok (dropConn n s)
      else if c.st = .open_ then okSettle (closeStep n (modConn n (fun c => { c with st := .closing }) (takeReqs (3 * s.klt.reqs.length) s)))
      else ok s

/-- Key of a region: index and TAG (R388). -/
def regionKey (i tag : Nat) : Nat := i * 2 ^ 16 + tag

/-- A free index takes a region, with the next TAG, 0 skipped; which free index is a free choice (log 75). The key, where one is
free (R388, R399). -/
def regionTake (r : Region) (s : State) : Option (Nat × State) :=
  let free := fun (i : Nat) => match NMap.get? s.klt.regions i with
    | none => true
    | some r => r.st = .free
  let start := freeBelow 65535 s
  let order := (List.range (s.klt.regions.length + 1)).map (fun i => 1 + (start + i) % 65535)
  match order.find? free with
  | none => none
  | some i =>
    let old := NMap.get? s.klt.regions i
    let t := match old with
      | none => 0
      | some r => r.tag
    let tag := if t % 2 ^ 16 = 2 ^ 16 - 1 then 1 else t + 1
    some (regionKey i tag, drew (setKlt (fun k => { k with
      regions := NMap.put k.regions i { r with st := .valid, tag := tag, revTag := old.bind (fun r => r.revTag) } }) s))

/-- A FRAME region over the plots of a composed lend window: the window is ACTIVE (R130). -/
def lendActivate (base len key : Nat) (s : State) : State :=
  match s.tier.lend.find? (fun w => w.2.st = .free && 2 ^ 48 + w.2.acre.num * 2 ^ 46 + w.2.basePlot * 65536 = base && w.2.plots * 65536 = len) with
  | some (w, x) => { s with tier := { s.tier with lend := NMap.put s.tier.lend w { x with st := .active, key := some key } } }
  | none => s

/-- The region that a REG_REGISTER asks for, or why it is refused (R388, R399). -/
def regionAsked (s : State) (y : Yoke) : Except Status Region :=
  let base := cmdArg s y .KLT_CMD_ARG0
  let a1 := cmdArg s y .KLT_CMD_ARG1
  let a2 := cmdArg s y .KLT_CMD_ARG2
  let len := bitsOf a1 39 0
  match RegKind.ofCode (bitsOf a1 41 40) with
  | none => .error .badFormat
  | some kind =>
    let frameBad := kind = .frame && (base % 65536 ≠ 0 || len % 65536 ≠ 0 || bitsOf base 51 48 ≠ 1)
    if bitsOf a1 44 42 = 7 || (kind ≠ .inbox && (base / 2 ^ 52 ≠ 0 || 2 < bitsOf base 51 48 || 2 ^ 46 < base % 2 ^ 46 + len)) || frameBad then .error .badFormat
    else if s.sec.tenancy ≠ .bound then .error .tenant
    else
      let perms := bitsOf a1 48 45
      .ok { base := base, len := len, kind := kind, dbk := bitsOf a1 44 42, dbArg := cmdArg s y .KLT_CMD_ARG3,
            canWrite := perms.testBit 0, canRead := perms.testBit 1, canDb := perms.testBit 2, isLocal := perms.testBit 3,
            peer := if a2.testBit 15 then none else some (bitsOf a2 14 0), principal := bitsOf a2 27 16, st := .valid,
            tag := 0, revTag := none }

/-- REG_REGISTER (R130, R388, R399). -/
def execRegRegister (y : Yoke) (s : State) : Host.Outcome State Fault Refusal := running s <|
  match regionAsked s y with
  | .error st => ok (kltResult y st 0 s)
  | .ok r =>
    match regionTake r s with
    | none => ok (kltResult y .noSpace 0 s)
    | some (key, s) => ok (kltResult y .ok key (if r.kind = .frame then lendActivate r.base r.len key s else s))

/-- A posted work queue, or the entry of a multicast list, uses the region of a key: a queue whose control page or ring the
region covers, an entry that names the key (R399). -/
def regionUsed (s : State) (i : Nat) (r : Region) : Bool :=
  let covers := fun (p : Pwq) => r.kind = .plain && bitsOf r.base 51 48 = 0 && Acre.ofNum (r.base / 2 ^ 46) = Acre.ofNum p.acre &&
    decide (r.base % 2 ^ 46 < p.base % 2 ^ 46 + 4096 + p.size) && decide (p.base % 2 ^ 46 < r.base % 2 ^ 46 + r.len)
  (NMap.vals s.klt.pwqs).any covers || (NMap.vals s.klt.mcl).any (fun e => e.key = regionKey i r.tag)

/-- The region is REVOKING, and the command waits for its accesses to end (R389 steps 1 and 2). -/
def revoking (y : Yoke) (i : Nat) (r : Region) (s : State) : State :=
  setKlt (fun k => { k with regions := NMap.put k.regions i { r with st := .revoking }, cmds := k.cmds ++ [(y, 4, i)] }) s

/-- REG_REVOKE (R389, R399): the region is REVOKING at once and FREE when its validated accesses have ended. -/
def execRegRevoke (y : Yoke) (s : State) : Host.Outcome State Fault Refusal := running s <|
  let key := bitsOf (cmdArg s y .KLT_CMD_ARG0) 31 0
  let i := key / 2 ^ 16
  match NMap.get? s.klt.regions i with
  | none => ok (kltResult y .badHandle 0 s)
  | some r =>
    if r.st ≠ .valid || r.tag ≠ key % 2 ^ 16 then ok (kltResult y .badHandle 0 s)
    else if regionUsed s i r then ok (kltResult y .busy 0 s)
    else ok (revokeDrained i (revoking y i r s))

/-- A PWQ may bind this CCTR, or none (R348, R391). -/
def bindOk (s : State) (prin : Nat) (o : Option Nat) : Bool :=
  match o with
  | none => true
  | some x => synKind s x = .cctr && synAccess s x prin

/-- The queue that a PWQ_CREATE asks for, or why it is refused (R390, R399). -/
def pwqAsked (s : State) (y : Yoke) : Except Status Pwq :=
  let page := cmdArg s y .KLT_CMD_ARG0
  let a1 := cmdArg s y .KLT_CMD_ARG1
  let cctr := fun (r : Reg) =>
    let a := cmdArg s y r
    if a.testBit 16 then some (bitsOf a 15 0) else none
  let k := bitsOf a1 4 0
  let prin := bitsOf a1 16 5
  if k < 12 || 24 < k || page % 4096 ≠ 0 || page / 2 ^ 48 ≠ 0 then .error .badFormat
  else if s.sec.tenancy ≠ .bound then .error .tenant
  else if !bindOk s prin (cctr .KLT_CMD_ARG2) || !bindOk s prin (cctr .KLT_CMD_ARG3) then .error .access
  else .ok { acre := (Acre.ofNum (page / 2 ^ 46)).num, base := page % 2 ^ 46, size := 2 ^ k, principal := prin, srcCctr := cctr .KLT_CMD_ARG2,
             gateCctr := cctr .KLT_CMD_ARG3, pi := 0, start := 0, ci := 0, err := none, inflight := [], gated := false }

/-- A free PWQ number, any of them (log 75). -/
def pickPwq (s : State) : Option Nat :=
  ((List.range 1024).map (fun i => (freeBelow 1024 s + i) % 1024)).find? (fun q => (pwqOf s q).isNone)

/-- PWQ_CREATE (R390, R399). -/
def execPwqCreate (y : Yoke) (s : State) : Host.Outcome State Fault Refusal := running s <|
  match pwqAsked s y with
  | .error st => ok (kltResult y st 0 s)
  | .ok p =>
    match pickPwq s with
    | none => ok (kltResult y .noSpace 0 s)
    | some q => ok (kltResult y .ok q (putPwq q p (drew s)))

/-- The wait entry of a closed gate is gone. -/
def dropGate (q : Nat) (s : State) : State :=
  { s with sync := { s.sync with waits := s.sync.waits.filter (fun w => w.who ≠ .gate q) } }

/-- PWQ_DELETE (R399): a queue with requests in flight is in use, and so is one that a region covers. -/
def execPwqDelete (y : Yoke) (s : State) : Host.Outcome State Fault Refusal := running s <|
  let q := bitsOf (cmdArg s y .KLT_CMD_ARG0) 9 0
  match pwqOf s q with
  | none => ok (kltResult y .badHandle 0 s)
  | some p =>
    if !p.inflight.isEmpty then ok (kltResult y .busy 0 s)
    else ok (kltResult y .ok 0 (setKlt (fun k => { k with pwqs := NMap.erase k.pwqs q }) (dropGate q s)))

/-- The entry that an MCL_SET writes, and its place: list × 64 + entry (R399). -/
def mclEntry (s : State) (y : Yoke) : McEntry :=
  let a0 := cmdArg s y .KLT_CMD_ARG0
  let a3 := cmdArg s y .KLT_CMD_ARG3
  { conn := bitsOf (cmdArg s y .KLT_CMD_ARG1) 23 0, base := cmdArg s y .KLT_CMD_ARG2, key := bitsOf a3 31 0,
    dbAddr := bitsOf a3 63 32 + 2 ^ 32 * bitsOf a0 63 32 }

def mclPlace (s : State) (y : Yoke) : Nat := bitsOf (cmdArg s y .KLT_CMD_ARG0) 7 0 * 64 + bitsOf (cmdArg s y .KLT_CMD_ARG0) 13 8

/-- MCL_SET (R393, R399): with VALID the entry is written, where it names a connection number of R372; without, it is removed. -/
def execMclSet (y : Yoke) (s : State) : Host.Outcome State Fault Refusal := running s <|
  if (cmdArg s y .KLT_CMD_ARG0).testBit 14 then
    if (mclEntry s y).conn = 0 || 262143 < (mclEntry s y).conn then ok (kltResult y .badFormat 0 s)
    else ok (kltResult y .ok 0 (setKlt (fun k => { k with mcl := NMap.put k.mcl (mclPlace s y) (mclEntry s y) }) s))
  else ok (kltResult y .ok 0 (setKlt (fun k => { k with mcl := NMap.erase k.mcl (mclPlace s y) }) s))

/-! ## Posted work queues (R390 to R393) -/

def pwqRead (s : State) (p : Pwq) (at_ n : Nat) : List Byte := nearRead s (Acre.ofNum p.acre) (p.base + 4096 + at_ % p.size) n
def pwqWrite (p : Pwq) (at_ : Nat) (bs : List Byte) (s : State) : State :=
  nearWrite (Acre.ofNum p.acre) (p.base + 4096 + at_ % p.size) bs s

/-- A local side lies in a LOCAL region of the queue's principal, of KIND FRAME for frames (R392). -/
def localOk (s : State) (prin addr len : Nat) (frames : Bool) : Bool :=
  (NMap.vals s.klt.regions).any (fun r =>
    r.st = .valid && r.isLocal && r.principal = prin && (if frames then r.kind = .frame else r.kind = .plain) &&
      decide (r.base ≤ addr) && decide (addr + len ≤ r.base + r.len))

/-- The frames at a Field address, raw. -/
def rawFrames (s : State) (addr n : Nat) : List (List Byte × List Byte) :=
  (List.range (n / 4096)).map (fun i =>
    let f := rawFrame s (addr + 4096 * i)
    (f.data, f.tag))

/-- A work request (R390). -/
structure WorkReq where
  opc   : Nat
  flags : Nat
  conn  : Nat
  laddr : Nat
  raddr : Nat
  rkey  : Nat
  len   : Nat
  gate  : Nat
  words : Nat
  deriving DecidableEq, Repr

/-- The request at the start point of a queue. -/
def workReq (s : State) (p : Pwq) : WorkReq :=
  let b := pwqRead s p p.start 64
  let n := fun o k => leNat ((b.drop o).take k)
  { opc := n 0 1, flags := n 1 1, conn := bitsOf (n 4 4) 23 0, laddr := n 8 8, raddr := n 16 8, rkey := n 24 4, len := n 28 4,
    gate := n 32 6, words := n 48 8 }

/-- A queue has a request that its predecessors and its fence let start: no error, notified, fewer than 64 in flight (R391). -/
def pwqMay (s : State) (p : Pwq) : Bool :=
  p.err.isNone && decide (p.start + 64 ≤ p.pi) && decide (p.inflight.length < 64) && (!(workReq s p).flags.testBit 2 || p.inflight.isEmpty)

/-- The request is not GATED, or GE holds on GATE_CCTR for GATE (R391). -/
def gateOpen (s : State) (p : Pwq) : Bool :=
  !(workReq s p).flags.testBit 1 || (match p.gateCctr with
    | none => false
    | some o => synHolds (synWord s o) cGE (BitVec.ofNat 64 (workReq s p).gate))

/-- Entries of a multicast list, in ascending order (R393). -/
def mcEntries (s : State) (list : Nat) : List Nat :=
  (List.range 64).filter (fun d => (NMap.get? s.klt.mcl (list % 256 * 64 + d)).isSome)

/-- The checks of a request when it starts (R390, R392): its ranges, its local side, its connections. -/
def workCheck (s : State) (p : Pwq) (r : WorkReq) : Option Status :=
  let frames := r.opc = 3 || r.opc = 4
  let connOk := fun (k : Nat) => match connOf s k with
    | some c => c.st = .open_ && c.principal = p.principal
    | none => false
  if r.opc = 0 || 5 < r.opc || r.len = 0 || 2 ^ 24 < r.len || ((r.opc = 2 || r.opc = 4) && 262144 < r.len) ||
      (frames && (r.raddr % 4096 ≠ 0 || r.len % 4096 ≠ 0)) then some .badFormat
  else if !localOk s p.principal r.laddr r.len frames || (r.opc ≠ 5 && !connOk r.conn) ||
      (r.opc = 5 && !(mcEntries s r.conn).all (fun d => connOk ((NMap.get? s.klt.mcl (r.conn % 256 * 64 + d)).elim 0 (fun e => e.conn)))) then
    some .access
  else none

/-- A request is in flight; the next one is the one after it. -/
def pwqBegin (q : Nat) (p : Pwq) (x : PwqReq) (s : State) : State :=
  putPwq q { p with start := p.start + 64, gated := false, inflight := NMap.put p.inflight (p.start / 64) x } s

/-- A closed gate holds one wait entry; where the table is full the request ends ST_NO_SPACE (R353, R391; log 207). -/
def gateWaits (q : Nat) (p : Pwq) (s : State) : State :=
  let s' := putPwq q { p with gated := true } s
  match p.gateCctr with
  | none => s'
  | some o =>
    if s.sync.waits.any (fun w => w.who = .gate q) then s'
    else if 32768 ≤ acreWaits s (synAcre o) then pwqBegin q p { status := some .noSpace, mcast := [] } s
    else queueWait { obj := o, who := .gate q, code := cGE, operand := BitVec.ofNat 64 (workReq s p).gate, seq := 0, phase := 0, timeout := none } s'

/-- The writes of a multicast: for each entry the payload and, with DBWORDS, its doorbell word (R393). -/
def mcastPost (q idx : Nat) (r : WorkReq) (pay : List Byte) (entries : List Nat) (s : State) : State :=
  entries.foldl (fun s d =>
    match NMap.get? s.klt.mcl (r.conn % 256 * 64 + d) with
    | none => s
    | some e =>
      let src := KltSrc.mcast q idx d
      let s := kltPost { conn := e.conn, tc := 0, op := .write (e.base + r.raddr) e.key pay false, src := src } s
      if r.words = 0 then s
      else kltPost { conn := e.conn, tc := 0, op := .write e.dbAddr e.key (localBytes s (r.words + 8 * d) 8) true, src := src } s) s

/-- A request that passed its checks is handed to its connection, or to those of its list (R390, R393). -/
def pwqPost (q : Nat) (p : Pwq) (r : WorkReq) (s : State) : State :=
  let idx := p.start / 64
  let db := r.flags.testBit 0
  let post := fun (op : KltOp) => kltPump (kltPost { conn := r.conn, tc := 0, op := op, src := .pwq q idx } (pwqBegin q p { status := none, mcast := [] } s))
  match r.opc with
  | 1 => post (.write r.raddr r.rkey (localBytes s r.laddr r.len) db)
  | 2 => post (.read r.raddr r.rkey r.len r.laddr)
  | 3 => post (.frameWrite r.raddr r.rkey (rawFrames s r.laddr r.len) db)
  | 4 => post (.frameRead r.raddr r.rkey r.len r.laddr)
  | _ =>
    let entries := mcEntries s r.conn
    if entries.isEmpty then kltPump (pwqBegin q p { status := some .ok, mcast := [] } s)
    else kltPump (mcastPost q idx r (localBytes s r.laddr r.len) entries
      (pwqBegin q p { status := none, mcast := entries.map (fun d => (d, (if r.words = 0 then 1 else 2, none))) } s))

/-- PWQ_REQUEST_START (R390 to R393): the next request of a queue starts where its predecessors, its fence and its gate allow;
a closed gate holds one wait entry (R353, R358). -/
def execPwqRequestStart (q : Nat) (s : State) : Host.Outcome State Fault Refusal := running s <|
  match pwqOf s q with
  | none => ok s
  | some p =>
    if !pwqMay s p then ok s
    else if !gateOpen s p then ok (gateWaits q p s)
    else match workCheck (dropGate q s) p (workReq s p) with
      | some st => ok (pwqBegin q p { status := some st, mcast := [] } (dropGate q s))
      | none => okSettle (pwqPost q p (workReq s p) (dropGate q s))

/-- CI passes the requests at the head that have completed; each that ended ST_OK performs ADD 1, in ring order; another
status stops the queue (R391). -/
def pwqAdvance (q : Nat) : Nat → State → State
  | 0, s => s
  | fuel + 1, s =>
    match pwqOf s q with
    | none => s
    | some p =>
      match NMap.get? p.inflight (p.ci / 64) with
      | some { status := some st, .. } =>
        let a := Acre.ofNum p.acre
        let p' := { p with ci := p.ci + 64, inflight := NMap.erase p.inflight (p.ci / 64)
                           err := if st = .ok then p.err else some (p.err.getD st) }
        let s := nearWrite a (p.base + 64) (leBytes 8 p'.ci) (putPwq q p' s)
        pwqAdvance q fuel (if st = .ok then (match p.srcCctr with
          | some o => addOne o s
          | none => s) else s)
      | _ => s

/-- A request that has ended writes STATUS, and DONE_MAP of a multicast; another status than ST_OK sets ERROR (R390, R391, R393). -/
def pwqDone (q : Nat) (p : Pwq) (idx : Nat) (st : Status) (m : NMap (Nat × Option Status)) (s : State) : State :=
  let done := m.foldl (fun v e => if e.2.2.isNone && e.2.1 = 0 then v + 2 ^ e.1 else v) 0
  let s := pwqWrite p (idx * 64 + 2) [BitVec.ofNat 8 st.code] s
  let s := if m.isEmpty then s else pwqWrite p (idx * 64 + 56) (leBytes 8 done) s
  if st = .ok then s else putPwq q { p with err := some (p.err.getD st) } s

/-- PWQ_REQUEST_COMPLETE (R390, R391, R393): a request that has ended writes STATUS, and DONE_MAP of a multicast; CI and the
completion counter follow in ring order. -/
def execPwqRequestComplete (q idx : Nat) (s : State) : Host.Outcome State Fault Refusal := running s <|
  match pwqOf s q with
  | none => ok s
  | some p =>
    match NMap.get? p.inflight idx with
    | some { status := some st, mcast := m } => okSettle (pwqAdvance q (p.inflight.length + 1) (pwqDone q p idx st m s))
    | _ => ok s

/-- PWQ_ERROR_CLEAR (R391): the queue resumes at the next request. -/
def execPwqErrorClear (q : Nat) (s : State) : Host.Outcome State Fault Refusal := running s <|
  match pwqOf s q with
  | none => ok s
  | some p => ok (putPwq q { p with err := none } s)

/-! ## Ports and malformed packets -/

/-- The sequenced packets of a lost port's queues are lost: they are sent again on other paths. -/
def losePkts (gone : List QPkt) (s : State) : State :=
  gone.foldl (fun s p =>
    match p.psn with
    | none => s
    | some psn => modConn p.conn (fun c => { c with inflight := NMap.modify c.inflight psn (fun k => { k with lost := true }) }) s) s

/-- ETHERNET_LINK_CHANGE (R384, R407): a port's paths leave or join the rotation. What a lost port had queued is sent by the
other ports: sequenced packets as lost ones; the rest are dropped with the link. -/
def execEthernetLinkChange (port : Nat) (up : Bool) (s : State) : Host.Outcome State Fault Refusal := running s <|
  if 8 ≤ port then ok s
  else
    let x := portOf s port
    if up then okSettle (kltPump (putPort port { x with up := true } s))
    else okSettle (kltPump (losePkts (x.queues.flatMap (fun q => q.2)) (putPort port { x with up := false, queues := [], deficit := [] } s)))

/-- KLT_MALFORMED_PACKET (R368, R371): dropped and counted on the Yoke of the port it came to. -/
def execKltMalformedPacket (y : Yoke) (s : State) : Host.Outcome State Fault Refusal := running s <|
  ok (bumpF .KLT_DROPS (.yoke y) 0 15 0 1 s)

end Sys2Proof.Machine
end

