-- ==== Sys2Proof/Machine/Tsc.lean ====
section
/-!
DEFINITION. The commands of the egress scheduler, the time gates and PTP (chapter 13).
-/
namespace Sys2Proof.Machine

/-! ## Time error (R417, R418) -/

/-- The PTP servo and estimate. -/
def setPtp (f : PtpState → PtpState) (s : State) : State := setTsc (fun t => { t with ptp := f t.ptp }) s

/-- Nanoseconds of a Sync interval (TSC_PTP_CTRL.LOG_SYNC). -/
def syncInterval (s : State) : Nat := 1000000000 * 2 ^ primF s .TSC_PTP_CTRL 0 28 25 / 65536

/-- H of R417: the growth of the estimate in holdover. -/
def holdover (s : State) (y : Yoke) : Nat :=
  match s.tsc.ptp.tSync with
  | none => 0
  | some t =>
    let age := ktbOf s (.yoke y) - t
    if age ≤ 2 * syncInterval s then 0 else age * primF s .TSC_TIME_CTRL 0 47 32 / 1000000000

/-- TE_EST on a Yoke (R417). -/
def teEst (s : State) (y : Yoke) : Nat :=
  if !s.tsc.ptp.everLocked then 2 ^ 32 - 1
  else min (2 ^ 32 - 1)
    ((s.tsc.ptp.thetas.map Int.natAbs).foldl max 0 + primF s .TSC_TIME_CTRL 0 31 16 + holdover s y +
      (if y = s.ckp.primary then 0 else 2))

/-- The excess X (R418). -/
def excess (s : State) (y : Yoke) : Nat := teEst s y - primF s .TSC_TIME_CTRL 0 15 0

/-- DRIFT follows X > 0; a rise sets DRIFT_SEEN and posts the alarm (R418). -/
def driftCheckY (y : Yoke) (s : State) : State :=
  let x := decide (0 < excess s y)
  let old := s.tsc.drift.get y
  let s := setTsc (fun t => { t with drift := t.drift.set y x }) s
  if x && !old then mgmtPost (.drift y) (setLiveF .TSC_TE (.yoke y) 0 49 49 1 s) else s

def driftCheck (s : State) : State := driftCheckY .ye (driftCheckY .yw s)

/-! ## Gates (R410 to R413) -/

/-- Entries a list uses, with start, end and mask: an entry that would start at or beyond CYCLE_NS is never used, and the last
governs up to it (R410). -/
def gclSpans (cycle : Nat) : Nat → List (Nat × Nat) → List (Nat × Nat × Nat)
  | _, [] => []
  | at_, [(m, _)] => if at_ < cycle then [(at_, cycle, m)] else []
  | at_, (m, d) :: rest => if at_ < cycle then (at_, min (at_ + d) cycle, m) :: gclSpans cycle (at_ + d) rest else []

def Gcl.spans (g : Gcl) : List (Nat × Nat × Nat) := gclSpans g.cycle 0 g.entries

/-- The position p(t) of R410. -/
def Gcl.pos (g : Gcl) (t : Nat) : Nat := (((t : Int) - g.base - g.phase) % (g.cycle : Int)).toNat

/-- The list that governs on a Yoke at `t`: a pending list from its takeover time on (R413). -/
def gclAt (s : State) (y : Yoke) (t : Nat) : Option Gcl :=
  match s.tsc.pend.get y with
  | some p => if p.at_ ≤ t then p.list else s.tsc.running.get y
  | none => s.tsc.running.get y

/-- Length of the run of spans open for a class at the front of a list. -/
def gateRun (c : Nat) : List (Nat × Nat × Nat) → Nat
  | [] => 0
  | (a, b, m) :: rest => if m.testBit c then b - a + gateRun c rest else 0

/-- A class has window edges: it is not TC7, and some used entry closes it (R412). -/
def Gcl.gated (g : Gcl) (c : Nat) : Bool := c ≠ 7 && g.spans.any (fun e => !e.2.2.testBit c)

/-- The window of a gated class that holds `t`: its nominal open and close, windows running through entries that both open it. -/
def Gcl.window (g : Gcl) (c t : Nat) : Option (Nat × Nat) :=
  let p := g.pos t
  let before := g.spans.filter (fun e => e.2.1 ≤ p)
  match g.spans.find? (fun e => e.1 ≤ p && p < e.2.1) with
  | none => none
  | some (a, b, m) =>
    if !m.testBit c then none
    else
      let after := g.spans.filter (fun e => b ≤ e.1)
      let fwd := (b - p) + gateRun c (after ++ before)
      let back := (p - a) + gateRun c (before.reverse ++ after.reverse)
      some (t - back, t + fwd)

/-- The gate of a class lets a packet of `wire` bytes start at `t`: opened by the nominal open plus X_o, and the packet ends
before the close less X; a takeover closes every window of the list it replaces (R411, R413, R418). -/
def gateLets (s : State) (y : Yoke) (t c wire : Nat) : Bool :=
  match gclAt s y t with
  | none => true
  | some g =>
    let cut := match s.tsc.pend.get y with
      | some p => if t < p.at_ then some p.at_ else none
      | none => none
    if !g.gated c then true
    else match g.window c t with
      | none => false
      | some (o, cl) =>
        let cl := match cut with
          | some e => min cl e
          | none => cl
        let xo := match NMap.get? s.tsc.opens (y.num * 8 + c) with
          | some (o', x) => if o' = o then x else excess s y
          | none => excess s y
        decide (o + xo ≤ t) && decide (50 * (t + excess s y) + wire ≤ 50 * cl)

/-- The list TSC_GCL_* hold, if EN = 1. -/
def gclOf (s : State) : Option Gcl :=
  if primF s .TSC_GCL_CTRL 0 6 6 = 0 then none
  else some { base := primF s .TSC_GCL_BASE 0 63 0, phase := primF s .TSC_GCL_PHASE 0 31 0, cycle := primF s .TSC_GCL_CTRL 0 38 7,
              entries := (List.range (primF s .TSC_GCL_CTRL 0 5 0 + 1)).map
                (fun i => (primF s .TSC_GCL_ENTRY i 7 0, primF s .TSC_GCL_ENTRY i 39 8)) }

/-- The pending list takes over on a Yoke whose time has come (R413). -/
def gclTake (y : Yoke) (s : State) : State :=
  match s.tsc.pend.get y with
  | none => s
  | some p =>
    if ktbOf s (.yoke y) < p.at_ then s
    else setLiveF .TSC_GCL_STATUS (.yoke y) 0 8 8 (if p.late then 1 else 0)
      (setTsc (fun t => { t with running := t.running.set y p.list, pend := t.pend.set y none, takeAt := t.takeAt.set y p.at_ }) s)

/-- The switch of a commit that names the TSC block, at T_s = `t` (R413). -/
def gclSwitch (t : Nat) (y : Yoke) (s : State) : State :=
  let s := gclTake y s
  let new := gclOf s
  let p : GclPend := match new with
    | none => ⟨none, t, false⟩
    | some g =>
      if t < g.base then ⟨new, g.base, false⟩
      else match s.tsc.running.get y with
        | some r => ⟨new, t + (r.cycle - r.pos t), true⟩
        | none => ⟨new, t, true⟩
  gclTake y (setTsc (fun x => { x with pend := x.pend.set y (some p) }) s)

/-! ## The scheduler (R402 to R405) -/

/-- RATE of a class in force on a port: a committed one takes effect at the bucket's next refill (R406). -/
def rateOf (s : State) (x : EgressPort) (c : Nat) : Nat :=
  match x.held with
  | some h => NMap.get 0 h.2 c
  | none => primF s .TSC_SHP c 31 0

/-- REFILL_NS in force on a port (R406). -/
def refillNs (s : State) (x : EgressPort) : Nat :=
  match x.held with
  | some h => h.1
  | none => primF s .TSC_REFILL 0 15 0

/-- The bucket of a class lets a packet start. -/
def shaperLets (s : State) (x : EgressPort) (c : Nat) : Bool := rateOf s x c = 0 || decide (0 < NMap.get 0 x.tokens c)

/-- A class is eligible on a port (R403). -/
def eligible (s : State) (p c : Nat) : Bool :=
  let x := portOf s p
  match portQ x c with
  | [] => false
  | q :: _ => shaperLets s x c && gateLets s (portYoke p) (ktbOf s (.yoke (portYoke p))) c q.wire

/-- The classes the round robin looks at, from `ptr` down, wrapping from 0 to 6. -/
def drrOrder (ptr : Nat) : List Nat := (List.range 7).map (fun i => (ptr + 7 - i) % 7)

/-- The choice of R404: the class, and the port after it. -/
def drrSelect (s : State) (p : Nat) : Option (Nat × EgressPort) :=
  let x := portOf s p
  match (drrOrder x.ptr).find? (eligible s p) with
  | none => none
  | some c =>
    let d0 := NMap.get 0 x.deficit c
    let d := (if d0 = 0 then primF s .TSC_DRR 0 (8 * c + 7) (8 * c) else d0) - 1
    let last := (portQ x c).length = 1
    some (c, { x with deficit := NMap.putD 0 x.deficit c (if last then 0 else d),
                      ptr := if d = 0 || last then (c + 6) % 7 else c })

/-- The packet as it leaves: TS_TX is the KTB of the hand-over (R369). -/
def stampPkt (t : Nat) : WirePkt → WirePkt
  | .data h d g => .data { h with tsTx := t % 2 ^ 32 } d g
  | p => p

/-- What leaving does to the sender's books: the packet's send time (R386), and a PTP message's time stamp at the PHY, within
2 ns (R415). -/
def noteSent (p t : Nat) (q : QPkt) (s : State) : State :=
  match q.pkt with
  | .ptp .sync seq _ _ =>
    let ts := t + 2 - freeBelow 5 s
    let x := portOf s p
    putPort p { x with queues := NMap.mapV x.queues (fun _ l => l.map (fun o => match o.pkt with
      | .ptp .followUp n _ k => if n = seq then { o with pkt := .ptp .followUp n ts k } else o
      | _ => o)) } (drew s)
  | .ptp .delayReq seq _ _ => setPtp (fun u => { u with delayReq := some (seq, t + 2 - freeBelow 5 s) }) (drew s)
  | _ =>
    match q.psn with
    | none => s
    | some psn => modConn q.conn (fun c => { c with inflight := NMap.modify c.inflight psn (fun i => { i with sentAt := some t }) }) s

/-- The head packet of a class leaves the port. -/
def sendHead (p c : Nat) (x : EgressPort) (s : State) : State :=
  match portQ x c with
  | [] => s
  | q :: rest =>
    let y := portYoke p
    let t := ktbOf s (.yoke y)
    let k := p % 4 + 4 * c
    let x := { x with queues := NMap.put x.queues c rest
                      tokens := if rateOf s x c = 0 then x.tokens else NMap.putD 0 x.tokens c (NMap.get 0 x.tokens c - q.wire) }
    let s := putPort p x s
    let s := setLiveF .TSC_QCOUNT (.yoke y) k 63 32 ((liveF s .TSC_QCOUNT (.yoke y) k 63 32 + 1) % 2 ^ 32) s
    noteSent p t q (emit (.packet p { q with pkt := stampPkt t q.pkt }) s)

/-- EGRESS_SELECT (R403): the port is free to start a packet. -/
def execEgressSelect (port : Nat) (s : State) : Host.Outcome State Fault Refusal := running s <|
  let s := kltPump s
  if 8 ≤ port || !(portOf s port).up then ok s
  else if eligible s port 7 then ok (kltPump (sendHead port 7 (portOf s port) s))
  else match drrSelect s port with
    | none => ok s
    | some (c, x) => ok (kltPump (sendHead port c x s))

/-- The buckets of a port after `n` refills: each gains RATE × REFILL_NS bytes for each, up to BURST (R405, R406). -/
def refillTokens (s : State) (n : Nat) (m : NMap Int) : NMap Int :=
  (List.range 8).foldl (fun (m : NMap Int) c =>
    let gain := (n * (primF s .TSC_SHP c 31 0 * primF s .TSC_REFILL 0 15 0 / 1000) : Nat)
    NMap.putD 0 m c (min (NMap.get 0 m c + (gain : Int)) ((primF s .TSC_SHP c 55 32 : Nat) : Int))) m

/-- The first refill of a port after its last one (R405, R406). -/
def nextRefill (s : State) (x : EgressPort) : Nat := (x.refillAt / refillNs s x + 1) * refillNs s x

/-- Refills of a port up to KTB `t`: the next one, by the REFILL_NS in force, and those that follow it by the live value. -/
def refills (s : State) (x : EgressPort) (t : Nat) : Nat :=
  if refillNs s x = 0 || decide (t < nextRefill s x) then 0
  else 1 + (t / primF s .TSC_REFILL 0 15 0 - nextRefill s x / primF s .TSC_REFILL 0 15 0)

/-- The buckets of a port at KTB `t`, with every refill up to it; what a commit switched takes effect (R405, R406). -/
def refillTo (s : State) (t : Nat) (x : EgressPort) : EgressPort :=
  if refills s x t = 0 then x else { x with refillAt := t, held := none, tokens := refillTokens s (refills s x t) x.tokens }

/-- Before a switch of TSC_SHP and TSC_REFILL at T_s: the refills before T_s use the old values, and these stand until the next
refill, which may fall at T_s (R406). -/
def shaperHold (s : State) : State :=
  setTsc (fun u => { u with ports := u.ports.map (fun e =>
    let x := refillTo s (ktbOf s (.yoke (portYoke e.1)) - 1) e.2
    (e.1, { x with held := some (x.held.getD
      (primF s .TSC_REFILL 0 15 0, (List.range 8).map (fun c => (c, primF s .TSC_SHP c 31 0)))) })) }) s

/-- SHAPER_REFILL (R405, R406): at each whole multiple of REFILL_NS passed since the last refill, every bucket of the port
gains its period's bytes, up to BURST. -/
def execShaperRefill (port : Nat) (s : State) : Host.Outcome State Fault Refusal := running s <|
  if 8 ≤ port || refills s (portOf s port) (ktbOf s (.yoke (portYoke port))) = 0 then ok s
  else ok (putPort port (refillTo s (ktbOf s (.yoke (portYoke port))) (portOf s port)) s)

/-- A sampling instant has passed since the last sample of a port (R409). -/
def sampleDue (s : State) (port : Nat) : Bool :=
  let per := primF s .TSC_REFILL 0 31 16
  decide (per ≠ 0) && decide (ktbOf s (.yoke (portYoke port)) / per ≠ (portOf s port).sampleAt / per)

/-- The largest depth and head delay of each class queue of a port, with the sample taken now (R409). -/
def sampleMax (s : State) (port : Nat) (m : NMap QMax) : NMap QMax :=
  (List.range 8).foldl (fun (m : NMap QMax) c =>
    let o := NMap.get ⟨0, 0⟩ m (port * 8 + c)
    let q := portQ (portOf s port) c
    NMap.putD ⟨0, 0⟩ m (port * 8 + c)
      ⟨max o.depth q.length, max o.delay (match q with
        | [] => 0
        | h :: _ => min (ktbOf s (.yoke (portYoke port)) - h.at_) (2 ^ 32 - 1))⟩) m

/-- QUEUE_SAMPLE (R409): depth and head delay of every class queue of a port. -/
def execQueueSample (port : Nat) (s : State) : Host.Outcome State Fault Refusal := running s <|
  if 8 ≤ port || !sampleDue s port then ok s
  else ok (setTsc (fun t => { t with maxLive := sampleMax s port t.maxLive })
    (putPort port { portOf s port with sampleAt := ktbOf s (.yoke (portYoke port)) } s))

/-- The windows that hold `t`: for each gated class its nominal open, with the excess at the first instant seen in it (R418). -/
def windowOpens (s : State) (y : Yoke) (g : Gcl) (t : Nat) (m : NMap (Nat × Nat)) : NMap (Nat × Nat) :=
  (List.range 7).foldl (fun m c =>
    match (if g.gated c then g.window c t else none) with
    | none => NMap.erase m (y.num * 8 + c)
    | some (o, _) =>
      if ((NMap.get? m (y.num * 8 + c)).map (fun e => e.1)) = some o then m
      else NMap.put m (y.num * 8 + c) (o, excess s y)) m

/-- GATE_EDGE (R410, R418): the instant is on record for each class whose window holds it: nominal open, and the excess then. -/
def execGateEdge (y : Yoke) (s : State) : Host.Outcome State Fault Refusal := running s <|
  let s := gclTake y s
  match gclAt s y (ktbOf s (.yoke y)) with
  | none => ok s
  | some g => ok (driftCheckY y (setTsc (fun x => { x with opens := windowOpens s y g (ktbOf s (.yoke y)) x.opens }) s))

/-- GCL_TAKEOVER (R413). -/
def execGclTakeover (y : Yoke) (s : State) : Host.Outcome State Fault Refusal := running s <| ok (gclTake y s)

/-! ## PTP (R415, R416) -/

/-- PTP is enabled. -/
def ptpOn (s : State) : Bool := primF s .TSC_PTP_CTRL 0 0 0 = 1

/-- The order of the default best master clock algorithm: the fields in turn, the lower number first. -/
def clockBetter (a b : PtpClock) : Bool :=
  let k := fun (c : PtpClock) => [c.priority1, c.class_, c.accuracy, c.variance, c.priority2, c.identity, c.steps]
  match ((k a).zip (k b)).find? (fun p => p.1 ≠ p.2) with
  | some (x, y) => decide (x < y)
  | none => false

/-- The device's own dataset. -/
def ownClock (s : State) : PtpClock :=
  { priority1 := primF s .TSC_PTP_CTRL 0 16 9, class_ := Config.ptpClass, accuracy := Config.ptpAccuracy,
    variance := Config.ptpVariance, priority2 := primF s .TSC_PTP_CTRL 0 24 17, identity := Config.ptpIdentity, steps := 0 }

/-- Selection by the BMCA over the datasets announced: slave to the best of them, or master where none is better than the
device's own and MASTER_OK = 1. -/
def bmca (s : State) : State :=
  let best := s.tsc.ptp.foreign.foldl (fun (b : Option (Nat × PtpClock)) e =>
    match b with
    | none => some e
    | some x => if clockBetter e.2 x.2 then some e else b) none
  let masterOk := primF s .TSC_PTP_CTRL 0 1 1 = 1
  let u := s.tsc.ptp
  match best with
  | none => setPtp (fun u => { u with st := if masterOk then .master else .listening }) s
  | some (p, c) =>
    if masterOk && clockBetter (ownClock s) c then setPtp (fun u => { u with st := .master }) s
    else if (u.st = .slave || u.st = .uncalibrated) && u.port = p then s
    else setPtp (fun u => { u with st := .uncalibrated, port := p, half := none, delayReq := none }) s

/-- A signed number of `n` bits as a natural number. -/
def twos (n : Nat) (v : Int) : Nat := (v % (2 ^ n : Int)).toNat

/-- A slew write on a Yoke: it replaces the remainder (R44). -/
def slewWrite (y : Yoke) (ns : Int) (s : State) : State :=
  { s with time := { s.time with slew := s.time.slew.set y (ns * 2 ^ 32) } }

/-- A forward step of KTB (R44). The Yoke that holds primacy is the reference and every copy tracks it, so a step there moves them
all; the other Yoke's count follows the reference and keeps no step of its own (R45; log 82). -/
def stepKtb (y : Yoke) (ns : Nat) (s : State) : State :=
  if y = s.ckp.primary then { s with time := { s.time with ktb := s.time.ktb.map (fun t => t + ns) } } else s

/-- An offset from the selected master feeds the servo (R416, R417). Its gains are not given: the frequency it sets is free
within ±500 ppm (log 80). -/
def ptpOffset (theta : Int) (s : State) : State :=
  let y := s.ckp.primary
  let big := decide (1000000 < theta.natAbs)
  let f : Int := (freeBelow 1000000001 s : Int) - 500000000
  let s := setLiveF .YOK_KTB_FREQ (.yoke y) 0 31 0 (twos 32 f) (drew s)
  let s := if big && s.sec.tenancy = .unassigned && decide (theta < 0) then stepKtb y theta.natAbs s else slewWrite y (-theta) s
  let good := if theta.natAbs < 100 then s.tsc.ptp.good + 1 else 0
  let locked := (s.tsc.ptp.locked && theta.natAbs ≤ 1000) || decide (16 ≤ good)
  driftCheck (setPtp (fun u => { u with
    theta := theta, thetas := (theta :: u.thetas).take 8, good := good, locked := locked, everLocked := u.everLocked || locked,
    st := if locked then .slave else u.st }) s)

/-- A Sync from the selected master has both its times: departure `t1`, arrival `t2`. -/
def ptpTimes (t1 t2 : Nat) (s : State) : State :=
  let s := setPtp (fun u => { u with t1 := t1, t2 := t2, half := none }) s
  ptpOffset ((t2 : Int) - t1 - s.tsc.ptp.mpd) s

/-- The message comes from the selected master. -/
def fromMaster (s : State) (port : Nat) : Bool :=
  ptpOn s && (s.tsc.ptp.st = .slave || s.tsc.ptp.st = .uncalibrated) && s.tsc.ptp.port = port

/-- PTP_SYNC (R416): a Sync with the time stamp of its arrival; a one-step Sync carries its departure. -/
def execPtpSync (port seq : Nat) (t1 : Option Nat) (ts : Nat) (s : State) : Host.Outcome State Fault Refusal := running s <|
  if !fromMaster s port then ok s
  else
    let s := setPtp (fun u => { u with tSync := some ts }) s
    match t1 with
    | some t => ok (ptpTimes t ts s)
    | none => ok (driftCheck (setPtp (fun u => { u with half := some (port, seq, ts) }) s))

/-- PTP_FOLLOW_UP (R415). -/
def execPtpFollowUp (port seq t1 : Nat) (s : State) : Host.Outcome State Fault Refusal := running s <|
  match s.tsc.ptp.half with
  | some (p, n, ts) => if fromMaster s port && p = port && n = seq then ok (ptpTimes t1 ts s) else ok s
  | none => ok s

/-- PTP_DELAY_RESP (R415): the mean path delay of the end-to-end exchange. -/
def execPtpDelayResp (port seq t4 : Nat) (s : State) : Host.Outcome State Fault Refusal := running s <|
  match s.tsc.ptp.delayReq with
  | some (n, t3) =>
    if !fromMaster s port || n ≠ seq then ok s
    else ok (setPtp (fun u =>
      { u with delayReq := none, mpd := ((((u.t2 : Int) - u.t1) + ((t4 : Int) - t3)) / 2).toNat }) s)
  | none => ok s

/-- Queue a PTP message in TC7 of a port (R415). -/
def sendPtp (port : Nat) (k : PtpKind) (seq ts : Nat) (c : Option PtpClock) (s : State) : State :=
  if !(portOf s port).up then s
  else
    let e := freeBelow 256 s
    queuePkt port 7 { pkt := .ptp k seq ts c, conn := 0, psn := none, wire := wireBytes 0, at_ := ktbOf s (.yoke (portYoke port)),
                      e := e, peer := 0 } (drew s)

/-- PTP_DELAY_REQ (R415): a master answers with the time stamp of the request's arrival. -/
def execPtpDelayReq (port seq ts : Nat) (s : State) : Host.Outcome State Fault Refusal := running s <|
  if ptpOn s && s.tsc.ptp.st = .master then ok (sendPtp port .delayResp seq ts none s) else ok s

/-- PTP_ANNOUNCE (R415). -/
def execPtpAnnounce (port : Nat) (domain : Nat) (c : PtpClock) (s : State) : Host.Outcome State Fault Refusal := running s <|
  if !ptpOn s || 8 ≤ port || domain ≠ primF s .TSC_PTP_CTRL 0 8 2 then ok s
  else ok (bmca (setPtp (fun u => { u with foreign := NMap.put u.foreign port c }) s))

/-- `n` ns have passed since the last message sent on a PTP port, or none has been sent. -/
def ptpDue (s : State) (port n : Nat) : Bool :=
  match NMap.get? s.tsc.ptp.sentAt port with
  | none => true
  | some t => decide (n ≤ ktb s - t)

/-- A message is sent on a PTP port now, under the next sequence number. -/
def ptpSends (port : Nat) (s : State) : State :=
  setPtp (fun u => { u with nextSeq := (u.nextSeq + 1) % 65536, sentAt := NMap.put u.sentAt port (ktb s) }) s

/-- A master's Sync and Follow_Up, and an Announce where it is due, which the spec does not time (log 81). -/
def masterSends (port : Nat) (s : State) : State :=
  let n := s.tsc.ptp.nextSeq
  let s' := sendPtp port .followUp n 0 none (sendPtp port .sync n 0 none (ptpSends port s))
  if freeBelow 2 s' = 0 then sendPtp port .announce n 0 (some (ownClock s)) (drew s') else drew s'

/-- Nanoseconds of a Delay_Req interval (TSC_PTP_CTRL.LOG_DELAY). -/
def delayInterval (s : State) : Nat := 1000000000 * 2 ^ primF s .TSC_PTP_CTRL 0 32 29 / 65536

/-- PTP_SEND_TIMER (R415): a master sends Sync and Follow_Up, and an Announce when it is due; a slave sends Delay_Req. -/
def execPtpSendTimer (port : Nat) (s : State) : Host.Outcome State Fault Refusal := running s <|
  let u := s.tsc.ptp
  if !ptpOn s || 8 ≤ port then ok s
  else if u.st = .master && ptpDue s port (syncInterval s) then ok (masterSends port s)
  else if (u.st = .slave || u.st = .uncalibrated) && u.port = port && ptpDue s port (delayInterval s) then
    ok (sendPtp port .delayReq u.nextSeq 0 none (ptpSends port s))
  else ok s

/-- PTP_SYNC_LOSS (R416): no Sync for four intervals. -/
def execPtpSyncLoss (s : State) : Host.Outcome State Fault Refusal := running s <|
  match s.tsc.ptp.tSync with
  | none => ok s
  | some t =>
    if ktb s < t + 4 * syncInterval s then ok s
    else ok (driftCheck (setPtp (fun u => { u with locked := false, good := 0 }) s))

/-- HOLDOVER_EXCESS_RISE (R418). -/
def execHoldoverExcessRise (s : State) : Host.Outcome State Fault Refusal := running s <| ok (driftCheck s)

end Sys2Proof.Machine
end

