-- ==== Sys2Proof/Machine/CkptOps.lean ====
section
/-!
DEFINITION. Checkpoint epochs: selection, capture, the shadow, shards, the drain, the end of an epoch (R461 to R477).
-/
namespace Sys2Proof.Machine

def setCkp (f : CkptState → CkptState) (s : State) : State := { s with ckp := f s.ckp }

/-- A command served at the Yoke that holds primacy; `passed`: primacy passed while it was in flight (R302); the
holder may have stopped issuing commands (R488). -/
def primCmd (sq cid : Nat) (kind : QKind) (passed : Bool) (f : State → State) (s : State) : State :=
  hostCmd sq cid kind false (fun s => if passed || !(s.ckp.yokes.get s.ckp.primary).issuing then postCqe sq cid .primacy 0 0 s else f s) s

/-- An epoch is neither DRAINED nor FAILED. -/
def epochRuns (s : State) : Bool :=
  match s.ckp.epochSt with
  | .pending => true
  | .open_ => true
  | .captured => true
  | _ => false

/-! ## The marker (R462 to R465) -/

/-- The session is selected at an epoch (R462). -/
def selected (s : State) (full : Bool) (slot : Nat) : Bool :=
  let r := ckptRow s slot
  full || r.once || (r.auto && (desc s slot).seq != r.seqLast)

/-- What the marker notes of a record slot. -/
def capRecord (o : ObjRec) : CapObj :=
  { kind := o.kind, profile := o.profile, frames := o.frames, stackId := o.stackId, ctr := o.ctr, keySel := o.keySel, data := o.data,
    gone := o.sstate = .free, home := o.home, taken := .untaken, pool := [], copied := false, drained := false, lost := o.lost }

/-- What the marker notes of a Chest object a map names without a record: taken by reference (R465). -/
def capChest (s : State) (loc : Nat) : Option CapObj :=
  match NMap.get? s.chest.content (locIndex loc), locValid s loc with
  | some c, true =>
    let r := chestRec s (locIndex loc)
    some { kind := .stack, profile := r.profile, frames := r.frames, stackId := r.stackId, ctr := r.ctr, keySel := r.keySel,
           data := c.data, gone := false, home := .chest loc, taken := .ref, pool := [], copied := true, drained := false, lost := false }
  | _, _ => none

/-- A key is held by some manifest of the chain. -/
def inChain (s : State) (key : Nat) : Bool :=
  s.ckp.manifests.any (fun m => m.shards.toList.any (fun h => (NMap.get? h.objs key).isSome))

/-- Record slots of an Acre's prefixes and indexes. -/
def tableObjs (s : State) (a : Acre) : List Nat :=
  let recs := fun (m : NMap MapEntry) => m.filterMap (fun e => match e.2.ref with
    | .record i => some i
    | _ => none)
  (NMap.vals s.tier.prefixes).flatMap (fun p => p.mapSlot :: p.listSlot :: recs (getObj s p.mapSlot).data.entries) ++
  (s.gln.indexes.filter (fun e => e.1 / 2 ^ 10 = a.num)).flatMap (fun e =>
    e.2.centroid :: e.2.side :: e.2.lists.filterMap (fun l => match l.2.ref with
      | .record i => some i
      | _ => none))

/-- The shard of an Acre as the marker opens it: the selected sessions, their maps and Drawers, every changed object those and
the tables name, FREE tombstones, objects of synchronisation, prefixes, indexes. -/
def openShard (s : State) (a : Acre) (full : Bool) : Shard :=
  let mine := (sessions s).filter (fun x => homeAcre x = a && selected s full x)
  let changed := fun i => full || (NMap.get? s.ckp.frozen i).isSome
  let stackLocs := mine.flatMap (fun x => (getObj s (mapObj x)).data.entries.filterMap (fun e => match e.2.ref with
    | .record i => some i
    | _ => none))
  let always := mine.flatMap (fun x => [mapObj x, drawerObj x])
  let named := (stackLocs ++ tableObjs s a).filter changed
  let free := (NMap.keys s.ckp.frozen).filter (fun i => objAcre i = a && (getObj s i).sstate = .free)
  let objs := (always ++ named ++ free).foldl (fun (m : NMap CapObj) i =>
    if objAcre i = a then NMap.put m i (capRecord (getObj s i)) else m) []
  let locs := mine.flatMap (fun x => (chestEntries s x).map (fun e => e.2))
  let objs := locs.foldl (fun (m : NMap CapObj) l =>
    if full || !inChain s (2 ^ 32 + l) then
      match capChest s l with
      | some c => NMap.put m (2 ^ 32 + l) c
      | none => m
    else m) objs
  { marked := true, captured := false,
    sessions := mine.map (fun x => (x, { handle := handleOf s x, desc := desc s x, row := ckptRow s x, st := .waiting })),
    objs := objs.map (fun e => if e.2.gone then (e.1, { e.2 with copied := true }) else e),
    syncDefs := (List.range 16384).foldl (fun (m : NMap Word) i =>
      let w := live s .SYN_DEF (.acre a) i
      if w = regReset .SYN_DEF i then m else m ++ [(a.num * 16384 + i, w)]) []
    syncWords := s.sync.words.filter (fun e => synAcre e.1 = a), prefixes := s.tier.prefixes,
    indexes := s.gln.indexes.filter (fun e => e.1 / 2 ^ 10 = a.num), metaDone := false, fresh := [], locs := [] }

/-- The marker reaches an Acre (R464 step 1): the bitmaps are exchanged, the epoch is open. -/
def applyMarker (a : Acre) (e : Epoch) (s : State) : State :=
  let mine := fun (m : NMap Unit) => m.filter (fun x => objAcre x.1 = a)
  let rest := fun (m : NMap Unit) => m.filter (fun x => objAcre x.1 ≠ a)
  let s := setCkp (fun c => { c with
    frozen := (mine c.live).foldl (fun m x => NMap.put m x.1 ()) (rest c.frozen), live := rest c.live, epochSt := .open_ }) s
  setShard a (fun _ => openShard s a e.full) s

/-! ## The end of an epoch (R463, R466, R471) -/

/-- Runs and Chest objects no longer needed by the drain are released (R466). -/
def releaseHeld (s : State) : State :=
  let free := s.ckp.heldRuns.filter (fun r => !runHeld s r.obj r.home)
  let locs := s.ckp.heldLocs.filter (fun l => !chestHeld s l)
  let s := setCkp (fun c => { c with heldRuns := c.heldRuns.filter (fun r => !free.contains r),
                                     heldLocs := c.heldLocs.filter (fun l => !locs.contains l) }) s
  let s := free.foldl (fun s r => giveHome r.home r.frames s) s
  locs.foldl (fun s l => chestRelease l s) s

/-- Appends of an Acre's sessions that waited for pool space go on (R469). -/
def drainAppends (a : Acre) (s : State) : State :=
  ((sessions s).filter (fun x => homeAcre x = a && !(auxOf s x).held.isEmpty)).foldl (fun s x => drainHeld x s) s

/-- The epoch ends: frozen bits of what was not captured carry forward, every hold is released (R463, R466). `keep`: the record
slots captured. -/
def endEpoch (st : EpochSt) (code : Nat) (keep : List Nat) (s : State) : State :=
  let s := setCkp (fun c => { c with
    live := (c.frozen.filter (fun x => !keep.contains x.1)).foldl (fun m x => NMap.put m x.1 ()) c.live, frozen := [],
    epochSt := st, epochStatus := code,
    epoch := c.epoch.map (fun e => { e with shards := .mk1 .empty }) }) s
  Acre.all.foldl (fun s a => drainAppends a s) (releaseHeld s)

/-- The epoch fails (R471). -/
def failEpoch (st : Status) (s : State) : State := if epochRuns s then endEpoch .failed st.code [] s else s

/-! ## Shards (R469, R470, R472) -/

/-- Bytes of an Acre's Field shadow region in use. -/
def shadowUsed (s : State) (a : Acre) : Nat :=
  (shardOf s a).objs.foldl (fun n e => if e.2.taken = .shadow && e.2.copied && !e.2.drained then n + e.2.frames * 4096 else n) 0

/-- Frames of an object as they lie sealed: ciphertext and tag. -/
def sealedFrames (stackId ctr keySel frames : Nat) (d : ObjData) : List (List Byte × List Byte) :=
  (List.range frames).map (fun i => Config.sealFrame stackId i ctr keySel (Cells.readN d.bytes (4096 * i) 4096))

/-- Objects of a captured shard that hold frames to write; what a fence loses later keeps its place. -/
def shardObjs (h : Shard) : List (Nat × CapObj) := h.objs.filter (fun e => !e.2.gone)

/-- Write a shard into the Chest: objects of KIND 2, each at most 1 GiB, over every ONLINE drive (R470). -/
def shardToChest (a : Acre) (left : Nat) : Nat → State → Status × State
  | 0, s => (.ok, s)
  | fuel + 1, s =>
    if left = 0 then (.ok, s)
    else
      let n := min left 262144
      let f : Sealed := { stackId := s.sec.deviceId * 2 ^ 25, ctr := 0, keySel := s.sec.curGen, kind := 0, data := .empty, corrupt := false }
      let j := s.chest.writes.length
      match chestWrite f .ckpt 0 n 32 (onlineDrives s) (.drain a.num) s with
      | (.ok, s) =>
        let loc := match s.chest.writes[j]? with
          | some w => [locOf w.index w.incarn]
          | none => []
        shardToChest a (left - n) fuel (setShard a (fun h => { h with locs := h.locs ++ loc }) s)
      | (st, s) => (st, s)

/-- Hand a shard's units to the KLT engine for a remote target (R470). Unit 0 stands for the header and metadata. -/
def shardToRemote (a : Acre) (conn base key : Nat) (h : Shard) (s : State) : State :=
  let metaUnit := Config.sealFrame (2 ^ 40 + a.num) 0 0 s.sec.curGen []
  let s := kltPost { conn := conn, tc := 2, op := .frameWrite base key [metaUnit] false, src := .drain a.num 0 } s
  ((shardObjs h).foldl (fun (x : Nat × Nat × State) e =>
    let fs := sealedFrames e.2.stackId e.2.ctr e.2.keySel e.2.frames e.2.data
    (x.1 + 4096 * e.2.frames, x.2.1 + 1,
      kltPost { conn := conn, tc := 2, op := .frameWrite x.1 key fs false, src := .drain a.num x.2.1 } x.2.2)) (base + 4096, 1, s)).2.2

/-- Bytes of the units a shard hands to a remote target. -/
def shardBytes (h : Shard) : Nat := 4096 * (1 + (shardObjs h).foldl (fun n x => n + x.2.frames) 0)

/-- Where a shard's units go at a remote target: the captured shards lie one after another from the base (R470). -/
def shardBase (s : State) (a : Acre) (base : Nat) : Nat :=
  Acre.all.foldl (fun n x => if x ≠ a && (shardOf s x).captured then n + shardBytes (shardOf s x) else n) base

/-- Start the drain of a captured shard (R470). An object under a LOCAL key never leaves for another device (R443). -/
def startDrain (a : Acre) (e : Epoch) (s : State) : State :=
  let h := shardOf s a
  match e.target with
  | .chest =>
    if s.chest.mount ≠ .mounted then failEpoch .notResident s
    else
      let frames := shardBytes h / 4096
      match shardToChest a frames (frames / 262144 + 1) s with
      | (.ok, s) => s
      | (st, s) => failEpoch st s
  | .remote conn base key =>
    if (shardObjs h).any (fun x => match NMap.get? s.sec.keys x.2.keySel with
      | some k => k.isLocal
      | none => false) then failEpoch .access s
    else kltPump (shardToRemote a conn (shardBase s a base) key h s)

/-- Every object of a shard is taken and copied. -/
def allTaken (h : Shard) : Bool := h.objs.all (fun e => e.2.gone || e.2.copied || e.2.lost)

/-- The sweep of R464 step 3 over a shard's sessions, in slot order; a session FENCED or MIGRATING is not captured (R467). A
session opened since the marker is captured where ONCE or FULL selects it (R468). -/
def sweepShard (a : Acre) (e : Epoch) (s : State) : State :=
  let h := shardOf s a
  let new := h.fresh.filter (fun x => (desc s x).state ≠ .free && (e.full || (ckptRow s x).once) &&
    (NMap.get? h.sessions x).isNone)
  let s := new.foldl (fun s x =>
    setShard a (fun h => { h with
      sessions := NMap.put h.sessions x { handle := handleOf s x, desc := desc s x, row := ckptRow s x, st := .waiting },
      objs := (ownObjs s x).foldl (fun m i => if objAcre i = a then NMap.put m i (capRecord (getObj s i)) else m) h.objs, fresh := [] }) s) s
  ((shardOf s a).sessions.filter (fun x => x.2.st = .waiting)).foldl (fun s x =>
    let skip := fun (st : Status) (s : State) =>
      ckptDone x.1 st (setCkptRow x.1 { ckptRow s x.1 with once := false, pinNext := false }
        (setShard a (fun h => { h with sessions := NMap.modify h.sessions x.1 (fun c => { c with st := .skipped }) }) s))
    match effState s x.1 with
    | .fenced => skip .fenced s
    | .migrating => skip .busy s
    | _ =>
      let s := commitDesc x.1 id s
      setCkptRow x.1 { ckptRow s x.1 with seqLast := (desc s x.1).seq } s) s

end Sys2Proof.Machine
end

