-- ==== Sys2Proof/Machine/TineCore.lean ====
section
/-!
DEFINITION. The Tine as a core: which Tine runs, registers, fetch range, traps, local store, and the encodings of the
first word of each form (R277 to R288, R316 to R324, R330).
-/
namespace Sys2Proof.Machine

/-- The context of a Tine that can execute its next instruction: it runs, waits for no synchronous operation, has not
trapped, and no halt wave stands. -/
def tineRunning (s : State) (t : Nat) : Option TineCtx :=
  if s.obs.halted then none
  else match NMap.get? s.tin.tines t with
    | some c => if c.stall.isSome || c.trapped.isSome then none else some c
    | none => none

/-- Value of a register field (R318, R322). -/
def tineReg (c : TineCtx) (r : BitVec 6) : Word :=
  let n := r.toNat
  if n = 0 then 0 else if n < 32 then NMap.get 0 c.g n else if n < 48 then NMap.get 0 c.c (n - 32) else 0

/-- The words [pc, pc + 4n) lie in the running image's code, or in the local store in system mode (R323). -/
def fetchOk (s : State) (c : TineCtx) (n : Nat) : Bool :=
  if c.system then decide (c.pc + 4 * n ≤ 2 ^ 18)
  else match imageOf s c.image with
    | none => false
    | some i => decide (i.base ≤ c.pc) && decide (c.pc + 4 * n ≤ i.base + i.code)

/-- A register field names no register (R318). -/
def badReg (r : BitVec 6) : Bool := decide (48 ≤ r.toNat)

/-- One instruction of a running Tine: budget, fetch range, register fields and must-be-zero bits first (R287, R318,
R319, R323), then its effect. -/
def tineExec (t w0 words : Nat) (regs : List (BitVec 6)) (mbz : Bool) (f : TineCtx → State → State) (s : State) :
    State :=
  match tineRunning s t with
  | none => s
  | some c =>
    if budgetOver s t c then tineTrap t c .timeout w0 s
    else if !fetchOk s c words then tineTrap t c .access w0 s
    else if regs.any badReg || mbz then tineTrap t c .badFormat w0 s
    else f c s

/-- The instruction writes RD and execution continues after its words (R316). -/
def tineWrite (t words : Nat) (rd : BitVec 6) (v : Word) (c : TineCtx) (s : State) : State :=
  putTine t { setTineReg c rd.toNat v with pc := c.pc + 4 * words } s

/-- Execution continues at an address. The program counter is a local address of 64 bits that wraps. -/
def tineJump (t : Nat) (target : Word) (c : TineCtx) (s : State) : State := putTine t { c with pc := target.toNat } s

/-! ## First words (R317) -/

def encR (op : Nat) (rd rs1 rs2 : BitVec 6) (fn : Nat) : Nat :=
  op * 2 ^ 25 + rd.toNat * 2 ^ 19 + rs1.toNat * 2 ^ 13 + rs2.toNat * 2 ^ 7 + fn

def encI (op : Nat) (rd rs1 : BitVec 6) (imm : BitVec 13) : Nat :=
  op * 2 ^ 25 + rd.toNat * 2 ^ 19 + rs1.toNat * 2 ^ 13 + imm.toNat

def encU (op : Nat) (rd : BitVec 6) (imm : BitVec 19) : Nat := op * 2 ^ 25 + rd.toNat * 2 ^ 19 + imm.toNat

/-- Sign extension of an immediate to 64 bits (R317). -/
def sext13 (i : BitVec 13) : Word := i.signExtend 64
def sext19 (i : BitVec 19) : Word := i.signExtend 64

/-! ## Local store (R278, R330) -/

/-- Bytes of the local store from `a`, in the map of the Tine's mode. -/
def localRead (s : State) (c : TineCtx) (a n : Nat) : List Byte :=
  if c.system || decide (0x30000 ≤ a) then Cells.readN c.data a n else Cells.readN s.tin.area a n

/-- A load of `n` bytes may reach [a, a + n) (R330). -/
def loadOk (c : TineCtx) (a n : Nat) : Bool :=
  decide (a + n ≤ if c.system then 2 ^ 18 else 0x34000)

/-- A store of `n` bytes may reach [a, a + n) (R330). -/
def storeOk (c : TineCtx) (a n : Nat) : Bool :=
  if c.system then decide (a + n ≤ 2 ^ 18) else decide (0x30000 ≤ a) && decide (a + n ≤ 0x34000)

/-- The local store with bytes written from `a`. -/
def localWrite (c : TineCtx) (a : Nat) (bs : List Byte) : TineCtx := { c with data := Cells.writeN c.data a bs }

end Sys2Proof.Machine
end

