-- ==== Sys2Proof/Machine/TineOps.lean ====
section
/-!
DEFINITION. What the engine instructions of a Tine share: their first word, the mode check, operation tags and the limit
on asynchronous operations (R289, R317, R333 to R335).
-/
namespace Sys2Proof.Machine

/-- First word of a form-E instruction. -/
def encE (eop : Nat) (rd rs1 rs2 : BitVec 6) : Nat := encR 0x61 rd rs1 rs2 eop

/-- An engine instruction: the checks of every instruction, then ST_ACCESS in system mode (R323, R333). -/
def tineEngine (t eop : Nat) (rd rs1 rs2 : BitVec 6) (regs : List (BitVec 6)) (mbz : Bool)
    (f : TineCtx → State → State) (s : State) : State :=
  tineExec t (encE eop rd rs1 rs2) 2 regs mbz
    (fun c s => if c.system then tineTrap t c .access (encE eop rd rs1 rs2) s else f c s) s

/-- A synchronous operation's result: status in RD[7:0] (R334). -/
def statusWord (st : Status) : Word := BitVec.ofNat 64 st.code

/-- The next tag of a session: ascending modulo 2^16, skipping 0 and every tag still valid (R334). -/
def nextTag (valid : List Nat) : Nat → Nat → Nat
  | 0, t => t
  | fuel + 1, t =>
    let n := (t + 1) % 2 ^ 16
    if n = 0 ∨ valid.contains n then nextTag valid fuel n else n

/-- Operations of a session outstanding in one of R289's two limits. -/
def outstandingOps (s : State) (slot : Nat) (timed : Bool) : Nat :=
  (s.tin.asyncs.filter (fun o => o.slot = slot && !o.ended && o.kind.timed = timed)).length

/-- The tag of a session's next operation (R334). -/
def issueTag (s : State) (slot : Nat) : Nat :=
  let valid := (s.tin.asyncs.filter (fun o => o.slot = slot)).map (fun o => o.tag)
  nextTag valid (valid.length + 2) (NMap.get 0 s.tin.lastTag slot)

/-- An operation is noted under its tag, RD holds the tag, and execution goes on (R289, R334). -/
def issued (t : Nat) (rd : BitVec 6) (kind : AsyncKind) (c : TineCtx) (s : State) : State :=
  let tag := issueTag s c.slot
  tineWrite t 2 rd (BitVec.ofNat 64 tag) c { s with tin := { s.tin with
    lastTag := NMap.put s.tin.lastTag c.slot tag,
    asyncs := s.tin.asyncs ++ [{ slot := c.slot, tag := tag, kind := kind, ended := false, ins := [], outs := [] }] } }

/-- An asynchronous issue (R289, R334): at the limit RD = 2^63 + ST_BUSY; otherwise RD is the operation's new tag and
`f` runs with it. -/
def asyncIssue (t : Nat) (rd : BitVec 6) (kind : AsyncKind) (f : Nat → State → State) (c : TineCtx) (s : State) :
    State :=
  if 4 ≤ outstandingOps s c.slot kind.timed then
    tineWrite t 2 rd (BitVec.ofNat 64 (2 ^ 63 + Status.busy.code)) c s
  else f (issueTag s c.slot) (issued t rd kind c s)

/-- `signal` (R342): the try form applied for the handler's session; RD holds the status and the value. -/
def tineSignal (t code : Nat) (rd rs1 rs2 rs3 : BitVec 6) (mbz : BitVec 21) (s : State) : State :=
  tineEngine t 0x21 rd rs1 rs2 [rd, rs1, rs2] (rs3 != 0 || mbz != 0)
    (fun c s =>
      let obj := (tineReg c rs1).toNat % 2 ^ 16
      let (r, s) := applySignal obj code (tineReg c rs2) (some c.slot) s
      tineWrite t 2 rd (BitVec.ofNat 64 (r.1.code + r.2 * 2 ^ 32)) c s) s

/-- `signal` of an ARM code (R356, R357): the checks of R348 to R350, then the Bureau's commit. -/
def tineArm (t code : Nat) (rd rs1 rs2 rs3 : BitVec 6) (mbz : BitVec 21) (s : State) : State :=
  tineEngine t 0x21 rd rs1 rs2 [rd, rs1, rs2] (rs3 != 0 || mbz != 0)
    (fun c s =>
      let obj := (tineReg c rs1).toNat % 2 ^ 16
      let v := tineReg c rs2
      let res := fun (st : Status) (s : State) =>
        tineWrite t 2 rd (BitVec.ofNat 64 (st.code + synValue (synWord s obj) * 2 ^ 32)) c s
      match synCheck s obj code v (some (desc s c.slot).principal) with
      | some st => res st (if s.sync.closing.contains obj then closingRefused obj s else s)
      | none =>
        match own c.slot s with
        | none => res .busy s
        | some s => res .ok (armObject c.slot obj (armPred code) v s)) s

/-- `signal` DISARM (R349, R356): WAKE_EN bit 1 is cleared and the watch removed. The object ID is ignored; the value
reported is not stated (log 29). -/
def tineDisarm (t : Nat) (rd rs1 rs2 rs3 : BitVec 6) (mbz : BitVec 21) (s : State) : State :=
  tineEngine t 0x21 rd rs1 rs2 [rd, rs1, rs2] (rs3 != 0 || mbz != 0)
    (fun c s =>
      let v := freeBelow (2 ^ 32) s
      let s := drew s
      match own c.slot s with
      | none => tineWrite t 2 rd (BitVec.ofNat 64 (Status.busy.code + v * 2 ^ 32)) c s
      | some s =>
        let s := removeWatch c.slot (commitDesc c.slot (fun d => { d with wakeObject := false }) s)
        tineWrite t 2 rd (BitVec.ofNat 64 (Status.ok.code + v * 2 ^ 32)) c s) s

/-- `wait` (R342): RD gets the tag; the wait is admitted at the object. -/
def tineWait (t code : Nat) (rd rs1 rs2 rs3 : BitVec 6) (mbz : BitVec 21) (s : State) : State :=
  tineEngine t 0x20 rd rs1 rs2 [rd, rs1, rs2, rs3] (mbz != 0)
    (fun c s =>
      let obj := (tineReg c rs1).toNat % 2 ^ 16
      let v := tineReg c rs2
      let ns := (tineReg c rs3).toNat
      let timeout := if ns = 0 then none else some (ktb s + ns)
      asyncIssue t rd (.wait obj) (fun tag s => admitWait c.slot tag obj code v timeout s) c s) s

end Sys2Proof.Machine
end

