-- ==== Sys2Proof/Machine/KsiEngine.lean ====
section
/-!
DEFINITION. Drawer loads and stores, and the engine operations of session programs (R331 to R342); dispatch, budgets and
program timers (R285 to R289).
-/
namespace Sys2Proof.Machine

/-! ## The Drawer (R331, R332) -/

/-- First word of a form-S instruction. -/
def encS (op : Nat) (rs2 rs1 : BitVec 6) (imm : BitVec 13) : Nat := encI op rs2 rs1 imm

/-- A Drawer frame fails its tag: the handler traps and the session is fenced (R124, R323). -/
def drawerTrap (t : Nat) (c : TineCtx) (st : Status) (w0 : Nat) (s : State) : State :=
  fenceSession c.slot st (tineTrap t c st w0 s)

/-- Two ranges of a Drawer, offset and length, overlap. -/
def overlap (x y : Nat × Nat) : Bool := decide (x.1 < y.1 + y.2) && decide (y.1 < x.1 + x.2)

/-- The operand and output areas of an operation of a session program (R336). -/
def noteAreas (slot tag : Nat) (ins outs : List (Nat × Nat)) (s : State) : State :=
  { s with tin := { s.tin with asyncs := s.tin.asyncs.map (fun o =>
    if o.slot = slot ∧ o.tag = tag then { o with ins := ins, outs := outs } else o) } }

/-- A load from these bytes reads an output area of an operation whose event has not been dispatched: its value is undefined (R336). -/
def loadsOutput (s : State) (slot a n : Nat) : Bool :=
  s.tin.asyncs.any (fun o => o.slot = slot && o.outs.any (fun r => overlap r (a, n)))

/-- The bytes of a write read from Drawer offset `base`, undefined where they were stored to before they were sent. -/
def spoilOp (base a n : Nat) (s : State) (op : KltOp) : KltOp :=
  match op with
  | .write addr key data db =>
    .write addr key ((data.zip (List.range data.length)).map (fun x =>
      if a ≤ base + x.2 ∧ base + x.2 < a + n then Config.freeByte s.freeCtr x.2 else x.1)) db
  | op => op

/-- The program has stored to [a, a + n), in an operand area of an operation whose event has not been dispatched: the values involved are
undefined (R336; log 203). -/
def spoil (o : AsyncOp) (a n : Nat) (s : State) : State :=
  let mine := fun (e : AttnEntry) => match e.src with
    | .tine x g _ _ => x = o.slot && g = o.tag && e.status.isNone
    | _ => false
  match o.kind with
  | .attn | .append =>
    (match s.fur.entries.find? (fun e => mine e.2) with
     | none => s
     | some (id, e) =>
       if e.admitted then setEntryF id (fun e => { e with spoilt := true }) (freeRows e s)
       else
         let b := freeBytes (e.qvec.length + e.rows.length) s
         drew (setEntryF id (fun e => { e with qvec := b.take e.qvec.length, rows := b.drop e.qvec.length }) s))
  | .srch =>
    { s with gln := { s.gln with batches := NMap.mapV s.gln.batches (fun _ b => match b.src with
      | .srch x g _ _ => if x = o.slot ∧ g = o.tag then { b with queries := b.queries.map (fun q => { q with fltMoved := true }) } else b
      | _ => b) } }
  | .rwrite =>
    let base := (o.ins.headD (0, 0)).1
    let src := KltSrc.tine o.slot o.tag
    drew { s with klt := { s.klt with
      reqs := s.klt.reqs.map (fun r => if r.src = src then { r with op := spoilOp base a n s r.op } else r)
      conns := NMap.mapV s.klt.conns (fun _ c => { c with ops := c.ops.map (fun x =>
        if x.src = src then { x with op := spoilOp base a n s x.op } else x) }) } }
  | _ => s

/-- A store of the program's to [a, a + n) of its Drawer reaches the operands of its own operations. -/
def spoilAll (slot a n : Nat) (s : State) : State :=
  (s.tin.asyncs.filter (fun o => o.slot = slot && !o.ended && o.ins.any (fun r => overlap r (a, n)))).foldl (fun s o => spoil o a n s) s

/-- A Drawer load of `n` bytes; an undefined value from an output area (R336). -/
def tineDld (t op n : Nat) (rd rs1 : BitVec 6) (imm : BitVec 13) (s : State) : State :=
  let w0 := encI op rd rs1 imm
  tineExec t w0 1 [rd, rs1] false
    (fun c s =>
      let a := (tineReg c rs1 + sext13 imm).toNat
      if c.system then tineTrap t c .access w0 s
      else if a % n ≠ 0 then tineTrap t c .badFormat w0 s
      else if (desc s c.slot).drawerPlots * 65536 < a + n then tineTrap t c .access w0 s
      else match drawerFault s c.slot a n with
        | some st => drawerTrap t c st w0 s
        | none =>
          if loadsOutput s c.slot a n then tineWrite t 1 rd (BitVec.ofNat 64 (freeBelow (256 ^ n) s)) c (drew s)
          else tineWrite t 1 rd (BitVec.ofNat 64 (leNat (drawerRead s c.slot a n))) c s) s

/-- A Drawer store of `n` bytes into the scratch region. -/
def tineDst (t op n : Nat) (rs2 rs1 : BitVec 6) (imm : BitVec 13) (s : State) : State :=
  let w0 := encS op rs2 rs1 imm
  tineExec t w0 1 [rs2, rs1] false
    (fun c s =>
      let a := (tineReg c rs1 + sext13 imm).toNat
      if c.system then tineTrap t c .access w0 s
      else if a % n ≠ 0 then tineTrap t c .badFormat w0 s
      else if !inScratch s c.slot a n || decide ((desc s c.slot).drawerPlots * 65536 < a + n) then tineTrap t c .access w0 s
      else match drawerWrite c.slot a (leBytes n (tineReg c rs2).toNat) s with
        | .error st => drawerTrap t c st w0 s
        | .ok s => putTine t { c with pc := c.pc + 4 } (spoilAll c.slot a n s)) s

/-- DLD_B (R331). -/
def execDldB (t : Nat) (rd rs1 : BitVec 6) (imm : BitVec 13) (s : State) : Host.Outcome State Fault Refusal := running s <|
  okSettle (tineDld t 0x1C 1 rd rs1 imm s)

/-- DLD_H (R331). -/
def execDldH (t : Nat) (rd rs1 : BitVec 6) (imm : BitVec 13) (s : State) : Host.Outcome State Fault Refusal := running s <|
  okSettle (tineDld t 0x1D 2 rd rs1 imm s)

/-- DLD_W (R331). -/
def execDldW (t : Nat) (rd rs1 : BitVec 6) (imm : BitVec 13) (s : State) : Host.Outcome State Fault Refusal := running s <|
  okSettle (tineDld t 0x1E 4 rd rs1 imm s)

/-- DLD_D (R331). -/
def execDldD (t : Nat) (rd rs1 : BitVec 6) (imm : BitVec 13) (s : State) : Host.Outcome State Fault Refusal := running s <|
  okSettle (tineDld t 0x1F 8 rd rs1 imm s)

/-- DST_B (R331). -/
def execDstB (t : Nat) (rs2 rs1 : BitVec 6) (imm : BitVec 13) (s : State) : Host.Outcome State Fault Refusal := running s <|
  okSettle (tineDst t 0x20 1 rs2 rs1 imm s)

/-- DST_H (R331). -/
def execDstH (t : Nat) (rs2 rs1 : BitVec 6) (imm : BitVec 13) (s : State) : Host.Outcome State Fault Refusal := running s <|
  okSettle (tineDst t 0x21 2 rs2 rs1 imm s)

/-- DST_W (R331). -/
def execDstW (t : Nat) (rs2 rs1 : BitVec 6) (imm : BitVec 13) (s : State) : Host.Outcome State Fault Refusal := running s <|
  okSettle (tineDst t 0x22 4 rs2 rs1 imm s)

/-- DST_D (R331). -/
def execDstD (t : Nat) (rs2 rs1 : BitVec 6) (imm : BitVec 13) (s : State) : Host.Outcome State Fault Refusal := running s <|
  okSettle (tineDst t 0x23 8 rs2 rs1 imm s)

/-! ## Session operations (R337) -/

/-- A synchronous operation on the handler's own session: the Tine stalls until it completes (R289). -/
def tineSync (t eop : Nat) (rd rs1 rs2 : BitVec 6) (c : TineCtx) (f : Nat → SState → OpSrc → State → State) (s : State) : State :=
  let src := OpSrc.tine t rd.toNat
  onSession c.handle src (fun slot st => f slot st src) (putTine t { c with stall := some (rd.toNat, encE eop rd rs1 rs2) } s)

/-- KSI_PARK (R337): PARK on the own session; RS1 must hold 0. -/
def execKsiPark (t : Nat) (rd rs1 rs2 rs3 : BitVec 6) (imm : BitVec 25) (s : State) : Host.Outcome State Fault Refusal := running s <|
  okSettle (tineEngine t 0x01 rd rs1 rs2 [rd, rs1] (rs2 != 0 || rs3 != 0 || imm != 0)
    (fun c s =>
      if tineReg c rs1 ≠ 0 then tineTrap t c .badFormat (encE 0x01 rd rs1 rs2) s
      else tineSync t 0x01 rd rs1 rs2 c doPark s) s)

/-- PARK_A (R337): DORMANT on the own session, asynchronous; RS1 must hold 1. -/
def execParkA (t : Nat) (rd rs1 rs2 rs3 : BitVec 6) (imm : BitVec 25) (s : State) : Host.Outcome State Fault Refusal := running s <|
  okSettle (tineEngine t 0x01 rd rs1 rs2 [rd, rs1] (rs2 != 0 || rs3 != 0 || imm != 0)
    (fun c s =>
      if tineReg c rs1 ≠ 1 then tineTrap t c .badFormat (encE 0x01 rd rs1 rs2) s
      else asyncIssue t rd .park (fun tag s =>
        onSession c.handle (.async c.slot tag) (fun slot st => doDormant slot st (.async c.slot tag)) s) c s) s)

/-- KSI_REVIVE (R337). -/
def execKsiRevive (t : Nat) (rd rs1 rs2 rs3 : BitVec 6) (imm : BitVec 25) (s : State) : Host.Outcome State Fault Refusal := running s <|
  okSettle (tineEngine t 0x03 rd rs1 rs2 [rd] (rs1 != 0 || rs2 != 0 || rs3 != 0 || imm != 0)
    (fun c s => tineSync t 0x03 rd rs1 rs2 c doRevive s) s)

/-- KSI_TRIM (R337): the target is RS1; RS1[63:32] ≠ 0 returns ST_BAD_FORMAT. -/
def execKsiTrim (t : Nat) (rd rs1 rs2 rs3 : BitVec 6) (imm : BitVec 25) (s : State) : Host.Outcome State Fault Refusal := running s <|
  okSettle (tineEngine t 0x04 rd rs1 rs2 [rd, rs1] (rs2 != 0 || rs3 != 0 || imm != 0)
    (fun c s =>
      let v := (tineReg c rs1).toNat
      if 2 ^ 32 ≤ v then tineWrite t 2 rd (statusWord .badFormat) c s
      else tineSync t 0x04 rd rs1 rs2 c (fun slot st src => doTrim slot st src v) s) s)

/-- RDESC (R65, R337): words 2, 3, 7, 8 and 16 to 20 of the own descriptor. -/
def execRdesc (t : Nat) (rd rs1 rs2 rs3 : BitVec 6) (imm : BitVec 25) (s : State) : Host.Outcome State Fault Refusal := running s <|
  okSettle (tineEngine t 0x05 rd rs1 rs2 [rd] (rs1 != 0 || rs2 != 0 || rs3 != 0 || imm.toNat / 2 ^ 6 != 0)
    (fun c s =>
      let n := imm.toNat % 2 ^ 6
      if [2, 3, 7, 8, 16, 17, 18, 19, 20].contains n then tineWrite t 2 rd (descWord s c.slot n) c s
      else tineTrap t c .access (encE 0x05 rd rs1 rs2) s) s)

/-- POST (R337): a USER record; 32 bytes of handler data at 0x3_0000 + 32 × SLOT travel with it. -/
def execPost (t : Nat) (rd rs1 rs2 rs3 : BitVec 6) (imm : BitVec 25) (s : State) : Host.Outcome State Fault Refusal := running s <|
  okSettle (tineEngine t 0x06 rd rs1 rs2 [rd, rs1] (rs2 != 0 || rs3 != 0)
    (fun c s =>
      let ring := (desc s c.slot).eventRing
      if ring = 0xFFFF then tineWrite t 2 rd (statusWord .access) c s
      else
        let r : EventRec := { kind := 3, status := .ok, handle := c.handle, ktb := ktb s, a := imm.toNat % 2 ^ 16,
                              b := (tineReg c rs1).toNat % 2 ^ 32, c := 0,
                              extra := localRead s c (0x30000 + 32 * (imm.toNat / 2 ^ 16)) 32 }
        tineWrite t 2 rd (statusWord .ok) c (postEvent ring r s)) s)

/-! ## Attention and search (R338 to R340) -/

/-- Why the issue of `attn` or `append` traps, given its operand areas. -/
def attnIssue (s : State) (c : TineCtx) (req out : Nat) (app : Bool) : Option Status :=
  let b := drawerRead s c.slot req 96
  let n := fun o k => leNat ((b.drop o).take k)
  let len := n 0 4
  let g := geom s (desc s c.slot).profile
  let q := (queryTokens (n 5 1) (n 70 1) (n 71 1)).getD 0
  if req % 64 ≠ 0 || out % 64 ≠ 0 then some .badFormat
  else if !inScratch s c.slot req (max 96 len) then some .access
  else if (n 80 4 ≠ 0) ≠ app then some .badFormat
  else if !inScratch s c.slot out (64 + blockBytes g q ((n 17 1).testBit 0) ((n 17 1).testBit 2)) then some .access
  else none

/-- The entry of a request block of `b` bytes reaches its session (R338): an entry of another handle ends ST_ACCESS, and one whose
header breaks R174 is found bad at its checks. -/
def attnIssued (t : Nat) (c : TineCtx) (req : Nat) (b : List Byte) (out tag : Nat) (s : State) : State :=
  let n := fun o k => leNat ((b.drop o).take k)
  let g := geom s (desc s c.slot).profile
  let q := (queryTokens (n 5 1) (n 70 1) (n 71 1)).getD 0
  let s := noteAreas c.slot tag [(req, b.length)] [(out, 64 + blockBytes g q ((n 17 1).testBit 0) ((n 17 1).testBit 2))] s
  let e := parseEntry s b 64 (n 5 1) (n 17 1) (n 24 8) (.tine c.slot tag t out)
  let hdrBad := n 4 1 ≠ 1 || n 6 2 ≠ 1 || 2 < n 5 1 || b.length % 64 ≠ 0
  let e := { e with slot := c.slot, acre := homeAcre c.slot, badData := e.badData || hdrBad,
                    fast := (n 17 1).testBit 1 && furCtl s (homeAcre c.slot) 8 8 = 1 }
  let id := s.fur.nextEntry
  let s := { s with fur := { s.fur with nextEntry := id + 1, entries := NMap.put s.fur.entries id e } }
  if e.handle ≠ c.handle then endEntry id .access s else attnArrive id s

/-- `attn` and `append`: one attention entry of the own session, as a batch of one in the Drawer. -/
def tineAttn (t eop : Nat) (app : Bool) (rd rs1 rs2 rs3 : BitVec 6) (imm : BitVec 25) (s : State) : State :=
  let w0 := encE eop rd rs1 rs2
  tineEngine t eop rd rs1 rs2 [rd, rs1, rs2] (rs3 != 0 || imm != 0)
    (fun c s =>
      let req := (tineReg c rs1).toNat
      let out := (tineReg c rs2).toNat
      match attnIssue s c req out app with
      | some st => tineTrap t c st w0 s
      | none =>
        let len := leNat (drawerRead s c.slot req 4)
        match drawerFault s c.slot req len with
        | some st => drawerTrap t c st w0 s
        | none =>
          asyncIssue t rd (if app then .append else .attn) (attnIssued t c req (drawerRead s c.slot req len) out) c s) s

/-- ATTN (R338). -/
def execAttn (t : Nat) (rd rs1 rs2 rs3 : BitVec 6) (imm : BitVec 25) (s : State) : Host.Outcome State Fault Refusal := running s <|
  okSettle (tineAttn t 0x10 false rd rs1 rs2 rs3 imm s)

/-- APPEND (R338). -/
def execAppend (t : Nat) (rd rs1 rs2 rs3 : BitVec 6) (imm : BitVec 25) (s : State) : Host.Outcome State Fault Refusal := running s <|
  okSettle (tineAttn t 0x11 true rd rs1 rs2 rs3 imm s)

/-- The entry of a `srch` request block, checked (R262, R340). -/
def srchEntry (s : State) (c : TineCtx) (req : Nat) (b : List Byte) : Nat × SQuery :=
  let n := fun o k => leNat ((b.drop o).take k)
  let h := n 0 2
  let slot := h % 2 ^ 12
  let fail := fun st : Status =>
    ({ q := [], nprobe := 0, k := 1, filter := 0, probes := [], cands := [], status := some st, abortLate := false, fltMoved := false } : SQuery)
  match searchIndex s (idxAcre slot) h with
  | .error st => (slot, fail st)
  | .ok (_, x) =>
    if x.principal ≠ (desc s c.slot).principal || !inScratch s c.slot (req + 64) (4 * x.d) then (slot, fail .access)
    else match drawerFault s c.slot (req + 64) (4 * x.d) with
      | some st => (slot, fail st)
      | none =>
        let e := leBytes 4 64 ++ leBytes 4 (n 4 4) ++ leBytes 2 (n 8 2) ++ leBytes 2 (n 10 2) ++ List.replicate 52 0
        (slot, queryEntry s (idxAcre slot) x (e ++ drawerRead s c.slot (req + 64) (4 * x.d)) 0 0)

/-- The batch of one of a `srch` comes to its index (R340). -/
def srchIssued (t : Nat) (c : TineCtx) (req : Nat) (b : List Byte) (out tag : Nat) (s : State) : State :=
  let n := fun o k => leNat ((b.drop o).take k)
  let (slot, e) := srchEntry s c req b
  let id := s.gln.nextBatch
  let sb : SBatch :=
    { serial := id, src := .srch c.slot tag t out, acre := idxAcre slot, cls := 0, tag := 0, slot := slot, index := n 0 2,
      ring := 0, bulk := (n 2 1).testBit 0, deadline := n 16 8, endAt := 0, tAdmit := ktb s, reserved := 0,
      phase := .held, queries := [e], updates := [], visits := [], answers := [], memberTag := 0 }
  let d := (NMap.get? s.gln.indexes slot).elim 0 (fun x => x.d)
  let s := noteAreas c.slot tag [(req, 64 + 4 * d)] [(out, 64 + 16 * n 8 2)] s
  admitSearch id { s with gln := { s.gln with nextBatch := id + 1, batches := NMap.put s.gln.batches id sb } }

/-- SRCH (R340): one QUERY entry, run as a batch of one on the index's home Acre. -/
def execSrch (t : Nat) (rd rs1 rs2 rs3 : BitVec 6) (imm : BitVec 25) (s : State) : Host.Outcome State Fault Refusal := running s <|
  let w0 := encE 0x12 rd rs1 rs2
  okSettle (tineEngine t 0x12 rd rs1 rs2 [rd, rs1, rs2] (rs3 != 0 || imm != 0)
    (fun c s =>
      let req := (tineReg c rs1).toNat
      let out := (tineReg c rs2).toNat
      let b := drawerRead s c.slot req 64
      let n := fun o k => leNat ((b.drop o).take k)
      if req % 64 ≠ 0 || out % 64 ≠ 0 then tineTrap t c .badFormat w0 s
      else if !inScratch s c.slot req 64 || !inScratch s c.slot out (64 + 16 * n 8 2) then tineTrap t c .access w0 s
      else match drawerFault s c.slot req 64 with
        | some st => drawerTrap t c st w0 s
        | none => asyncIssue t rd .srch (srchIssued t c req b out) c s) s)

/-! ## Transport (R291, R341) -/

/-- The route of a session's principal. -/
def routeOf (s : State) (slot r : Nat) : Option Route := NMap.get? s.tin.routes ((desc s slot).principal * 64 + r)

/-- What the checks of `rwrite` and `rread` share: the route, offset and length; the status of a trap otherwise. -/
def routeCheck (s : State) (slot : Nat) (imm : BitVec 25) (off len : Nat) (write : Bool) : Except Status Route :=
  let db := imm.getLsbD 7
  if len = 0 || 65536 < len then .error .badFormat
  else if !write && db then .error .badFormat
  else match routeOf s slot (imm.toNat % 64) with
    | none => .error .access
    | some r =>
      if r.len < off + len || (write && !r.canWrite) || (!write && !r.canRead) || (db && !r.canDb) then .error .access else .ok r

/-- RWRITE (R341): bytes of handler data, copied at issue, or of the Drawer. -/
def execRwrite (t : Nat) (rd rs1 rs2 rs3 : BitVec 6) (imm : BitVec 25) (s : State) : Host.Outcome State Fault Refusal := running s <|
  let w0 := encE 0x18 rd rs1 rs2
  okSettle (tineEngine t 0x18 rd rs1 rs2 [rd, rs1, rs2, rs3] (imm.toNat / 2 ^ 8 != 0)
    (fun c s =>
      let off := (tineReg c rs1).toNat
      let loc := (tineReg c rs2).toNat
      let len := (tineReg c rs3).toNat
      let drawer := imm.getLsbD 6
      match routeCheck s c.slot imm off len true with
      | .error st => tineTrap t c st w0 s
      | .ok r =>
        let bad := if drawer then decide ((desc s c.slot).drawerPlots * 65536 < loc + len)
          else decide (512 < len) || !storeOk c loc len
        if bad then tineTrap t c .access w0 s
        else match (if drawer then drawerFault s c.slot loc len else none) with
          | some st => drawerTrap t c st w0 s
          | none =>
            let bs := if drawer then drawerRead s c.slot loc len else localRead s c loc len
            asyncIssue t rd .rwrite (fun tag s =>
              kltPost { conn := r.conn, tc := 0, op := .write (r.base + off) r.key bs (imm.getLsbD 7), src := .tine c.slot tag }
                (noteAreas c.slot tag (if drawer then [(loc, len)] else []) [] s)) c s) s)

/-- RREAD (R341): bytes over a route into the scratch region. -/
def execRread (t : Nat) (rd rs1 rs2 rs3 : BitVec 6) (imm : BitVec 25) (s : State) : Host.Outcome State Fault Refusal := running s <|
  let w0 := encE 0x19 rd rs1 rs2
  okSettle (tineEngine t 0x19 rd rs1 rs2 [rd, rs1, rs2, rs3] (imm.toNat / 2 ^ 8 != 0)
    (fun c s =>
      let off := (tineReg c rs1).toNat
      let loc := (tineReg c rs2).toNat
      let len := (tineReg c rs3).toNat
      match routeCheck s c.slot imm off len false with
      | .error st => tineTrap t c st w0 s
      | .ok r =>
        if !imm.getLsbD 6 || !inScratch s c.slot loc len then tineTrap t c .access w0 s
        else asyncIssue t rd .rread (fun tag s =>
          kltPost { conn := r.conn, tc := 0, op := .read (r.base + off) r.key len loc, src := .tine c.slot tag }
            (noteAreas c.slot tag [] [(loc, len)] s)) c s) s)

/-! ## Timers (R289, R342) -/

/-- WAIT_T (R342): a program timer at KTB + RS1, or at RS1. -/
def execWaitT (t : Nat) (rd rs1 rs2 rs3 : BitVec 6) (imm : BitVec 25) (s : State) : Host.Outcome State Fault Refusal := running s <|
  okSettle (tineEngine t 0x22 rd rs1 rs2 [rd, rs1] (rs2 != 0 || rs3 != 0 || imm.toNat / 2 != 0)
    (fun c s =>
      let v := (tineReg c rs1).toNat
      let at_ := if imm.getLsbD 0 then v else ktb s + v
      asyncIssue t rd (.timer at_) (fun _ s => s) c s) s)

/-- PROGRAM_TIMER (R289, R539): a timer's time has come: its TIMER event enters the queue, with A the tag. It waits while the
device is not ACTIVE. -/
def execProgramTimer (slot tag : Nat) (s : State) : Host.Outcome State Fault Refusal := running s <|
  match s.tin.asyncs.find? (fun o => o.slot = slot && o.tag = tag && !o.ended) with
  | none => ok s
  | some o =>
    match o.kind with
    | .timer at_ =>
      if ktb s < at_ || deferring s || s.obs.halted then ok s
      else ok (asyncEnd slot tag 7 0 (cancelAgreement s))
    | _ => ok s

/-! ## Dispatch (R285 to R287, R290) -/

/-- A Tine is free: not fenced, running nothing. -/
def tineFree (s : State) (t : Nat) : Bool :=
  (NMap.get? s.tin.tines t).isNone && !(live s .CKP_FENCE_TINE (.acre (Acre.ofNum (t / 64))) 0).getLsbD (t % 64)

/-- The scan order of R286. -/
def scanTines (s : State) (a : Acre) : List Nat :=
  let acres := if liveF s .TIN_CTRL (.acre a) 0 0 0 = 1 then ringFrom a else [a]
  acres.flatMap (fun a => (List.range 64).map (fun i => 64 * a.num + i))

/-- The event may be dispatched: its session runs no handler and is neither MIGRATING nor FENCED. -/
def runnable (s : State) (e : TEvent) : Bool :=
  !handlerRuns s e.slot && effState s e.slot != .migrating && effState s e.slot != .fenced

/-- The context in which the handler of an event starts (R279, R287): g1 to g4 hold the event, c0 to c15 come from the descriptor, handler
data is clear. -/
def handlerCtxOf (s : State) (t : Nat) (e : TEvent) (i : Image) : TineCtx :=
  let d := desc s e.slot
  let g1 : Word := BitVec.ofNat 64 (e.code + if (auxOf s e.slot).dropped then 2 ^ 63 else 0)
  { system := false, slot := e.slot, handle := handleOf s e.slot, image := d.imageId, evCode := e.code,
    dispatchAt := ktbOf s (tineDie t), budget := i.budget.getD e.code 0, pc := i.base + i.entry.getD e.code 0,
    g := NMap.putD 0 (NMap.putD 0 (NMap.putD 0 (NMap.putD 0 [] 1 g1) 2 (BitVec.ofNat 64 (handleOf s e.slot))) 3 e.a) 4 e.b,
    c := (List.range 16).foldl (fun m n => NMap.putD 0 m n (d.ctx.getD n 0)) [], data := [], stall := none, trapped := none }

/-- An event leaves its queue; the tag of the operation it reports is no longer valid (R289). -/
def takeEvent (a : Acre) (e : TEvent) (s : State) : State :=
  { s with tin := { s.tin with
    evq := s.tin.evq.set a ((s.tin.evq.get a).erase e),
    asyncs := if e.code = 6 || e.code = 7 || e.code = 8 then
        s.tin.asyncs.filter (fun o => !(o.slot = e.slot && o.ended && o.tag = e.a.toNat))
      else s.tin.asyncs } }

/-- An event's handler starts on a Tine; the mark of a dropped event is delivered (R285, R287). -/
def dispatched (t : Nat) (e : TEvent) (i : Image) (s : State) : State :=
  putTine t (handlerCtxOf s t e i) (setAux e.slot { auxOf s e.slot with dropped := false } s)

/-- EVENT_DISPATCH (R279, R285 to R287): the first event of an Acre's queue whose session may run takes the first free Tine in
scan order; handler data is clear, c0 to c15 come from the descriptor, g1 to g4 hold the event. -/
def execEventDispatch (a : Acre) (s : State) : Host.Outcome State Fault Refusal := running s <|
  match (s.tin.evq.get a).find? (runnable s), (scanTines s a).find? (tineFree s) with
  | some e, some t =>
    if s.obs.halted then ok s
    else
      match own e.slot s with
      | none => ok s
      | some s =>
        match imageOf s (desc s e.slot).imageId with
        | none => ok (takeEvent a e s)
        | some i => ok (dispatched t e i (takeEvent a e s))
  | _, _ => ok s

/-- HANDLER_BUDGET_EXPIRE (R287, R324): KTB has passed the dispatch time plus BUDGET_NS; a handler stalled in a synchronous
operation traps when that returns. -/
def execHandlerBudgetExpire (t : Nat) (s : State) : Host.Outcome State Fault Refusal := running s <|
  match NMap.get? s.tin.tines t with
  | none => ok s
  | some c =>
    if c.system || c.stall.isSome || !budgetOver s t c || s.obs.halted then ok s
    else ok (tineTrap t c .timeout (leNat (localRead s c c.pc 4)) s)

end Sys2Proof.Machine
end

