-- ==== Sys2Proof/Machine/Ckpt.lean ====
section
/-!
DEFINITION. The commands of checkpoint epochs (R461 to R477), the `ckpt` instruction's side (R467).
-/
namespace Sys2Proof.Machine

/-- The checks of CKPT_MARK, in the table's order (R461). -/
def markCheck (s : State) (e at_ : Nat) : Option Status :=
  if s.sec.tenancy ≠ .bound then some .tenant
  else if e ≤ s.ckp.lastMarked || 2 ^ 32 ≤ e || (at_ ≠ 0 && (at_ < ktb s + 10000 || ktb s + 3600000000000 < at_)) then some .badFormat
  else if epochRuns s then some .busy
  else none

/-- Epoch `e` is PENDING: AT = 0 means KTB + 10 µs; with no remote target it drains to the Chest (R461). -/
def epochMarked (e at_ : Nat) (full : Bool) (remote : Option (Nat × Nat × Nat)) (s : State) : State :=
  let t := match remote with
    | none => DrainTarget.chest
    | some (c, b, k) => .remote c b k
  setCkp (fun c => { c with
    lastMarked := e, epochSt := .pending, epochStatus := 0,
    epoch := some { e := e, at_ := if at_ = 0 then ktb s + 10000 else at_, full := full, target := t, shards := .mk1 .empty } }) s

/-- CKPT_MARK (R461). -/
def execCkptMark (sq cid : Nat) (passed : Bool) (e at_ : Nat) (full : Bool) (remote : Option (Nat × Nat × Nat)) (s : State) :
    Host.Outcome State Fault Refusal := running s <|
  ok (primCmd sq cid .io passed (fun s =>
    match markCheck s e at_ with
    | some st => postCqe sq cid st 0 0 s
    | none => postCqe sq cid .ok 0 0 (epochMarked e at_ full remote s)) s)

/-- EPOCH_MARKER (R464): the Acre's KTB has reached AT. -/
def execEpochMarker (a : Acre) (s : State) : Host.Outcome State Fault Refusal := running s <|
  match s.ckp.epoch with
  | none => ok s
  | some e =>
    if !(s.ckp.epochSt = .pending || s.ckp.epochSt = .open_) || (e.shards.get a).marked || ktbOf s (.acre a) < e.at_ then ok s
    else ok (applyMarker a e s)

/-- The copier moves what the shadow took of an object into the Field shadow region; a full region fails the epoch (R469). -/
def shadowMove (obj : Nat) (s : State) : State :=
  let a := objAcre obj
  match capOf s obj with
  | none => s
  | some c =>
    if c.taken ≠ .shadow then s
    else if s.ckp.shadowGib.get a * 2 ^ 30 < shadowUsed s a + c.frames * 4096 then settle (failEpoch .noSpace s)
    else settle (drainAppends a (putCap obj { c with copied := true, pool := [] } s))

/-- SHADOW_COPY (R465, R469): the copier reaches an object and takes it, or moves what the shadow took into the Field shadow
region; waiting appends go on. -/
def execShadowCopy (obj : Nat) (s : State) : Host.Outcome State Fault Refusal := running s <|
  match capOf s obj with
  | none => ok s
  | some c => if c.gone || c.copied || c.lost then ok s else ok (shadowMove obj (takeNow obj s))

/-- A shard with everything taken is CAPTURED, without what was lost, and its drain begins; the epoch is CAPTURED with the last (R464 step 4, R470). -/
def shardClosed (a : Acre) (e : Epoch) (s : State) : State :=
  let s := startDrain a e (setShard a (fun h => { h with captured := true, fresh := [], objs := h.objs.filter (fun x => !x.2.lost) }) s)
  if epochRuns s && Acre.all.all (fun x => (shardOf s x).captured) then setCkp (fun c => { c with epochSt := .captured }) s else s

/-- SHARD_CAPTURED (R464): the sweep takes every descriptor left; with every object taken the shard is CAPTURED and its drain
begins. -/
def execShardCaptured (a : Acre) (s : State) : Host.Outcome State Fault Refusal := running s <|
  match s.ckp.epoch with
  | none => ok s
  | some e =>
    if s.ckp.epochSt ≠ .open_ || !(e.shards.get a).marked || (e.shards.get a).captured then ok s
    else
      let s := sweepShard a e s
      okSettle (if allTaken (shardOf s a) then shardClosed a e s else s)

/-- Outcome of unit `u` of an Acre's drain at the KLT engine, once it has one. -/
def drainOutcome (s : State) (a : Acre) (u : Nat) : Option Status :=
  (s.klt.ended.find? (fun e => e.1 = .drain a.num u)).map (fun e => e.2)

/-- The unit of an Acre's drain that an object is, 0 for the header and metadata. -/
def drainUnit (h : Shard) (obj : Option Nat) : Nat :=
  match obj with
  | none => 0
  | some o => 1 + ((shardObjs h).takeWhile (fun x => x.1 ≠ o)).length

/-- How a drain write ends, once it has: as the drives answer, or the connection's outcome (R470). -/
def drainEnd (s : State) (a : Acre) (e : Epoch) (obj : Option Nat) (st : Status) : Option Status :=
  match e.target with
  | .chest => some st
  | .remote _ _ _ => drainOutcome s a (drainUnit (e.shards.get a) obj)

/-- A drain write has ended with a status: a failure fails the epoch; what is drained is released (R466, R471). -/
def drainDone (a : Acre) (obj : Option Nat) (st : Status) (s : State) : State :=
  if st ≠ .ok then settle (failEpoch st s)
  else match obj with
    | none => setShard a (fun h => { h with metaDone := true }) s
    | some o => releaseHeld (setShard a (fun h => { h with objs := NMap.modify h.objs o (fun c => { c with drained := true }) }) s)

/-- DRAIN_WRITE_COMPLETE (R466, R470, R471): the write of an object of a captured shard, or with none of its header and metadata,
has ended. Its shadow unit is freed, and what it held is released. -/
def execDrainWriteComplete (a : Acre) (obj : Option Nat) (st : Status) (s : State) : Host.Outcome State Fault Refusal := running s <|
  match s.ckp.epoch with
  | none => ok s
  | some e =>
    if !epochRuns s || !(e.shards.get a).captured then ok s
    else match drainEnd s a e obj st with
      | none => ok s
      | some r => ok (drainDone a obj r
          (setKlt (fun k => { k with ended := k.ended.filter (fun x => x.1 ≠ .drain a.num (drainUnit (e.shards.get a) obj)) }) s))

/-- Sessions recorded MISSED in an epoch. -/
def missedOf (e : Epoch) : Nat :=
  (e.shards.toList.map (fun h => (h.sessions.filter (fun x => x.2.st = .missed)).length)).foldl (· + ·) 0

/-- Every shard of the epoch has been written and acknowledged (R471). -/
def shardsDrained (s : State) (e : Epoch) : Bool :=
  e.shards.toList.all (fun h => h.captured && h.metaDone && h.objs.all (fun x => x.2.gone || x.2.lost || x.2.drained)) &&
    (e.target ≠ .chest || s.chest.writes.all (fun w => match w.cause with
      | .drain _ => false
      | .move _ => true))

/-- A shard as its manifest keeps it: what a fence lost is not in it (R468). -/
def shardKept (h : Shard) : Shard := { h with objs := h.objs.filter (fun x => !x.2.lost) }

/-- The manifest of a drained epoch (R475). -/
def manifestOf (s : State) (e : Epoch) : Manifest :=
  { epoch := e.e, base := s.ckp.anchor, full := e.full, partial_ := decide (missedOf e ≠ 0), tMark := e.at_, device := s.sec.deviceId,
    era := s.sec.era, tenantId := s.sec.tenantId, target := e.target, shards := e.shards.map shardKept,
    locs := e.shards.toList.flatMap (fun h => h.locs) }

/-- The manifest joins the chain, the anchor records the epoch, and the epoch is DRAINED (R471, R476). -/
def epochAnchored (e : Epoch) (s : State) : State :=
  endEpoch .drained 0 (e.shards.toList.flatMap (fun h => NMap.keys (shardKept h).objs))
    (setCkp (fun c => { c with manifests := c.manifests ++ [manifestOf s e], anchor := e.e, anchorRecs := c.anchorRecs + 1, missed := missedOf e }) s)

/-- EPOCH_DRAINED (R471, R475, R476): every shard and the manifest are written and the anchor is updated; a failure of the
manifest's write makes the epoch FAILED. -/
def execEpochDrained (st : Status) (s : State) : Host.Outcome State Fault Refusal := running s <|
  match s.ckp.epoch with
  | none => ok s
  | some e =>
    if !epochRuns s then ok s
    else if st ≠ .ok then okSettle (failEpoch st s)
    else if !shardsDrained s e then ok s
    else okSettle (epochAnchored e s)

/-- CKPT_POLICY (R462): AUTO of a session. -/
def execCkptPolicy (sq cid : Nat) (passed : Bool) (handle : Nat) (auto : Bool) (s : State) : Host.Outcome State Fault Refusal := running s <|
  okSettle (primCmd sq cid .io passed
    (onSession handle (.host sq cid) (fun slot _ s => postCqe sq cid .ok 0 0 (setCkptRow slot { ckptRow s slot with auto := auto } s))) s)

/-- The Chest objects and manifests of epochs up to `e` are released (R477). -/
def discardUpTo (e : Nat) (s : State) : State :=
  let old := s.ckp.manifests.filter (fun m => m.epoch ≤ e && m.target = .chest)
  old.foldl (fun s m => m.locs.foldl (fun s l => chestRelease l s) s)
    (setCkp (fun c => { c with manifests := c.manifests.filter (fun m => !old.contains m) }) s)

/-- CKPT_DISCARD (R477): ST_BUSY unless a DRAINED FULL epoch newer than `e` exists. -/
def execCkptDiscard (sq cid : Nat) (passed : Bool) (e : Nat) (s : State) : Host.Outcome State Fault Refusal := running s <|
  ok (primCmd sq cid .io passed (fun s =>
    if s.sec.tenancy ≠ .bound then postCqe sq cid .tenant 0 0 s
    else if !s.ckp.manifests.any (fun m => m.full && decide (e < m.epoch)) then postCqe sq cid .busy 0 0 s
    else postCqe sq cid .ok 0 0 (discardUpTo e s)) s)

/-- A `ckpt` of mode `m` is issued (R343): the session's next capture is asked for; a session that waits to be captured is captured first,
and the operation stands for the capture after it. -/
def ckptIssued (c : TineCtx) (m tag : Nat) (s : State) : State :=
  if 2 ≤ m then asyncEnd c.slot tag 6 (BitVec.ofNat 64 Status.badFormat.code) s
  else match handleCheck s c.handle with
    | some st => asyncEnd c.slot tag 6 (BitVec.ofNat 64 st.code) s
    | none =>
      let r := ckptRow s c.slot
      let wait : Bool := match NMap.get? (shardOf s (homeAcre c.slot)).sessions c.slot with
        | some x => decide (x.st = CapSt.waiting)
        | none => false
      if wait then
        -- the operations before it end at this capture, and it stands for the next
        let s := { s with tin := { s.tin with asyncs := s.tin.asyncs.filter (fun o => !(o.slot = c.slot && o.tag = tag)) } }
        let s := captureSess c.slot s
        let s := { s with tin := { s.tin with asyncs := s.tin.asyncs ++ [{ slot := c.slot, tag := tag, kind := .ckpt, ended := false, ins := [], outs := [] }] } }
        setCkptRow c.slot { ckptRow s c.slot with once := true, pinNext := m = 1 } s
      else setCkptRow c.slot { r with once := true, pinNext := r.pinNext || m = 1 } s

/-- CKPT (R343, R467): `ckpt` sets ONCE, and PIN_NEXT in mode 1; DONE comes at the capture. A session the open epoch has selected
and not captured is captured first, so that the next epoch is meant. -/
def execCkpt (t : Nat) (rd rs1 rs2 rs3 : BitVec 6) (imm : BitVec 25) (s : State) : Host.Outcome State Fault Refusal := running s <|
  okSettle (tineEngine t 0x28 rd rs1 rs2 [rd, rs1] (rs2 != 0 || rs3 != 0 || imm != 0)
    (fun c s => asyncIssue t rd .ckpt (ckptIssued c (tineReg c rs1).toNat) c s) s)

end Sys2Proof.Machine
end

