-- ==== Sys2Proof/Machine/Restore.lean ====
section
/-!
DEFINITION. Restore and export: RESTORE, RESTORE_OBJECTS, EXPORT, IMPORT (R478 to R481).
-/
namespace Sys2Proof.Machine

/-! ## Descriptors from outside -/

/-- State of a code (R66). -/
def SState.ofCode (n : Nat) : SState :=
  match n with
  | 1 => .prefill
  | 2 => .decode
  | 3 => .toolWait
  | 4 => .idleWait
  | 5 => .reviving
  | 6 => .dormant
  | 7 => .migrating
  | 8 => .fenced
  | 9 => .retiring
  | _ => .free

/-- The fields of a 512-byte descriptor that a session keeps (R64). -/
def descOfBytes (b : List Byte) : Desc :=
  let w := fun (n : Nat) => leNat ((b.drop (8 * n)).take 8)
  let f := fun (n hi lo : Nat) => bitsOf (w n) hi lo
  { Desc.freeOf (f 0 31 22) (f 1 31 0) with
    state := SState.ofCode (f 0 35 32), profile := f 0 39 36, principal := f 0 51 40, prevState := SState.ofCode (f 0 59 56),
    ckptEpoch := f 1 63 32, len := f 2 31 0, floor := f 2 63 32, specHead := f 3 31 0, mapStacks := f 5 23 0, prefixId := f 5 39 24,
    drawerPlots := f 6 55 48, logCount := f 7 31 0, inboxWr := f 8 31 0, inboxRd := f 8 63 32, wakeDoorbell := (w 9).testBit 0,
    wakeObject := (w 9).testBit 1, wakeDeadline := (w 9).testBit 2, syncId := f 9 23 8, syncPred := f 9 31 24, window := f 9 47 32,
    syncValue := BitVec.ofNat 64 (w 10), deadline := w 11, imageId := f 13 31 0, eventRing := f 13 47 32, streamRing := f 13 63 48,
    maxNew := f 16 31 0, newCount := f 16 63 32, toolOpen := f 17 31 0, toolClose := f 17 63 32, stopCount := f 18 7 0,
    eosCount := f 18 15 8, matchProg := BitVec.ofNat 64 (w 19), toolcallStart := f 20 31 0, inToolCall := (w 20).testBit 32,
    ctx := (List.range 16).map (fun i => BitVec.ofNat 64 (w (32 + i))), seq := w 63 }

/-! ## What a restore finds (R478) -/

/-- An object as a restore or a migration brings it: frames under their identity. -/
structure RestObj where
  f      : Sealed
  frames : Nat
  deriving DecidableEq, Repr

/-- Where the stack of a restored map entry comes from. -/
inductive RestStack where
  | obj (o : RestObj)
  | chest (loc : Nat)
  | off (loc : Nat)
  deriving DecidableEq, Repr

/-- A session to be restored. -/
structure RestSess where
  desc   : Desc
  drawer : Option RestObj
  stackLocs : List (Nat × RestStack)
  foreign : Bool
  deriving DecidableEq, Repr

def restOfCap (c : CapObj) : RestObj :=
  { f := { stackId := c.stackId, ctr := c.ctr, keySel := c.keySel, kind := c.kind.code, data := c.data, corrupt := false }, frames := c.frames }

/-- The chain of manifests back from an epoch, newest first (R475). -/
def chainFrom (ms : List Manifest) : Nat → Nat → List Manifest
  | 0, _ => []
  | fuel + 1, e =>
    match ms.find? (fun m => m.epoch = e) with
    | none => []
    | some m => m :: chainFrom ms fuel m.base

/-- The version of a record slot in a chain: the first entry; a tombstone means it is absent (R478). -/
def versionOf (chain : List Manifest) (key : Nat) : Option CapObj :=
  match chain.findSome? (fun m => m.shards.toList.findSome? (fun h => NMap.get? h.objs key)) with
  | some c => if c.gone then none else some c
  | none => none

/-- The newest entry of a session slot in a chain. -/
def sessionOf (chain : List Manifest) (slot : Nat) : Option CapSess :=
  chain.findSome? (fun m => m.shards.toList.findSome? (fun h =>
    match NMap.get? h.sessions slot with
    | some c => if c.st = .captured || c.st = .missed then some c else none
    | none => none))

/-- The session of an own chain. -/
def ownRest (s : State) (chain : List Manifest) (slot : Nat) (c : CapSess) : RestSess :=
  let stackLocs := match versionOf chain (mapObj slot) with
    | none => []
    | some m => m.data.entries.filterMap (fun e =>
      match e.2.ref with
      | .record i => (versionOf chain i).map (fun v => (e.1, RestStack.obj (restOfCap v)))
      | .chestLoc l =>
        (match versionOf chain (2 ^ 32 + l) with
         | some v => some (e.1, .obj (restOfCap v))
         | none => if locValid s l then some (e.1, .chest l) else none)
      | .offDevice l => some (e.1, .off l))
  { desc := c.desc, drawer := (versionOf chain (drawerObj slot)).map restOfCap, stackLocs := stackLocs, foreign := false }

/-- An object from outside. -/
def restOfIn (o : ObjIn) (k : ObjKind) : RestObj :=
  { f := { stackId := o.stackId, ctr := o.ctr, keySel := o.keySel, kind := k.code, data := ⟨o.data.foldl (fun m c => Cells.write m c.1 c.2) [], []⟩,
           corrupt := false }, frames := o.frames }

/-- A session from outside. -/
def restOfSess (x : SessIn) : RestSess :=
  { desc := descOfBytes x.desc,
    drawer := (x.objs.find? (fun o => o.role = .drawer)).map (fun o => restOfIn o .drawer),
    stackLocs := x.objs.filterMap (fun o => match o.role with
      | .stack k => some (k, .obj (restOfIn o .stack))
      | _ => none),
    foreign := true }

/-- A key slot can open an object: VALID, and SHARED where another device sealed it (R443, R478). -/
def keyOpens (s : State) (foreign : Bool) (keySel : Nat) : Bool :=
  match NMap.get? s.sec.keys keySel with
  | some k => !(foreign && k.isLocal)
  | none => false

def RestSess.keys (r : RestSess) : List Nat :=
  (match r.drawer with
   | some d => [d.f.keySel]
   | none => []) ++ r.stackLocs.filterMap (fun e => match e.2 with
    | .obj o => some o.f.keySel
    | _ => none)

/-- The checks of R478 on the source, in the table's order. -/
def restSource (s : State) (src : RestoreSrc) : Except Status RestSess :=
  match src with
  | .own e slot reachable intact =>
    let chain := chainFrom s.ckp.manifests (s.ckp.manifests.length + 1) e
    if !intact || chain.isEmpty || s.ckp.anchor < e || chain.any (fun m => m.tenantId ≠ s.sec.tenantId) then .error .integrity
    else match sessionOf chain slot with
      | none => .error .badHandle
      | some c =>
        if c.st = .missed then .error .badHandle
        else
          let r := ownRest s chain slot c
          if !r.keys.all (keyOpens s false) then .error .access
          else if !reachable then .error .notResident
          else .ok r
  | .foreign found verifies reachable x =>
    let r := restOfSess x
    if !verifies then .error .integrity
    else if !found then .error .badHandle
    else if !r.keys.all (keyOpens s (x.device ≠ s.sec.deviceId)) then .error .access
    else if !reachable then .error .notResident
    else .ok r

/-! ## Records of imported objects -/

/-- Make the record of an imported object in slot `i`: clean, homed in `home`, under the identity it was sealed with (R127). -/
def importInto (i : Nat) (kind : ObjKind) (profile principal : Nat) (owner : Option Nat) (home : Home) (o : RestObj) (s : State) : State :=
  liveBit i (modObj i (fun x =>
    { ObjRec.freeOf i x.nextCtr with
      stackId := o.f.stackId, home := home, kind := kind, profile := profile, sstate := .priv, imported := true, keySel := o.f.keySel,
      ctr := o.f.ctr, refcnt := 1, principal := principal, owner := owner, frames := o.frames, data := o.f.data,
      sealed := some { o.f with corrupt := false } }) s)

/-- A stack on its way to its home: readable when its copy is placed (R479 step 4). A run in Field is held as a staged copy's. -/
def importStack (slot k : Nat) (d : Desc) (pol : Policy) (o : RestObj) (s : State) : Except Status State :=
  match takeByPolicy pol.tier pol.target (homeAcre slot) (stackRun (geom s d.profile)) s with
  | none => .error .noSpace
  | some (h, s) =>
    match takeGeneral (homeAcre slot) s with
    | none => .error .noSpace
    | some (i, s) =>
      let s := importInto i .stack d.profile d.principal (some slot) h { o with frames := stackRun (geom s d.profile) } s
      let s := match h with
        | .fld a f => modObj i (fun x => { x with home := .chest noLoc, stageLoc := some (a, f), staged := false }) s
        | _ => s
      .ok (setEntry (mapObj slot) k (some { shared := false, ref := .record i }) s)

/-- Place the stacks of a restored map. -/
def importStacks (slot : Nat) (d : Desc) (pol : Policy) : List (Nat × RestStack) → State → Except Status State
  | [], s => .ok s
  | (k, r) :: rest, s =>
    let one : Except Status State := match r with
      | .obj o => importStack slot k d pol o s
      | .chest l => .ok (setEntry (mapObj slot) k (some { shared := false, ref := .chestLoc l }) s)
      | .off l => .ok (setEntry (mapObj slot) k (some { shared := false, ref := .offDevice l }) s)
    match one with
    | .error st => .error st
    | .ok s => importStacks slot d pol rest s

/-- A new map and, where `o` is given, a Drawer version for a slot whose old ones are gone: runs in the home Acre's Field; the new
map is DIRTY in Near, the Drawer IMPORTED (R479 step 2). -/
def importBase (slot n principal : Nat) (o : Option RestObj) (s : State) : Except Status State :=
  let a := homeAcre slot
  let frames := max 1 ((n + 511) / 512)
  match takeField a 1 frames s with
  | none => .error .noSpace
  | some (fm, s) =>
    let s := newObj (mapObj slot) .map 0 frames principal (.fld a fm) (some slot) .empty s
    let s := allDirty (mapObj slot) a s
    match o with
    | none => .ok s
    | some o =>
      match takeField a 16 o.frames s with
      | none => .error .noSpace
      | some (fd, s) => .ok (importInto (drawerObj slot) .drawer 0 principal (some slot) (.fld a fd) o s)

/-- Records of a session whose copy is not yet placed. -/
def unplaced (s : State) (slot : Nat) : List Nat :=
  (privStacks s slot).filter (fun i => (getObj s i).home = .chest noLoc)

/-- A live Drawer whose frames can all be read. -/
def drawerIntact (s : State) (slot : Nat) : Bool :=
  let o := getObj s (drawerObj slot)
  allRes s o (homeAcre slot) || (readFault o).isNone

/-- Drop a session's map, and its Drawer unless it is kept, with what the map names. -/
def dropBase (slot : Nat) (keep : Bool) (s : State) : State :=
  let s := releaseAbove slot 0 s
  let free := fun i (s : State) =>
    let o := getObj s i
    freeObj i (giveHeld i o.home o.run { s with tier := { s.tier with
      rounds := s.tier.rounds.filter (fun r => r.obj ≠ i), donorWait := s.tier.donorWait.filter (· ≠ i),
      wbQ := s.tier.wbQ.map (fun q => q.filter (· ≠ i)) } })
  let s := free (mapObj slot) s
  if keep then s else free (drawerObj slot) s

/-- The descriptor fields a restore takes from the captured one (R479 step 3). -/
def restDesc (c : Desc) (logCount stackLocs : Nat) (d : Desc) : Desc :=
  { d with profile := c.profile, principal := c.principal, len := c.len, floor := c.floor, specHead := c.len, logCount := logCount,
           mapStacks := stackLocs, maxNew := c.maxNew, newCount := c.newCount, toolOpen := c.toolOpen, toolClose := c.toolClose,
           stopCount := c.stopCount, eosCount := c.eosCount, matchProg := c.matchProg, toolcallStart := c.toolcallStart,
           inToolCall := c.inToolCall, drawerPlots := c.drawerPlots }

/-- The restore commit and what follows it (R479 step 3, R67, R284). -/
def restCommit (slot : Nat) (oldLen : Nat) (s : State) : State :=
  let s := commitState slot .idleWait .ok (fun d => { d with wakeCause := .restore, ready := false, reviveActive := false }) s
  let d := desc s slot
  let s := if d.len < oldLen then postStream d.streamRing (streamBase s slot .rollback d.len oldLen 0) s else s
  let s := raiseEvent slot d.imageId 9 0 0 s
  let s := setCkp (fun c => { c with restoring := c.restoring.filter (fun r => r.slot ≠ slot) ++
    (if (unplaced s slot).isEmpty then [] else [⟨slot, unplaced s slot⟩]) }) s
  if d.wakeQueued then s else armWakes slot s

/-- RESTORE IN_PLACE of a FENCED session (R479). -/
def restInPlace (slot : Nat) (r : RestSess) (keepLog : Bool) (pol : Policy) (s : State) : Except Status State :=
  let d := desc s slot
  let keep := keepLog && drawerIntact s slot
  let s1 := dropBase slot keep s
  match importBase slot (r.stackLocs.length) r.desc.principal (if keep then none else r.drawer) s1 with
  | .error st => .error st
  | .ok s1 =>
    let s1 := putDesc slot (restDesc r.desc (if keep then d.logCount else r.desc.logCount) r.desc.mapStacks (desc s1 slot)) s1
    match importStacks slot r.desc pol r.stackLocs s1 with
    | .error st => .error st
    | .ok s1 => .ok (restCommit slot d.len (setAux slot { auxOf s1 slot with policy := pol } s1))

/-- The conditions of R85 that a new slot for a captured session meets, in its order. -/
def newSlotCheck (s : State) (a : Acre) (c : Desc) (drawerFrames : Nat) : Option Status :=
  match admitNew s [1] with
  | some st => some st
  | none =>
    if !(geom s c.profile).valid then some .badFormat
    else if (s.bur.slots.get a).count = 0 then some .noSpace
    else if prinLimit s c.principal 21 0 ≤ prinSessions s c.principal then some .quota
    else if (fitting (s.tier.fldFree.get a) 16 drawerFrames).isEmpty then some .noSpace
    else if (NMap.get? s.host.streams c.streamRing).isNone ||
        (c.eventRing != 0xFFFF && (NMap.get? s.host.events c.eventRing).isNone) ||
        (c.imageId != 0 && (imageOf s c.imageId).isNone) then some .badFormat
    else none

/-- RESTORE NEW (R478): a new slot as OPEN of any Acre takes one. -/
def restNew (r : RestSess) (pol : Policy) (s : State) : Except Status (Nat × State) :=
  let a := openAcre s 0xFF
  let frames := (r.drawer.map (fun d => d.frames)).getD 16
  match newSlotCheck s a r.desc frames with
  | some st => .error st
  | none =>
    match (s.bur.slots.get a).take with
    | none => .error .noSpace
    | some (slot, fl) =>
      match own slot s with
      | none => .error .busy
      | some s1 =>
        let s1 := { s1 with bur := { s1.bur with slots := s1.bur.slots.set a fl } }
        match importBase slot r.stackLocs.length r.desc.principal r.drawer s1 with
        | .error st => .error st
        | .ok s1 =>
          let old := desc s1 slot
          let s1 := setHome slot (homeDesc s1 slot) s1
          let c := r.desc
          let s1 := putDesc slot (restDesc c c.logCount c.mapStacks
            { Desc.freeOf old.gen s.sec.epoch with
              inboxWr := c.inboxWr, inboxRd := c.inboxRd, wakeDoorbell := c.wakeDoorbell, wakeDeadline := c.wakeDeadline,
              deadline := c.deadline, window := c.window, imageId := c.imageId, eventRing := c.eventRing, streamRing := c.streamRing,
              ctx := c.ctx, seq := old.seq }) s1
          match importStacks slot c pol r.stackLocs s1 with
          | .error st => .error st
          | .ok s1 =>
            let s1 := setAux slot { auxOf s1 slot with policy := pol } s1
            let s1 := setCkptRow slot { CkptRow.empty with auto := bit (live s .CKP_CTRL (.acre a) 0) 35 } s1
            .ok (slot, restCommit slot 0 s1)

/-- A policy from its operands (R111). -/
def policyOf (tier : Nat) (target : Option Nat) : Policy :=
  { isSet := true, tier := if tier = 2 then .headland else .fld, target := target, fill := none }

/-- RESTORE IN_PLACE of a session found in `st`: the status and what follows (R478, R479). -/
def inPlaceBy (src : RestoreSrc) (keepLog : Bool) (pol : Policy) (slot : Nat) (st : SState) (s : State) : Status × State :=
  match restSource s src with
  | .error e => (e, s)
  | .ok r =>
    if st ≠ .fenced || (auxOf s slot).fencing then (.busy, s)
    else match restInPlace slot r keepLog pol s with
      | .error e => (e, s)
      | .ok s => (.ok, s)

/-- RESTORE NEW: the status, the handle of the new slot, and what follows (R478, R479). -/
def newBy (src : RestoreSrc) (pol : Policy) (s : State) : Status × Nat × State :=
  match restSource s src with
  | .error e => (e, 0, s)
  | .ok r =>
    match restNew r pol s with
    | .error e => (e, 0, s)
    | .ok (slot, s) => (.ok, handleOf s slot, s)

/-- RESTORE (R478, R479). -/
def execRestore (sq cid : Nat) (passed : Bool) (src : RestoreSrc) (mode : RestoreMode) (keepLog : Bool) (tier : Nat) (target : Option Nat)
    (s : State) : Host.Outcome State Fault Refusal := running s <|
  okSettle (primCmd sq cid .io passed (fun s =>
    if s.sec.tenancy ≠ .bound then postCqe sq cid .tenant 0 0 s
    else match mode with
      | .inPlace handle =>
        onSession handle (.host sq cid) (fun slot st s =>
          let r := inPlaceBy src keepLog (policyOf tier target) slot st s
          postCqe sq cid r.1 0 0 r.2) s
      | .new =>
        let r := newBy src (policyOf tier target) s
        postCqe sq cid r.1 r.2.1 0 r.2.2) s)

/-- The copies of a session's stacks are placed. -/
def placeStacks (slot : Nat) (s : State) : State :=
  let s := (unplaced s slot).foldl (fun s i =>
    match (getObj s i).stageLoc with
    | some (a, f) => modObj i (fun o => { o with home := .fld a f, stageLoc := none, staged := false }) s
    | none => s) s
  setCkp (fun c => { c with restoring := c.restoring.filter (fun r => r.slot ≠ slot) }) s

/-- RESTORE_STACKS_DONE (R479 step 4): the last stack of a restored session is placed; a revival under way fetches its window. -/
def execRestoreStacksDone (slot : Nat) (s : State) : Host.Outcome State Fault Refusal := running s <|
  if !s.ckp.restoring.any (fun r => r.slot = slot) then ok s
  else if (desc (placeStacks slot s) slot).state = .reviving then ok (queueFetch slot (placeStacks slot s))
  else ok (placeStacks slot s)

/-! ## RESTORE_OBJECTS (R480) -/

/-- Make a record of a captured object in an Acre's Field. -/
def importTable (a : Acre) (principal : Nat) (c : CapObj) (s : State) : Option (Nat × State) :=
  match takeField a (if c.kind = .map then 1 else 16) (ObjRec.run { ObjRec.freeOf 0 0 with kind := c.kind, frames := c.frames }) s with
  | none => none
  | some (f, s) =>
    match takeGeneral a s with
    | none => none
    | some (i, s) => some (i, importInto i c.kind c.profile principal none (.fld a f) (restOfCap c) s)

/-- Records of several captured objects, by key. -/
def importMany (a : Acre) (principal : Nat) : List (Nat × CapObj) → State → Option (NMap Nat × State)
  | [], s => some ([], s)
  | (k, c) :: r, s =>
    match importTable a principal c s with
    | none => none
    | some (i, s) => (importMany a principal r s).map (fun x => ((k, i) :: x.1, x.2))

/-- A forced write of an object's word; a LOCK comes back ABANDONED with holder 0 (R366, R480). -/
def restoreWord (obj : Nat) (w : Word) (s : State) : State :=
  let w := if SynKind.ofCode (field w 63 61) = .lock then lockWord 2 0 else w
  setSynWord obj (setField (synWord s obj) 47 0 (field w 47 0)) s

/-- Objects of a captured index: its centroid, its side object, its lists. -/
def indexParts (chain : List Manifest) (x : Index) : Option (CapObj × CapObj × List (Nat × CapObj)) :=
  match versionOf chain x.centroid, versionOf chain x.side with
  | some c, some d =>
    some (c, d, x.lists.filterMap (fun l =>
      match l.2.ref with
      | .record i => (versionOf chain i).map (fun v => (l.1, v))
      | .chestLoc loc => (versionOf chain (2 ^ 32 + loc)).map (fun v => (l.1, v))
      | .offDevice _ => none))
  | _, _ => none

/-- Restore one index (R480): its lists are replaced by their captured versions, the bitmaps are as the side list makes them, and
DAMAGED is clear. -/
def restIndex (slot : Nat) (chain : List Manifest) (x : Index) (s : State) : Except Status State :=
  let a := Acre.ofNum (slot / 2 ^ 10)
  match indexParts chain x with
  | none => .error .badHandle
  | some (c, d, ls) =>
    match importTable a x.principal c s with
    | none => .error .noSpace
    | some (ci, s1) =>
      match importTable a x.principal d s1 with
      | none => .error .noSpace
      | some (di, s1) =>
        match importMany a x.principal ls s1 with
        | none => .error .noSpace
        | some (m, s1) =>
          let s1 := (allDirty di a s1)
          let s1 := modObj di (fun o => { o with pinned := true }) s1
          let s1 := modObj ci (fun o => { o with pinned := true }) s1
          let old := NMap.get? s1.gln.indexes slot
          let s1 := match old with
            | some y =>
              let olds : List Nat := y.lists.filterMap (fun (l : Nat × ListEnt) => match l.2.ref with
                | .record i => some i
                | _ => none)
              (y.centroid :: y.side :: olds).foldl (fun s i => dropRef i (modObj i (fun o => { o with pinned := false }) s)) s1
            | none => s1
          let y : Index := { x with
            st := .active, centroid := ci, side := di, damaged := false, damagedLists := [], built := none, compactBy := none, waiting := [],
            lists := x.lists.filterMap (fun l => match NMap.get? m l.1 with
              | some i => some (l.1, { l.2 with ref := .record i })
              | none => (match l.2.ref with
                | .chestLoc _ => some l
                | _ => none)) }
          .ok { s1 with gln := { s1.gln with indexes := NMap.put s1.gln.indexes slot y } }

/-- Restore an Acre's prefix table (R480): each captured prefix comes back with its map, token list and stacks as IMPORTED records;
forks that stand keep theirs. -/
def restPrefix (chain : List Manifest) (a : Acre) (id : Nat) (p : PrefixEntry) (s : State) : Except Status State :=
  match versionOf chain p.mapSlot, versionOf chain p.listSlot with
  | some m, some l =>
    let stackLocs := m.data.entries.filterMap (fun e => match e.2.ref with
      | .record i => (versionOf chain i).map (fun v => (e.1, v))
      | _ => none)
    (match importTable a p.principal l s with
     | none => .error .noSpace
     | some (li, s1) =>
       match importMany a p.principal stackLocs s1 with
       | none => .error .noSpace
       | some (ks, s1) =>
         let ents : NMap MapEntry := ks.map (fun e => (e.1, { shared := false, ref := .record e.2 }))
         match importTable a p.principal { m with data := ⟨[], ents⟩ } s1 with
         | none => .error .noSpace
         | some (mi, s1) =>
           let old := NMap.get? s1.tier.prefixes id
           let q : PrefixEntry := { p with mapSlot := mi, listSlot := li, forks := (old.map (fun o => o.forks)).getD 0,
                                           retiring := (old.map (fun o => o.retiring)).getD false }
           let s1 := { s1 with tier := { s1.tier with prefixes := NMap.put s1.tier.prefixes id q } }
           let s1 := match old with
             | some o =>
               let s2 := (getObj s1 o.mapSlot).data.entries.foldl (fun s e => releaseEntry e.2 s) s1
               dropRef o.listSlot (dropRef o.mapSlot s2)
             | none => s1
           .ok s1)
  | _, _ => .error .badHandle

def restPrefixes (chain : List Manifest) (a : Acre) : List (Nat × PrefixEntry) → State → Except Status State
  | [], s => .ok s
  | (id, p) :: r, s =>
    match restPrefix chain a id p s with
    | .error st => .error st
    | .ok s => restPrefixes chain a r s

/-- An index is in use: a batch, a pass, or a compaction names it (R480). -/
def indexBusy (s : State) (slot : Nat) : Bool :=
  s.gln.batches.any (fun e => e.2.slot = slot && e.2.phase != .done) ||
    (match NMap.get? s.gln.indexes slot with
     | some x => x.st != .active || !x.waiting.isEmpty
     | none => false)

/-- Words of an Acre's objects at a manifest are written by force, unless a wait or a watch uses one (R480). -/
def restWords (ws : NMap Word) (s : State) : Status × State :=
  if ws.any (fun w => !(s.sync.waits.filter (fun x => x.obj = w.1)).isEmpty || s.sync.watches.any (fun x => x.obj = w.1)) then (.busy, s)
  else (.ok, ws.foldl (fun s w => if synKind s w.1 = .free then s else restoreWord w.1 w.2 s) s)

/-- What RESTORE_OBJECTS restores of a manifest and its chain: the status and what follows (R480). -/
def restSet (m : Manifest) (chain : List Manifest) (what : ObjSet) (s : State) : Status × State :=
  match what with
  | .sync a => restWords (m.shards.get a).syncWords s
  | .prefixes a =>
    (match restPrefixes chain a ((m.shards.get a).prefixes.filter (fun p => objAcre p.2.mapSlot = a)) s with
     | .error st => (st, s)
     | .ok s => (.ok, s))
  | .index slot =>
    match NMap.get? (m.shards.get (Acre.ofNum (slot / 2 ^ 10))).indexes slot with
    | none => (.badHandle, s)
    | some x =>
      if indexBusy s slot then (.busy, s)
      else match restIndex slot chain x s with
        | .error st => (st, s)
        | .ok s => (.ok, s)

/-- The manifest of an epoch is one RESTORE_OBJECTS accepts (R476, R478): it verifies, is this tenant's, and lies in the anchored
chain. -/
def manifestGood (s : State) (m : Manifest) (e : Nat) (intact : Bool) : Bool :=
  intact && m.tenantId = s.sec.tenantId && decide (e ≤ s.ckp.anchor)

/-- RESTORE_OBJECTS (R480). -/
def execRestoreObjects (sq cid : Nat) (passed : Bool) (e : Nat) (reachable intact : Bool) (what : ObjSet) (s : State) :
    Host.Outcome State Fault Refusal := running s <|
  okSettle (primCmd sq cid .io passed (fun s =>
    if s.sec.tenancy ≠ .bound then postCqe sq cid .tenant 0 0 s
    else match chainFrom s.ckp.manifests (s.ckp.manifests.length + 1) e with
      | [] => postCqe sq cid .integrity 0 0 s
      | m :: ms =>
        if !manifestGood s m e intact then postCqe sq cid .integrity 0 0 s
        else if !reachable then postCqe sq cid .notResident 0 0 s
        else
          let r := restSet m (m :: ms) what s
          postCqe sq cid r.1 0 0 r.2) s)

/-! ## EXPORT and IMPORT (R481) -/

/-- Private stacks of a session as they can be exported: map index, identity and content. -/
def exportStacks (s : State) (slot : Nat) : List (Nat × RestObj) :=
  (getObj s (mapObj slot)).data.entries.filterMap (fun e =>
    if e.2.shared then none
    else match e.2.ref with
      | .record i =>
        let o := getObj s i
        some (e.1, { f := { stackId := o.stackId, ctr := o.ctr, keySel := o.keySel, kind := 0, data := o.data, corrupt := false }, frames := o.frames })
      | .chestLoc l => (NMap.get? s.chest.content (locIndex l)).map (fun c => (e.1, { f := c, frames := (chestRec s (locIndex l)).frames }))
      | .offDevice _ => none)

/-- A route of a session's principal that may be written or read. -/
def routeFor (s : State) (slot route : Nat) (write : Bool) : Option Route :=
  match NMap.get? s.tin.routes ((desc s slot).principal * 64 + route % 64) with
  | some r => if (if write then r.canWrite else r.canRead) then some r else none
  | none => none

/-- What keeps an export of the stacks from the locators over a route: the status (R443, R481). -/
def exportCheck (s : State) (slot route : Nat) (locs : List Nat) : Option Status :=
  if (routeFor s slot route true).isNone then some .access
  else if (exportStacks s slot).any (fun e => !keyOpens s true e.2.f.keySel) then some .access
  else if locs.length ≠ (exportStacks s slot).length || locs.any (fun l => 2 ^ 48 ≤ l) then some .badFormat
  else (privStacks s slot).findSome? (fun i => readFault (getObj s i))

/-- EXPORT_SEQ rises and each stack's frames go out raw (R481 steps 1 and 2). -/
def exportSend (slot route : Nat) (locs : List Nat) (s : State) : State :=
  let row := ckptRow s slot
  match routeFor s slot route true with
  | none => s
  | some r => ((exportStacks s slot).zip locs).foldl (fun s x =>
      emit (.exported r.conn (r.base + x.2) (sealedFrames x.1.2.f.stackId x.1.2.f.ctr x.1.2.f.keySel x.1.2.frames x.1.2.f.data)) s)
    (setCkptRow slot { row with exportSeq := (row.exportSeq + 1) % 2 ^ 32 } s)

/-- The map entries become FORM 2 with the locators, and the records are released (R481 step 3). -/
def exportRewrite (slot : Nat) (stackLocs : List (Nat × RestObj)) (locs : List Nat) (s : State) : State :=
  commitDesc slot id ((stackLocs.zip locs).foldl (fun s x =>
    match mapEntry s slot x.1.1 with
    | some e => releaseEntry e (setEntry (mapObj slot) x.1.1 (some { shared := false, ref := .offDevice x.2 }) s)
    | none => s) s)

/-- EXPORT of a session found in `st`: its status, the count, and what follows; `outcome` is how the writes over the route end. -/
def exportBy (slot route : Nat) (locs : List Nat) (outcome : Status) (st : SState) (s : State) : Status × Nat × State :=
  match st with
  | .dormant =>
    (match exportCheck s slot route locs with
     | some e => (e, 0, s)
     | none =>
       if outcome ≠ .ok then (outcome, 0, exportSend slot route locs s)
       else (.ok, (exportStacks s slot).length, exportRewrite slot (exportStacks s slot) locs (exportSend slot route locs s)))
  | .fenced => (.fenced, 0, s)
  | _ => (.busy, 0, s)

/-- EXPORT (R481): `locs` are the locators, one for each private stack in map order; `outcome` is how the writes over the route
end. A failure leaves the session as it was but for EXPORT_SEQ. -/
def execExport (sq cid : Nat) (passed : Bool) (handle route : Nat) (locs : List Nat) (outcome : Status) (s : State) :
    Host.Outcome State Fault Refusal := running s <|
  okSettle (primCmd sq cid .io passed (onSession handle (.host sq cid) (fun slot st s =>
    let r := exportBy slot route locs outcome st s
    postCqe sq cid r.1 r.2.1 0 r.2.2)) s)

/-- A stack read back is the current export of its map entry (R481). -/
def importGood (s : State) (slot : Nat) (x : ImportIn) : Bool :=
  x.good && x.slot = slot && x.gen = (desc s slot).gen && x.index = x.k && x.seq = (ckptRow s slot).exportSeq &&
    (match mapEntry s slot x.k with
     | some ⟨_, .offDevice _⟩ => true
     | _ => false)

/-- IMPORT of a session found in `st`: its status, how many were placed, and what follows (R481). -/
def importBy (slot route : Nat) (items : List ImportIn) (st : SState) (s : State) : Status × Nat × State :=
  if st = .fenced then (.fenced, 0, s)
  else if !(st = .dormant || st.parked) then (.busy, 0, s)
  else if (routeFor s slot route false).isNone then (.access, 0, s)
  else
    let good := items.filter (importGood s slot)
    if good.any (fun x => !keyOpens s true x.keySel) then (.access, 0, s)
    else
      let rs := good.map (fun x => (x.k, RestStack.obj
        { f := { stackId := x.stackId, ctr := x.ctr, keySel := x.keySel, kind := 0,
                 data := ⟨x.data.foldl (fun m c => Cells.write m c.1 c.2) [], []⟩, corrupt := false }, frames := x.frames }))
      match importStacks slot (desc s slot) (auxOf s slot).policy rs s with
      | .error e => (e, 0, s)
      | .ok t => (if good.length = items.length then .ok else .integrity, good.length, placeStacks slot (commitDesc slot id t))

/-- IMPORT (R481): stacks whose unit matches are placed as IMPORTED records. -/
def execImport (sq cid : Nat) (passed : Bool) (handle route : Nat) (items : List ImportIn) (s : State) : Host.Outcome State Fault Refusal := running s <|
  okSettle (primCmd sq cid .io passed (onSession handle (.host sq cid) (fun slot st s =>
    let r := importBy slot route items st s
    postCqe sq cid r.1 r.2.1 0 r.2.2)) s)

end Sys2Proof.Machine
end

