-- ==== Sys2Proof/Machine/Fence.lean ====
section
/-!
DEFINITION. Fencing of cores and links: CORE_FENCE, ITEM_OVERRUN, LINK_FENCE (R30, R268, R482 to R484).
-/
namespace Sys2Proof.Machine

/-- The number of a core within its die is one the die has: 64 Tines, 12 Furrows, 4 Gleaners, 4 DDR5 channels and 64 HBM
pseudo-channels on an Acre, 16 Tines on a Yoke (R24 to R26). -/
def coreExists (d : Die) (kind n : Nat) : Bool :=
  match d with
  | .yoke _ => kind = 0 && decide (n < 16)
  | .acre _ => match kind with
    | 0 => decide (n < 64)
    | 1 => decide (n < 12)
    | 2 => decide (n < 4)
    | 3 => decide (n < 4)
    | 4 => decide (n < 64)
    | _ => false

/-! ## Captured objects that a fence loses (R468) -/

/-- Objects of a shard that are lost, and the sessions that name them, which are MISSED. -/
def missShard (p : Nat → CapObj → Bool) (h : Shard) : Shard :=
  let gone := (h.objs.filter (fun e => !e.2.gone && !e.2.drained && p e.1 e.2)).map (fun e => e.1)
  let names := fun (x : Nat) => gone.contains (mapObj x) || gone.contains (drawerObj x) ||
    (match NMap.get? h.objs (mapObj x) with
     | none => false
     | some m => m.data.entries.any (fun e => match e.2.ref with
       | .record i => gone.contains i
       | _ => false))
  { h with objs := NMap.mapV h.objs (fun k c => if gone.contains k then { c with lost := true } else c),
           sessions := NMap.mapV h.sessions (fun x c =>
             if (c.st = .captured || c.st = .waiting) && names x then { c with st := .missed } else c) }

def missCaps (p : Nat → CapObj → Bool) (s : State) : State :=
  setCkp (fun c => { c with epoch := c.epoch.map (fun e => { e with shards := e.shards.map (missShard p) }) }) s

/-! ## The kinds of core (R483) -/

/-- A Tine: its handler traps ST_FENCED; placement skips the Tine from now on. -/
def fenceTine (t : Nat) (s : State) : State :=
  match NMap.get? s.tin.tines t with
  | none => s
  | some c => tineTrap t { c with stall := none } .fenced (leNat (localRead s c c.pc 4)) s

/-- A Furrow: its item reruns from its start, before the items that have not started; contracts end where fewer than RESERVE
Furrows remain. -/
def fenceFurrow (f : Nat) (s : State) : State :=
  let a := Acre.ofNum (f / 12)
  let back := fun (i : WorkItem) (s : State) =>
    let q := s.fur.pfQ.get a
    let i := { i with saved := false }
    if i.pf then { s with fur := { s.fur with pfQ := s.fur.pfQ.set a (q.takeWhile (fun x => x.saved) ++ [i] ++ q.dropWhile (fun x => x.saved)) } }
    else { s with fur := { s.fur with dvQ := s.fur.dvQ.set a (i :: s.fur.dvQ.get a) } }
  let s := match furUse s f with
    | .idle => s
    | .running i _ => back i s
    | .held i _ => back i s
    | .saving i => back i s
  let s := putFur f .idle s
  let s := if s.fur.latch.get a = some f then { s with fur := { s.fur with latch := s.fur.latch.set a none } } else s
  if (upFurrows s a).length < furCtl s a 3 0 then (s.tin.contracts.get a).foldl (fun s c => endContract c.slot 5 s) s else s

/-- A Gleaner: the pass it ran and the one it had saved go to the front of the Acre's queue. -/
def fenceGleaner (g : Nat) (s : State) : State :=
  let a := Acre.ofNum (g / 4)
  let mine := (NMap.get? s.gln.units g).toList ++ (NMap.get? s.gln.saved g).toList
  let s := { s with gln := { s.gln with
    units := NMap.erase s.gln.units g, saved := NMap.erase s.gln.saved g, passQ := s.gln.passQ.set a (mine ++ s.gln.passQ.get a) } }
  glnGoOn a s

/-- A DDR5 channel: every object homed in the Acre's Field, or on its way there, is lost; its sessions are fenced; staged copies
go; the Acre's lend windows are revoked; the Field is DEGRADED. -/
def fenceChannel (a : Acre) (s : State) : State :=
  let there := fun (h : Home) => match h with
    | .fld b _ => b == a
    | _ => false
  let lost := (s.tier.objs.filter (fun e => e.2.sstate ≠ .free &&
    (there e.2.home || s.tier.rounds.any (fun r => r.obj = e.1 && there r.dest)))).map (fun e => e.1)
  let s := missCaps (fun i c => match c.taken with
    | .shadow => objAcre i = a && c.copied && decide (i < 2 ^ 32)
    | .ref => there c.home
    | .untaken => let o := getObj s i
                  there o.home && !(o.dirty || o.wbActive)) s
  let s := { s with ckp := { s.ckp with degraded := s.ckp.degraded.set a true },
                    tier := { s.tier with fldFree := s.tier.fldFree.set a [] } }
  let s := lost.foldl (fun s i => modObj i (fun o => { o with lost := true }) s) s
  let s := (s.tier.moves.filter (fun m => there m.dest)).foldl (fun s m => moveEnd m.obj (getObj s m.obj).home.tier (some .uncorrectable) s) s
  let staged := (s.tier.objs.filter (fun e => match e.2.stageLoc with
    | some (b, _) => b == a
    | none => false)).map (fun e => e.1)
  let s := staged.foldl (fun s i =>
    let s := unstageAny i s
    modObj i (fun o => match o.stageLoc with
      | some (b, _) => if b == a then { o with stageLoc := none, staged := false } else o
      | none => o) s) s
  let s := (s.tier.lend.filter (fun w => w.2.acre = a)).foldl (fun s w => revokeWindow w.1 s) s
  let hit := (sessions s).filter (fun x => lost.contains (mapObj x) || lost.contains (drawerObj x) ||
    (getObj s (mapObj x)).data.entries.any (fun e => match e.2.ref with
      | .record i => lost.contains i
      | _ => false))
  hit.foldl (fun s x => fenceSession x .uncorrectable s) s

/-- Unit `u` of an object has a frame on pseudo-channel `n` of an Acre: Near frames are dealt to the 64 pseudo-channels in turn
(R25; log 14). -/
def onPc (s : State) (o : ObjRec) (n : Nat) (r : SheafRes) : Bool :=
  (List.range ((unitBytes s o + 4095) / 4096)).any (fun j => (r.nearFrame + j) % 64 = n)

/-- An HBM pseudo-channel: clean sheaves on it are dropped; the sessions of what cannot be read again are fenced; `hit` are the
sessions whose descriptor or object record lay there. Its frames are no longer used. -/
def fencePc (a : Acre) (n : Nat) (hit : List Nat) (s : State) : State :=
  let on := (s.tier.objs.filterMap (fun (e : Nat × ObjRec) =>
    let us := ((e.2.res.get a).filter (fun (r : Nat × SheafRes) => onPc s e.2 n r.2))
    if us.isEmpty then none else some (e.1, us)))
  let bad := on.filter (fun e => e.2.any (fun u => u.2.dirty) || (getObj s e.1).kind = .map || (getObj s e.1).kind = .drawer)
  let owner := fun (x i : Nat) => (ownObjs s x).contains i
  let hurt := (sessions s).filter (fun x => hit.contains x || bad.any (fun b => owner x b.1))
  let s := missCaps (fun i c => c.taken = .untaken && bad.any (fun b => b.1 = i && b.2.any (fun u => u.2.dirty))) s
  let s := on.foldl (fun s e => e.2.foldl (fun s u => if u.2.dirty then s else dropRes e.1 a u.1 s) s) s
  let s := bad.foldl (fun s b =>
    if b.2.any (fun u => u.2.dirty) then modObj b.1 (fun o => { o with lost := true }) s else s) s
  let s := { s with tier := { s.tier with nearOther := s.tier.nearOther.set a (s.tier.nearOther.get a + 1125000000) } }
  hurt.foldl (fun s x => fenceSession x .uncorrectable s) s

/-- Set a bit of a fence map. -/
def fenceBit (r : Reg) (d : Die) (b : Nat) (s : State) : State := setLiveF r d 0 b b 1 s

/-- The core is in its fence map already. -/
def coreFenced (s : State) (d : Die) (kind n : Nat) : Bool :=
  match d, kind with
  | .acre _, 0 => bit (live s .CKP_FENCE_TINE d) n
  | .acre _, 1 => bit (live s .CKP_FENCE_MISC d) n
  | .acre _, 2 => bit (live s .CKP_FENCE_MISC d) (12 + n)
  | .acre _, 3 => bit (live s .CKP_FENCE_MISC d) (16 + n)
  | .acre _, 4 => bit (live s .CKP_FENCE_PC d) n
  | _, _ => false

/-- Fence a core (R482, R483): its bit is set, the effects follow, and the management plane is told. A Yoke has no fence map: its
Tine's program stops. -/
def fenceCore (d : Die) (kind n : Nat) (hit : List Nat) (s : State) : State :=
  if !coreExists d kind n || coreFenced s d kind n then s
  else
    let s := mgmtPost (.coreFenced d kind n) s
    let s := tracePost d 9 ([2, 0, 1, 3, 6].getD kind 7 + 8 * n) none [] s
    match d with
    | .yoke y => fenceTine (256 + 16 * y.num + n) s
    | .acre a =>
      match kind with
      | 0 => fenceTine (64 * a.num + n) (fenceBit .CKP_FENCE_TINE d n s)
      | 1 => fenceFurrow (12 * a.num + n) (fenceBit .CKP_FENCE_MISC d n s)
      | 2 => fenceGleaner (4 * a.num + n) (fenceBit .CKP_FENCE_MISC d (12 + n) s)
      | 3 => fenceChannel a (fenceBit .CKP_FENCE_MISC d (16 + n) s)
      | _ => fencePc a n hit (fenceBit .CKP_FENCE_PC d n s)

/-- CORE_FENCE (R482, R483): a detection on the core of this die code, kind and number. -/
def execCoreFence (die kind n : Nat) (hit : List Nat) (s : State) : Host.Outcome State Fault Refusal := running s <|
  match Die.ofCode die with
  | some d => okSettle (fenceCore d kind n hit s)
  | none => ok s

/-- t_v of R273 in ps for `n` vectors against `b` queries, the list read from a home. -/
def visitTime (s : State) (a : Acre) (x : Index) (o : ObjRec) (n b : Nat) : Nat :=
  let bytes := n * (4 * x.d + 4)
  let t := if !(o.res.get a).isEmpty then ceilDiv (bytes * 100000) 3072
    else match o.home with
      | .headland _ _ =>
        let r := liveF s .TSC_SHP (.yoke s.ckp.primary) 5 31 0
        ceilDiv (bytes * 8000000) (if r = 0 then 50000 else r)
      | _ => ceilDiv (bytes * 10 ^ 8)
        (512 * max 1 ((100 - liveF s .BUR_CTRL (.acre a) 0 22 16) * liveF s .GLN_CTRL (.acre a) 0 6 0))
  1000000 + max t (ceilDiv (20 * n * x.d * b) 26)

/-- The bound of the pass on a Gleaner (R273); a compaction has none. -/
def passTime (s : State) (a : Acre) (p : GlnPass) : Option Nat :=
  match p with
  | .compact _ => none
  | .centroid n =>
    (match NMap.get? s.gln.batches n with
     | none => none
     | some b => (NMap.get? s.gln.indexes b.slot).map (fun (x : Index) =>
       1000000 + max (ceilDiv (x.nlist * (4 * x.d + 16) * 100000) 3072) (ceilDiv (20 * x.nlist * x.d * b.queries.length) 26)))
  | .visit n l =>
    (match NMap.get? s.gln.batches n with
     | none => none
     | some b => (NMap.get? s.gln.indexes b.slot).map (fun (x : Index) =>
       let at_ : Option Nat × Nat := if l = x.nlist then (some x.side, x.sideUsed) else match NMap.get? x.lists l with
         | some ⟨.record i, c⟩ => (some i, c)
         | some e => (none, e.count)
         | none => (none, 0)
       match at_ with
       | (some i, c) => visitTime s a x (getObj s i) c b.queries.length
       | (none, _) => 1000000))

/-- The work on a core has run past twice its bound, or a handler past twice MAX_BUDGET_US (R482). -/
def overrun (s : State) (d : Die) (kind n : Nat) : Bool :=
  match d, kind with
  | .acre a, 0 =>
    (match NMap.get? s.tin.tines (64 * a.num + n) with
     | some c => !c.system && decide (c.dispatchAt + 2000 * liveF s .TIN_CTRL d 0 10 1 < ktbOf s d)
     | none => false)
  | .acre a, 1 =>
    (match furUse s (12 * a.num + n) with
     | .running i t => decide (1000 * t + 2 * itemTime s i < 1000 * ktb s)
     | _ => false)
  | .acre a, 2 =>
    (match NMap.get? s.gln.units (4 * a.num + n) with
     | some r => (match passTime s a r.pass with
       | some t => decide (1000 * r.at_ + 2 * t < 1000 * ktb s)
       | none => false)
     | none => false)
  | _, _ => false

/-- ITEM_OVERRUN (R482): an item, visit or handler has run past twice its bound, so its core is fenced. -/
def execItemOverrun (die kind n : Nat) (s : State) : Host.Outcome State Fault Refusal := running s <|
  match Die.ofCode die with
  | some d => if coreExists d kind n && overrun s d kind n then okSettle (fenceCore d kind n [] s) else ok s
  | none => ok s

/-- The links of R28 by number. -/
def Link.ofNum : Nat → Option Link
  | 0 => some .ywA0
  | 1 => some .ywA1
  | 2 => some .yeA2
  | 3 => some .yeA3
  | 4 => some .a0A1
  | 5 => some .a1A2
  | 6 => some .a2A3
  | 7 => some .a3A0
  | 8 => some .ywYe
  | _ => none

/-- LINK_FENCE (R30): the link is fenced; its routes go over the remaining links once what is in flight has been delivered. -/
def execLinkFence (link : Nat) (s : State) : Host.Outcome State Fault Refusal :=
  match Link.ofNum link with
  | some l => if !s.power.pwrgood || s.links.contains l then ok s else ok { s with links := s.links ++ [l] }
  | none => ok s

end Sys2Proof.Machine
end

