-- ==== Sys2Proof/Machine/MgmtOps.lean ====
section
/-!
DEFINITION. What every management command shares: its port and session, its response (R452 to R455); the results of commits
(R49, R52); and the reset of the host interface (R525).
-/
namespace Sys2Proof.Machine

def setSec (f : SecState → SecState) (s : State) : State := { s with sec := f s.sec }

def portM (s : State) (y : Yoke) : MgmtPort := s.sec.mgmt.get y
def putPortM (y : Yoke) (p : MgmtPort) (s : State) : State := setSec (fun x => { x with mgmt := x.mgmt.set y p }) s

/-- Answer a request: the response is cached for its session (R454). -/
def mgmtReply (q : MgmtReq) (st : Status) (body : MgmtBody) (s : State) : State :=
  let r : MgmtRsp := { session := q.session, seq := q.seq, reqId := q.reqId, status := st, body := body }
  let p := portM s q.port
  let s := putPortM q.port { p with sessions := NMap.modify p.sessions q.session (fun x =>
    { x with cached := some r, seqOut := x.seqOut + 1 }) } s
  emit (.mgmtRsp q.port r) s

/-! ## Commits (R49, R52) -/

/-- Post the outcome of a commit or a cancel in CFG_RESULT, under the writer's plane and TAG. -/
def commitResult (p : Plane) (tag : Nat) (st : Status) (s : State) : State :=
  let d := Die.yoke s.ckp.primary
  match p with
  | .management => setLiveF .CFG_RESULT d 0 31 24 st.code (setLiveF .CFG_RESULT d 0 23 16 tag s)
  | _ => setLiveF .CFG_RESULT d 0 15 8 st.code (setLiveF .CFG_RESULT d 0 7 0 tag s)

/-- The outcome of a commit reaches who asked for it. -/
def commitTell (c : PendingCommit) (st : Status) (s : State) : State :=
  let s := match c.cmd with
    | some (sq, cid) => postCqe sq cid st 0 0 s
    | none => s
  match c.req with
  | some q => mgmtReply q st .none s
  | none => s

/-- The pending commit ends with a status (R49 steps 4 and 6, R52). -/
def commitEnd (st : Status) (s : State) : State :=
  match s.cfg.pendingC with
  | none => s
  | some c => commitTell c st (commitResult c.plane c.tag st
    { s with cfg := { s.cfg with pendingC := none }, sync := { s.sync with closing := [] } })

/-! ## Host interface -/

/-- The host queue state goes: queue pairs and rings deleted, registers at reset; commands admitted run on and their entries are
discarded (R525). -/
def hostReset (s : State) : State :=
  let hq : List Reg := [.YOK_HQ_VERSION, .YOK_HQ_NEGOTIATE, .YOK_HQ_ASQ_BASE, .YOK_HQ_ACQ_BASE, .YOK_HQ_AQ_DEPTH, .YOK_HQ_AQ_EN,
    .YOK_HQ_INT, .YOK_HQ_STATUS]
  let s := Yoke.all.foldl (fun s y => hq.foldl (fun s r => setLive r (.yoke y) 0 (regReset r 0) s) s) s
  { s with host := { s.host with
    agreed := none, negStatus := .ok, qps := [], outstanding := [], streams := [], events := [], lastSq := 0, badDb := 0 } }

end Sys2Proof.Machine
end

