-- ==== Sys2Proof/Machine/Primacy.lean ====
section
/-!
DEFINITION. Primacy of the Yokes: leases, heartbeats, claims and takeover (R485 to R488).
-/
namespace Sys2Proof.Machine

/-- KTB of a Yoke. -/
def yokeNow (s : State) (y : Yoke) : Nat := ktbOf s (.yoke y)

/-- The Yoke the PRIMARY_PREF strap names (R557). -/
def prefYoke (s : State) : Yoke := if s.power.primaryPref then .ye else .yw

/-- The Acres form a winning set for a Yoke (R486). -/
def winning (s : State) (y : Yoke) (l : List Acre) : Bool := decide (3 ≤ l.length) || (l.length == 2 && y == prefYoke s)

def modYoke (y : Yoke) (f : YokePrim → YokePrim) (s : State) : State :=
  setCkp (fun c => { c with yokes := c.yokes.set y (f (c.yokes.get y)) }) s

/-- LEASE_US and PARTNER_US in ns. -/
def leaseNs (s : State) : Nat := primF s .YOK_PRIMACY_CTRL 0 15 0 * 1000
def partnerNs (s : State) : Nat := primF s .YOK_PRIMACY_CTRL 0 31 16 * 1000

/-- A Yoke that learns it is stale stops issuing commands (R488). -/
def stopIssuing (y : Yoke) (s : State) : State :=
  if (s.ckp.yokes.get y).issuing then
    bumpF .YOK_PRIMACY (.yoke y) 0 55 39 1 (modYoke y (fun x => { x with issuing := false }) s)
  else s

/-- An Acre takes a lease of the holder under P (R486). -/
def takeLease (y : Yoke) (p : Nat) (a : Acre) (s : State) : State :=
  setCkp (fun c => { c with acreP := c.acreP.set a p, leases := c.leases.set a (some ⟨y, ktbOf s (.acre a) + leaseNs s⟩) }) s

/-- An Acre has voted for a successor of P. -/
def votedPast (s : State) (p : Nat) (a : Acre) : Bool :=
  match s.ckp.voted.get a with
  | some (q, _) => decide (p < q)
  | none => false

/-- The Acres that acknowledge a renewal of the holder among those it reaches: none that has voted for a successor or knows a higher P
(R486, R487). -/
def renewAcks (s : State) (reached : List Nat) : List Acre :=
  (Acre.all.filter (fun a => reached.contains a.num)).filter (fun a =>
    !votedPast s s.ckp.primacyEpoch a && decide (s.ckp.acreP.get a ≤ s.ckp.primacyEpoch))

/-- An Acre it reaches knows a higher P and answers ST_PRIMACY (R485). -/
def renewStale (s : State) (reached : List Nat) : Bool :=
  (Acre.all.filter (fun a => reached.contains a.num)).any (fun a => decide (s.ckp.primacyEpoch < s.ckp.acreP.get a))

/-- A renewal of the holder has reached these Acres: each that acknowledges takes a lease; the last that reached a winning set is noted
(R486, R488). -/
def renewed (reached : List Nat) (s : State) : State :=
  let y := s.ckp.primary
  let now := yokeNow s y
  (renewAcks s reached).foldl (fun t a => takeLease y s.ckp.primacyEpoch a t)
    (modYoke y (fun x => { x with renewAt := now, winAt := if winning s y (renewAcks s reached) then now else x.winAt }) s)

/-- LEASE_RENEW (R486, R487): every LEASE_US ÷ 4 the renewal of the holder reaches these Acres. -/
def execLeaseRenew (reached : List Nat) (s : State) : Host.Outcome State Fault Refusal := running s <|
  let x := s.ckp.yokes.get s.ckp.primary
  if !x.issuing || decide (yokeNow s s.ckp.primary < x.renewAt + leaseNs s / 4) then ok s
  else ok (if renewStale s reached then stopIssuing s.ckp.primary (renewed reached s) else renewed reached s)

/-- LEASE_EXPIRY (R486): the Acre's KTB has reached its lease's end. -/
def execLeaseExpiry (a : Acre) (s : State) : Host.Outcome State Fault Refusal := running s <|
  match s.ckp.leases.get a with
  | some l => if l.expiry ≤ ktbOf s (.acre a) then ok (setCkp (fun c => { c with leases := c.leases.set a none }) s) else ok s
  | none => ok s

/-- YOKE_HEARTBEAT (R487, R488): a heartbeat reaches Yoke `y` from its partner, carrying `p`. A higher P makes `y` stale. A claim
no Acre has voted for is dropped (log 110). -/
def execYokeHeartbeat (y : Yoke) (p : Nat) (s : State) : Host.Outcome State Fault Refusal := running s <|
  let s := modYoke y (fun x => { x with heardAt := yokeNow s y, partnerUp := true,
                                        claim := x.claim.filter (fun c => !c.votes.isEmpty) }) s
  ok (if s.ckp.primary = y && decide (s.ckp.primacyEpoch < p) then stopIssuing y s else s)

/-- PARTNER_HEARTBEAT_SEND (R487): every 10 µs, over the Yoke link, or over the ring when that link is down. -/
def execPartnerHeartbeatSend (y : Yoke) (s : State) : Host.Outcome State Fault Refusal := running s <|
  let now := yokeNow s y
  if now < (s.ckp.yokes.get y).beatAt + 10000 then ok s
  else ok (emit (.partnerBeat y s.ckp.primacyEpoch (s.links.contains .ywYe)) (modYoke y (fun x => { x with beatAt := now }) s))

/-- Send CLAIM(P + 1). -/
def sendClaim (y : Yoke) (s : State) : State :=
  let p := s.ckp.primacyEpoch + 1
  emit (.claim y p) (modYoke y (fun x => { x with
    claim := some ⟨p, (match x.claim with
      | some c => if c.epoch = p then c.votes else []
      | none => []), yokeNow s y⟩ }) s)

/-- PARTNER_SILENCE (R487 step 1): the partner has been silent for PARTNER_US; a Yoke that does not hold primacy claims it. -/
def execPartnerSilence (y : Yoke) (s : State) : Host.Outcome State Fault Refusal := running s <|
  let x := s.ckp.yokes.get y
  if yokeNow s y < x.heardAt + partnerNs s then ok s
  else
    let s := modYoke y (fun x => { x with partnerUp := false }) s
    if s.ckp.primary = y || x.claim.isSome then ok s else ok (sendClaim y s)

/-- CLAIM_RETRY (R487 step 3): LEASE_US after a claim that lacked a winning set. -/
def execClaimRetry (y : Yoke) (s : State) : Host.Outcome State Fault Refusal := running s <|
  match (s.ckp.yokes.get y).claim with
  | some c => if winning s y c.votes || decide (yokeNow s y < c.at_ + leaseNs s) || s.ckp.primary = y then ok s else ok (sendClaim y s)
  | none => ok s

/-- Time left of an unexpired lease of the other Yoke at an Acre, for WAIT (R487 step 2). -/
def claimWait (s : State) (a : Acre) (y : Yoke) : Option Nat :=
  match s.ckp.leases.get a with
  | some l => if ktbOf s (.acre a) < l.expiry && l.holder != y then some (l.expiry - ktbOf s (.acre a)) else none
  | none => none

/-- An Acre votes for the claim (R487 step 2). -/
def claimVote (a : Acre) (y : Yoke) (c : Claim) (s : State) : State :=
  emit (.claimAnswer a y none) (modYoke y (fun x => { x with claim := some { c with votes := c.votes ++ [a] } })
    (setCkp (fun k => { k with voted := k.voted.set a (some (c.epoch, y)) }) s))

/-- CLAIM (R487 step 2): a claim reaches an Acre. Under an unexpired lease of the other Yoke it answers WAIT; otherwise it votes for the
first claim of P + 1. A claim of another P is refused ST_PRIMACY, and the claimant is stale (R485, R488). -/
def execClaim (a : Acre) (y : Yoke) (p : Nat) (s : State) : Host.Outcome State Fault Refusal := running s <|
  match (s.ckp.yokes.get y).claim with
  | none => ok s
  | some c =>
    if c.epoch ≠ p then ok s
    else if p ≠ s.ckp.acreP.get a + 1 then ok (stopIssuing y (modYoke y (fun x => { x with claim := none }) s))
    else match claimWait s a y with
      | some w => ok (stopIssuing y (emit (.claimAnswer a y (some w)) s))
      | none =>
        if (s.ckp.voted.get a).any (fun v => v.1 = p) then ok s else ok (claimVote a y c s)

/-- The new holder's fourth step (R487): ABANDON for a commit left pending, the wait-for graph to be built again, the Chest to be
mounted again, the old holder's connections ended, the host port taken over where it was on the lost Yoke. A wait-for failure of the
old holder carries P and is refused (R485); the search that ends the rebuild finds its cycle again (R362). The journal and KTB go on
as the stores and the Acres hold them. -/
def takeOver (old y : Yoke) (s : State) : State :=
  let s := commitEnd .primacy s
  let s := { s with sync := { s.sync with rebuilding := true, victims := [] } }
  let s := { s with chest := { s.chest with mount := if s.chest.mount = .mounted then .unmounted else s.chest.mount } }
  let s := ((NMap.keys s.klt.conns).filter (fun n => connYoke n = old)).foldl (fun s n => failConn n .fenced s) s
  if s.power.hostActive = some old then hostReset { s with power := { s.power with hostActive := if s.power.hostLink.get y then some y else none } }
  else s

/-- P + 1 is taken with the votes of a claim, and leases are issued (R487 step 3). -/
def primacyTaken (y : Yoke) (c : Claim) (s : State) : State :=
  let now := yokeNow s y
  let s := setCkp (fun k => { k with primary := y, primacyEpoch := c.epoch }) (stopIssuing y.other s)
  let s := c.votes.foldl (fun s a => takeLease y c.epoch a s) s
  mgmtPost (.primacy c.epoch) (modYoke y (fun x => { x with claim := none, issuing := true, renewAt := now, winAt := now }) s)

/-- PRIMACY_TAKEOVER (R487 steps 3 and 4): with a winning set of votes P + 1 is taken and leases are issued. -/
def execPrimacyTakeover (y : Yoke) (s : State) : Host.Outcome State Fault Refusal := running s <|
  match (s.ckp.yokes.get y).claim with
  | none => ok s
  | some c =>
    if !winning s y c.votes || c.epoch ≠ s.ckp.primacyEpoch + 1 then ok s
    else okSettle (if s.ckp.primary = y then primacyTaken y c s else takeOver s.ckp.primary y (primacyTaken y c s))

/-- STALE_PRIMACY (R488): a Yoke that issues without primacy, or whose last renewal to reach a winning set was sent LEASE_US − 10 µs
ago, stops. -/
def execStalePrimacy (y : Yoke) (s : State) : Host.Outcome State Fault Refusal := running s <|
  if s.ckp.primary ≠ y || decide ((s.ckp.yokes.get y).winAt + leaseNs s ≤ yokeNow s y + 10000) then ok (stopIssuing y s) else ok s

end Sys2Proof.Machine
end

