-- ==== Sys2Proof/Machine/Migrate.lean ====
section
/-!
DEFINITION. Migration between devices, and leaving a system: MIGRATE, the messages of R490, MIG_RESOLVE, LEAVE, LEFT (R489 to R492).
-/
namespace Sys2Proof.Machine

def migOf (s : State) (slot : Nat) : Option Migration := NMap.get? s.ckp.migs slot
def putMig (slot : Nat) (m : Migration) (s : State) : State := setCkp (fun c => { c with migs := NMap.put c.migs slot m }) s
def dropMig (slot : Nat) (s : State) : State := setCkp (fun c => { c with migs := NMap.erase c.migs slot }) s

/-- A migration as outcomes are kept by: its source draws MIG_ID, so the source's device ID is part of it. -/
def migKey (src id : Nat) : Nat := src * 2 ^ 32 + id

/-- Note how a migration ended: 1 ACTIVE at the target, 2 ABANDONED (R490). -/
def migDone (m : Migration) (o : Nat) (s : State) : State :=
  setCkp (fun c => { c with outcomes := NMap.put c.outcomes (migKey (if m.source then s.sec.deviceId else m.peer) m.id) o }) s

/-- SRC and DST of a migration's messages name its source and its target (R490). -/
def migHdr (s : State) (m : Migration) : MigHdr :=
  if m.source then { migId := m.id, seq := m.seq, src := s.sec.deviceId, dst := m.peer, srcHandle := m.handle, dstHandle := m.peerHandle }
  else { migId := m.id, seq := m.seq, src := m.peer, dst := s.sec.deviceId, srcHandle := m.peerHandle, dstHandle := m.handle }

/-- Send the next message of a migration (R490). -/
def sendMig (slot : Nat) (b : MigBody) (s : State) : State :=
  match migOf s slot with
  | none => s
  | some m =>
    let h := migHdr s m
    emit (.migMsg m.conn h b) (putMig slot { m with seq := m.seq + 1, last := some (h, b), sentAt := ktb s } s)

/-- The migration a message names, as source or as target, by own slot (R490). -/
def findMig (s : State) (source : Bool) (h : MigHdr) : Option (Nat × Migration) :=
  s.ckp.migs.find? (fun e => e.2.source == source && e.2.id == h.migId &&
    (if source then h.src == s.sec.deviceId && h.dst == e.2.peer else h.dst == s.sec.deviceId && h.src == e.2.peer) &&
    (desc s e.1).state == .migrating)

/-- The session returns to its state before the migration, and the wakes recorded meanwhile are evaluated (R67). -/
def migReturn (slot : Nat) (st : Status) (s : State) : State :=
  let d := desc s slot
  let s := commitState slot d.prevState st (fun d => { d with migrateActive := false, migDevice := 0, migHandle := 0 }) s
  if d.wakeQueued then fireWake slot d.wakeCause (commitDesc slot (fun d => { d with wakeQueued := false }) s) else armWakes slot s

/-- The command that asked for a migration completes. -/
def migCqe (m : Migration) (st : Status) (s : State) : State :=
  match m.cmd with
  | some (sq, cid) => postCqe sq cid st 0 0 s
  | none => s

/-- A source gives a migration up before HANDOVER: PREV_STATE, and the target is told (R67, R310). -/
def migAbandon (slot : Nat) (st : Status) (s : State) : State :=
  match migOf s slot with
  | none => s
  | some m => migCqe m st (migReturn slot st (dropMig slot (migDone m 2 (sendMig slot (.outcome 2) s))))

/-! ## The source -/

/-- Objects of a session in map order: 0 the Drawer, k + 1 the stack of map entry k. -/
def migItems (s : State) (slot : Nat) : List Nat := 0 :: (getObj s (mapObj slot)).data.entries.map (fun e => e.1 + 1)

/-- Record slot of an item, where it has one. -/
def itemRec (s : State) (slot n : Nat) : Option Nat :=
  if n = 0 then some (drawerObj slot)
  else match mapEntry s slot (n - 1) with
    | some ⟨_, .record i⟩ => some i
    | _ => none

/-- Frames of an item as the OFFER gives them. -/
def itemFrames (s : State) (slot n : Nat) : Nat :=
  match itemRec s slot n with
  | some i => (getObj s i).frames
  | none => stackRun (geom s (desc s slot).profile)

/-- Key slots of a session's objects; what is dirty will be written under CUR_GEN (R442). -/
def itemKeys (s : State) (slot : Nat) : List Nat :=
  (migItems s slot).filterMap (fun n => match itemRec s slot n with
    | some i => let o := getObj s i
                some (if o.dirty then s.sec.curGen else o.keySel)
    | none => match mapEntry s slot (n - 1) with
      | some ⟨_, .chestLoc l⟩ => some (chestRec s (locIndex l)).keySel
      | _ => none)

/-- The OFFER of a session (R490). -/
def offerOf (s : State) (slot tier : Nat) (target : Option Nat) : OfferIn :=
  let d := desc s slot
  let a := Die.acre (homeAcre slot)
  { principal := d.principal, profile := d.profile, geom := live s .TIER_PROF_GEOM a d.profile, var := live s .TIER_PROF_VAR a d.profile,
    scale := live s .TIER_PROF_SCALE a d.profile, tier := tier, target := target,
    frames := (migItems s slot).map (itemFrames s slot), keyMask := (List.range 16).foldl (fun v k =>
      if (itemKeys s slot).contains k then v + 2 ^ k else v) 0 }

/-- Handover sequence drawn for a migration's nonces, reserved 2^20 at a time (R473). -/
def drawHand (s : State) : State :=
  setCkp (fun c => { c with
    handSeq := c.handSeq + 1, handHigh := if c.handHigh ≤ c.handSeq then c.handSeq + 2 ^ 20 else c.handHigh,
    anchorRecs := c.anchorRecs + (decide (c.handHigh ≤ c.handSeq)).toNat }) s

/-- A stack of the session has been exported. -/
def hasOff (s : State) (slot : Nat) : Bool :=
  (getObj s (mapObj slot)).data.entries.any (fun e => match e.2.ref with
    | .offDevice _ => true
    | _ => false)

/-- The connection is open and carries TC3 (R489). -/
def tc3Open (s : State) (conn : Nat) : Bool := (connOf s conn).any (fun c => c.st == .open_ && c.tc == 3)

/-- What keeps MIGRATE of a parked session from starting (R443, R489). -/
def migCheck (s : State) (slot device conn : Nat) : Option Status :=
  if device = s.sec.deviceId then some .badFormat
  else if !tc3Open s conn then some .badHandle
  else if !(itemKeys s slot).all (keyOpens s true) then some .access
  else if hasOff s slot then some .notResident
  else none

/-- The session is MIGRATING with PREV_STATE recorded, and OFFER is sent (R67, R489 step 1). -/
def migBegin (slot handle device tier : Nat) (target : Option Nat) (conn : Nat) (cmd : Nat × Nat) (st : SState) (s : State) : State :=
  let s := endContract slot 3 s
  let s := if (desc s slot).wakeQueued then unqueueWake slot s else s
  let s := removeWatch slot s
  let s := commitState slot .migrating .ok (fun d => { d with prevState := st, migrateActive := true, migDevice := device }) s
  let m : Migration := { id := s.ckp.nextMig, source := true, peer := device, conn := conn, handle := handle, peerHandle := 0,
                         st := .offered, seq := 0, hseq := s.ckp.handSeq, objs := [], places := [], unsent := [], left := [],
                         runs := [], policyTier := tier, policyTarget := target, hand := none, last := none, sentAt := ktb s,
                         cmd := some cmd }
  let s := drawHand (setCkp (fun c => { c with nextMig := (c.nextMig + 1) % 2 ^ 32 }) s)
  sendMig slot (.offer (offerOf s slot tier target)) (putMig slot m s)

/-- MIGRATE (R67, R68, R443, R489 step 1): MIGRATING, PREV_STATE recorded, OFFER sent over a TC3 connection. A stack that has been
exported is not there to be sent. -/
def execMigrate (sq cid handle device tier : Nat) (target : Option Nat) (conn : Nat) (s : State) : Host.Outcome State Fault Refusal := running s <|
  okSettle (hostCmd sq cid .io false (onSession handle (.host sq cid) (fun slot st s =>
    match st with
    | .toolWait | .idleWait | .dormant =>
      (match migCheck s slot device conn with
       | some e => postCqe sq cid e 0 0 s
       | none => migBegin slot handle device tier target conn (sq, cid) st s)
    | .fenced => postCqe sq cid .fenced 0 0 s
    | _ => postCqe sq cid .busy 0 0 s)) s)

/-- No handler runs, and no attention admitted before is outstanding (R80, R287). -/
def migQuiet (s : State) (slot : Nat) : Bool := !handlerRuns s slot && attnInflight s slot = 0

/-- Hand one item to the connection where it can be (R489 step 3): what is dirty is written back first; a stack in the Chest is staged
first. The positions still unsent follow. -/
def sendItem (slot : Nat) (m : Migration) (x : List Nat × State) (j : Nat) : List Nat × State :=
  let s := x.2
  let n := m.objs.getD j 0
  match itemRec s slot n with
  | none =>
    (match mapEntry s slot (n - 1) with
     | some ⟨_, .chestLoc l⟩ => (x.1 ++ [j], (stageBegin slot (n - 1) l (.background slot) s).getD s)
     | _ => x)
  | some i =>
    let s := writeBackNow i s
    let o := getObj s i
    if o.dirty || o.wbActive || (o.home.tier = Tier.chest && !o.staged) then (x.1 ++ [j], s)
    else match o.sealed, m.places[j]? with
      | some f, some p =>
        let fs := sealedFrames f.stackId f.ctr f.keySel o.frames f.data
        (x.1, kltPost { conn := m.conn, tc := 3, op := .frameWrite p.addr p.key fs false, src := .migration slot j } s)
      | _, _ => (x.1 ++ [j], s)

/-- Send every object that can be sent now. -/
def migSend (slot : Nat) (s : State) : State :=
  match migOf s slot with
  | none => s
  | some m =>
    if !migQuiet s slot then s
    else
      let (still, s) := m.unsent.foldl (sendItem slot m) ([], s)
      let m' := { m with unsent := still, left := m.left ++ m.unsent.filter (fun j => !still.contains j) }
      kltPump (putMig slot m' s)

/-- The places of the objects have come: the session's objects are noted, and sent as they can be (R489 step 3). -/
def migAccepted (slot : Nat) (m : Migration) (peerHandle : Nat) (places : List MigPlace) (s : State) : State :=
  let items := migItems s slot
  migSend slot (putMig slot
    { m with st := .sending, peerHandle := peerHandle, objs := items, places := places, unsent := List.range items.length }
    (commitDesc slot (fun d => { d with migHandle := peerHandle }) s))

/-- MIG_ACCEPT (R489 step 3): the places of the objects have come; everything is written back and sent raw. -/
def execMigAccept (h : MigHdr) (places : List MigPlace) (s : State) : Host.Outcome State Fault Refusal := running s <|
  match findMig s true h with
  | none => ok s
  | some (slot, m) =>
    if m.st ≠ .offered || places.length ≠ (migItems s slot).length then ok s
    else okSettle (migAccepted slot m h.dstHandle places s)

/-- The target has refused: PREV_STATE, and MIGRATE ends with its status (R67, R489 step 2). -/
def migRefused (slot : Nat) (m : Migration) (st : Status) (s : State) : State :=
  migCqe m st (migReturn slot st (dropMig slot (migDone m 2 s)))

/-- MIG_REFUSE (R489 step 2): the source returns to PREV_STATE, and MIGRATE ends with the target's status. -/
def execMigRefuse (h : MigHdr) (st : Nat) (s : State) : Host.Outcome State Fault Refusal := running s <|
  match findMig s true h with
  | none => ok s
  | some (slot, m) =>
    if m.st ≠ .offered then ok s
    else okSettle (migRefused slot m ((Status.ofCode st).getD .access) s)

/-- What HANDOVER carries of a session (R489 step 4). The objects' frames have gone before it. -/
def handOf (s : State) (slot : Nat) : HandIn :=
  let objs := (migItems s slot).filterMap (fun n => (itemRec s slot n).map (fun i =>
    let o := getObj s i
    ({ role := if n = 0 then .drawer else .stack (n - 1), stackId := o.stackId, ctr := o.ctr, keySel := o.keySel, frames := o.frames,
       data := [] } : ObjIn)))
  { sess := { device := s.sec.deviceId, desc := descBytes s slot, objs := objs },
    auto := (ckptRow s slot).auto,
    events := ((s.tin.evq.get (homeAcre slot)).filter (fun e => e.slot = slot)).map (fun e => (e.code, e.a, e.b)),
    timers := s.tin.asyncs.filterMap (fun o => if o.slot = slot && !o.ended then (match o.kind with
      | .timer t => some (o.tag, t)
      | _ => none) else none),
    waits := s.sync.waits.filterMap (fun w => match w.who with
      | .session x tag => if x = slot then some (tag, w.obj, w.code, w.operand, w.timeout) else none
      | .gate _ => none) }

/-- The ends of a migration's writes at the KLT engine. -/
def migEnds (s : State) (slot : Nat) : List (KltSrc × Status) :=
  s.klt.ended.filter (fun e => match e.1 with
    | .migration x _ => x == slot
    | _ => false)

/-- The ends of a migration's writes are taken: what has been acknowledged is no longer left. -/
def migTakeEnds (slot : Nat) (m : Migration) (s : State) : State :=
  let ends := migEnds s slot
  putMig slot { m with left := m.left.filter (fun j => !ends.any (fun e => e.1 = .migration slot j)) }
    (setKlt (fun k => { k with ended := k.ended.filter (fun e => !ends.contains e) }) s)

/-- Every object has been sent and acknowledged, MOVE_INFLIGHT = 0, and nothing of the session runs (R489 step 4). -/
def mayFreeze (s : State) (slot : Nat) (m : Migration) : Bool := m.left.isEmpty && moveInflight s slot = 0 && migQuiet s slot

/-- MIGRATION_FREEZE (R489 step 4): with every object sent and MOVE_INFLIGHT = 0, HANDOVER is sent. A write that failed ends the
migration (R310). What could not be sent before is tried again. -/
def execMigrationFreeze (slot : Nat) (s : State) : Host.Outcome State Fault Refusal := running s <|
  match migOf s slot with
  | none => ok s
  | some m =>
    if !m.source || m.st ≠ .sending || (desc s slot).state ≠ .migrating then ok s
    else match (migEnds s slot).find? (fun e => e.2 ≠ .ok) with
      | some e => okSettle (migAbandon slot e.2 (migTakeEnds slot m s))
      | none =>
        let s := migTakeEnds slot m s
        match migOf s slot with
        | none => ok s
        | some m =>
          if !m.unsent.isEmpty then okSettle (migSend slot s)
          else if !mayFreeze s slot m then ok s
          else ok (sendMig slot (.handover (handOf s slot)) (putMig slot { m with st := .handover } s))

/-- The handover commit (R67, R489 step 6): the slot is FREE with GEN + 1, its locks are abandoned, and what it held is released. -/
def handoverCommit (slot : Nat) (s : State) : State :=
  let s := abandonLocks slot (endWaits slot .aborted true (removeWatch slot s))
  let s := { s with tin := { s.tin with evq := s.tin.evq.map (fun q => q.filter (fun e => e.slot ≠ slot)) } }
  freeSlot slot (releaseAll slot s)

/-- The target has the session: the source commits the handover, and RELEASE goes out. -/
def migConfirmed (slot : Nat) (m : Migration) (s : State) : State :=
  let s := migDone m 1 (handoverCommit slot (sendMig slot .release s))
  migCqe m .ok (dropMig slot s)

/-- MIG_CONFIRM (R489 step 6). -/
def execMigConfirm (h : MigHdr) (s : State) : Host.Outcome State Fault Refusal := running s <|
  match findMig s true h with
  | none => ok s
  | some (slot, m) => if m.st ≠ .handover then ok s else okSettle (migConfirmed slot m s)

/-! ## The target -/

/-- The checks of a target on an OFFER (R85, R489 step 2), in their order. -/
def offerCheck (s : State) (a : Acre) (o : OfferIn) : Option Status :=
  let d := Die.acre a
  match admitNew s [1] with
  | some st => some st
  | none =>
    if 4096 ≤ o.principal || 16 ≤ o.profile || o.frames.isEmpty then some .badFormat
    else if !(geom s o.profile).valid || live s .TIER_PROF_GEOM d o.profile ≠ o.geom || live s .TIER_PROF_VAR d o.profile ≠ o.var ||
        live s .TIER_PROF_SCALE d o.profile ≠ o.scale then some .badFormat
    else if (s.bur.slots.get a).count = 0 then some .noSpace
    else if prinLimit s o.principal 21 0 ≤ prinSessions s o.principal then some .quota
    else if !((List.range 16).filter (fun k => o.keyMask.testBit k)).all (keyOpens s true) then some .access
    else none

/-- Reserve a Field run and register its FRAME region for each object (R489 step 2, R490): the Drawer in the home Acre, stacks as the
policy names. -/
def offerRuns (a : Acre) (peer principal : Nat) (pol : Option Nat) : List Nat → Bool → State → Option (List (Acre × Nat × Nat × Nat) × State)
  | [], _, s => some ([], s)
  | n :: r, first, s =>
    let run := (n + 15) / 16 * 16
    let acres := if first then [a] else match pol with
      | some t => [Acre.ofNum t]
      | none => ringFrom a
    match takeFieldAny 16 run s acres with
    | some (.fld b f, s) =>
      let reg : Region := { base := 2 ^ 48 + b.num * 2 ^ 46 + f * 4096, len := run * 4096, kind := .frame, dbk := 0, dbArg := 0,
                            canWrite := true, canRead := false, canDb := false, isLocal := false, peer := some peer,
                            principal := principal, st := .valid, tag := 0, revTag := none }
      (match regionTake reg s with
       | none => none
       | some (key, s) => (offerRuns a peer principal pol r false s).map (fun x => ((b, f, run, key) :: x.1, x.2)))
    | _ => none

/-- The target's part for an OFFER that passes: a slot in MIGRATING with its plots, and ACCEPT goes out; or the status it refuses with
(R489 step 2). -/
def offerTake (conn : Nat) (h : MigHdr) (o : OfferIn) (s : State) : Except Status State :=
  let a := openAcre s 0xFF
  match offerCheck s a o with
  | some st => .error st
  | none =>
    match (s.bur.slots.get a).take with
    | none => .error .noSpace
    | some (slot, fl) =>
      match own slot s with
      | none => .error .busy
      | some s1 =>
        match offerRuns a h.src o.principal (if o.tier = 2 then none else o.target) o.frames true s1 with
        | none => .error .noSpace
        | some (runs, s1) =>
          let s1 := { s1 with bur := { s1.bur with slots := s1.bur.slots.set a fl } }
          let old := desc s1 slot
          let s1 := setHome slot (homeDesc s1 slot) s1
          let s1 := putDesc slot { Desc.freeOf old.gen s.sec.epoch with eventRing := 0xFFFF, seq := old.seq } s1
          let s1 := commitState slot .migrating .ok (fun d =>
            { d with principal := o.principal, profile := o.profile, migrateActive := true, prevState := .idleWait }) s1
          let m : Migration := { id := h.migId, source := false, peer := h.src, conn := conn, handle := handleOf s1 slot,
                                 peerHandle := h.srcHandle, st := .accepted, seq := 0, hseq := s1.ckp.handSeq, objs := [], places := [],
                                 unsent := [], left := [], runs := runs, policyTier := o.tier, policyTarget := o.target, hand := none,
                                 last := none, sentAt := ktb s1, cmd := none }
          let ps : List MigPlace := runs.map (fun r => { key := r.2.2.2, addr := 2 ^ 48 + r.1.num * 2 ^ 46 + r.2.1 * 4096, frames := r.2.2.1 })
          .ok (sendMig slot (.accept ps) (putMig slot m (drawHand s1)))

/-- A device holds the migration an OFFER names as its target already. -/
def holdsOffer (s : State) (h : MigHdr) : Bool := s.ckp.migs.any (fun e => e.2.id = h.migId && !e.2.source && e.2.peer = h.src)

/-- MIG_OFFER (R489 step 2): ACCEPT, or REFUSE with the status. -/
def execMigOffer (conn : Nat) (h : MigHdr) (o : OfferIn) (s : State) : Host.Outcome State Fault Refusal := running s <|
  if h.dst ≠ s.sec.deviceId || holdsOffer s h then ok s
  else match offerTake conn h o s with
    | .ok s => ok s
    | .error st => ok (emit (.migMsg conn { h with seq := 0, dstHandle := 0 } (.refuse st.code)) s)

/-- The FRAME regions of a migration are revoked. -/
def dropRegions (runs : List (Acre × Nat × Nat × Nat)) (s : State) : State :=
  runs.foldl (fun s r =>
    let i := r.2.2.2 / 2 ^ 16
    revokeDrained i (setKlt (fun k => { k with regions := NMap.modify k.regions i (fun x =>
      if x.tag = r.2.2.2 % 2 ^ 16 && x.st = .valid then { x with st := .revoking } else x) }) s)) s

/-- Install the objects of a HANDOVER as IMPORTED records in their runs, under a new map (R127, R489 step 5). `none`: no general slot
or no Field for the map. -/
def installObjs (slot : Nat) (d : Desc) : List ObjIn → List (Acre × Nat × Nat × Nat) → State → Option State
  | [], _, s => some s
  | _ :: _, [], s => some s
  | o :: os, r :: rs, s =>
    let home := Home.fld r.1 r.2.1
    match o.role with
    | .drawer => installObjs slot d os rs (importInto (drawerObj slot) .drawer 0 d.principal (some slot) home (restOfIn o .drawer) s)
    | .stack k =>
      (match takeGeneral (homeAcre slot) s with
       | none => none
       | some (i, s) =>
         let s := importInto i .stack d.profile d.principal (some slot) home { restOfIn o .stack with frames := r.2.2.1 } s
         installObjs slot d os rs (setEntry (mapObj slot) k (some { shared := false, ref := .record i }) s))
    | .map => installObjs slot d os (r :: rs) s

/-- The descriptor of a session taken over: as it came, in the slot reserved for it (R489 step 5). -/
def handDesc (d : Desc) (b : List Byte) : Desc :=
  let c := descOfBytes b
  { c with gen := d.gen, tenancyEpoch := d.tenancyEpoch, state := .migrating, principal := d.principal, profile := d.profile,
           migrateActive := true, seq := d.seq, prefixId := 0, wakeQueued := (leNat ((b.drop 96).take 8)).testBit 38, specHead := c.len }

/-- What HANDOVER carried is installed, still inactive (R489 step 5); none: no room for the map or a record. -/
def handInstall (slot : Nat) (m : Migration) (x : HandIn) (s : State) : Option State :=
  let d' := handDesc (desc s slot) x.sess.desc
  match importBase slot x.sess.objs.length (desc s slot).principal none s with
  | .error _ => none
  | .ok s1 => (installObjs slot d' x.sess.objs m.runs s1).map (fun s1 =>
      let s1 := setAux slot { auxOf s1 slot with policy := policyOf m.policyTier m.policyTarget } (putDesc slot d' s1)
      dropRegions m.runs (setCkptRow slot { CkptRow.empty with auto := x.auto } s1))

/-- The last message of a migration goes out again, the same frame under the same nonce (R490). -/
def migAgain (m : Migration) (s : State) : State :=
  match m.last with
  | some (h, b) => emit (.migMsg m.conn h b) s
  | none => s

/-- MIG_HANDOVER (R489 step 5): a record whose seal verifies installs the session, still inactive, and CONFIRM goes out; a HANDOVER
sent again is confirmed again. -/
def execMigHandover (h : MigHdr) (good : Bool) (x : HandIn) (s : State) : Host.Outcome State Fault Refusal := running s <|
  match findMig s false h with
  | none => ok s
  | some (slot, m) =>
    if !good then ok s
    else match m.st with
      | .confirmed => ok (migAgain m s)
      | .accepted =>
        (match handInstall slot m x s with
         | none => ok s
         | some t => ok (sendMig slot .confirm (putMig slot { m with st := .confirmed, runs := [], hand := some x } t)))
      | _ => ok s

/-- The session becomes active at the target (R489 step 7): PREV_STATE, then the events, timers and waits it brought, then its wakes. -/
def migActivate (slot : Nat) (m : Migration) (s : State) : State :=
  let s := dropMig slot (migDone m 1 s)
  let s := match m.hand with
    | none => s
    | some x =>
      let ts : List AsyncOp := x.timers.map (fun t => { slot := slot, tag := t.1, kind := .timer t.2, ended := false, ins := [], outs := [] })
      let ws : List AsyncOp := x.waits.map (fun w => { slot := slot, tag := w.1, kind := .wait w.2.1, ended := false, ins := [], outs := [] })
      let s := { s with tin := { s.tin with asyncs := s.tin.asyncs ++ ts ++ ws } }
      let s := x.events.foldl (fun s e => raiseEvent slot (desc s slot).imageId e.1 e.2.1 e.2.2 s) s
      x.waits.foldl (fun s w => admitWait slot w.1 w.2.1 w.2.2.1 w.2.2.2.1 w.2.2.2.2 s) s
  migReturn slot .ok s

/-- The target discards a session it has reserved or taken in: the migration was abandoned. -/
def migDiscard (slot : Nat) (m : Migration) (s : State) : State :=
  let s := dropMig slot (migDone m 2 (dropRegions m.runs s))
  let s := m.runs.foldl (fun s r => giveField r.1 r.2.1 r.2.2.1 s) s
  freeSlot slot (releaseAll slot s)

/-- MIG_RELEASE (R489 step 7). -/
def execMigRelease (h : MigHdr) (s : State) : Host.Outcome State Fault Refusal := running s <|
  match findMig s false h with
  | none => ok s
  | some (slot, m) => if m.st ≠ .confirmed then ok s else okSettle (migActivate slot m s)

/-! ## Outcomes (R489, R490) -/

/-- What this device knows of a migration: 1, 2, or 3 UNKNOWN. -/
def outcomeOf (s : State) (h : MigHdr) : Nat := (NMap.get? s.ckp.outcomes (migKey h.src h.migId)).getD 3

/-- MIG_QUERY (R490): the outcome is reported back. -/
def execMigQuery (conn : Nat) (h : MigHdr) (s : State) : Host.Outcome State Fault Refusal := running s <|
  ok (emit (.migMsg conn h (.outcome (outcomeOf s h))) s)

/-- MIG_OUTCOME (R489, R490): ACTIVE or ABANDONED settles a migration that waits; UNKNOWN changes nothing. -/
def execMigOutcome (h : MigHdr) (o : Nat) (s : State) : Host.Outcome State Fault Refusal := running s <|
  match findMig s true h, findMig s false h with
  | some (slot, m), _ =>
    if m.st = .handover && o = 1 then okSettle (migConfirmed slot m s)
    else if o = 2 then okSettle (migRefused slot m .aborted s)
    else ok s
  | none, some (slot, m) =>
    if m.st = .confirmed && o = 1 then okSettle (migActivate slot m s)
    else if o = 2 then okSettle (migDiscard slot m s)
    else ok s
  | none, none => ok s

/-- MIG_RESEND (R489, R490): HANDOVER, or another message not yet answered, is sent again, the same frame under the same nonce; a
target that has answered CONFIRM asks for the outcome. -/
def execMigResend (slot : Nat) (s : State) : Host.Outcome State Fault Refusal := running s <|
  match migOf s slot with
  | none => ok s
  | some m =>
    match m.st with
    | .confirmed => ok (emit (.migMsg m.conn (migHdr s m) .query) s)
    | .sending => ok s
    | _ => ok (migAgain m s)

/-- The peer of a migration stays DOWN (R376, R489). -/
def peerDown (s : State) (peer : Nat) : Bool :=
  match peerEntry s peer with
  | some e => (peerOf s e).st = .down
  | none => true

/-- ACTIVATE at a target that has answered CONFIRM, or ABANDON at a source that has sent HANDOVER: the status and what follows (R489). -/
def resolveBy (slot : Nat) (m : Migration) (activate : Bool) (s : State) : Status × State :=
  if !peerDown s m.peer then (.busy, s)
  else if activate && !m.source && m.st = .confirmed then (.ok, migActivate slot m s)
  else if !activate && m.source && m.st = .handover then (.ok, migRefused slot m .aborted s)
  else (.badFormat, s)

/-- MIG_RESOLVE (R489): ACTIVATE at the target, or ABANDON at the source, of a migration whose peer stays DOWN. -/
def execMigResolve (sq cid : Nat) (passed : Bool) (handle : Nat) (activate : Bool) (s : State) : Host.Outcome State Fault Refusal := running s <|
  okSettle (primCmd sq cid .io passed (fun s =>
    match handleCheck s handle, migOf s (slotOf handle) with
    | some st, _ => postCqe sq cid st 0 0 s
    | none, none => postCqe sq cid .badHandle 0 0 s
    | none, some m =>
      let r := resolveBy (slotOf handle) m activate s
      postCqe sq cid r.1 0 0 r.2) s)

/-! ## Leaving a system (R492) -/

/-- LEAVE: LEAVING is set, and new work is redirected from now on. -/
def execLeave (sq cid : Nat) (passed : Bool) (s : State) : Host.Outcome State Fault Refusal := running s <|
  ok (primCmd sq cid .any passed (fun s =>
    postCqe sq cid .ok 0 0 (setCkp (fun c => { c with leaving := true }) s)) s)

/-- Sessions still to migrate. -/
def sessionsLeft (s : State) : Nat := (sessions s).length

/-- LEFT (R492 step 5): no session, index, prefix, borrowed object or lend window is left. -/
def execLeft (s : State) : Host.Outcome State Fault Refusal := running s <|
  let borrowed := (NMap.vals s.tier.objs).any (fun o => o.sstate != .free && o.home.tier == Tier.headland)
  if s.ckp.leaving && sessionsLeft s = 0 && s.gln.indexes.isEmpty && s.tier.prefixes.isEmpty && !borrowed &&
      s.tier.lend.all (fun w => w.2.st = .free) then ok (setCkp (fun c => { c with left := true }) s)
  else ok s

end Sys2Proof.Machine
end

