-- ==== Sys2Proof/Machine/Gen.lean ====
section
/-!
DEFINITION. The commands of the agent loop: sample records, TRIM, SET_FLOOR, GEN_SET (R226 to R243).
-/
namespace Sys2Proof.Machine

/-- A COMMIT record of a live session that must wait at its descriptor (R231). -/
def tkqHolds (s : State) (r : SampleRec) : Bool :=
  r.commit && (handleCheck s r.handle).isNone && (effState s (slotOf r.handle)).live && sampleWaits s (slotOf r.handle)

/-- TKQ_RECORD_APPLY (R228 to R232): the record at the take point of a TKQ. A NOP is passed over, an invalid record stops
the queue, a COMMIT record that finds attention in flight, an operation held before it, or no stream space is held at its
session's descriptor; any other is refused or applied. -/
def execTkqRecordApply (tkq : Nat) (s : State) : Host.Outcome State Fault Refusal := running s <|
  let q := tkqOf s tkq
  if s.obs.halted || 256 ≤ tkq || q.err.isSome || q.holding || q.pi < q.take + 128 then ok s
  else
    let b := ringRead s (Acre.ofNum (tkq / 64)) (tkqCfg s tkq) q.take 128
    let fmt := leNat ((b.drop 4).take 1)
    let op := leNat ((b.drop 5).take 1)
    let r := sampleRec b
    if fmt ≠ 1 || 1 < op || 16 < r.count then ok (stopTkq tkq .badFormat s)
    else if op = 0 then ok (tkqNext tkq s)
    else if tkqHolds s r then
      let slot := slotOf r.handle
      let s := if streamRoom (desc s slot).streamRing 256 s then s else stall slot s
      ok (hold slot (.sample tkq) (putTkq tkq { q with holding := true } s))
    else okSettle (tkqApply tkq s)

/-- TKQ_ERROR_CLEAR (R173, R228): clearing ERROR sets PI to the take point and resumes the queue. -/
def execTkqErrorClear (tkq : Nat) (s : State) : Host.Outcome State Fault Refusal := running s <|
  let q := tkqOf s tkq
  match q.err with
  | none => ok s
  | some _ =>
    ok (setLiveF .GEN_TKQ_STATUS (.acre (Acre.ofNum (tkq / 64))) (tkq % 64) 40 40 0
      (writePi (Acre.ofNum (tkq / 64)) (tkqCfg s tkq) q.take (putTkq tkq { q with err := none, pi := q.take, marks := [] } s)))

/-- TRIM (R68, R80, R81, R241): ARG0 is the target. -/
def execTrim (sq cid handle target : Nat) (s : State) : Host.Outcome State Fault Refusal := running s <|
  okSettle (hostCmd sq cid .io false
    (onSession handle (.host sq cid) (fun slot st => doTrim slot st (.host sq cid) target)) s)

/-- SET_FLOOR (R226): ARG0 is the floor. -/
def execSetFloor (sq cid handle floor : Nat) (s : State) : Host.Outcome State Fault Refusal := running s <|
  okSettle (hostCmd sq cid .io false
    (onSession handle (.host sq cid) (fun slot st => doSetFloor slot st (.host sq cid) floor)) s)

/-- GEN_SET (R240): in the states that admit it, the header and the descriptor words in one commit. -/
def execGenSet (sq cid handle : Nat) (buf : List Byte) (s : State) : Host.Outcome State Fault Refusal := running s <|
  okSettle (hostCmd sq cid .io false
    (onSession handle (.host sq cid) (fun slot st s =>
      match st with
      | .idleWait | .toolWait | .dormant =>
        let g := genBlock buf
        if buf.length < 1312 || !g.ok then postCqe sq cid .badFormat 0 0 s
        else
          (match drawerWrite slot 0x100 (g.stopSeq ++ g.stopLen) s with
           | .error e => postCqe sq cid e 0 0 (if e = .integrity then fenceSession slot e s else s)
           | .ok s =>
             match drawerWrite slot 0x600 g.eosSet s with
             | .error e => postCqe sq cid e 0 0 (if e = .integrity then fenceSession slot e s else s)
             | .ok s => postCqe sq cid .ok 0 0 (commitDesc slot g.set s))
      | .fenced => postCqe sq cid .fenced 0 0 s
      | _ => postCqe sq cid .busy 0 0 s)) s)

end Sys2Proof.Machine
end

