-- ==== Sys2Proof/Machine/Chest.lean ====
section
/-!
DEFINITION. The commands of the Chest: moves in, staging, drives, the journal, map checkpoints, the Harrow, mount, format
(chapter 04).
-/
namespace Sys2Proof.Machine

/-- The Chest is mounted, and no halt wave stands. -/
def chestUp (s : State) : Bool := s.chest.mount = .mounted && !s.obs.halted

/-! ## Writing into the Chest (R152) -/

/-- Frames of an object as the Chest counts them, and frames of its striping unit (R143). -/
def chestFrames (s : State) (o : ObjRec) : Nat × Nat :=
  if o.kind = .stack then
    let g := geom s o.profile
    (g.layers * (g.sheaf / 4096), g.sheaf / 4096)
  else (o.frames, 32)

/-- The drives a move to a Chest target takes: the one named, or every ONLINE drive (R143). -/
def chestTargets (s : State) (d : Nat) : List Nat := if d < 4 then (onlineDrives s).filter (· = d) else onlineDrives s

/-- The copy of a move into the Chest begins: the CTR it begins with is noted (R113 step 2). -/
def chestBegun (obj : Nat) (s : State) : State :=
  let c := (getObj s obj).ctr
  modObj obj (fun o => { o with moveActive := true })
    { s with tier := { s.tier with moves := s.tier.moves.map (fun x => if x.obj = obj then { x with ctr0 := c } else x) } }

/-- CHEST_WRITE (R152 steps 1 to 4): the pieces of an object that moves into the Chest are written and its PUT joins the
journal. A DIRTY object waits for its round. A failure ends the object's move. -/
def execChestWrite (obj : Nat) (s : State) : Host.Outcome State Fault Refusal := running s <|
  match s.tier.moves.find? (fun m => m.obj = obj) with
  | none => ok s
  | some m =>
    let o := getObj s obj
    match m.dest, o.sealed with
    | .chest d, some f =>
      let old := o.home.tier
      if o.dirty || o.wbActive || s.chest.writes.any (fun w => w.cause = .move obj) || (old = Tier.chest && !o.staged) then ok s
      else if !chestUp s then ok (moveEnd obj old (some .notResident) s)
      else match readFault o with
        | some st => ok (moveEnd obj old (some st) s)
        | none =>
          let n := chestFrames s o
          let s := chestBegun obj s
          match chestWrite f (if o.kind = .searchList then .searchList else .stack) o.profile n.1 n.2 (chestTargets s d) (.move obj) s with
          | (.ok, s) => ok s
          | (st, _) => ok (moveEnd obj old (some st) s)
    | _, _ => ok s

/-- An object's home becomes its new Chest object: the entry names it, the old home is given up, the record is released
(R100, R113 steps 3 to 5). -/
def chestPublish (obj loc : Nat) (m : HomeMove) (s : State) : State :=
  let o := getObj s obj
  let old := o.home.tier
  let k := match o.owner with
    | some slot => (stackIndex s slot obj).map (fun k => (slot, k))
    | none => none
  let l := listOf s obj
  let s := match k, l with
    | some (slot, k), _ => setEntry (mapObj slot) k (some { shared := false, ref := .chestLoc loc }) s
    | none, some (x, l) => setList x l (.chestLoc loc) s
    | none, none => s
  let s := match o.home, o.stageLoc with
    | .chest old, some (a, f) => giveField a f o.run (chestRelease old s)
    | .chest old, none => chestRelease old s
    | h, _ =>
      let (_, r) := oldReaders s obj
      { s with tier := { s.tier with
        oldRuns := s.tier.oldRuns ++ [{ obj := obj, home := h, frames := o.run, entries := [], revivals := r }] } }
  let s := match m.cause, k with
    | .drain _, some (slot, k) => postHome slot k old .chest s
    | _, _ => s
  freeObj obj (moveEnd obj old none (modObj obj (fun o => { o with owner := none }) s))

/-- CHEST_WRITE_DURABLE (R152 step 5, R113 steps 3 to 5): the PUT is durable. Where the object is unchanged its record is
released and its entry names the Chest object; otherwise the new Chest object is released and the move goes on. -/
def execChestWriteDurable (index : Nat) (s : State) : Host.Outcome State Fault Refusal := running s <|
  match s.chest.writes.find? (fun w => w.index = index) with
  | none => ok s
  | some w =>
    match w.cause with
    | .drain _ => if writeDurable s w then ok { s with chest := { s.chest with writes := s.chest.writes.erase w } } else ok s
    | .move obj =>
      match s.tier.moves.find? (fun m => m.obj = obj), writeDurable s w with
      | some m, true =>
        let o := getObj s obj
        let loc := locOf index w.incarn
        if anyReader s obj then ok s
        else
          let s := { s with chest := { s.chest with writes := s.chest.writes.erase w } }
          if o.ctr != m.ctr0 || o.dirty || o.wbActive then ok (chestRelease loc s)
          else ok (chestPublish obj loc m s)
      | none, _ => ok (chestRelease (locOf index w.incarn) { s with chest := { s.chest with writes := s.chest.writes.erase w } })
      | _, _ => ok s

/-! ## Staging (R115, R153) -/

/-- A staging fails: its record and staged run go, the entry names the Chest object again, and what it was for ends with
the status. A failed check or a lost piece fences the session (R124, R162). -/
def stagingFail (g : Staging) (st : Status) (s : State) : State :=
  let s := match s.tier.moves.find? (fun m => m.obj = g.obj) with
    | some m =>
      let o := getObj s g.obj
      moveEnd g.obj .chest (some st)
        (if o.stageLoc.map (fun x => Home.fld x.1 x.2) = some m.dest then s else giveHome m.dest o.run s)
    | none =>
      match g.cause with
      | .directive sq cid => dirStep sq cid g.obj (some st) s
      | _ => s
  let s := unstageAny g.obj s
  if g.owner < 2 ^ 22 && (st = .integrity || st = .uncorrectable) then fenceSession g.owner st s else s

/-- CHEST_PIECE_READ (R153): the piece on one drive of an object being staged is read and checked. `outcome` is what the
drive gives: ST_OK, ST_INTEGRITY for a header, tag block or frame that does not verify, ST_UNCORRECTABLE for a media
error, ST_TIMEOUT. -/
def execChestPieceRead (loc drive : Nat) (outcome : Status) (s : State) : Host.Outcome State Fault Refusal := running s <|
  match s.chest.stagings.find? (fun g => g.loc = loc && g.left.contains drive) with
  | none => ok s
  | some g =>
    let v := driveOf s drive
    let st : Status :=
      if !chestUp s then .notResident
      else if v.st = .unreachable then .notResident
      else if v.st ≠ .online then .uncorrectable
      else if !locValid s loc then .badHandle
      else match NMap.get? s.chest.content (locIndex loc) with
        | none => .uncorrectable
        | some c => if c.corrupt then .integrity else outcome
    let s := if outcome = .uncorrectable then bumpF .CHS_DRIVE_ERR (.yoke .yw) drive 63 32 1 s else s
    if st = .ok then
      ok { s with chest := { s.chest with
        stagings := s.chest.stagings.map (fun x => if x = g then { x with left := x.left.filter (· ≠ drive) } else x) } }
    else okSettle (stagingFail g st s)

/-- STAGING_DONE (R115, R153): every piece has been read, so the copy is complete. A STAGE directive goes on; a revival
fetches the staged stack from the Field (R77). -/
def execStagingDone (obj : Nat) (s : State) : Host.Outcome State Fault Refusal := running s <|
  match s.chest.stagings.find? (fun g => g.obj = obj) with
  | none => ok s
  | some g =>
    if !g.left.isEmpty then ok s
    else
      let s := { s with chest := { s.chest with stagings := s.chest.stagings.filter (fun x => x.obj ≠ obj) } }
      let s := modObj obj (fun o => { o with staged := true }) s
      match g.cause with
      | .directive sq cid => if s.tier.moves.any (fun m => m.obj = obj) then ok s else ok (dirStep sq cid obj none s)
      | .revival slot => if (desc s slot).state = .reviving then ok (queueFetch slot s) else ok s
      | _ => ok s

/-! ## Drives (R134, R135, R162, R562) -/

/-- Sessions that hold an object with a piece on a drive. -/
def driveSessions (s : State) (d : Nat) : List Nat :=
  let on := fun loc => locValid s loc && (chestRec s (locIndex loc)).driveMask.testBit d
  (sessions s).filter (fun x => (getObj s (mapObj x)).data.entries.any (fun e => match e.2.ref with
    | .chestLoc l => on l
    | .record i => (match (getObj s i).home with
      | .chest l => on l
      | _ => false)
    | .offDevice _ => false))

/-- A drive becomes FAILED or UNREACHABLE (R162): its commands and its collection end. FAILED: every object with a piece
on it is lost and its sessions are fenced. -/
def driveDown (d : Nat) (failed : Bool) (s : State) : State :=
  let v := driveOf s d
  if v.st = .absent || v.st = .failed then s
  else
    let s := putDrive d { v with st := (if failed then .failed else .unreachable), cmds := [], rejoining := true } s
    let s := { s with chest := { s.chest with harrow := NMap.erase s.chest.harrow d } }
    if !failed then s
    else
      let lost := driveSessions s d
      let s := { s with chest := { s.chest with
        content := s.chest.content.filter (fun e => !((chestRec s e.1).valid && (chestRec s e.1).driveMask.testBit d)) } }
      let s := lost.foldl (fun s x => fenceSession x .uncorrectable s) s
      mgmtPost (.driveFailed d) s

/-- NVME_COMPLETION (R134): a completion entry for an outstanding command; `media`: it ended with a media error. -/
def execNvmeCompletion (drive cid : Nat) (media : Bool) (s : State) : Host.Outcome State Fault Refusal := running s <|
  let v := driveOf s drive
  if !v.cmds.any (fun c => c.cid = cid) then ok s
  else
    let s := putDrive drive { v with cmds := v.cmds.filter (fun c => c.cid ≠ cid) } s
    ok (if media then bumpF .CHS_DRIVE_ERR (.yoke .yw) drive 63 32 1 s else s)

/-- NVME_CMD_TIMEOUT (R135): the command is aborted; where the abort fails the controller is reset; the command is
retried once, and then ends. Two failed resets within 60 s make the drive FAILED. -/
def execNvmeCmdTimeout (drive cid : Nat) (abortOk resetOk : Bool) (s : State) : Host.Outcome State Fault Refusal := running s <|
  let v := driveOf s drive
  match v.cmds.find? (fun c => c.cid = cid) with
  | none => ok s
  | some c =>
    if ktb s < c.issuedAt + chsF s 47 32 * 1000000 then ok s
    else
      let s := bumpF .CHS_DRIVE_ERR (.yoke .yw) drive 31 0 1 s
      let rest := v.cmds.filter (fun x => x.cid ≠ cid)
      let cmds := if c.retried then rest else rest ++ [{ c with issuedAt := ktb s, retried := true }]
      let fails := if abortOk || resetOk then v.failedResets else ktb s :: v.failedResets
      let s := putDrive drive { v with cmds := cmds, failedResets := fails } s
      match fails with
      | t1 :: t0 :: _ => if !(abortOk || resetOk) && t1 ≤ t0 + 60000000000 then okSettle (driveDown drive true s) else ok s
      | _ => ok s

/-- DRIVE_FAILED (R135, R162): Controller Fatal Status or a lost link makes a drive FAILED; the loss of its Yoke makes it
UNREACHABLE. -/
def execDriveFailed (drive : Nat) (unreachable : Bool) (s : State) : Host.Outcome State Fault Refusal := running s <|
  if 4 ≤ drive then ok s else okSettle (driveDown drive (!unreachable) s)

/-- The verified superblock of a drive with the higher MSEQ (R140). -/
def driveSuper (v : Drive) : Option Superblock :=
  match v.sb0, v.sb1 with
  | some a, some b => if a.mseq < b.mseq then some b else some a
  | some a, none => some a
  | none, b => b

/-- DRIVE_LINK_UP (R562, R162): a drive is enumerated. `same`: it carries the media this port held before; otherwise it is
blank to this device. A drive of the mounted set waits for the next superblock and map checkpoint before it is ONLINE
again. -/
def execDriveLinkUp (drive segments : Nat) (vwc same : Bool) (s : State) : Host.Outcome State Fault Refusal := running s <|
  let v := driveOf s drive
  if 4 ≤ drive || v.st = .online || segments < 34 then ok s
  else if same then
    let ours := match driveSuper v with
      | some b => s.chest.mount = .mounted && b.setId == s.chest.setId
      | none => false
    ok (putDrive drive { v with st := (if ours then .unreachable else .unformatted), vwc := vwc, rejoining := ours,
                                cmds := [], failedResets := [] } s)
  else
    ok (putDrive drive { Drive.absent with
      st := .unformatted, vwc := vwc, segments := segments, free := ⟨33, segments, []⟩, smartAt := ktb s } s)

/-- SMART_POLL (R164): every 60 s, or on an asynchronous event, the log gives Percentage Used and Critical Warning. -/
def execSmartPoll (drive pct crit : Nat) (event : Bool) (s : State) : Host.Outcome State Fault Refusal := running s <|
  let v := driveOf s drive
  if !(v.st = .online || v.st = .unformatted) || !(event || v.smartAt + 60000000000 ≤ ktb s) then ok s
  else
    let s := putDrive drive { v with pctUsed := min pct 255, critWarn := crit % 256, smartAt := ktb s } s
    if chsF s 31 24 ≤ min pct 255 || crit % 256 != 0 then
      ok (mgmtPost (.wear drive) (setLiveF .CHS_DRIVE_STATUS (.yoke .yw) drive 24 24 1 s))
    else ok s

/-! ## The journal (R149, R150) -/

/-- Issue an NVMe command on a drive. -/
def nvmeIssue (d opc : Nat) (s : State) : State :=
  let v := driveOf s d
  putDrive d { v with cmds := v.cmds ++ [{ cid := v.nextCid, opc := opc, issuedAt := ktb s, retried := false }],
                      nextCid := (v.nextCid + 1) % 2 ^ 16 } s

/-- JOURNAL_GROUP_CLOSE (R149): 250 µs after its first record, or at 50 records, the group is written with FUA to every
online drive; the previous group must be durable. -/
def execJournalGroupClose (s : State) : Host.Outcome State Fault Refusal := running s <|
  let c := s.chest
  match c.group with
  | [] => ok s
  | r :: _ =>
    if !c.inFlight.isEmpty || s.obs.halted || (decide (c.group.length < 50) && decide (ktb s < r.joined + 250000)) then ok s
    else
      let s := { s with chest := { c with inFlight := c.group.take 50, group := c.group.drop 50, blocks := c.blocks + 1 } }
      ok ((onlineDrives s).foldl (fun s d => nvmeIssue d 1 s) s)

/-- Let the stalled records go where the stall has ended (R150). -/
def unstall (s : State) : State :=
  if jStalled s then s
  else
    let w := s.chest.stalled
    w.foldl (fun s r => jWrite r.1 r.2.1 r.2.2 s) { s with chest := { s.chest with stalled := [] } }

/-- JOURNAL_GROUP_DURABLE (R149): every write of the group has completed; its records take effect. -/
def execJournalGroupDurable (s : State) : Host.Outcome State Fault Refusal := running s <|
  let g := s.chest.inFlight
  match g.getLast? with
  | none => ok s
  | some l =>
    if (onlineDrives s).any (fun d => (driveOf s d).cmds.any (fun c => c.opc = 1)) then ok s
    else
      let s := (onlineDrives s).foldl (fun s d => putDrive d { driveOf s d with journal := (driveOf s d).journal ++ g } s) s
      let s := g.foldl (fun s r => applyRec r s) s
      ok { s with chest := { s.chest with durable := l.jseq, inFlight := [] } }

/-- Step 2 of R150: the map and the segment tables as the durable journal has left them. -/
def mapCopy (base : Nat) (s : State) : MapCkpt :=
  { base := base, map := s.chest.map, segs := NMap.mapV s.chest.drives (fun _ v => v.segs) }

/-- MAP_CHECKPOINT (R150): the next part of a map checkpoint. It starts by CKPT_BEGIN; with that record durable the map is
copied into the other slot of every online drive and CKPT_END is written; with that durable the superblocks and the anchor
take the new base, journal at or below it is dropped, and a returned drive that has received both rejoins (R162). -/
def execMapCheckpoint (s : State) : Host.Outcome State Fault Refusal := running s <|
  let c := s.chest
  if !chestUp s then ok s
  else match c.ckpt with
    | none =>
      if 65536 ≤ c.blocks || c.baseAt + chsF s 55 48 * 1000000000 ≤ ktb s then
        let slot := 1 - c.slot
        let s := jWrite .ckptBegin slot .empty s
        ok { s with chest := { s.chest with
          baseAt := ktb s, ckpt := some { base := c.jseq, slot := slot, copy := ⟨0, [], []⟩, endJseq := 0, blocks := c.blocks } } }
      else ok s
    | some r =>
      if r.endJseq = 0 then
        if c.durable < r.base then ok s
        else
          let m := mapCopy r.base s
          let ds := (NMap.keys c.drives).filter (fun d => (driveOf s d).st = .online || ((driveOf s d).st = .unreachable && (driveOf s d).rejoining))
          let s := ds.foldl (fun s d =>
            putDrive d (if r.slot = 0 then { driveOf s d with slot0 := some m } else { driveOf s d with slot1 := some m }) s) s
          let j := s.chest.jseq
          let s := jWrite .ckptEnd r.slot .empty s
          ok { s with chest := { s.chest with ckpt := some { r with copy := m, endJseq := j } } }
      else if c.durable < r.endJseq then ok s
      else
        let back := (NMap.keys c.drives).filter (fun d => (driveOf s d).rejoining && (driveOf s d).st = .unreachable)
        let s := back.foldl (fun s d => putDrive d { driveOf s d with st := .online, rejoining := false } s) s
        let s := { s with chest := { s.chest with slot := r.slot, base := r.base, blocks := c.blocks - r.blocks, ckpt := none } }
        let s := writeSuper false 0 s
        let s := (onlineDrives s).foldl (fun s d =>
          putDrive d { driveOf s d with journal := (driveOf s d).journal.filter (fun x => r.base < x.jseq) } s) s
        let s := { s with chest := { s.chest with anchor := s.chest.anchor.map (fun a => { a with base := r.base }), anchorRecs := s.chest.anchorRecs + 1 } }
        ok (unstall s)

/-! ## The Harrow (R155 to R158) -/

/-- The FULL segment with the lowest live fraction, a tie to the lowest number (R155). -/
def harrowVictim (v : Drive) : Option Nat :=
  (v.segs.foldl (fun (b : Option (Nat × Nat)) e =>
    if e.2.st = .full then
      match b with
      | none => some (e.1, e.2.liveBlocks)
      | some (_, l) => if e.2.liveBlocks < l then some (e.1, e.2.liveBlocks) else b
    else b) none).map (fun b => b.1)

/-- Valid map records with a piece in a segment of a drive, and no change of theirs waiting in the journal. -/
def livePieces (s : State) (d seg : Nat) : List (Nat × ChestRec) :=
  s.chest.map.filter (fun e => e.2.valid && !jPending s e.1 && (match NMap.get? e.2.pieces d with
    | some p => p.1 = seg
    | none => false))

/-- Copy one live piece to the Harrow's segment and journal its PUT (R156 steps 2 to 4). -/
def harrowCopy (d : Nat) (s : State) (e : Nat × ChestRec) : State :=
  let b := recBlocks s e.2 d
  match placePiece d b true s with
  | none => s
  | some (p, s) =>
    let s := { s with chest := { s.chest with copiedFrames := s.chest.copiedFrames + b } }
    let j := s.chest.jseq
    let s := jAppend .put e.1 { e.2 with pieces := NMap.put e.2.pieces d p } s
    { s with chest := { s.chest with harrow := NMap.modify s.chest.harrow d (fun h => { h with lastPut := j }) } }

/-- HARROW_COLLECT (R155 to R157): where the free segments are below HARROW_START_PCT the victim is marked COLLECTING and
its live pieces are copied; a collection that has pieces left goes on. -/
def execHarrowCollect (drive : Nat) (s : State) : Host.Outcome State Fault Refusal := running s <|
  let v := driveOf s drive
  if !chestUp s || v.st ≠ .online then ok s
  else match NMap.get? s.chest.harrow drive with
    | some h => ok ((livePieces s drive h.victim).foldl (harrowCopy drive) s)
    | none =>
      if freeU s v < pctOf (chsF s 15 8) (dataSegs v) then
        match harrowVictim v with
        | none => ok s
        | some g =>
          let s := putDrive drive { v with segs := NMap.modify v.segs g (fun x => { x with st := .collecting }) } s
          let s := { s with chest := { s.chest with harrow := NMap.put s.chest.harrow drive { victim := g, lastPut := 0 } } }
          ok ((livePieces s drive g).foldl (harrowCopy drive) s)
      else ok s

/-- HARROW_DEALLOCATE (R156 steps 6 and 7): no live piece, every PUT of its pieces durable, no read on it: the segment is
deallocated, SEG_FREE is journalled and the segment is FREE. -/
def execHarrowDeallocate (drive seg : Nat) (s : State) : Host.Outcome State Fault Refusal := running s <|
  let v := driveOf s drive
  match NMap.get? v.segs seg with
  | none => ok s
  | some g =>
    let mine := match NMap.get? s.chest.harrow drive with
      | some h => h.victim = seg
      | none => false
    let waits := match NMap.get? s.chest.harrow drive with
      | some h => mine && decide (s.chest.durable < h.lastPut)
      | none => false
    let read := s.chest.stagings.any (fun x => x.left.contains drive && NMap.get? x.segs drive == some seg)
    let here := fun (b : ChestRec) => match NMap.get? b.pieces drive with
      | some p => decide (p.1 = seg)
      | none => false
    let moving := (s.chest.group ++ s.chest.inFlight).any (fun r => r.typ = .put && here r.body) ||
      s.chest.stalled.any (fun r => r.1 = .put && here r.2.2)
    if !chestUp s || v.st ≠ .online || g.st ≠ .collecting || g.live ≠ 0 || waits || read || moving then ok s
    else
      let s := putDrive drive { v with segs := NMap.erase v.segs seg, free := { v.free with freed := v.free.freed ++ [seg] } } s
      let s := if mine then { s with chest := { s.chest with harrow := NMap.erase s.chest.harrow drive } } else s
      ok (jAppend .segFree (drive * 2 ^ 24 + seg) .empty (bumpF .CHS_HARROW (.yoke .yw) 0 31 0 1 s))

/-! ## Mount and format (R151, R160, R163) -/

/-- Take the Chest map's region: 131,072 frames of each Acre's Field (R146). -/
def takeMapRegion (s : State) : State :=
  Acre.all.foldl (fun s a => match takeField a 1 131072 s with
    | some (_, s) => s
    | none => s) s

/-- The record after `j` in the journal of any drive. -/
def findRec (s : State) (j : Nat) : Option JRec :=
  (NMap.vals s.chest.drives).findSome? (fun v => v.journal.find? (fun r => r.jseq = j))

/-- Apply a record at replay (R160): PUT and FREE to the map, SEG_OPEN and SEG_FREE to the segment table. -/
def replayRec (r : JRec) (s : State) : State :=
  let d := r.index / 2 ^ 24
  let g := r.index % 2 ^ 24
  match r.typ with
  | .put | .free => applyRec r s
  | .segOpen =>
    putDrive d { driveOf s d with segs := NMap.put (driveOf s d).segs g ⟨.open_, 1, 0, 0, false, 0⟩ } s
  | .segFree => putDrive d { driveOf s d with segs := NMap.erase (driveOf s d).segs g } s
  | _ => s

/-- The replay loop: the last JSEQ applied, and the state. -/
def replay : Nat → Nat → State → Nat × State
  | 0, j, s => (j - 1, s)
  | fuel + 1, j, s =>
    match findRec s j with
    | none => (j - 1, s)
    | some r => replay fuel (j + 1) (replayRec r s)

/-- Free segments and map indexes in ascending order after a mount. -/
def freeFrom (first limit : Nat) (used : List Nat) : FreeList :=
  let top := used.foldl max (first - 1) + 1
  ⟨max first top, limit, ((List.range (top - first)).map (· + first)).filter (fun x => !used.contains x)⟩

/-- Rebuild a drive after replay: live counts from the valid map records, OPEN segments FULL, empty ones queued for
Deallocate, the rest free. -/
def rebuildDrive (d : Nat) (s : State) : State :=
  let v := driveOf s d
  let segs := NMap.mapV v.segs (fun n g =>
    let mine := s.chest.map.filter (fun e => e.2.valid && (match NMap.get? e.2.pieces d with
      | some p => p.1 = n
      | none => false))
    { g with live := mine.length, liveBlocks := mine.foldl (fun t e => t + recBlocks s e.2 d) 0,
             st := (if mine.isEmpty then .collecting else .full), harrow := false })
  putDrive d { v with segs := segs, free := freeFrom 33 v.segments (NMap.keys segs) } s

/-- Drives that can be reached. -/
def mountDrives (s : State) : List Nat :=
  (NMap.keys s.chest.drives).filter (fun d => (driveOf s d).st ≠ .absent && (driveOf s d).st ≠ .failed)

/-- The newest verified superblock over all reachable drives (R140). -/
def mountSuper (s : State) : Option Superblock :=
  ((mountDrives s).filterMap (fun d => driveSuper (driveOf s d))).foldl (fun (b : Option Superblock) x => match b with
    | none => some x
    | some y => if y.mseq < x.mseq then some x else b) none

/-- A verified copy of the map checkpoint that a superblock names. -/
def mountCopy (s : State) (sb : Superblock) : Option MapCkpt :=
  (mountDrives s).findSome? (fun d =>
    let v := driveOf s d
    match (if sb.slot = 0 then v.slot0 else v.slot1) with
    | some m => if m.base = sb.base then some m else none
    | none => none)

/-- Reachable drives of the set. -/
def setDrives (s : State) (id : Nat) : List Nat :=
  (mountDrives s).filter (fun d => match driveSuper (driveOf s d) with
    | some x => x.setId = id
    | none => false)

/-- Load the map and the segment tables, and replay the journal from the base: the last JSEQ applied, and the state. -/
def mountLoad (id base : Nat) (m : MapCkpt) (s : State) : Nat × State :=
  let mine := setDrives s id
  let others := (mountDrives s).filter (fun d => !mine.contains d)
  let s := mine.foldl (fun s d =>
    putDrive d { driveOf s d with st := .online, segs := NMap.get [] m.segs d, cmds := [], rejoining := false } s) s
  let s := others.foldl (fun s d => putDrive d { driveOf s d with st := .unformatted } s) s
  let s := setChest { s.chest with map := m.map } s
  replay ((NMap.vals s.chest.drives).foldl (fun n v => n + v.journal.length) 0) (base + 1) s

/-- The end of a mount: live counts rebuilt, superblocks written, the map's Field region taken. The journal since the base
counts as blocks of 50 records. -/
def mountDone (mine : List Nat) (sb : Superblock) (an : Anchor) (j : Nat) (s : State) : State :=
  let s := mine.foldl (fun s d => rebuildDrive d s) s
  let used := (s.chest.map.filter (fun e => e.2.valid)).map (fun e => e.1)
  let s := setChest { s.chest with
    mount := .mounted, unclean := !an.clean, setId := an.setId, jseq := j + 1, durable := j, base := sb.base,
    baseAt := ktb s, slot := sb.slot, group := [], inFlight := [], stalled := [], blocks := (j - sb.base + 49) / 50, ckpt := none,
    writes := [], stagings := [], harrow := [], mseq := max sb.mseq an.mseqHigh,
    free := freeFrom 0 (2 ^ 25) used } s
  let s := setLiveF .CHS_MOUNT (.yoke .yw) 0 63 16 (freeBelow (2 ^ 48) s) s
  takeMapRegion (writeSuper false 0 (drew s))

/-- A set the checks of R151 refuse. -/
def mountRefused (s : State) : State :=
  setLiveF .CHS_MOUNT (.yoke .yw) 0 3 3 1 (setChest { s.chest with mount := .refused } s)

/-- CHEST_MOUNT (R151, R160): with the tenancy BOUND, the newest verified superblock is checked against the anchor, the
map loaded and the journal replayed. The time it took is not stated (log 51). -/
def execChestMount (s : State) : Host.Outcome State Fault Refusal := running s <|
  if s.sec.tenancy ≠ .bound || s.obs.halted || (s.chest.mount ≠ .unmounted && s.chest.mount ≠ .mounting) then ok s
  else match mountSuper s, s.chest.anchor with
    | none, _ => ok s
    | some _, none => ok (mountRefused s)
    | some sb, some an =>
      if sb.setId ≠ an.setId || sb.base < an.base then ok (mountRefused s)
      else match mountCopy s sb with
        | none => ok (mountRefused s)
        | some m =>
          let r := mountLoad an.setId sb.base m s
          if an.clean && r.1 != an.finalJseq then ok (mountRefused r.2)
          else ok (mountDone (setDrives s an.setId) sb an r.1 r.2)

/-- Any object is homed in the Chest. -/
def chestInUse (s : State) : Bool :=
  (NMap.vals s.chest.map).any (fun r => r.valid) || !s.chest.writes.isEmpty

/-- Make a drive part of the set, empty. -/
def formatDrive (d : Nat) (s : State) : State :=
  let v := driveOf s d
  putDrive d { v with st := .online, segs := [], free := ⟨33, v.segments, []⟩, cmds := [], journal := [], sb0 := none, sb1 := none,
                      slot0 := some ⟨0, [], []⟩, slot1 := none, rejoining := false } s

/-- A new set over the ONLINE and UNFORMATTED drives: a drawn SET_ID, superblocks, an empty checkpoint, the anchor. -/
def formatSet (s : State) : State :=
  let was := s.chest.mount = .mounted
  let ds := (NMap.keys s.chest.drives).filter (fun d => (driveOf s d).st = .online || (driveOf s d).st = .unformatted)
  let id := freeBelow (2 ^ 64) s
  let s := ds.foldl (fun s d => formatDrive d s) (drew s)
  let s := setChest { s.chest with
    mount := .mounted, unclean := false, setId := id, map := [], free := ⟨0, 2 ^ 25, []⟩, content := [], jseq := 1,
    group := [], inFlight := [], stalled := [], durable := 0, base := 0, baseAt := ktb s, blocks := 0, slot := 0,
    ckpt := none, writes := [], stagings := [], harrow := [], anchorRecs := s.chest.anchorRecs + 1,
    anchor := some { setId := id, base := 0, mseqHigh := s.chest.mseq, clean := false, finalJseq := 0 } } s
  let s := writeSuper false 0 s
  if was then s else takeMapRegion s

/-- CHEST_FORMAT (R163). The new set is in use at once (log 50). -/
def execChestFormat (sq cid : Nat) (s : State) : Host.Outcome State Fault Refusal := running s <|
  ok (hostCmd sq cid .admin false (fun s =>
    if s.sec.tenancy ≠ .bound then postCqe sq cid .tenant 0 0 s
    else if chestInUse s then postCqe sq cid .busy 0 0 s
    else postCqe sq cid .ok 0 0 (formatSet s)) s)

/-- CHEST_ATTACH (R163): an UNFORMATTED drive joins the set; existing objects stay in place. -/
def execChestAttach (sq cid drive : Nat) (s : State) : Host.Outcome State Fault Refusal := running s <|
  ok (hostCmd sq cid .admin false (fun s =>
    if s.sec.tenancy ≠ .bound then postCqe sq cid .tenant 0 0 s
    else if 4 ≤ drive then postCqe sq cid .badFormat 0 0 s
    else if !chestUp s then postCqe sq cid .notResident 0 0 s
    else match (driveOf s drive).st with
      | .online => postCqe sq cid .ok 0 0 s
      | .unformatted => postCqe sq cid .ok 0 0 (writeSuper false 0 (formatDrive drive s))
      | _ => postCqe sq cid .notResident 0 0 s) s)

/-- The orderly quiesce of the Chest (R151): every group durable, then CLEAN with FINAL_JSEQ in superblocks and anchor.
`none`: writes or records are still under way. -/
def chestClean (s : State) : Option State :=
  let c := s.chest
  if c.mount ≠ .mounted then some s
  else if !c.group.isEmpty || !c.inFlight.isEmpty || !c.stalled.isEmpty || !c.writes.isEmpty || c.ckpt.isSome then none
  else
    let s := writeSuper true c.durable s
    some { s with chest := { s.chest with
      anchor := s.chest.anchor.map (fun a => { a with clean := true, finalJseq := c.durable }), anchorRecs := s.chest.anchorRecs + 1 } }

end Sys2Proof.Machine
end

