-- ==== Sys2Proof/Machine/Obs.lean ====
section
/-!
DEFINITION. Engine time, periods, accounting, energy, trace triggers and the halt wave: PERIOD_BOUNDARY to TRIG_IN (R494 to R514,
R556).
-/
namespace Sys2Proof.Machine

def setObs (f : ObsState → ObsState) (s : State) : State := { s with obs := f s.obs }

/-! ## Engine time (R494, R495) -/

/-- Conditions as ObsBank keys them: IDLE 32, BUSY 0, FENCED 2, STALL under reason r 16 + r. -/
def cBusy : Nat := 0
def cFenced : Nat := 2
def cStall (r : Nat) : Nat := 16 + r
def cIdle : Nat := 32

/-- Key of an engine within its die: kind × 512 + number. -/
def engKey (kind n : Nat) : Nat := kind * 512 + n

/-- Something moves to or from the Field of an Acre: a write-back round, a home move, a staging. -/
def fieldMoving (s : State) (a : Acre) : Bool :=
  s.tier.rounds.any (fun r => match r.dest with
    | .fld b _ => b == a
    | _ => false) ||
  s.tier.moves.any (fun m => objAcre m.obj == a) || s.chest.stagings.any (fun g => objAcre g.obj == a)

/-- What the KLT engine of a Yoke does: a port sends, or packets wait at a gate or shaper, or requests wait at a full window. -/
def kltCond (s : State) (y : Yoke) : Nat :=
  let ports := (List.range 8).filter (fun p => portYoke p = y && (portOf s p).up)
  if ports.any (fun p => (List.range 8).any (fun c => eligible s p c)) then cBusy
  else if s.klt.reqs.any (fun r => connYoke r.conn = y) then cStall 8
  else if ports.any (fun p => (List.range 8).any (fun c => !(portQ (portOf s p) c).isEmpty)) then cStall 9
  else cIdle

/-- The condition of an engine of a die (R494): lowest reason where it stalls. -/
def engCond (s : State) (d : Die) (kind n : Nat) : Nat :=
  match d, kind with
  | .acre a, 0 =>
    if !furrowUp s (12 * a.num + n) then cFenced
    else (match furUse s (12 * a.num + n) with
      | .idle => cIdle
      | .running _ _ => cBusy
      | .saving _ => cBusy
      | .held _ _ => cStall 4)
  | .acre a, 1 =>
    if !glnUp s (4 * a.num + n) then cFenced else if (NMap.get? s.gln.units (4 * a.num + n)).isSome then cBusy else cIdle
  | .acre a, 3 =>
    if bit (live s .CKP_FENCE_MISC d) (16 + n) then cFenced else if fieldMoving s a then cBusy else cIdle
  | .acre a, 5 =>
    if s.bur.getxRetry.any (fun r => r.1 == a) || s.bur.dir.any (fun e => e.2.waiting.contains a) then cStall 5 else cIdle
  | .yoke y, 4 => kltCond s y
  | d, 2 =>
    let t := match d with
      | .acre a => 64 * a.num + n
      | .yoke y => 256 + 16 * y.num + n
    let fenced := match d with
      | .acre _ => bit (live s .CKP_FENCE_TINE d) n
      | .yoke _ => false
    if fenced then cFenced
    else (match NMap.get? s.tin.tines t with
      | none => cIdle
      | some c => if c.trapped.isSome then cIdle else if c.stall.isSome then cStall 15 else cBusy)
  | _, _ => cIdle

/-- The engines of a die: kind and number. -/
def engines : Die → List (Nat × Nat)
  | .acre _ => (List.range 12).map (fun n => (0, n)) ++ (List.range 4).map (fun n => (1, n)) ++
      (List.range 64).map (fun n => (2, n)) ++ (List.range 4).map (fun n => (3, n)) ++ [(5, 0)]
  | .yoke _ => (List.range 16).map (fun n => (2, n)) ++ [(4, 0)]

/-- Add `n` ns of a condition to a bank; whether a counter wrapped. -/
def bankAdd (k c n : Nat) (b : ObsBank) : ObsBank × Bool :=
  let (m, w) := countIn b.eng (k * 32 + (if 16 ≤ c then 1 else c)) n
  let (m, w') := if 16 ≤ c then countIn m (k * 32 + c) n else (m, false)
  ({ b with eng := m }, w || w')

/-- The account an engine works for (R502). -/
def engAccount (s : State) (d : Die) (kind n : Nat) : Nat :=
  let ofItem := fun (i : WorkItem) => (NMap.get? s.fur.entries i.entry).elim 4096 (fun e => (desc s e.slot).principal)
  match d, kind with
  | .acre a, 0 => (match furUse s (12 * a.num + n) with
      | .running i _ => ofItem i
      | .saving i => ofItem i
      | _ => 4096)
  | .acre a, 1 => (match NMap.get? s.gln.units (4 * a.num + n) with
      | some r => passPrin s r.pass
      | none => 4096)
  | .acre a, _ => (NMap.get? s.tin.tines (64 * a.num + n)).elim 4096 (fun c => if c.system then 4096 else (desc s c.slot).principal)
  | _, _ => 4096

/-- One engine over `n` ns, of which `n0` lie before the boundary that is due (R497): its counters, its account's BUSY time, its
ENGINE record when its condition changes, and since when it stalls. -/
def engTick (d : Die) (n n0 : Nat) (s : State) (e : Nat × Nat) : State :=
  let c := engCond s d e.1 e.2
  let k := engKey e.1 e.2
  let g := d.code * 8192 + k
  let old := NMap.get cIdle s.obs.conds g
  let s := if old = c then s
    else
      let s := setObs (fun o => { o with conds := NMap.putD cIdle o.conds g c,
                                         stallAt := if 16 ≤ c ∧ c < 32 then (if 16 ≤ old ∧ old < 32 then o.stallAt else NMap.put o.stallAt g (ktbOf s d))
                                           else NMap.erase o.stallAt g }) s
      tracePost d 3 (e.1 + 8 * e.2) none ([BitVec.ofNat 8 (if c = cBusy then 0 else if c = cIdle then 2 else if c = cFenced then 3 else 1),
        BitVec.ofNat 8 (if 16 ≤ c ∧ c < 32 then c - 16 else 0)] ++ List.replicate 14 0) s
  if c = cIdle then s
  else
    let x := s.obs.dies.get d
    let (l, w) := bankAdd k c n0 x.live
    let (m, w') := bankAdd k c (n - n0) x.next
    let s := ovf d e.1 (w || w') (setObs (fun o => { o with dies := o.dies.set d { x with live := l, next := m } }) s)
    if c = cBusy ∧ e.1 < 3 then
      let p := engAccount s d e.1 e.2
      acctAdd p (9 + e.1) n (setObs (fun o => { o with busyUse := NMap.putD 0 o.busyUse (p * 4 + e.1) (NMap.get 0 o.busyUse (p * 4 + e.1) + n) }) s)
    else s

/-- Time of level 1 (R502): for `n` ns, what waits on an Acre, by account and index. -/
def waiters (s : State) (a : Acre) : List (Nat × Nat) :=
  let prin := fun (slot : Nat) => (desc s slot).principal
  let item := fun (i : WorkItem) => (NMap.get? s.fur.entries i.entry).elim 4096 (fun e => prin e.slot)
  (s.bur.wakeQ.flatMap (fun e => (e.2.filter (fun x => homeAcre x == a)).map (fun _ => (e.1, 0)))) ++
  ((s.bur.revQ.get a).map (fun f => (prin f.slot, 0))) ++ ((s.fur.dvQ.get a).map (fun i => (item i, 1))) ++
  ((s.fur.pfQ.get a).map (fun i => (item i, 2))) ++ ((s.gln.passQ.get a).map (fun p => (passPrin s p.pass, 3))) ++
  ((s.tin.evq.get a).map (fun e => (prin e.slot, 4))) ++
  ((NMap.vals s.fur.entries).filter (fun e => e.acre == a && !e.credit && !e.admitted && e.status.isNone && e.append && e.cls != .prefill)).map
    (fun e => (prin e.slot, 5))

/-- A die's observation over the `n` ns that its KTB has just advanced by. -/
def obsDieTick (d : Die) (n : Nat) (s : State) : State :=
  let x := s.obs.dies.get d
  let now := ktbOf s d
  let n0 := if now ≤ x.due then n else n - min n (now - x.due)
  let s := setObs (fun o => { o with dies := o.dies.set d { x with
    live := { x.live with elapsed := x.live.elapsed + n0 }, next := { x.next with elapsed := x.next.elapsed + (n - n0) } } }) s
  let s := (engines d).foldl (engTick d n n0) s
  match d with
  | .acre a => (waiters s a).foldl (fun s w => acctAdd w.1 w.2 n s) s
  | .yoke _ => s

/-! ## Periods (R496 to R500) -/

/-- The new settings of an Acre's trace take effect at a boundary (R500, R508): trace starts, restarts or stops. -/
def traceApply (a : Acre) (s : State) : State :=
  let t := s.obs.trace.get a
  let w := live s .OBS_TRACE_CFG (.acre a)
  let en := bit w 36
  let was := bit t.cfg 36
  let s := if tracing t && !en then traceStop a 4 s else s
  let t := { s.obs.trace.get a with cfg := w }
  if en && s.sec.tenancy = .bound && (t.st = .off || (t.st = .stopped && !was)) then
    putTrace a { t with
      st := if t.gib = 0 then .stopped else .running, reason := if t.gib = 0 then 1 else 0, wrapped := false, wr := 0, pass := t.pass + 1,
      trigFrame := 0, trigTs := none, buf := [], frames := [], postLeft := none, lostSince := 0, unsent := [] } s
  else putTrace a t s

/-- The counters of an account's latched period that an ACCOUNT record carries (R506). -/
def accountBody (s : State) (p : Nat) : List Byte :=
  (List.range 28).flatMap (fun i => leBytes 8 (NMap.get 0 s.obs.latched (p * 64 + i))) ++ List.replicate 16 0

/-- SLOW_Q8 of a class over a period (R503). -/
def slowOf (m : NMap Nat) (p c : Nat) : Nat :=
  let iso := NMap.get 0 m (p * 64 + 32 + c)
  if iso = 0 then 0 else 256 * NMap.get 0 m (p * 64 + 28 + c) / iso

/-- The accounts are latched (R497, R501): level 1 is added into level 2 and SLOW_Q8 is formed. -/
def acctLatch (s : State) : State :=
  let o := s.obs
  let (m, w) := o.lvl1.foldl (fun (x : NMap Nat × Bool) e => let (m, w) := countIn x.1 e.1 e.2; (m, x.2 || w)) (o.acct, false)
  let ps := (NMap.keys m).map (· / 64)
  let m := ps.eraseDups.foldl (fun m p => (List.range 4).foldl (fun m c => NMap.putD 0 m (p * 64 + 36 + c) (slowOf m p c % 2 ^ 64)) m) m
  ovf (.yoke s.ckp.primary) 6 w
    { s with obs := { o with latched := m, acct := o.acctNext, acctNext := [], lvl1 := o.lvl1Next, lvl1Next := [] } }

/-- A die latches: its live bank becomes the latched one, what was counted past the boundary becomes the live one, and the next
boundary is the next multiple of the period now in force (R496, R497, R500). -/
def dieLatched (d : Die) (s : State) : State :=
  let x := s.obs.dies.get d
  let period := liveF s .OBS_CTRL d 0 31 0
  let len := period * 1000
  setObs (fun o => { o with dies := o.dies.set d { x with
    latched := x.live, live := x.next, next := .empty, start := x.due, done := true, period := period,
    due := if len = 0 then x.due else (x.due / len + 1) * len } }) s

/-- A Yoke latches its queue maxima (R409). -/
def maxLatch (y : Yoke) (s : State) : State :=
  let mine := fun (e : Nat × QMax) => portYoke (e.1 / 8) = y
  setTsc (fun t => { t with
    maxLatched := (t.maxLive.filter mine).foldl (fun m e => NMap.put m e.1 e.2) (t.maxLatched.filter (fun e => !mine e)),
    maxLive := t.maxLive.filter (fun e => !mine e) }) s

/-- The accounts are latched, and each with a non-zero counter gets its ACCOUNT record (R501, R506). -/
def acctPeriod (s : State) : State :=
  let s := acctLatch { s with power := { s.power with max10ms := 0 } }
  let ps := ((s.obs.latched.filter (fun e => e.1 % 64 < 28)).map (fun e => e.1 / 64)).eraseDups
  ps.foldl (fun s p => tracePost (.yoke s.ckp.primary) 5 p (some p) (accountBody s p) s) s

/-- What a boundary at KTB `b` does on a die beside its banks: settings of the trace take effect on an Acre; a Yoke latches its maxima, the
primary one the accounts; a PERIOD record is written. -/
def dieBoundary (d : Die) (b : Nat) (s : State) : State :=
  match d with
  | .acre a => tracePost d 10 (b % 2 ^ 32) none [] (traceApply a s)
  | .yoke y =>
    let s := tracePost d 10 (b % 2 ^ 32) none [] (maxLatch y s)
    if y ≠ s.ckp.primary then s else acctPeriod s

/-- PERIOD_BOUNDARY (R496, R497, R500): a die's KTB has reached the boundary: its live bank becomes the latched bank, the primary
Yoke latches the accounts, and settings committed since take effect. The Yokes latch their queue maxima too (R409). -/
def execPeriodBoundary (die : Nat) (s : State) : Host.Outcome State Fault Refusal := running s <|
  match Die.ofCode die with
  | none => ok s
  | some d => if ktbOf s d < (s.obs.dies.get d).due then ok s else ok (dieBoundary d (s.obs.dies.get d).due (dieLatched d s))

/-- Copy every live counter of a die (R498). -/
def snapTake (d : Die) (s : State) : State :=
  let x := s.obs.dies.get d
  let s := setObs (fun o => { o with dies := o.dies.set d { x with snap := x.live } }) s
  match d with
  | .acre _ => s
  | .yoke y =>
    let mine := fun (e : Nat × QMax) => portYoke (e.1 / 8) = y
    let s := setTsc (fun t => { t with maxCopy := (t.maxLive.filter mine).foldl (fun m e => NMap.put m e.1 e.2) (t.maxCopy.filter (fun e => !mine e)) }) s
    if y = s.ckp.primary then setObs (fun o => { o with snap := o.acct }) s else s

/-- OBS_SNAP_TAKE (R498): a write of TAKE on a die. -/
def execObsSnapTake (die : Nat) (s : State) : Host.Outcome State Fault Refusal := running s <|
  match Die.ofCode die with
  | none => ok s
  | some d => ok (snapTake d s)

/-! ## Energy (R504) -/

/-- The weight of a measured amount in fJ: counters 12, 13, 15 to 17, 19 and 20 to 26. -/
def byteWeight (s : State) (i : Nat) : Nat :=
  if i = 12 || i = 16 then primF s .OBS_ENERGY_W2 0 15 0
  else if i = 13 || i = 17 then primF s .OBS_ENERGY_W2 0 31 16
  else if i = 15 || i = 19 then primF s .OBS_ENERGY_W2 0 63 48
  else if 20 ≤ i ∧ i ≤ 26 then primF s .OBS_ENERGY_W2 0 47 32
  else 0

/-- W_p of each account of an interval, in fJ: BUSY ns × mW is 1,000 fJ. -/
def energyWeights (s : State) (usage : List (Nat × Nat × Nat)) : NMap Nat :=
  let busy := s.obs.busyUse.foldl (fun m e =>
    let k := e.1 % 4
    let w := e.2 * primF s .OBS_ENERGY_W 0 (16 * k + 15) (16 * k) * 1000
    NMap.putD 0 m (e.1 / 4) (NMap.get 0 m (e.1 / 4) + w)) []
  usage.foldl (fun m u => NMap.putD 0 m u.1 (NMap.get 0 m u.1 + u.2.2 * byteWeight s u.2.1)) busy

/-- Apportion `e` µJ (R504): the floor to the device account, the rest in proportion to the weights, rounded down, the remainder to
the device account. -/
def apportion (e floor : Nat) (ws : NMap Nat) : List (Nat × Nat) :=
  let sum := ws.foldl (fun n w => n + w.2) 0
  if e < floor ∨ sum = 0 then [(4096, e)]
  else
    let shares := ws.map (fun w => (w.1, (e - floor) * w.2 / sum))
    let given := shares.foldl (fun n w => n + w.2) 0
    shares ++ [(4096, floor + (e - floor - given))]

/-- The amounts of an interval that the accounting unit measures: an account, and a counter of bytes, ACT or ISO (R502). -/
def measuredUse (usage : List (Nat × Nat × Nat)) : List (Nat × Nat × Nat) :=
  usage.filter (fun u => u.1 ≤ 4096 && (decide (12 ≤ u.2.1 ∧ u.2.1 ≤ 26) || decide (28 ≤ u.2.1 ∧ u.2.1 ≤ 35)))

/-- What each account is given of an interval's energy (R504). -/
def energyShares (usage : List (Nat × Nat × Nat)) (s : State) : List (Nat × Nat) :=
  apportion (s.power.energyUj - s.obs.energyMark) (primF s .OBS_ENERGY_CTRL 0 15 0 * 10) (energyWeights s usage)

/-- An interval is accounted: the amounts, the energy of each account, and a new interval (R502, R504). -/
def intervalDone (usage : List (Nat × Nat × Nat)) (s : State) : State :=
  let t := (energyShares usage s).foldl (fun s x => acctAdd x.1 27 x.2 s) (usage.foldl (fun s u => acctAdd u.1 u.2.1 u.2.2 s) s)
  setObs (fun o => { o with busyUse := [], energyMark := s.power.energyUj, energyAt := ktb s / 10000 * 10000 }) t

/-- ENERGY_APPORTION (R502, R504): an interval of 10 µs has ended. `usage`: what the accounting unit measured in it: account, counter
(12 to 26 and 28 to 35), amount. -/
def execEnergyApportion (usage : List (Nat × Nat × Nat)) (s : State) : Host.Outcome State Fault Refusal := running s <|
  if ktb s / 10000 ≤ s.obs.energyAt / 10000 then ok s else ok (intervalDone (measuredUse usage) s)

/-! ## The halt wave (R512, R513) -/

/-- The halt wave from a source: 0 management, 1 HALT_IN_N, 2 trigger. The wave runs once. -/
def haltWave (src : Nat) (s : State) : State :=
  if s.obs.halted || !s.power.pwrgood then s
  else
    let s := setObs (fun o => { o with halted := true, haltSrc := src, haltTs := ktb s }) s
    mgmtPost (.halt src) (setFallow { s.power.fallow with mode := .halted } s)

/-- HALT_WAVE (R512): a halt source of this code reaches a die. -/
def execHaltWave (src : Nat) (s : State) : Host.Outcome State Fault Refusal := if src < 3 then ok (haltWave src s) else ok s

/-- Stage 1 has ended. -/
def pastStage1 (s : State) : Bool := s.power.stage = .s2 || s.power.stage = .s3 || s.power.stage = .serving

/-- HALT_IN_N (R513, R556): the pin has fallen and stayed low for 20 ns, or has risen. -/
def execHaltInN (low : Bool) (s : State) : Host.Outcome State Fault Refusal :=
  let was := s.power.haltInLow
  let s := { s with power := { s.power with haltInLow := low } }
  if low && !was && pastStage1 s then ok (haltWave 1 s) else ok s

/-! ## Trace (R506 to R509) -/

/-- TRACE_FLUSH (R507): the frame being filled is written, its remaining units zero. -/
def execTraceFlush (acre : Nat) (s : State) : Host.Outcome State Fault Refusal := running s <|
  let a := Acre.ofNum acre
  if tracing (s.obs.trace.get a) then ok (frameWrite a s) else ok s

/-- The time condition of an Acre's trigger holds (R509). -/
def timeTrigger (s : State) (a : Acre) : Bool :=
  liveF s .OBS_TRACE_TRIG (.acre a) 0 9 9 = 1 && decide ((live s .OBS_TRACE_TRIG_AT (.acre a)).toNat ≤ ktbOf s (.acre a)) &&
    (s.obs.trace.get a).trigTs.isNone

/-- TRACE_TIME_TRIGGER (R509): KTB of an Acre has reached TRIG_AT. -/
def execTraceTimeTrigger (acre : Nat) (s : State) : Host.Outcome State Fault Refusal := running s <|
  let a := Acre.ofNum acre
  if timeTrigger s a then ok (traceTrigger (.acre a) 1 ((live s .OBS_TRACE_TRIG_AT (.acre a)).toNat) s) else ok s

/-- An engine of a die has been in STALL for longer than STALL_US, and that triggers (R509). -/
def stallTrigger (s : State) (d : Die) (kind n : Nat) : Bool :=
  let r := Die.acre (traceAcre d)
  match NMap.get? s.obs.stallAt (d.code * 8192 + engKey kind n) with
  | none => false
  | some t => liveF s .OBS_TRACE_TRIG r 0 10 10 = 1 && decide (t + 1000 * liveF s .OBS_TRACE_TRIG r 0 63 32 < ktbOf s d)

/-- TRACE_STALL_TRIGGER (R509): an engine of a die has been in STALL for longer than STALL_US. -/
def execTraceStallTrigger (die kind n : Nat) (s : State) : Host.Outcome State Fault Refusal := running s <|
  match Die.ofCode die with
  | none => ok s
  | some d => if stallTrigger s d kind n then ok (traceTrigger d 2 (kind + 8 * n) s) else ok s

/-- Every Acre has stopped with POST_DONE and some asks for the halt (R509). -/
def haltDue (s : State) : Bool :=
  Acre.all.all (fun b => (s.obs.trace.get b).st = .stopped && (s.obs.trace.get b).reason = 2) &&
    Acre.all.any (fun b => bit (s.obs.trace.get b).cfg 37)

/-- TRACE_POST_DONE (R508, R509): an Acre has written its post-trigger bytes and its trace stops; with HALT_ON_TRIG the halt wave is
raised once every Acre has stopped so. -/
def execTracePostDone (acre : Nat) (s : State) : Host.Outcome State Fault Refusal := running s <|
  let a := Acre.ofNum acre
  if (s.obs.trace.get a).st = .post && (s.obs.trace.get a).postLeft = some 0 then
    (if haltDue (traceStop a 2 s) then ok (haltWave 2 (traceStop a 2 s)) else ok (traceStop a 2 s))
  else ok s

/-- A write to OBS_MARK on a Yoke: a MARK record; system firmware only (R506). -/
def markWrite (y : Yoke) (r : Requester) (v : Nat) (s : State) : Status × State :=
  match r with
  | .sysTine _ => (.ok, tracePost (.yoke y) 7 v none [] s)
  | _ => (.access, s)

/-- OBS_MARK (R506). -/
def execObsMark (y : Yoke) (r : Requester) (v : Nat) (s : State) : Host.Outcome State Fault Refusal := running s <|
  ok (emit (.access (markWrite y r v s).1 0) (markWrite y r v s).2)

/-- TRIG_IN (R509, R556): a rising edge held high for 20 ns. -/
def execTrigIn (s : State) : Host.Outcome State Fault Refusal := running s <|
  if Acre.all.any (fun a => liveF s .OBS_TRACE_TRIG (.acre a) 0 11 11 = 1) then ok (traceTrigger (.yoke s.ckp.primary) 3 0 s) else ok s

end Sys2Proof.Machine
end

