-- ==== Sys2Proof/Machine/SecOps.lean ====
section
/-!
DEFINITION. What the tenancy and the management plane share: digests, secure-store records, the life cycle, the certified
configuration, debug scopes, transitions of the tenancy, and the admission of a management request (R425 to R458).
-/
namespace Sys2Proof.Machine

/-! ## Digests, records, life cycle (R425 to R428, R447) -/

/-- A digest as its 48 bytes. -/
def digestBytes (d : BitVec 384) : List Byte := (leBytes 48 d.toNat).reverse

/-- A running digest takes an entry (R447). -/
def extendDigest (d : BitVec 384) (e : List Byte) : BitVec 384 := Config.sha384 (digestBytes d ++ e)

/-- Records written to the secure store (SEC_STORE.RECORDS, saturating). -/
def secRecords (n : Nat) (s : State) : State := setSec (fun x => { x with records := min (x.records + n) (2 ^ 32 - 1) }) s

/-- Consecutive burnt bits of a fuse row from bit 0 (R428). -/
def rowCount (v : Nat) : Nat := ((List.range 8).takeWhile (fun i => v.testBit i)).length

/-- The life-cycle state (R427, R428). -/
def lifeCycle (s : State) : Nat := min (rowCount s.sec.lcA) (rowCount s.sec.lcB)

/-- Burn bit `k` of both rows and clear the pending record (R428 steps 2 to 4). -/
def lcBurn (k : Nat) (s : State) : State :=
  setSec (fun x => { x with lcA := x.lcA ||| 2 ^ k, lcB := x.lcB ||| 2 ^ k, lcPending := none }) s

/-- Advance the life cycle by one state (R428). -/
def lcAdvance (s : State) : State := if lifeCycle s < 3 then lcBurn (lifeCycle s) (secRecords 2 s) else s

/-- The self-tests of the primary security core stand (R424). -/
def cryptoOk (s : State) (y : Yoke) : Bool := s.sec.selfPass.get y && s.sec.entropyOk.get y

/-! ## The certified configuration (R448, R449) -/

/-- The firmware that runs satisfies the fuses. -/
def fwGood (s : State) : Bool :=
  match NMap.get? s.sec.flash s.power.fwSlot with
  | some i => decide (s.sec.fuses.scSvn ≤ i.scSvn) && decide (s.sec.fuses.mcSvn ≤ i.mcSvn) && decide (s.sec.fuses.sysSvn ≤ i.sysSvn)
  | none => false

/-- Members not satisfied (R448): bit n for member n. -/
def departNow (s : State) : Nat :=
  let b := fun (n : Nat) (good : Bool) => if good then 0 else 2 ^ n
  b 0 (Acre.all.all (fun a => liveF s .FUR_CTRL (.acre a) 0 8 8 = 0)) + b 1 s.sec.imageKey.isSome + b 2 (fwGood s) +
  b 3 (primF s .CFG_DOMAIN 0 15 0 = 0 || primF s .CFG_DOMAIN 0 24 24 = 1) + b 4 (primF s .SEC_BIND_CTRL 0 16 16 = 1) +
  b 5 (!s.sec.jtagSeen) + b 6 (cryptoOk s s.ckp.primary) + b 7 (lifeCycle s = 2)

/-- DEPART_MASK follows the members; while BOUND with CERTIFIED = 1 each bit that comes to be set is a departure (R449). -/
def certUpdate (s : State) : State :=
  let m := departNow s
  let fresh := (List.range 8).filter (fun n => m.testBit n && !s.sec.departMask.testBit n)
  let s := setSec (fun x => { x with departMask := m }) s
  if s.sec.tenancy = .bound && s.sec.certified && !fresh.isEmpty then
    let s := fresh.foldl (fun s n => setSec (fun x => { x with
      departed := true, departures := min (x.departures + 1) (2 ^ 32 - 1),
      meas9 := extendDigest x.meas9 (leBytes 8 (ktb s) ++ [BitVec.ofNat 8 n] ++ leBytes 2 s.cfg.liveGen.toNat) }) s) s
    mgmtPost .certChange s
  else s

/-! ## Debug scopes (R456 to R458) -/

/-- A debug scope is open: debug is open in MANUFACTURED; else it has been unlocked and has not ended. -/
def debugOpen (s : State) (n : Nat) : Bool :=
  lifeCycle s = 0 || (s.sec.debugScopes.testBit n && decide (ktb s < s.sec.debugUntil))

/-- The scopes close. -/
def debugClose (s : State) : State :=
  if s.sec.debugScopes = 0 then s
  else mgmtPost (.debug 0) (setSec (fun x => { x with debugScopes := 0, debugUntil := 0 }) s)

/-! ## Tenancy transitions (R430 to R439) -/

/-- The tenancy state changes and the management plane is told (R432). -/
def setTen (t : Tenancy) (r : TenRec) (s : State) : State :=
  mgmtPost (.tenancy t.code) (secRecords 1 (setSec (fun x => { x with tenancy := t, ten := r }) s))

/-- A generation slot holds a key. -/
def genValid (s : State) (g : Nat) : Bool := (NMap.get? s.sec.keys g).isSome

/-- Objects that carry a generation: object records, Chest map records, checkpoint objects in the Chest (R443). -/
def keyRefs (s : State) (g : Nat) : Nat :=
  ((NMap.vals s.tier.objs).filter (fun o => o.sstate ≠ .free && o.keySel = g)).length +
  ((NMap.vals s.chest.map).filter (fun r => r.valid && r.keySel = g)).length

/-- The free lists of an Acre that is online (R98, R522). -/
def genFreeOf (s : State) (a : Acre) : FreeList :=
  if s.power.online.get a then ⟨genBase a, genBase a + 0x600000, []⟩ else ⟨0, 0, []⟩

def slotsOf (s : State) (a : Acre) : FreeList := if s.power.online.get a then .slots a else ⟨0, 0, []⟩

def perAcre {α : Type} (f : Acre → α) : PerAcre α := ⟨f .a0, f .a1, f .a2, f .a3⟩

/-- Bytes of Near on fenced pseudo-channels of an Acre, 1.125 GB each (R483). -/
def fencedNear (s : State) (a : Acre) : Nat :=
  1125000000 * ((List.range 64).filter (fun n => bit (live s .CKP_FENCE_PC (.acre a)) n)).length

/-- Everything of a tenant on the dies is gone (R433 step 5, R436 step 5): sessions, objects, queues, indexes, handlers, objects of
synchronisation, regions and checkpoints in progress. -/
def clearTenant (s : State) : State :=
  let syn := fun (m : NMap Word) => m.filter (fun e => !(Acre.all.any (fun a => e.1 / 2 ^ 32 = regKey .SYN_DEF (.acre a) 0 / 2 ^ 32)))
  let run := perAcre (fun a => if s.power.online.get a && !s.ckp.degraded.get a then fieldLayout s a (s.ckp.threeCh.get a) else [])
  { s with
    regs := { live := syn s.regs.live, shadow := syn s.regs.shadow }
    bur := { BureauState.reset with slots := perAcre (slotsOf s), getx := s.bur.getx }
    tier := { TierState.reset with
      genFree := perAcre (genFreeOf s), fldFree := run, nearSize := s.tier.nearSize, nearOther := perAcre (fun a => fencedNear s a + Config.evqBytes) }
    fur := .reset
    gen := .reset
    gln := .reset
    tin := { TineState.reset with tines := s.tin.tines.filter (fun t => t.2.system), sysImage := s.tin.sysImage }
    sync := .reset
    klt := { s.klt with
      reqs := [], regions := NMap.mapV s.klt.regions (fun _ r => { r with st := .free, revTag := some r.tag }), pwqs := [], mcl := [],
      ended := [], staging := .mk1 0, pages := .mk1 [], fieldPlain := .mk1 [] }
    ckp := { s.ckp with
      table := [], live := [], frozen := [], lastMarked := 0, epoch := none, epochSt := .none, epochStatus := 0, missed := 0,
      heldRuns := [], heldLocs := [], restoring := [], migs := [] }
    obs := { s.obs with scanCount := 0, trace := s.obs.trace.map (fun t => { Trace.reset with gib := t.gib, cfg := t.cfg }) } }

/-- Steps 5 and 6 of R433: the tables are new under the raised era and epoch, the digests of the binding start, and the state
becomes BOUND; limited mode ends (R365, R447, R523). -/
def enterBound (r : TenRec) (s : State) : State :=
  let s := clearTenant s
  let s := setSec (fun x => { x with departed := false, departures := 0, meas9 := 0, meas11 := 0, meas12 := 0, resuming := false }) s
  let s := { s with power := { s.power with stage := .serving, fallow := { s.power.fallow with mode := .active } } }
  let s := setTen .bound r s
  setSec (fun x => { x with departMask := departNow s }) s

/-- The commit of a binding (R433 step 4): with no generation VALID it ends ST_TENANT. CUR_GEN is a generation that is VALID. -/
def bindCommit (s : State) : Status × State :=
  match NMap.keys s.sec.keys with
  | [] => (.tenant, s)
  | g :: gs =>
    let cur := if genValid s s.sec.curGen then s.sec.curGen else (g :: gs).getD (freeBelow (gs.length + 1) s) g
    (.ok, enterBound .commit (drew (setSec (fun x => { x with curGen := cur }) s)))

/-- A binding ends without its commit (R434). -/
def bindAbort (s : State) : State :=
  let s := setSec (fun x => { x with keys := [], tenantRoot := 0, imageKey := none, consentKey := none, tenantId := 0,
                                     certified := false }) s
  setTen .unassigned .aborted s

/-- Every Chest record in the open groups becomes durable and CLEAN is written (R151, R436 step 3). -/
def chestFlush (s : State) : State :=
  if s.chest.mount ≠ .mounted then s
  else
    let g := s.chest.inFlight ++ s.chest.group
    let s := (onlineDrives s).foldl (fun s d => putDrive d { driveOf s d with journal := (driveOf s d).journal ++ g, cmds := [] } s) s
    let s := g.foldl (fun s r => applyRec r s) s
    let s := { s with chest := { s.chest with
      durable := (g.getLast?.map (fun (r : JRec) => r.jseq)).getD s.chest.durable, inFlight := [], group := [], stalled := [], writes := [],
      stagings := [], ckpt := none, harrow := [] } }
    (chestClean s).getD s

/-- Close the gates and resolve what was admitted (R436 steps 1 and 2, R437): commands but those of queues, configuration, images and
routes end ST_TENANT, connections fail, regions are
freed, lend windows are revoked without a drain; held and queued operations, waits, timers and events end without an event. -/
def closeGates (s : State) : State :=
  let s := setTen .releasing .releaseBegin s
  let s := debugClose s
  let s := Acre.all.foldl (fun s a => traceStop a 3 s) s
  let cmds := s.host.outstanding.filter (fun c => 0x0E < c.opc)
  let s := cmds.foldl (fun s c => postCqe c.sq c.cid .tenant 0 0 s) s
  let s := (NMap.keys s.klt.conns).foldl (fun s n => failConn n .tenant s) s
  let s := s.klt.cmds.foldl (fun s c => kltResult c.1 .tenant 0 s) s
  let s := setKlt (fun k => { k with cmds := [], reqs := [], ended := [], regions := NMap.mapV k.regions (fun _ r =>
    if r.st = .free then r else { r with st := .free, revTag := some r.tag }) }) s
  let s := { s with tier := { s.tier with lend := [], lentFrames := .mk1 [] } }
  { s with
    tin := { s.tin with tines := s.tin.tines.filter (fun t => t.2.system), evq := .mk1 [], asyncs := [], contracts := .mk1 [] }
    sync := { s.sync with waits := [], watches := [], victims := [] } }

/-- Crypto-erase (R436 step 4). -/
def cryptoErase (s : State) : State :=
  let s := { s with chest := { s.chest with
    mount := .unmounted, map := [], free := ⟨0, 0, []⟩, anchor := s.chest.anchor.map (fun a => { a with setId := 0, base := 0 }) } }
  secRecords 1 (setSec (fun x => { x with
    keys := [], imageKey := none, consentKey := none, tenantRoot := 0, ten := .erased, rel := .scrub }) s)

/-- RELEASE and its like in BOUND (R436 steps 1 to 4); the scrub runs on. -/
def startRelease (s : State) : State := cryptoErase (chestFlush (closeGates s))

/-- ST_OK to those who wait for the release (R439). -/
def tellReleased (s : State) : State :=
  let w := s.sec.waiters
  w.foldl (fun s r => match r with
    | .mgmt q => mgmtReply q .ok .none s
    | .spdm q n => mgmtReply q .ok (.spdm (.tenantRelease n) .ok []) s) (setSec (fun x => { x with waiters := [] }) s)

/-- The end of management sessions whose credential is gone (R454). -/
def dropSessions (s : State) : State :=
  Yoke.all.foldl (fun s y =>
    let p := portM s y
    putPortM y { p with sessions := p.sessions.filter (fun x => (NMap.get? s.sec.creds x.2.cred).isSome) } s) s

/-- The end of DECOMMISSION once the tenancy is UNASSIGNED (R429): the life cycle advances, and every record but the life cycle's
is erased. -/
def decommissionEnd (q : MgmtReq) (s : State) : State :=
  let s := mgmtReply q .ok .none (lcAdvance s)
  let s := setSec (fun x => { x with
    decommission := none, creds := [], keys := [], era := 0, ten := .none, tenantId := 0 }) s
  dropSessions { s with chest := { s.chest with anchor := none } }

/-- The removal of every session image is on record in the image log (R283, R436 step 6, R446). -/
def logUnloads (s : State) : State :=
  s.tin.images.foldl (fun s i => setSec (fun x => { x with meas11 := extendDigest x.meas11 (leBytes 4 i.2.id) }) s) s

/-- Steps 5 and 6 of R436: the scrub is done. -/
def releaseEnd (s : State) : State :=
  let s := clearTenant (logUnloads s)
  let s := setSec (fun x => { x with rel := .none, tenantId := 0, certified := false, localMode := false }) s
  let s := { s with power := { s.power with stage := .s3 } }
  let s := tellReleased (setTen .unassigned .released s)
  match s.sec.decommission with
  | some q => decommissionEnd q s
  | none => s

/-! ## Admission of a management request (R424, R453 to R455, R518, R536) -/

/-- The management controllers answer: power is good and Stage 0 has ended (R518). -/
def mgmtUp (s : State) : Bool := s.power.pwrgood && s.power.stage ≠ .s0

/-- The roles of a session's credential (R451). -/
def rolesOf (s : State) (x : MgmtSess) : Nat := (NMap.get? s.sec.creds x.cred).elim 0 (fun c => c.roles)

/-- Take the next request of a session: its SEQ, with no response yet (R454). -/
def mgmtTake (q : MgmtReq) (x : MgmtSess) (s : State) : State :=
  let p := portM s q.port
  let x := { x with seqIn := q.seq, cached := none, lastReq := ktbOf s (.yoke q.port) }
  putPortM q.port { p with sessions := NMap.put p.sessions q.session x } s

/-- A request of a session (R454): the next SEQ runs `f` with the roles of the session's credential; the last one again gets the cached
response; any other is dropped. -/
def mgmtSession (q : MgmtReq) (f : Nat → State → State) (s : State) : State :=
  let p := portM s q.port
  match NMap.get? p.sessions q.session with
  | none => s
  | some x =>
    if q.seq = x.seqIn && x.seqIn ≠ 0 then
      (match x.cached with
       | some r => emit (.mgmtRsp q.port r) s
       | none => s)
    else if q.seq ≠ x.seqIn + 1 || (x.cached.isNone && x.seqIn ≠ 0) then s
    else if 2 ^ 32 ≤ q.seq then putPortM q.port { p with sessions := NMap.erase p.sessions q.session } s
    else f (rolesOf s x) (mgmtTake q x s)

/-- A command of a session (R455): before Stage 1 ends only those marked `early` run (R518); in FALLOW and WAKING every one not
marked `quiet` is deferred and starts the wake, and in PREPARING cancels the agreement (R535, R536); the role comes last. -/
def mgmtCmd (q : MgmtReq) (early quiet : Bool) (role : Nat → Bool) (f : State → State) (s : State) : State :=
  if !mgmtUp s then s
  else mgmtSession q (fun roles s =>
    if !early && !pastStage1 s then mgmtReply q .busy .none s
    else if !quiet && deferring s then
      mgmtReply q .wakeDeferred (.word (BitVec.ofNat 64 (wakeHint (startWake s)))) (countDeferred (startWake s))
    else
      let s := if quiet then s else cancelAgreement s
      if role roles then f s else mgmtReply q .access .none s) s

/-- Roles of R451. -/
def rObserve (r : Nat) : Bool := r.testBit 0
def rConfigure (r : Nat) : Bool := r.testBit 1
def rTenancy (r : Nat) : Bool := r.testBit 2
def rFirmware (r : Nat) : Bool := r.testBit 3
def rDebug (r : Nat) : Bool := r.testBit 4
def rCredential (r : Nat) : Bool := r.testBit 5
def rAny (_ : Nat) : Bool := true

end Sys2Proof.Machine
end

