-- ==== Sys2Proof/Machine/Mgmt.lean ====
section
/-!
DEFINITION. The commands of the management plane and of the key service: sessions, identity, firmware, binding and release, keys,
attestation, credentials, debug, and session images (R281 to R283, R424 to R458, R509, R513, R515).
-/
namespace Sys2Proof.Machine

/-! ## Sessions (R453, R454) -/

/-- Drop failed AUTH messages older than 60 s. -/
def recentFails (now : Nat) (l : List Nat) : List Nat := l.filter (fun t => now < t + 60000000000)

def rspOf (session : Nat) (st : Status) (b : MgmtBody) : MgmtRsp := { session := session, seq := 0, reqId := 0, status := st, body := b }

/-- The port after a HELLO it answers: the session number offered waits for its AUTH (R453). -/
def helloTaken (p : MgmtPort) (minVer maxVer cred : Nat) : MgmtPort :=
  { p with hellos := NMap.put p.hellos p.next ⟨cred, minVer ≤ 1 && 1 ≤ maxVer⟩, next := p.next + 1 }

/-- HELLO (R424, R453, R454): a locked-out port answers ST_BUSY, a security core whose tests do not stand ST_ACCESS; otherwise a
session number is offered. -/
def execHello (y : Yoke) (minVer maxVer cred : Nat) (s : State) : Host.Outcome State Fault Refusal :=
  if !mgmtUp s then ok s
  else
    let p := portM s y
    if p.lockUntil.isSome then ok (emit (.mgmtRsp y (rspOf 0 .busy .none)) s)
    else if !cryptoOk s y || lifeCycle s = 3 then ok (emit (.mgmtRsp y (rspOf 0 .access .none)) s)
    else ok (emit (.mgmtRsp y (rspOf p.next .ok (.hello 1))) (putPortM y (helloTaken p minVer maxVer cred) s))

/-- The port after a failed AUTH: the eighth within 60 s locks it for 60 s (R454). -/
def authFailed (now : Nat) (p : MgmtPort) : MgmtPort :=
  let fails := now :: recentFails now p.fails
  if 8 ≤ fails.length then { p with fails := [], lockUntil := some (now + 60000000000) } else { p with fails := fails }

/-- A session that opens (R453). -/
def sessOf (cred now : Nat) : MgmtSess := { cred := cred, seqIn := 0, cached := none, seqOut := 0, lastReq := now, subscribed := false }

/-- AUTH_RSP with a status, and the port after it. -/
def authSay (y : Yoke) (session : Nat) (st : Status) (p : MgmtPort) (s : State) : State :=
  emit (.mgmtRsp y (rspOf session st (.hello 1))) (putPortM y p s)

/-- AUTH (R453, R454): lockout, version, signature and slot, MAX_SESS, in this order; the session opens. -/
def execAuth (y : Yoke) (session : Nat) (verifies : Bool) (s : State) : Host.Outcome State Fault Refusal :=
  if !mgmtUp s then ok s
  else
    let p := portM s y
    let now := ktbOf s (.yoke y)
    match NMap.get? p.hellos session with
    | none => ok s
    | some h =>
      let p := { p with hellos := NMap.erase p.hellos session }
      if p.lockUntil.isSome then ok (authSay y session .busy p s)
      else if !h.verOk then ok (authSay y session .version p s)
      else if !verifies || (NMap.get? s.sec.creds h.cred).isNone then
        ok (authSay y session .access (authFailed now p) (bumpF .SEC_MGMT_STATUS (.yoke y) 0 15 8 1 s))
      else if liveF s .SEC_MGMT_CTRL (.yoke y) 0 35 32 ≤ p.sessions.length then ok (authSay y session .noSpace p s)
      else ok (authSay y session .ok { p with sessions := NMap.put p.sessions session (sessOf h.cred now) } s)

/-- A session of a port ends (R454). -/
def endSess (y : Yoke) (n : Nat) (s : State) : State :=
  let p := portM s y
  putPortM y { p with sessions := NMap.erase p.sessions n } s

/-- MGMT_IDLE_TIMEOUT (R454). -/
def execMgmtIdleTimeout (y : Yoke) (session : Nat) (s : State) : Host.Outcome State Fault Refusal :=
  let p := portM s y
  match NMap.get? p.sessions session with
  | none => ok s
  | some x =>
    if mgmtUp s && x.lastReq + liveF s .SEC_MGMT_CTRL (.yoke y) 0 31 16 * 1000000000 ≤ ktbOf s (.yoke y) then
      ok (endSess y session s)
    else ok s

/-- MGMT_LOCKOUT_EXPIRY (R454). -/
def execMgmtLockoutExpiry (y : Yoke) (s : State) : Host.Outcome State Fault Refusal :=
  let p := portM s y
  match p.lockUntil with
  | some t => if mgmtUp s && decide (t ≤ ktbOf s (.yoke y)) then ok (putPortM y { p with lockUntil := none } s) else ok s
  | none => ok s

/-- SESSION_CLOSE (R455). -/
def execSessionClose (q : MgmtReq) (s : State) : Host.Outcome State Fault Refusal :=
  ok (mgmtCmd q true true rAny (fun s => endSess q.port q.session (mgmtReply q .ok .none s)) s)

/-! ## Identity (R444, R455) -/

/-- A response outside a session. -/
def sayOpen (q : MgmtReq) (st : Status) (b : MgmtBody) (s : State) : State :=
  emit (.mgmtRsp q.port { session := 0, seq := q.seq, reqId := q.reqId, status := st, body := b }) s

/-- A request outside a session, in plaintext (R453), or within one. -/
def openReq (q : MgmtReq) (f : State → Status × MgmtBody) (s : State) : State :=
  if q.session = 0 then
    (if !mgmtUp s then s else sayOpen q (f s).1 (f s).2 s)
  else mgmtCmd q true true rAny (fun s => mgmtReply q (f s).1 (f s).2 s) s

/-- GET_INFO: device ID, stepping, life cycle, tenancy state. -/
def execGetInfo (q : MgmtReq) (s : State) : Host.Outcome State Fault Refusal :=
  ok (openReq q (fun s => (.ok, .info s.sec.deviceId 0 (lifeCycle s) s.sec.tenancy.code)) s)

/-- The answer to GET_CHAIN: no identity in MANUFACTURED, GET_INFO alone in DECOMMISSIONED, slot 1 once the alias certificate exists. -/
def chainAnswer (s : State) (slot off : Nat) (more : Bool) : Status × MgmtBody :=
  if lifeCycle s = 0 || lifeCycle s = 3 then (.access, .none)
  else if 1 < slot then (.badFormat, .none)
  else if slot = 1 && !pastStage1 s then (.busy, .none)
  else (.ok, .chain slot off more)

/-- GET_CHAIN: a chunk of the certificate chain of SPDM slot 0 or 1; slot 1 from Stage 1 on (R519). -/
def execGetChain (q : MgmtReq) (slot off : Nat) (more : Bool) (s : State) : Host.Outcome State Fault Refusal :=
  ok (openReq q (fun s => chainAnswer s slot off more) s)

/-! ## Cores, firmware (R455, R482, R519) -/

/-- The fence map alone, on a halted device, whose stages hold their values (R512). -/
def fenceMark (d : Die) (kind n : Nat) (s : State) : State :=
  match d, kind with
  | .acre _, 0 => fenceBit .CKP_FENCE_TINE d n s
  | .acre _, 1 => fenceBit .CKP_FENCE_MISC d n s
  | .acre _, 2 => fenceBit .CKP_FENCE_MISC d (12 + n) s
  | .acre _, 3 => fenceBit .CKP_FENCE_MISC d (16 + n) s
  | .acre _, 4 => fenceBit .CKP_FENCE_PC d n s
  | _, _ => s

/-- FENCE_CORE (R455, R482): a core named by die code, kind and number within its die. -/
def execFenceCore (q : MgmtReq) (die kind n : Nat) (hit : List Nat) (s : State) : Host.Outcome State Fault Refusal :=
  ok (mgmtCmd q false false rConfigure (fun s =>
    match Die.ofCode die with
    | none => mgmtReply q .badHandle .none s
    | some d =>
      if !coreExists d kind n then mgmtReply q .badHandle .none s
      else if planesRun s then mgmtReply q .ok .none (settle (fenceCore d kind n hit s))
      else mgmtReply q .ok .none (fenceMark d kind n s)) s)

/-- The flash slot that does not run. -/
def spareSlot (s : State) : Nat := if s.power.fwSlot = 0 then 1 else 0

/-- The image satisfies the fuses. -/
def svnOk (s : State) (i : FwImage) : Bool :=
  decide (s.sec.fuses.scSvn ≤ i.scSvn) && decide (s.sec.fuses.mcSvn ≤ i.mcSvn) && decide (s.sec.fuses.sysSvn ≤ i.sysSvn)

/-- FW_STAGE (R455): a signed image is written to SPI flash. It runs after a failed Stage 1 too (R519). -/
def execFwStage (q : MgmtReq) (i : FwImage) (verifies : Bool) (s : State) : Host.Outcome State Fault Refusal :=
  ok (mgmtCmd q (s.power.failCode ≠ 0) false rFirmware (fun s =>
    if !verifies then mgmtReply q .integrity .none s
    else if !svnOk s i then mgmtReply q .version .none s
    else mgmtReply q .ok .none (setSec (fun x => { x with flash := NMap.put x.flash (spareSlot s) i }) s)) s)

/-- The spare slot runs at the next start-up; with `advance` its SVNs are burnt into the fuses. -/
def fwSelect (i : FwImage) (advance : Bool) (s : State) : State :=
  certUpdate (setSec (fun x => { x with bootSlot := spareSlot s, fuses := if advance then { x.fuses with
    scSvn := max x.fuses.scSvn i.scSvn, mcSvn := max x.fuses.mcSvn i.mcSvn, sysSvn := max x.fuses.sysSvn i.sysSvn } else x.fuses }) s)

/-- FW_ACTIVATE (R455): the staged image runs at the next start-up; ADVANCE_SVN burns its SVN. -/
def execFwActivate (q : MgmtReq) (advance : Bool) (s : State) : Host.Outcome State Fault Refusal :=
  ok (mgmtCmd q (s.power.failCode ≠ 0) false rFirmware (fun s =>
    match NMap.get? s.sec.flash (spareSlot s) with
    | none => mgmtReply q .badHandle .none s
    | some i => mgmtReply q .ok .none (fwSelect i advance s)) s)

/-! ## Tenancy (R433 to R439) -/

/-- Stage 3 has yet to give the tenancy the state that its latest record names (R438, R523). -/
def tenPending (s : State) : Bool :=
  s.sec.tenancy = .unassigned && (s.sec.ten = .commit || s.sec.ten = .resume || s.sec.ten = .releaseBegin || s.sec.ten = .erased)

/-- The checks of BIND_BEGIN in their order (R433 step 1); the candidate has the keys BIND_BEGIN names. -/
def bindCheck (b : BindReq) (s : State) : Option Status :=
  if lifeCycle s ≠ 2 then some .access
  else if s.sec.tenancy ≠ .unassigned || tenPending s then some .tenant
  else if s.power.stage ≠ .s3 then some .busy
  else if !cryptoOk s s.ckp.primary then some .access
  else if 0x3FFF ≤ s.sec.era then some .noSpace
  else if b.certified && departNow (setSec (fun x => { x with imageKey := b.imageKey, jtagSeen := false }) s) ≠ 0 then some .access
  else none

/-- A binding begins (R433 step 1): era and epoch are raised, what BIND_BEGIN names is recorded, PREPARE is written; no SPDM session was
authenticated against the new TENANT_ROOT (R445). -/
def bindBegun (b : BindReq) (s : State) : State :=
  let s := setSec (fun x => { x with
    epoch := (x.epoch + 1) % 2 ^ 32, era := x.era + 1, tenantId := b.tenantId, tenantRoot := b.tenantRoot, localMode := b.localMode,
    imageKey := b.imageKey, consentKey := b.consentKey, certified := b.certified, bindAt := ktb s, keys := [], jtagSeen := false,
    spdm := [] }) s
  setTen .binding .prepare (debugClose (secRecords 1 s))

/-- BIND_BEGIN (R433 step 1). -/
def execBindBegin (q : MgmtReq) (b : BindReq) (s : State) : Host.Outcome State Fault Refusal :=
  ok (mgmtCmd q false false rTenancy (fun s =>
    match bindCheck b s with
    | some st => mgmtReply q st .none s
    | none => mgmtReply q .ok .none (bindBegun b s)) s)

/-- Generation 0 of LOCAL mode, drawn and sealed (R433 step 3). -/
def localKey (s : State) : State :=
  secRecords 1 (drew (setSec (fun x => { x with keys := NMap.put x.keys 0 ⟨true, freeBelow (2 ^ 256) s⟩ }) s))

/-- BIND_COMMIT (R433 step 4, R439): LOCAL mode draws generation 0 and commits. -/
def execBindCommit (q : MgmtReq) (s : State) : Host.Outcome State Fault Refusal :=
  ok (mgmtCmd q false false rTenancy (fun s =>
    if s.sec.tenancy ≠ .binding || !s.sec.localMode then mgmtReply q .tenant .none s
    else
      let r := bindCommit (localKey s)
      mgmtReply q r.1 .none r.2) s)

/-- BIND_ABORT (R434, R439). -/
def execBindAbort (q : MgmtReq) (s : State) : Host.Outcome State Fault Refusal :=
  ok (mgmtCmd q false false rTenancy (fun s =>
    if s.sec.tenancy = .binding then mgmtReply q .ok .none (bindAbort s) else mgmtReply q .tenant .none s) s)

/-- BIND_TIMEOUT (R434). -/
def execBindTimeout (s : State) : Host.Outcome State Fault Refusal :=
  if mgmtUp s && s.sec.tenancy = .binding && !s.sec.resuming &&
      decide (s.sec.bindAt + primF s .SEC_BIND_CTRL 0 15 0 * 1000000000 ≤ ktb s) then ok (bindAbort s)
  else ok s

/-- RELEASE or ZEROISE, by the tenancy state it finds (R439); `abort`: ZEROISE ends a binding. -/
def releaseBy (w : RelWaiter) (abort : Bool) (tell : Status → State → State) (s : State) : State :=
  match s.sec.tenancy with
  | .unassigned => if tenPending s then tell .busy s else tell .ok s
  | .binding => if abort then tell .ok (bindAbort s) else tell .tenant s
  | .bound => startRelease (setSec (fun x => { x with waiters := x.waiters ++ [w] }) s)
  | .releasing => setSec (fun x => { x with waiters := x.waiters ++ [w] }) s

/-- RELEASE (R436, R439). -/
def execRelease (q : MgmtReq) (s : State) : Host.Outcome State Fault Refusal :=
  ok (mgmtCmd q false false rTenancy (releaseBy (.mgmt q) false (fun st s => mgmtReply q st .none s)) s)

/-- ZEROISE (R439). -/
def execZeroise (q : MgmtReq) (s : State) : Host.Outcome State Fault Refusal :=
  ok (mgmtCmd q false false rTenancy (releaseBy (.mgmt q) true (fun st s => mgmtReply q st .none s)) s)

/-- RELEASE_SCRUB_DONE (R436 steps 5 and 6). -/
def execReleaseScrubDone (s : State) : Host.Outcome State Fault Refusal :=
  if mgmtUp s && s.sec.tenancy = .releasing && s.sec.rel = .scrub then ok (releaseEnd s) else ok s

/-! ## Attestation and keys (R442 to R447) -/

/-- A measurement by index (R446); the raw blocks as one number. -/
def measurement (s : State) (i : Nat) : BitVec 384 :=
  let x := s.sec
  match i with
  | 1 => x.meas1
  | 2 => x.meas2
  | 3 => x.meas3
  | 4 => x.meas4
  | 5 => x.meas5
  | 6 => BitVec.ofNat 384 (x.lcA + 2 ^ 8 * x.lcB + 2 ^ 16 * x.fuses.scSvn + 2 ^ 32 * x.fuses.mcSvn + 2 ^ 48 * x.fuses.sysSvn)
  | 7 => BitVec.ofNat 384 (x.tenancy.code + 2 ^ 2 * x.localMode.toNat + 2 ^ 4 * x.curGen + 2 ^ 8 * x.era + 2 ^ 32 * x.epoch + 2 ^ 64 * x.tenantId +
      (List.range 16).foldl (fun n g => n + 2 ^ (128 + 2 * g) * ((NMap.get? x.keys g).elim 0 (fun k => if k.isLocal then 3 else 1))) 0) ^^^
      (x.tenantRoot <<< 160)
  | 8 => BitVec.ofNat 384 (x.certified.toNat + 2 * x.departMask + 2 ^ 9 * x.departed.toNat + 2 ^ 32 * x.departures)
  | 9 => x.meas9
  | 10 => BitVec.ofNat 384 s.cfg.liveGen.toNat ^^^ (s.cfg.fp <<< 16)
  | 11 => x.meas11
  | 12 => x.meas12
  | _ => 0

/-- The blocks GET_MEASUREMENTS returns: one index, or all of them for 255. -/
def measured (s : State) (i : Nat) : List (BitVec 384) :=
  if i = 255 then (List.range 12).map (fun k => measurement s (k + 1))
  else if 1 ≤ i ∧ i ≤ 12 then [measurement s i] else []

/-- The SPDM session is a tenant session (R445). -/
def tenantSession (s : State) (n : Nat) : Bool := (NMap.get? s.sec.spdm n).any (fun x => x.tenant && x.done)

/-- A vendor-defined request of a tenant session in a state that R445 admits. -/
def vendorReq (s : State) (n : Nat) (good : Bool) : Option Status :=
  if !tenantSession s n then some .access else if good then none else some .tenant

/-- The answer to an SPDM message: `none` where the answer waits for the end of a release (R424, R439, R442 to R447). -/
def spdmAnswer (q : MgmtReq) (r : SpdmReq) (s : State) : Option (Status × List (BitVec 384)) × State :=
  let signs := cryptoOk s s.ckp.primary
  let slotOk := fun (n : Nat) => if 1 < n then Status.badFormat else if n = 1 && !pastStage1 s then .busy else .ok
  let bound := s.sec.tenancy = .bound
  let binding := s.sec.tenancy = .binding
  let say := fun (st : Status) (s : State) => ((some (st, []) : Option (Status × List (BitVec 384))), s)
  if lifeCycle s = 0 || lifeCycle s = 3 then say .access s
  else match r with
  | .getVersion => say .ok s
  | .getCapabilities => say .ok s
  | .negotiateAlgorithms => say .ok s
  | .getDigests => say .ok s
  | .getCertificate n => say (slotOk n) s
  | .challenge n _ => say (if !signs then .access else slotOk n) s
  | .getMeasurements i _ => if signs && pastStage1 s then (some (.ok, measured s i), s) else say (if signs then .busy else .access) s
  | .keyExchange n =>
    if !signs then say .access s
    else if s.sec.tenancy = .unassigned then say .tenant s
    else if slotOk n ≠ .ok then say (slotOk n) s
    else say .ok (setSec (fun x => { x with spdm := NMap.put x.spdm x.spdmNext ⟨false, false⟩, spdmNext := x.spdmNext + 1 }) s)
  | .finish n root verifies =>
    if (NMap.get? s.sec.spdm n).isNone then say .badHandle s
    else if verifies && (binding || bound) && root = s.sec.tenantRoot then say .ok (setSec (fun x => { x with spdm := NMap.put x.spdm n ⟨true, true⟩ }) s)
    else say .access (setSec (fun x => { x with spdm := NMap.erase x.spdm n }) s)
  | .heartbeat n => say (if (NMap.get? s.sec.spdm n).isSome then .ok else .badHandle) s
  | .keyUpdate n => say (if (NMap.get? s.sec.spdm n).isSome then .ok else .badHandle) s
  | .endSession n =>
    if (NMap.get? s.sec.spdm n).isNone then say .badHandle s
    else say .ok (setSec (fun x => { x with spdm := NMap.erase x.spdm n }) s)
  | .keyDeliver n slot key =>
    (match vendorReq s n (bound || binding) with
     | some st => say st s
     | none =>
       if !signs then say .access s
       else if 16 ≤ slot then say .badFormat s
       else if genValid s slot then say .busy s
       else say .ok (secRecords 1 (setSec (fun x => { x with keys := NMap.put x.keys slot ⟨false, key⟩ }) s)))
  | .keySelect n slot =>
    (match vendorReq s n bound with
     | some st => say st s
     | none => if genValid s slot then say .ok (secRecords 1 (setSec (fun x => { x with curGen := slot }) s)) else say .access s)
  | .keyRetire n slot =>
    (match vendorReq s n bound with
     | some st => say st s
     | none =>
       if slot = s.sec.curGen || keyRefs s slot ≠ 0 then say .busy s
       else say .ok (secRecords 1 (setSec (fun x => { x with keys := NMap.erase x.keys slot }) s)))
  | .keyDone n =>
    (match vendorReq s n (binding && !s.sec.localMode) with
     | some st => say st s
     | none => let (st, s) := bindCommit s; say st s)
  | .tenantRelease n =>
    if !tenantSession s n then say .access s
    else match s.sec.tenancy with
      | .bound => (none, startRelease (setSec (fun x => { x with waiters := x.waiters ++ [.spdm q n] }) s))
      | .releasing => (none, setSec (fun x => { x with waiters := x.waiters ++ [.spdm q n] }) s)
      | .unassigned => say .ok s
      | .binding => say .tenant s
  | .other => say .badFormat s

/-- SPDM_RELAY (R444, R455): one SPDM message in each direction. -/
def execSpdmRelay (q : MgmtReq) (r : SpdmReq) (s : State) : Host.Outcome State Fault Refusal :=
  ok (mgmtCmd q true true rObserve (fun s =>
    match spdmAnswer q r s with
    | (some (st, b), s) => mgmtReply q .ok (.spdm r st b) s
    | (none, s) => s) s)

/-! ## Credentials, life cycle (R427, R429, R451, R455) -/

/-- A credential is written into a slot. -/
def putCred (i : Nat) (c : Cred) (s : State) : State := secRecords 1 (setSec (fun x => { x with creds := NMap.put x.creds i c }) s)

/-- CRED_ADD: the credential takes a free slot of the 16. -/
def execCredAdd (q : MgmtReq) (key roles : Nat) (s : State) : Host.Outcome State Fault Refusal :=
  ok (mgmtCmd q false false rCredential (fun s =>
    match (List.range 16).find? (fun i => (NMap.get? s.sec.creds i).isNone) with
    | none => mgmtReply q .noSpace .none s
    | some i => mgmtReply q .ok (.word (BitVec.ofNat 64 i)) (putCred i ⟨key, roles % 64⟩ s)) s)

/-- CRED_REMOVE: the last credential with the CREDENTIAL role stays; the sessions of a removed one end. -/
def execCredRemove (q : MgmtReq) (slot : Nat) (s : State) : Host.Outcome State Fault Refusal :=
  ok (mgmtCmd q false false rCredential (fun s =>
    if (NMap.get? s.sec.creds slot).isNone then mgmtReply q .badHandle .none s
    else if !(s.sec.creds.any (fun c => c.1 ≠ slot && rCredential c.2.roles)) then mgmtReply q .busy .none s
    else dropSessions (mgmtReply q .ok .none (secRecords 1 (setSec (fun x => { x with creds := NMap.erase x.creds slot }) s)))) s)

/-- DEPLOY (R427, R455): with SESSION = 0 and only in PROVISIONED; the first credential has every role. -/
def execDeploy (q : MgmtReq) (key : Nat) (s : State) : Host.Outcome State Fault Refusal :=
  if q.session ≠ 0 then ok (mgmtCmd q false false rAny (fun s => mgmtReply q .access .none s) s)
  else if !mgmtUp s then ok s
  else if !pastStage1 s then ok (sayOpen q .busy .none s)
  else if lifeCycle s ≠ 1 then ok (sayOpen q .access .none s)
  else ok (sayOpen q .ok .none (certUpdate (lcAdvance (putCred 0 ⟨key, 63⟩ s))))

/-- DECOMMISSION by the tenancy state it finds (R429, R439). -/
def decommissionBy (q : MgmtReq) (s : State) : State :=
  match s.sec.tenancy with
  | .unassigned => decommissionEnd q s
  | .binding => decommissionEnd q (bindAbort s)
  | .bound => startRelease (setSec (fun x => { x with decommission := some q }) s)
  | .releasing => setSec (fun x => { x with decommission := some q }) s

/-- DECOMMISSION (R429): ZEROISE, then the life cycle advances. -/
def execDecommission (q : MgmtReq) (s : State) : Host.Outcome State Fault Refusal :=
  ok (mgmtCmd q false false rCredential (fun s =>
    if lifeCycle s ≠ 2 || s.sec.decommission.isSome then mgmtReply q .access .none s
    else if tenPending s then mgmtReply q .busy .none s
    else decommissionBy q s) s)

/-! ## Debug (R456 to R458) -/

/-- DEBUG_CHALLENGE: a fresh challenge, good for 300 s and one use. -/
def execDebugChallenge (q : MgmtReq) (s : State) : Host.Outcome State Fault Refusal :=
  ok (mgmtCmd q false true rDebug (fun s =>
    mgmtReply q .ok (.challenge (freeBelow (2 ^ 256) s))
      (drew (setSec (fun x => { x with challenge := some (freeBelow (2 ^ 256) s, ktb s + 300000000000) }) s))) s)

/-- Open scopes until a time: index 12 takes the unlock; JTAG departs from the certified configuration. -/
def debugGrant (scopes until_ : Nat) (entry : List Byte) (s : State) : State :=
  let s := setSec (fun x => { x with debugScopes := scopes % 32, debugUntil := until_, meas12 := extendDigest x.meas12 entry,
                                     jtagSeen := x.jtagSeen || scopes.testBit 4 }) s
  certUpdate (mgmtPost (.debug (scopes % 32)) s)

/-- The credential slot of a request's session. -/
def credOf (s : State) (q : MgmtReq) : Nat := (NMap.get? (portM s q.port).sessions q.session).elim 16 (fun x => x.cred)

/-- A consent token holds (R458): DEPLOYED, the signature under a consent key, DEVICE, EPOCH, the last challenge within its 300 s, KTB below
NOT_AFTER, and the session's slot. -/
def consentOk (s : State) (cred : Nat) (c : Consent) : Bool :=
  lifeCycle s = 2 && s.sec.consentKey.isSome && c.verifies && c.device = Config.dikHash (s.sec.dus.getD 0) && c.epoch = s.sec.epoch &&
    s.sec.challenge.any (fun n => n.1 == c.challenge && decide (ktb s < n.2)) && decide (ktb s < c.notAfter) && c.cred = cred

/-- DEBUG_UNLOCK: while UNASSIGNED in DEPLOYED the role alone opens every scope; otherwise a consent token that holds opens its scopes
until NOT_AFTER. -/
def execDebugUnlock (q : MgmtReq) (t : Option Consent) (s : State) : Host.Outcome State Fault Refusal :=
  ok (mgmtCmd q false true rDebug (fun s =>
    let cred := credOf s q
    if lifeCycle s = 0 then mgmtReply q .ok .none s
    else if lifeCycle s = 2 && s.sec.tenancy = .unassigned then
      mgmtReply q .ok .none (debugGrant 31 (2 ^ 64 - 1) (leBytes 8 (ktb s)) s)
    else match t with
      | some c =>
        if consentOk s cred c then
          mgmtReply q .ok .none (debugGrant c.scope c.notAfter (digestBytes c.digest) (setSec (fun x => { x with challenge := none }) s))
        else mgmtReply q .access .none s
      | none => mgmtReply q .access .none s) s)

/-- DEBUG_LOCK: the scopes close and index 12 takes the lock. -/
def execDebugLock (q : MgmtReq) (s : State) : Host.Outcome State Fault Refusal :=
  ok (mgmtCmd q false true rDebug (fun s =>
    mgmtReply q .ok .none (setSec (fun x => { x with meas12 := extendDigest x.meas12 (leBytes 8 (ktb s)) }) (debugClose s))) s)

/-- DEBUG_UNLOCK_EXPIRY: KTB has reached NOT_AFTER. -/
def execDebugUnlockExpiry (s : State) : Host.Outcome State Fault Refusal :=
  if mgmtUp s && s.sec.debugScopes ≠ 0 && decide (s.sec.debugUntil ≤ ktb s) then ok (debugClose s) else ok s

/-- EVENT_SUBSCRIBE (R455). -/
def execEventSubscribe (q : MgmtReq) (s : State) : Host.Outcome State Fault Refusal :=
  ok (mgmtCmd q false true rObserve (fun s =>
    let p := portM s q.port
    mgmtReply q .ok .none (putPortM q.port { p with sessions := NMap.modify p.sessions q.session (fun x => { x with subscribed := true }) } s)) s)

/-- A debug action needs its consent scope while a tenant is bound (R457). -/
def consented (s : State) (n : Nat) : Bool := s.sec.tenancy ≠ .bound || debugOpen s n

/-- TRACE_TRIGGER over management (R509). -/
def execTraceTrigger (q : MgmtReq) (s : State) : Host.Outcome State Fault Refusal :=
  ok (mgmtCmd q false true rDebug (fun s =>
    if consented s 3 then mgmtReply q .ok .none (if planesRun s then traceTrigger (.yoke s.ckp.primary) 4 0 s else s)
    else mgmtReply q .access .none s) s)

/-- HALT over management (R513). -/
def execHalt (q : MgmtReq) (s : State) : Host.Outcome State Fault Refusal :=
  ok (mgmtCmd q false true rDebug (fun s =>
    if consented s 0 then mgmtReply q .ok .none (haltWave 0 s) else mgmtReply q .access .none s) s)

/-- Blocks of 4 KiB of a chain of a die (R515, R516). -/
def scanBlocks (d : Die) (chain : Nat) : Nat :=
  match d, chain with
  | .acre _, 0 => 24 * 256
  | .yoke _, 0 => 6 * 256
  | .acre _, _ => 304 * 256
  | .yoke _, _ => 4 * 256

/-- Deliver a chain of a halted die (R515, R516): its status, and the blocks. -/
def scanOut (d : Die) (chain : Nat) (s : State) : Status × MgmtBody × State :=
  if !s.obs.halted then (.busy, .none, s)
  else if 1 < chain then (.badFormat, .none, s)
  else
    let sealed? : Option Bool := match s.sec.tenancy with
      | .unassigned => some false
      | .bound => some true
      | .releasing => if s.sec.rel = .scrub then none else some true
      | .binding => none
    match sealed? with
    | none => (.tenant, .none, s)
    | some e =>
      let n := s.obs.scanCount + 1
      (.ok, .scan d.code chain (scanBlocks d chain) n e, setObs (fun o => { o with scanBlocks := scanBlocks d chain, scanSealed := e, scanCount := n }) s)

/-- SCAN_OUT over management (R515). -/
def execScanOut (q : MgmtReq) (die chain : Nat) (s : State) : Host.Outcome State Fault Refusal :=
  ok (mgmtCmd q false true rDebug (fun s =>
    if !consented s 1 then mgmtReply q .access .none s
    else match Die.ofCode die with
      | none => mgmtReply q .badHandle .none s
      | some d => mgmtReply q (scanOut d chain s).1 (scanOut d chain s).2.1 (scanOut d chain s).2.2) s)

/-- ENTROPY_TEST_FAIL (R424): a continuous test of a security core's entropy source has failed. -/
def execEntropyTestFail (y : Yoke) (s : State) : Host.Outcome State Fault Refusal :=
  if s.power.pwrgood && s.sec.entropyOk.get y then
    ok (certUpdate (mgmtPost (.entropyFail y) (setSec (fun x => { x with entropyOk := x.entropyOk.set y false }) s)))
  else ok s

/-! ## Images (R281 to R283) -/

/-- A 32-bit field of an image header. -/
def imgF (b : List Byte) (off : Nat) : Nat := leNat ((b.drop off).take 4)

/-- Step 1 of R282. -/
def imageCheck (s : State) (b : List Byte) : Option Status :=
  let byte := fun (i : Nat) => (b.getD i 0).toNat
  let code := imgF b 16
  let ro := imgF b 20
  let entry := (List.range 16).map (fun i => imgF b (32 + 4 * i))
  let budget := (List.range 16).map (fun i => imgF b (96 + 4 * i))
  let none_ := fun (i : Nat) => entry.getD i 0 = 0xFFFFFFFF
  if b.take 8 ≠ [0x4B, 0x53, 0x49, 0x49, 0x4D, 0x41, 0x47, 0x45] || byte 8 ≠ 1 then some .badFormat
  else if byte 9 ≠ 1 then some .version
  else if 1 < byte 10 || imgF b 12 % 2 ^ 24 = 0 || b.length ≠ 256 + code + ro + 96 || imgF b 24 ≠ 256 + code + ro || imgF b 28 ≠ 96 ||
      !([0, 10, 11, 12, 13, 14, 15].all none_) ||
      !((List.range 16).all (fun i => if none_ i then budget.getD i 0 = 0
        else decide (entry.getD i 0 < code) && decide (budget.getD i 0 ≤ primAcre s * 1000))) then some .badFormat
  else none
where
  /-- TIN_CTRL.MAX_BUDGET_US. -/
  primAcre (s : State) : Nat := liveF s .TIN_CTRL (.acre .a0) 0 10 1

/-- The lowest free run of the image area that holds `n` bytes. -/
def imageRun (s : State) (n : Nat) : Option Nat :=
  let used := (NMap.vals s.tin.images).map (fun i => (i.base, i.base + i.code + i.rodata))
  let fits := fun (b : Nat) => decide (b + n ≤ 0x30000) && used.all (fun u => decide (b + n ≤ u.1) || decide (u.2 ≤ b))
  ((0 :: used.map (fun u => (u.2 + 7) / 8 * 8)).filter fits).foldl (fun m b => match m with
    | none => some b
    | some x => some (min x b)) none

/-- Steps 2 to 6 of R282 for an image whose header passed step 1: the status and what is installed. `verifies`: the signature, under the
vendor key for a system image and the tenant image key for a session image. -/
def imageInstall (b : List Byte) (verifies : Bool) (s : State) : Status × State :=
  let system := (b.getD 10 0).toNat = 0
  let digest := Config.sha384 (b.take (imgF b 24))
  if !verifies && (system || s.sec.imageKey.isSome) then (.integrity, s)
  else if system then
    (.ok, { s with sec := { s.sec with meas4 := extendDigest s.sec.meas4 (digestBytes digest) },
                   tin := { s.tin with sysImage := (b.drop 256).take (imgF b 16 + imgF b 20) } })
  else
    let id := imgF b 12 % 2 ^ 24
    if s.sec.tenancy ≠ .bound then (.tenant, s)
    else if (imageOf s id).isSome then (.busy, s)
    else match (List.range 64).find? (fun i => (NMap.get? s.tin.images i).isNone) with
      | none => (.noSpace, s)
      | some i =>
        let s := setSec (fun x => { x with meas11 := extendDigest x.meas11 (digestBytes digest) }) s
        match imageRun s (imgF b 16 + imgF b 20) with
        | none => (.noSpace, s)
        | some base =>
          let es := (List.range 16).map (fun i => imgF b (32 + 4 * i))
          let bs := (List.range 16).map (fun i => imgF b (96 + 4 * i))
          let img : Image := { id := id, base := base, code := imgF b 16, rodata := imgF b 20, entry := es, budget := bs }
          (.ok, { s with tin := { s.tin with
            images := NMap.put s.tin.images i img, area := Cells.writeN s.tin.area base ((b.drop 256).take (img.code + img.rodata)) } })

/-- IMAGE_LOAD (R282): the first check that fails decides the status. -/
def execImageLoad (sq cid : Nat) (b : List Byte) (verifies : Bool) (s : State) : Host.Outcome State Fault Refusal := running s <|
  ok (hostCmd sq cid .admin false (fun s =>
    match imageCheck s b with
    | some st => postCqe sq cid st 0 0 s
    | none =>
      let r := imageInstall b verifies s
      postCqe sq cid r.1 0 0 r.2) s)

/-- An image leaves its index and every Acre Tine, and the removal is measured (R283). -/
def imageRemove (i : Nat) (img : Image) (s : State) : State :=
  { s with
    sec := { s.sec with meas11 := extendDigest s.sec.meas11 (leBytes 4 img.id) },
    tin := { s.tin with images := NMap.erase s.tin.images i, area := Cells.clear s.tin.area img.base (img.code + img.rodata) } }

/-- IMAGE_UNLOAD (R283). -/
def execImageUnload (sq cid id : Nat) (s : State) : Host.Outcome State Fault Refusal := running s <|
  ok (hostCmd sq cid .admin false (fun s =>
    match s.tin.images.find? (fun e => e.2.id == id) with
    | none => postCqe sq cid (if s.sec.tenancy = .bound then .badHandle else .tenant) 0 0 s
    | some (i, img) =>
      if (sessions s).any (fun x => (desc s x).imageId = id) then postCqe sq cid .busy 0 0 s
      else postCqe sq cid .ok 0 0 (imageRemove i img s)) s)

end Sys2Proof.Machine
end

