-- ==== Sys2Proof/Machine/RegRead.lean ====
section
/-!
DEFINITION. Reading a register: the stored value of its entry, overlaid with what its read-only fields show of the state (R20, R572,
R573 and the register tables).
-/
namespace Sys2Proof.Machine

/-- A value laid over bits [hi:lo] of a word, saturating at the field's width. -/
def lay (w : Word) (hi lo v : Nat) : Word := setField w hi lo (min v (2 ^ (hi + 1 - lo) - 1))

/-- Fields laid over a word: (hi, lo, value). -/
def layAll (w : Word) (l : List (Nat × Nat × Nat)) : Word := l.foldl (fun w f => lay w f.1 f.2.1 f.2.2) w

/-- 64-bit word `k` of a digest: bytes 8k to 8k + 7, little-endian (R56). -/
def digestWord (d : BitVec 384) (k : Nat) : Nat := leNat (((digestBytes d).drop (8 * k)).take 8)

/-- A number of bytes in whole MiB. -/
def mib (n : Nat) : Nat := n / 2 ^ 20

/-! ## What the fields show, block by block -/

/-- CFG and YOK blocks. -/
def showYok (s : State) (r : Reg) (y : Yoke) (i : Nat) : List (Nat × Nat × Nat) :=
  match r with
  | .CFG_STATUS => [(15, 0, s.cfg.liveGen.toNat), (16, 16, s.cfg.pendingC.isSome.toNat), (18, 18, s.cfg.fpValid.toNat)]
  | .CFG_FP_0 => [(63, 0, digestWord s.cfg.fp 0)]
  | .CFG_FP_1 => [(63, 0, digestWord s.cfg.fp 1)]
  | .CFG_FP_2 => [(63, 0, digestWord s.cfg.fp 2)]
  | .CFG_FP_3 => [(63, 0, digestWord s.cfg.fp 3)]
  | .CFG_FP_4 => [(63, 0, digestWord s.cfg.fp 4)]
  | .CFG_FP_5 => [(63, 0, digestWord s.cfg.fp 5)]
  | .CFG_DOMAIN_STATUS =>
    [(1, 0, match s.cfg.domain with
       | .none => 0
       | .joined => 1
       | .refused => 2
       | .joinedMismatch => 3),
     (31, 16, ((NMap.vals s.cfg.divergent).filter (fun d => d.counted)).length)]
  | .YOK_IFV => if i < 15 then [] else [(63, 0, 0)]
  | .YOK_KTB_NOW => [(63, 0, ktbOf s (.yoke y))]
  | .YOK_KTB_SLEW => [(47, 0, twos 48 ((s.time.slew.get y).tdiv (2 ^ 32)))]
  | .YOK_HQ_VERSION =>
    [(47, 32, s.host.agreed.getD 0), (48, 48, s.host.agreed.isSome.toNat), (56, 49, s.host.negStatus.code)]
  | .YOK_HQ_STATUS =>
    [(0, 0, (hostYoke s).num), (8, 1, (s.host.qps.filter (fun q => q.1 ≠ 0)).length), (32, 9, s.host.badDb)]
  | .YOK_PRIMACY =>
    [(31, 0, s.ckp.primacyEpoch), (32, 32, (decide (s.ckp.primary = y)).toNat), (33, 33, (decide (prefYoke s = y)).toNat),
     (37, 34, Acre.all.foldl (fun n a => match s.ckp.leases.get a with
       | some l => if l.holder = y ∧ ktbOf s (.acre a) < l.expiry then n + 2 ^ a.num else n
       | none => n) 0),
     (38, 38, (s.ckp.yokes.get y).partnerUp.toNat)]
  | _ => []

/-- PWR block. -/
def showPwr (s : State) (r : Reg) (i : Nat) : List (Nat × Nat × Nat) :=
  let p := s.power
  match r with
  | .PWR_STAGE => [(2, 0, p.stage.code), (3, 3, (decide (p.failCode ≠ 0)).toNat), (11, 4, p.failCode), (12, 12, p.fwSlot), (14, 13, p.cause.code)]
  | .PWR_STAGE_TIME => [(15, 0, p.stageMs0), (31, 16, p.stageMs1), (47, 32, p.stageMs2)]
  | .PWR_TELEM => [(63, 0, p.energyUj % 2 ^ 64)]
  | .PWR_TELEM_W => [(15, 0, p.mean10ms), (31, 16, p.mean1s), (47, 32, p.max10ms)]
  | .PWR_AVS => [(9, 0, p.targetMv), (19, 10, p.readMv), (20, 20, p.capping.toNat)]
  | .PWR_FALLOW_NB_STATUS =>
    let n := NMap.get .empty p.fallow.neighbours i
    [(2, 0, n.lastKind), (3, 3, n.answered.toNat), (4, 4, n.accepted.toNat), (5, 5, n.consent.toNat)]
  | .PWR_FALLOW_STATUS => [(2, 0, p.fallow.mode.code), (15, 8, p.fallow.lastStatus), (47, 16, p.fallow.round), (63, 48, p.fallow.deferred)]
  | .PWR_FALLOW_WAKE =>
    [(31, 0, p.fallow.lastWakeNs), (63, 32, match p.fallow.selfWake, p.fallow.commitAt with
      | some w, some c => (w - c) / 1000000
      | _, _ => 0)]
  | .PWR_STRAP => [(0, 0, p.primaryPref.toNat), (1, 1, p.hostSel.toNat)]
  | .PWR_RAIL =>
    let x := NMap.get ⟨0, 0⟩ p.rails i
    [(15, 0, x.mv), (31, 16, x.dA)]
  | _ => []

/-- Records written into the secure store: of tenancy, keys, credentials and life cycle, and of the anchors (R425). -/
def storeRecords (s : State) : Nat := s.sec.records + s.chest.anchorRecs + s.ckp.anchorRecs

/-- SEC block. -/
def showSec (s : State) (r : Reg) (y : Yoke) (i : Nat) : List (Nat × Nat × Nat) :=
  let x := s.sec
  match r with
  | .SEC_TEN_STATUS => [(1, 0, x.tenancy.code), (2, 2, x.resuming.toNat), (3, 3, x.localMode.toNat), (4, 4, x.certified.toNat), (18, 5, x.era), (63, 32, x.epoch)]
  | .SEC_TEN_ID => [(63, 0, x.tenantId)]
  | .SEC_LC => [(1, 0, lifeCycle s), (2, 2, x.lcPending.isSome.toNat), (10, 3, x.lcA), (18, 11, x.lcB)]
  | .SEC_KEY_STATUS =>
    (match NMap.get? x.keys i with
     | none => [(63, 32, keyRefs s i)]
     | some k => [(0, 0, 1), (1, 1, k.isLocal.toNat), (2, 2, (decide (x.curGen = i)).toNat), (63, 32, keyRefs s i)])
  | .SEC_CERT => [(7, 0, x.departMask), (8, 8, x.departed.toNat), (63, 32, x.departures)]
  | .SEC_FW_MIN => [(15, 0, x.fuses.scSvn), (31, 16, x.fuses.mcSvn), (47, 32, x.fuses.sysSvn)]
  | .SEC_STORE => [(1, 0, x.storeCopies), (9, 3, min 100 (Config.storeFill (storeRecords s))), (63, 32, min (2 ^ 32 - 1) (storeRecords s))]
  | .SEC_SELFTEST =>
    let p := s.ckp.primary
    [(0, 0, (x.selfPass.get p).toNat), (1, 1, (x.entropyOk.get p).toNat), (15, 8, x.failedTest.get p)]
  | .SEC_DEBUG => [(7, 0, x.debugScopes), (8, 8, (decide (x.debugScopes ≠ 0)).toNat)]
  | .SEC_DEBUG_UNTIL => [(63, 0, x.debugUntil)]
  | .SEC_MGMT_STATUS =>
    let p := portM s y
    [(3, 0, p.sessions.length), (16, 16, p.lockUntil.isSome.toNat)]
  | _ => []

/-- The bank that counter registers of a die read: 0 the snapshot, 1 the latched one (OBS_SNAP.BANK). -/
def obsBank (s : State) (d : Die) : ObsBank :=
  let x := s.obs.dies.get d
  if liveF s .OBS_SNAP d 0 1 1 = 1 then x.latched else x.snap

/-- The key of an engine time from OBS_ENG_SEL's bits: KIND and ENGINE. -/
def selEngine (i : Nat) : Nat := engKey (i % 8) (i / 8 % 512)

/-- OBS block. -/
def showObs (s : State) (r : Reg) (d : Die) (i : Nat) : List (Nat × Nat × Nat) :=
  let x := s.obs.dies.get d
  let time := fun (c : Nat) => NMap.get 0 (obsBank s d).eng (selEngine i * 32 + c)
  match r with
  | .OBS_PERIOD => [(62, 0, x.start % 2 ^ 63), (63, 63, x.done.toNat)]
  | .OBS_ENG_BUSY => [(63, 0, time 0)]
  | .OBS_ENG_STALL => [(63, 0, time 1)]
  | .OBS_ENG_FENCED => [(63, 0, time 2)]
  | .OBS_ENG_IDLE =>
    if (engines d).contains (i % 8, i / 8 % 512) then [(63, 0, (obsBank s d).elapsed - time 0 - time 1 - time 2)] else []
  | .OBS_ENG_REASON => [(63, 0, time (16 + i / 4096 % 16))]
  | .OBS_PRIN_VAL =>
    let m := if liveF s .OBS_SNAP d 0 1 1 = 1 then s.obs.latched else s.obs.snap
    [(63, 0, NMap.get 0 m (i % 8192 * 64 + i / 8192 % 64))]
  | .OBS_HALT => [(0, 0, s.obs.halted.toNat), (2, 1, s.obs.haltSrc)]
  | .OBS_HALT_TS => [(63, 0, s.obs.haltTs)]
  | .OBS_SCAN_STATUS => [(31, 0, s.obs.scanBlocks), (32, 32, s.obs.scanSealed.toNat), (63, 33, s.obs.scanCount)]
  | .OBS_TRACE_STATUS =>
    (match d with
     | .acre a =>
       let t := s.obs.trace.get a
       [(1, 0, t.st.code), (4, 2, t.reason), (5, 5, t.wrapped.toNat), (31, 6, t.miss), (63, 32, t.lost)]
     | .yoke _ => [])
  | .OBS_TRACE_PTRS =>
    (match d with
     | .acre a => [(31, 0, (s.obs.trace.get a).wr), (63, 32, (s.obs.trace.get a).trigFrame)]
     | .yoke _ => [])
  | .OBS_TRACE_TRIG_TS =>
    (match d with
     | .acre a => [(63, 0, (s.obs.trace.get a).trigTs.getD 0)]
     | .yoke _ => [])
  | _ => []

/-- KLT and TSC blocks: what a Yoke shows. -/
def showKlt (s : State) (r : Reg) (y : Yoke) (i : Nat) : List (Nat × Nat × Nat) :=
  let now := ktbOf s (.yoke y)
  match r with
  | .KLT_PEER_STATUS =>
    let p := peerOf s i
    [(1, 0, p.st.code), (2, 2, ((NMap.get? s.cfg.divergent i).elim false (fun d => d.counted)).toNat), (63, 32, (now - p.lastHb) / 1000)]
  | .KLT_CONN_STATUS =>
    if connYoke i ≠ y then []
    else (match connOf s i with
      | none => [(18, 11, NMap.get 0 s.klt.cgens i)]
      | some c => [(2, 0, c.st.code), (10, 3, c.ver), (18, 11, NMap.get 0 s.klt.cgens i), (31, 19, c.entry), (63, 32, c.srtt.getD 0)])
  | .KLT_CONN_CWND =>
    if connYoke i ≠ y then []
    else (match connOf s i with
      | none => []
      | some c => [(31, 0, c.cwnd), (63, 32, c.retx)])
  | .KLT_PWQ_STATUS =>
    (match pwqOf s i with
     | none => []
     | some p => [(31, 0, p.ci % 2 ^ 32), (39, 32, p.err.elim 0 Status.code), (40, 40, p.err.isSome.toNat), (47, 41, p.inflight.length), (48, 48, p.gated.toNat)])
  | .TSC_GCL_STATUS =>
    let n := gclTake y s
    let at_ := ktbOf s (.yoke y)
    let st := match n.tsc.pend.get y, n.tsc.running.get y with
      | none, none => 0
      | none, some _ => 1
      | some _, none => 2
      | some _, some _ => 3
    let e := match n.tsc.running.get y with
      | none => 0
      | some g => (g.spans.findIdx? (fun x => x.1 ≤ g.pos at_ && g.pos at_ < x.2.1)).getD 0
    [(1, 0, st), (7, 2, e), (8, 8, liveF n .TSC_GCL_STATUS (.yoke y) 0 8 8)]
  | .TSC_GCL_TAKE =>
    (match s.tsc.pend.get y with
     | some p => [(63, 0, p.at_)]
     | none => [(63, 0, s.tsc.takeAt.get y)])
  | .TSC_TE => [(31, 0, teEst s y), (47, 32, excess s y), (48, 48, (decide (0 < excess s y)).toNat)]
  | .TSC_PTP_STATUS =>
    [(2, 0, s.tsc.ptp.st.code), (5, 3, s.tsc.ptp.port), (6, 6, s.tsc.ptp.locked.toNat),
     (63, 32, twos 32 (max (-(2 ^ 31 : Int)) (min (2 ^ 31 - 1) s.tsc.ptp.theta)))]
  | .TSC_PTP_DELAY => [(31, 0, s.tsc.ptp.mpd), (63, 32, match s.tsc.ptp.tSync with
      | none => 2 ^ 32 - 1
      | some t => (now - t) / 1000)]
  | .TSC_QSTAT =>
    let p := y.num * 4 + i % 4
    let c := i / 4 % 8
    let m := NMap.get ⟨0, 0⟩ (if liveF s .OBS_SNAP (.yoke y) 0 1 1 = 1 then s.tsc.maxLatched else s.tsc.maxCopy) (p * 8 + c)
    [(11, 0, (portQ (portOf s p) c).length), (23, 12, m.depth), (55, 24, m.delay)]
  | _ => []

/-- BUR, SHF, TIER, FUR, GEN, GLN, TIN, SYN and CKP blocks of an Acre. -/
def showAcre (s : State) (r : Reg) (a : Acre) (i : Nat) : List (Nat × Nat × Nat) :=
  let mine := (sessions s).filter (fun x => homeAcre x == a)
  match r with
  | .BUR_DESC_BASE => [(47, 0, a.num * 2 ^ 46 + Config.descBase a.num % 2 ^ 46)]
  | .BUR_COUNT =>
    [(20, 0, (s.bur.slots.get a).count), (41, 21, (mine.filter (fun x => (desc s x).state.live)).length),
     (62, 42, (mine.filter (fun x => (desc s x).state.parked)).length)]
  | .BUR_REVQ =>
    let q := s.bur.revQ.get a
    let now := ktbOf s (.acre a)
    [(15, 0, q.length), (63, 32, (q.map (fun f => now - f.queuedAt)).foldl max 0)]
  | .BUR_PRIN_USE =>
    if prinAcre i ≠ a then [] else [(21, 0, prinSessions s i), (37, 22, prinLive s i), (45, 38, prinReviving s i)]
  | .BUR_GUAR_STAT => [(8, 0, (s.tin.contracts.get a).length), (47, 16, sumW s a)]
  | .SHF_STAT =>
    let l := NMap.vals (s.bur.shelf.get a)
    [(17, 0, (l.filter (fun x => x.own)).length), (35, 18, (l.filter (fun x => !x.own)).length), (63, 36, s.bur.getx.get a)]
  | .TIER_PROF_SIZE =>
    let g := geom s i
    if liveF s .TIER_PROF_GEOM (.acre a) i 38 38 = 0 then [] else [(19, 0, g.sheaf), (31, 20, g.plots), (47, 32, g.plots * 16 - 1)]
  | .TIER_NEAR_STAT =>
    let sum := fun (f : ObjRec → Bool) => (NMap.vals s.tier.objs).foldl (fun n o => if f o then n + objNear s a o else n) 0
    [(20, 0, mib (nearFree s a)), (41, 21, mib (sum (fun o => o.dirty))), (62, 42, mib (sum (isPinned s)))]
  | .TIER_PRIN_NEAR_USE => [(20, 0, mib (prinUse s a i)), (41, 21, mib (pinnedUse s a i))]
  | .TIER_OBJ_COUNT => [(22, 0, (s.tier.genFree.get a).count), (45, 23, s.tier.retired.get a)]
  | .TIER_NEAR_SIZE => [(20, 0, mib (s.tier.nearSize.get a))]
  | .FUR_ARQ_STATUS =>
    let q := arqOf s (64 * a.num + i)
    [(31, 0, q.ci % 2 ^ 32), (39, 32, q.err.elim 0 Status.code), (40, 40, q.err.isSome.toNat), (47, 41, q.batches.length)]
  | .FUR_STAT =>
    let us := (acreFurrows a).map (furUse s)
    [(15, 0, (s.fur.dvQ.get a).length), (31, 16, (s.fur.pfQ.get a).length), (35, 32, (us.filter holdsPf).length),
     (39, 36, (us.filter (fun u => match u with
       | .saving _ => true
       | _ => false)).length)]
  | .GEN_TKQ_STATUS =>
    let q := tkqOf s (64 * a.num + i)
    [(31, 0, q.ci % 2 ^ 32), (39, 32, q.err.elim 0 Status.code), (40, 40, q.err.isSome.toNat)]
  | .GLN_SRQ_STATUS =>
    let q := srqOf s (16 * a.num + i)
    [(31, 0, q.ci % 2 ^ 32), (39, 32, q.err.elim 0 Status.code), (40, 40, q.err.isSome.toNat), (47, 41, q.batches.length)]
  | .GLN_IDX_STATUS =>
    let n := 1024 * a.num + i
    let gen := (6, 3, NMap.get 1 s.gln.gens n)
    (match NMap.get? s.gln.indexes n with
     | none => [gen]
     | some x =>
       [(2, 0, x.st.code), gen, (7, 7, x.damaged.toNat), (28, 8, x.sideUsed), (49, 29, if x.st = .compacting then x.freeze else 0),
        (56, 50, if x.st = .compacting then min 100 (Config.compactPct n (ktb s)) else 0)])
  | .TIN_STATUS =>
    [(6, 0, ((NMap.keys s.tin.tines).filter (fun t => t / 64 = a.num)).length),
     (13, 7, ((List.range 64).filter (fun n => bit (live s .CKP_FENCE_TINE (.acre a)) n)).length)]
  | .TIN_EVQ => [(16, 0, (s.tin.evq.get a).length)]
  | .TIN_IMAGE_INFO =>
    (match NMap.get? s.tin.images i with
     | none => []
     | some x => [(23, 0, x.id), (41, 24, x.code + x.rodata), (42, 42, 1)])
  | .SYN_VALUE => [(63, 0, (synWord s (a.num * 2 ^ 14 + i)).toNat)]
  | .SYN_STAT => [(15, 0, acreWaits s a)]
  | .CKP_SHADOW => [(15, 0, mib (poolUsed s a)), (27, 16, shadowUsed s a / 2 ^ 30)]
  | .CKP_FENCE_MISC => [(20, 20, (s.ckp.degraded.get a).toNat)]
  | _ => []

/-- CKP, TIER, CHS, FUR and SYN blocks of a Yoke. -/
def showShared (s : State) (r : Reg) (y : Yoke) (i : Nat) : List (Nat × Nat × Nat) :=
  match r with
  | .CKP_EPOCH =>
    [(31, 0, s.ckp.lastMarked), (34, 32, s.ckp.epochSt.code), (35, 35, (s.ckp.epoch.elim false (fun e => e.full)).toNat), (43, 36, s.ckp.epochStatus)]
  | .CKP_ANCHOR => [(31, 0, s.ckp.anchor), (63, 32, s.ckp.missed)]
  | .CKP_LEAVE => [(1, 0, if s.ckp.left then 2 else if s.ckp.leaving then 1 else 0), (63, 32, if s.ckp.leaving then sessionsLeft s else 0)]
  | .TIER_LEND_STATUS => [(1, 0, (NMap.get? s.tier.lend i).elim 0 (fun w => w.st.code))]
  | .TIER_BORROW_STATUS =>
    (match NMap.get? s.tier.borrow i with
     | none => []
     | some b => [(1, 0, b.st.code), (2, 2, b.lost.toNat), (26, 3, b.plots - b.free.foldl (fun n f => n + f.2) 0)])
  | .CHS_DRIVE_STATUS =>
    let v := driveOf s i
    [(2, 0, v.st.code), (3, 3, v.vwc.toNat), (15, 8, v.pctUsed), (23, 16, v.critWarn), (51, 32, v.segments)]
  | .CHS_DRIVE_SPACE =>
    let v := driveOf s i
    let full := (NMap.vals v.segs).filter (fun g => g.st = .full)
    [(19, 0, v.free.count), (39, 20, v.segs.length),
     (47, 40, if full.isEmpty then 0 else full.foldl (fun n g => n + g.liveBlocks) 0 * 100 / (65536 * full.length))]
  | .CHS_JOURNAL => [(63, 0, s.chest.durable)]
  | .CHS_JOURNAL_FILL => [(15, 0, s.chest.blocks / 256), (16, 16, s.chest.ckpt.isSome.toNat)]
  | .CHS_HARROW => [(63, 32, s.chest.copiedFrames / 262144)]
  | .CHS_MOUNT => [(1, 0, s.chest.mount.code), (2, 2, s.chest.unclean.toNat)]
  | .FUR_RSP_STATUS => [(31, 0, (rspRing s i).producer % 2 ^ 32)]
  | .SYN_WFG_STAT =>
    if y = s.ckp.primary then [(17, 0, (s.sync.waits.filter (fun w => w.code = cLOCK)).length), (63, 63, s.sync.rebuilding.toNat)] else [(63, 0, 0)]
  | _ => []

/-- The fields a register of a die shows of the state. -/
def shown (s : State) (r : Reg) (d : Die) (i : Nat) : List (Nat × Nat × Nat) :=
  match d with
  | .yoke y => showYok s r y i ++ showPwr s r i ++ showSec s r y i ++ showObs s r d i ++ showKlt s r y i ++ showShared s r y i
  | .acre a => showObs s r d i ++ showAcre s r a i

/-- Bits of the write-only fields of a register. -/
def woFields (r : Reg) : List (Nat × Nat × Nat) := (r.fields.filter (fun f => f.acc = .wo)).map (fun f => (f.hi, f.lo, 0))

/-- The value a read of a register's live entry gives: write-only fields read zero (R20). -/
def readReg (r : Reg) (d : Die) (i : Nat) (s : State) : Word := layAll (live s r d i) (shown s r d i ++ woFields r)

/-- What reading does: an RC field is cleared (R20). -/
def readClear (r : Reg) (d : Die) (i : Nat) (s : State) : State :=
  (r.fields.filter (fun f => f.acc = .rc)).foldl (fun s f => setLiveF r d i f.hi f.lo 0 s) s

end Sys2Proof.Machine
end

