-- ==== Sys2Proof/Machine/Commit.lean ====
section
/-!
DEFINITION. The commit of staged configuration: checks at step 1, the validation each die makes, the switch, and the fingerprint
(R47 to R59, R571 to R575, and the commit rules of the owning chapters).
-/
namespace Sys2Proof.Machine

/-! ## Blocks (R48, R574) -/

/-- The blocks the management plane owns: PWR, SEC, DBG, OBS (R48). -/
def mgmtBlock (n : Nat) : Bool := decide (2 ≤ n ∧ n ≤ 5)

/-- The plane of a requester: a management controller, or system firmware of the control plane. -/
def planeOf : Requester → Plane
  | .mgmt _ => .management
  | _ => .control

/-- The dies that implement a block (R574). -/
def blockDies (n : Nat) : List Die :=
  let ys := [Die.yoke .yw, .yoke .ye]
  let as := Acre.all.map Die.acre
  if n = 0 ∨ n = 1 ∨ n = 3 ∨ n = 4 ∨ n = 6 ∨ n = 7 ∨ n = 12 then ys
  else if n = 2 ∨ n = 5 ∨ n = 8 ∨ n = 11 ∨ n = 13 ∨ n = 17 then ys ++ as
  else if n < 18 then as
  else []

/-- The dies with a masked block, in code order. -/
def maskDies (mask : Nat) : List Die :=
  Die.all.filter (fun d => (List.range 18).any (fun n => mask.testBit n && (blockDies n).contains d))

/-! ## The switch of the registers (step 5 of R49) -/

/-- Keys of the staged registers of the masked blocks, without the index. -/
def stagedKeys (mask : Nat) : List Nat :=
  (Reg.all.filter (fun r => r.staged && mask.testBit r.block)).flatMap (fun r =>
    (Die.all.filter (regOn r)).map (fun d => regKey r d 0 / 2 ^ 32))

/-- The live values after the switch: every entry of a staged register of a masked block takes its shadow (R573). A profile once
VALID stays so (R97). -/
def switchRegs (mask : Nat) (s : State) : State :=
  let ks := (stagedKeys mask).eraseDups
  let keep := s.regs.live.filter (fun e => !ks.contains (e.1 / 2 ^ 32))
  let new := (s.regs.shadow.filter (fun e => ks.contains (e.1 / 2 ^ 32))).foldl (fun m e => NMap.put m e.1 e.2) keep
  let t := { s with regs := { s.regs with live := new } }
  Acre.all.foldl (fun t a => (List.range 16).foldl (fun t p =>
    if liveF s .TIER_PROF_GEOM (.acre a) p 38 38 = 1 then setLiveF .TIER_PROF_GEOM (.acre a) p 38 38 1 t else t) t) t

/-! ## Validation at a die (step 3 of R49) -/

/-- A 32-bit pattern is a finite FP32 number; and is not zero. -/
def finite32 (v : Nat) : Bool := bitsOf v 30 23 ≠ 255
def nonzero32 (v : Nat) : Bool := bitsOf v 30 0 ≠ 0

/-- A profile slot is in use: by a session, a prefix or an object record (R97). -/
def profUsed (s : State) (p : Nat) : Bool :=
  (sessions s).any (fun x => (desc s x).profile = p) || (NMap.vals s.tier.prefixes).any (fun x => x.profile = p) ||
  (NMap.vals s.tier.objs).any (fun o => o.kind = .stack && o.sstate != .free && o.profile = p) ||
  (NMap.vals s.chest.map).any (fun r => r.valid && r.kind = .stack && r.profile = p)

/-- Entries of an indexed register that pass. -/
def allEntries (s : State) (r : Reg) (d : Die) (f : Nat → Word → Bool) : Bool := (regEntries s r d).all (fun e => f e.1 e.2)

/-- A queue register: SIZE_LOG2 in range and BASE on 4 KiB. -/
def queueCfgOk (hi : Nat) (lo : Nat) (w : Word) : Bool :=
  decide (lo ≤ field w 52 48 ∧ field w 52 48 ≤ hi) && field w 11 0 = 0

/-- A bit of an entry goes from 0 to 1, or from 1 to 0, between two states. -/
def rises (s t : State) (r : Reg) (d : Die) (i b : Nat) : Bool := !bit (live s r d i) b && bit (live t r d i) b
def falls (s t : State) (r : Reg) (d : Die) (i b : Nat) : Bool := bit (live s r d i) b && !bit (live t r d i) b

/-- `lo ≤ v ≤ hi`. -/
def within (lo v hi : Nat) : Bool := decide (lo ≤ v ∧ v ≤ hi)

/-- What a Yoke finds in its masked blocks: each rule with the status of its failure, in block order. `s` is the state before, `t`
the state the switch would leave. -/
def yokeRules (s t : State) (y : Yoke) : List (Nat × Bool × Status) :=
  let d := Die.yoke y
  let f := fun (r : Reg) (hi lo : Nat) => liveF t r d 0 hi lo
  let q := fun (r : Reg) (i hi lo : Nat) => liveF t r d i hi lo
  [ (1, within 100 (f .YOK_PRIMACY_CTRL 15 0) 10000 && within 20 (f .YOK_PRIMACY_CTRL 31 16) 10000, .badFormat),
    (2, within 700 (f .PWR_CAP 10 0) 1050 && within (f .PWR_CAP 10 0) (f .PWR_CAP 21 11) 1250 && within 70 (f .PWR_CAP 29 22) 105 &&
        within 650 (f .PWR_CAP 39 30) 800 && within 1 (f .PWR_FALLOW_CTRL 15 0) 1000 && within 10 (f .PWR_FALLOW_CTRL 31 16) 60000, .badFormat),
    (3, decide (10 ≤ f .SEC_BIND_CTRL 15 0) && decide (10 ≤ f .SEC_MGMT_CTRL 31 16) && within 1 (f .SEC_MGMT_CTRL 35 32) 8, .badFormat),
    (5, within 1000 (f .OBS_CTRL 31 0) 60000000 && within 1 (f .OBS_CTRL 33 32) 3, .badFormat),
    (6, within 100 (f .KLT_CTRL 31 16) 60000 && within 2 (f .KLT_CTRL 35 32) 15 && decide (1 ≤ f .KLT_CTRL 59 52) &&
        within 1 (f .KLT_CTRL2 35 32) 15 && within 1 (f .KLT_CTRL2 58 52) 100 &&
        allEntries t .KLT_CC d (fun _ w => within 1 (field w 34 31) 10 && within 0 (field w 30 24) 100), .badFormat),
    (6, (NMap.vals s.klt.conns).all (fun c => c.st ≠ .open_ || !falls s t .KLT_PEER_CFG d c.entry 15), .busy),
    (7, (List.range 7).all (fun c => f .TSC_DRR (8 * c + 7) (8 * c) ≠ 0), .badFormat),
    (7, (List.range 8).all (fun c => f .TSC_QLEN (8 * c + 7) (8 * c) ≠ 0) &&
        decide ((List.range 8).foldl (fun n c => n + f .TSC_QLEN (8 * c + 7) (8 * c)) 0 ≤ 256), .badFormat),
    (7, (List.range 8).all (fun c => decide (q .TSC_SHP c 31 0 ≤ 50000 ∧ 4246 ≤ q .TSC_SHP c 55 32)), .badFormat),
    (7, within 100 (f .TSC_REFILL 15 0) 10000 && within 100 (f .TSC_REFILL 31 16) 60000, .badFormat),
    (7, f .TSC_GCL_CTRL 6 6 = 0 || (f .TSC_GCL_CTRL 38 7 ≠ 0 && decide (f .TSC_GCL_PHASE 31 0 < f .TSC_GCL_CTRL 38 7) &&
        (List.range (f .TSC_GCL_CTRL 5 0 + 1)).all (fun i => decide (100 ≤ q .TSC_GCL_ENTRY i 39 8))), .badFormat),
    (8, f .CKP_ROLE 1 0 ≠ 0, .badFormat),
    (8, let role := f .CKP_ROLE 1 0
        liveF s .CKP_ROLE d 0 1 0 = role || ((role = 1 || ((sessions s).isEmpty && s.tier.prefixes.isEmpty)) &&
          (role = 1 || role = 3 || s.gln.indexes.isEmpty)), .busy),
    (11, !s.ckp.leaving || (regEntries t .TIER_LEND_CFG d).all (fun e =>
        field e.2 49 26 = 0 || (NMap.get? s.tier.lend e.1).isSome || bit (live t .TIER_LEND_PEER d e.1) 15), .redirect),
    (12, within 1 (f .CHS_CTRL 7 0) 20 && within 1 (f .CHS_CTRL 15 8) 50 && decide (f .CHS_CTRL 23 16 < f .CHS_CTRL 15 8) &&
        within 10 (f .CHS_CTRL 47 32) 60000 && decide (1 ≤ f .CHS_CTRL 55 48), .badFormat),
    (13, allEntries t .FUR_RSP_CFG d (fun i w => within 12 (field w 28 24) 30 && (!bit w 29 ||
        ((live t .FUR_RSP_BASE d i).toNat % 4096 = 0 && (live t .FUR_RSP_PIADDR d i).toNat % 8 = 0))), .badFormat),
    (13, s.fur.rings.all (fun e => e.2.reserved = 0 || !falls s t .FUR_RSP_CFG d e.1 29), .busy) ]

/-- A definition may change from FREE to a kind or from a kind to FREE, alone (R345). -/
def synDefOk (o n : Word) : Bool :=
  let k := field n 2 0
  decide (k ≤ 4) && (if k = 4 then decide (1 ≤ field n 31 16) else field n 31 16 = 0) &&
    ((k ≠ 1 && k ≠ 4) || field n 63 32 = 0) && (o = n || field o 2 0 = 0 || k = 0)

/-- Objects of an Acre that a switch makes FREE. -/
def goingFree (s t : State) (a : Acre) : List Nat :=
  ((regEntries s .SYN_DEF (.acre a)).filter (fun e => field e.2 2 0 ≠ 0 && field (live t .SYN_DEF (.acre a) e.1) 2 0 = 0)).map
    (fun e => a.num * 2 ^ 14 + e.1)

/-- Something still names an object (R346). -/
def synInUse (s : State) (obj : Nat) : Bool :=
  s.sync.waits.any (fun w => w.obj = obj) || s.sync.watches.any (fun w => w.obj = obj) ||
  (sessions s).any (fun x => (desc s x).wakeObject && (desc s x).syncId = obj) ||
  (NMap.vals s.klt.pwqs).any (fun p => p.srcCctr = some obj || p.gateCctr = some obj) ||
  (synKind s obj = .lock && lstate (synWord s obj) ≠ 0)

/-- What an Acre finds in its masked blocks. -/
def acreRules (s t : State) (a : Acre) : List (Nat × Bool × Status) :=
  let d := Die.acre a
  let f := fun (r : Reg) (hi lo : Nat) => liveF t r d 0 hi lo
  let profs := (List.range 16).filter (fun p => liveF t .TIER_PROF_GEOM d p 38 38 = 1)
  let softOk := fun (p : Nat) => liveF t .TIER_PROF_VAR d p 1 1 = 0 ||
    (finite32 (liveF t .TIER_PROF_SCALE d p 63 32) && nonzero32 (liveF t .TIER_PROF_SCALE d p 63 32) &&
      !(liveF t .TIER_PROF_SCALE d p 63 32).testBit 31)
  let headsOk := fun (p : Nat) => liveF t .TIER_PROF_VAR d p 2 2 = 0 ||
    allEntries t .FUR_HSCALE d (fun i w => i % 16 ≠ p || let g := geomOfWord (live t .TIER_PROF_GEOM d p)
      decide (g.heads * g.qpk ≤ i / 16) || (finite32 (field w 31 0) && nonzero32 (field w 31 0)))
  let scaleOk := fun (p : Nat) => finite32 (liveF t .TIER_PROF_SCALE d p 31 0) && nonzero32 (liveF t .TIER_PROF_SCALE d p 31 0)
  [ (5, within 1000 (f .OBS_CTRL 31 0) 60000000 && within 1 (f .OBS_CTRL 33 32) 3 && decide (f .OBS_TRACE_CFG 4 0 ≤ 16) &&
        decide (f .OBS_TRACE_CFG 12 6 ≤ 100) && decide (f .OBS_TRACE_EXPORT 25 24 ≤ 2) && within 16 (f .OBS_TRACE_EXPORT 30 26) 30 &&
        f .OBS_TRACE_EXP_BASE 11 0 = 0, .badFormat),
    (8, within 1 (f .CKP_CTRL 34 28) 100, .badFormat),
    (9, within 64 (f .BUR_CTRL 15 0) 65535 && within 1 (f .BUR_CTRL 22 16) 100, .badFormat),
    (9, bit (live t .BUR_GUAR_CTRL d) 0 || contractsHold t a (sumW t a), .badFormat),
    (11, decide (f .TIER_NEAR_CTRL 15 0 < f .TIER_NEAR_CTRL 31 16 ∧ f .TIER_NEAR_CTRL 33 32 ≤ 2), .badFormat),
    (11, profs.all (fun p => (geomOfWord (live t .TIER_PROF_GEOM d p)).ok), .badFormat),
    (11, profs.all (fun p => !profUsed s p || (live s .TIER_PROF_GEOM d p = live t .TIER_PROF_GEOM d p &&
        live s .TIER_PROF_VAR d p = live t .TIER_PROF_VAR d p && live s .TIER_PROF_SCALE d p = live t .TIER_PROF_SCALE d p)), .busy),
    (11, profs.all (fun p => scaleOk p && softOk p && headsOk p), .badFormat),
    (11, decide ((regEntries t .TIER_PRIN_NEAR d).foldl (fun n e => n + field e.2 20 0 * 2 ^ 20) 0 * 10 ≤ s.tier.nearSize.get a * 9), .badFormat),
    (13, decide (f .FUR_CTRL 3 0 ≤ 11 ∧ f .FUR_CTRL 7 4 ≤ 8), .badFormat),
    (13, (s.tin.contracts.get a).isEmpty || (f .FUR_CTRL 3 0 ≠ 0 && contractsHold t a (sumW t a)), .badFormat),
    (13, allEntries t .FUR_ARQ_CFG d (fun _ w => queueCfgOk 28 16 w), .badFormat),
    (13, allEntries t .FUR_ARQ_CFG d (fun i _ => !rises s t .FUR_ARQ_CFG d i 53 || (arqOf s (64 * a.num + i)).batches.isEmpty), .busy),
    (13, profs.all headsOk, .badFormat),
    (14, allEntries t .GEN_TKQ_CFG d (fun _ w => queueCfgOk 24 12 w), .badFormat),
    (14, allEntries t .GEN_TKQ_CFG d (fun i _ => !rises s t .GEN_TKQ_CFG d i 53 || !(tkqOf s (64 * a.num + i)).holding), .busy),
    (15, within 1 (f .GLN_CTRL 6 0) 100, .badFormat),
    (15, allEntries t .GLN_SRQ_CFG d (fun _ w => queueCfgOk 28 16 w), .badFormat),
    (15, allEntries t .GLN_SRQ_CFG d (fun i _ => !rises s t .GLN_SRQ_CFG d i 53 || (srqOf s (16 * a.num + i)).batches.isEmpty), .busy),
    (15, allEntries t .GLN_FLT_ADDR d (fun i w => !bit w 48 || (field w 5 0 = 0 && within 1 (liveF t .GLN_FLT_RANGE d i 62 32) (2 ^ 30) &&
        decide (liveF t .GLN_FLT_RANGE d i 29 0 + liveF t .GLN_FLT_RANGE d i 62 32 ≤ 2 ^ 30))), .badFormat),
    (15, allEntries t .GLN_GRP_CFG d (fun g w => within 12 (field w 36 32) 24 && (!bit w 7 || (within 1 (field w 6 0) 64 &&
        liveF t .GLN_GRP_REPLY d g 11 0 = 0 && (List.range (field w 6 0)).all (fun m =>
          liveF t .GLN_GRP_MEM d (g + 256 * m) 22 15 = liveF t .GLN_GRP_MEM d g 22 15)))), .badFormat),
    (16, within 1 (f .TIN_CTRL 10 1) 1000, .badFormat),
    (17, ((regEntries t .SYN_DEF d).all (fun e => synDefOk (live s .SYN_DEF d e.1) e.2)), .badFormat),
    (17, (goingFree s t a).all (fun o => !synInUse s o), .busy) ]

/-- Registers that dies must hold alike: block, register, dies. -/
def equalRegs : List (Nat × Reg × List Die) :=
  let ys := [Die.yoke .yw, .yoke .ye]
  let as := Acre.all.map Die.acre
  [.BUR_CTRL].map (fun r => (9, r, as)) ++
  [.TIER_PROF_GEOM, .TIER_PROF_VAR, .TIER_PROF_SCALE].map (fun r => (11, r, as)) ++
  [.FUR_HSCALE].map (fun r => (13, r, as)) ++
  [.KLT_CTRL, .KLT_CTRL2, .KLT_DSCP, .KLT_CC, .KLT_LOCAL_IP_HI, .KLT_LOCAL_IP_LO, .KLT_PEER_CFG, .KLT_PEER_IP_HI, .KLT_PEER_IP_LO].map
    (fun r => (6, r, ys)) ++
  [.TSC_DRR, .TSC_QLEN, .TSC_SHP, .TSC_REFILL, .TSC_GCL_CTRL, .TSC_GCL_BASE, .TSC_GCL_PHASE, .TSC_GCL_ENTRY, .TSC_TIME_CTRL, .TSC_PTP_CTRL].map
    (fun r => (7, r, ys)) ++
  [.TIER_LEND_CFG, .TIER_LEND_PEER, .TIER_BORROW_CFG].map (fun r => (11, r, ys)) ++
  [.FUR_RSP_CFG, .FUR_RSP_BASE, .FUR_RSP_PIADDR, .FUR_RSP_KEY].map (fun r => (13, r, ys))

/-- Every die that must hold a masked register alike does; GLN_CTRL.FIELD_PCT and KLT_FIELD_PCT sum to at most 100 (R382). -/
def crossRules (mask : Nat) (t : State) (d : Die) : List (Nat × Bool × Status) :=
  ((equalRegs.filter (fun e => mask.testBit e.1 && e.2.2.contains d)).map (fun e =>
    (e.1, e.2.2.all (fun x => regEntries t e.2.1 x = regEntries t e.2.1 d), Status.badFormat))) ++
  (match d with
   | .acre a => [(15, decide (liveF t .GLN_CTRL (.acre a) 0 6 0 + primF t .KLT_CTRL2 0 58 52 ≤ 100), .badFormat)]
   | .yoke _ => [(6, Acre.all.all (fun a => decide (liveF t .GLN_CTRL (.acre a) 0 6 0 + primF t .KLT_CTRL2 0 58 52 ≤ 100)), .badFormat)])

/-- The FAIL of a die: the first rule of its masked blocks that its set breaks; `none`: READY. -/
def dieFail (mask : Nat) (s t : State) (d : Die) : Option Status :=
  let own := match d with
    | .yoke y => yokeRules s t y
    | .acre a => acreRules s t a
  ((own ++ crossRules mask t d).find? (fun r => mask.testBit r.1 && !r.2.1)).map (fun r => r.2.2)

/-- The failing die with the lowest code among dies that answer (step 4 of R49). -/
def commitFail (mask : Nat) (dies : List Die) (s : State) : Option (Die × Status) :=
  let t := switchRegs mask s
  dies.findSome? (fun d => (dieFail mask s t d).map (fun st => (d, st)))

/-! ## What the switch does beside the registers -/

/-- A queue whose ENABLE rises starts afresh (R178, R228, R261). -/
def ringsAfresh (s t : State) : State :=
  let t := Acre.all.foldl (fun t a =>
    let d := Die.acre a
    let up := fun (r : Reg) => ((regEntries t r d).filter (fun e => rises s t r d e.1 53)).map (fun e => e.1)
    let t := (up .FUR_ARQ_CFG).foldl (fun t i =>
      writeCi a (arqCfg t (64 * a.num + i)) 0 (setLiveF .FUR_ARQ_STATUS d i 40 40 0 (putArq (64 * a.num + i) .empty t))) t
    let t := (up .GEN_TKQ_CFG).foldl (fun t i =>
      writeCi a (tkqCfg t (64 * a.num + i)) 0 (setLiveF .GEN_TKQ_STATUS d i 40 40 0 (putTkq (64 * a.num + i) .empty t))) t
    (up .GLN_SRQ_CFG).foldl (fun t i =>
      writeCi a (srqCfg t (16 * a.num + i)) 0 (setLiveF .GLN_SRQ_STATUS d i 40 40 0 (putSrq (16 * a.num + i) .empty t))) t) t
  let y := Die.yoke t.ckp.primary
  ((regEntries t .FUR_RSP_CFG y).filter (fun e => rises s t .FUR_RSP_CFG y e.1 29)).foldl (fun t e => putRing e.1 .empty t) t

/-- An object that comes to be or goes takes its initial word, or 0 (R345). -/
def synWords (s t : State) : State :=
  Acre.all.foldl (fun t a =>
    let d := Die.acre a
    let is := ((regEntries s .SYN_DEF d).map (fun e => e.1) ++ (regEntries t .SYN_DEF d).map (fun e => e.1)).eraseDups
    is.foldl (fun t i =>
      let o := field (live s .SYN_DEF d i) 2 0
      let n := live t .SYN_DEF d i
      if (o = 0) = (field n 2 0 = 0) then t
      else setSynWord (a.num * 2 ^ 14 + i) (if field n 2 0 = 0 then 0 else BitVec.ofNat 64 (field n 2 0 * 2 ^ 61 + field n 63 32)) t) t) t

/-- A run of frames is free in an Acre's Field. -/
def runFree (s : State) (a : Acre) (f n : Nat) : Bool := (s.tier.fldFree.get a).any (fun r => decide (r.1 ≤ f ∧ f + n ≤ r.1 + r.2))

/-- Lend windows (R130, R132): an entry named with plots and FREE withdraws them; REVOKE revokes an ACTIVE window; an entry emptied
before it became ACTIVE returns its plots. -/
def lendSwitch (s : State) : State :=
  let d := Die.yoke s.ckp.primary
  (List.range 256).foldl (fun s w =>
    let c := live s .TIER_LEND_CFG d w
    let p := live s .TIER_LEND_PEER d w
    let a := Acre.ofNum (field c 1 0)
    let base := field c 25 2
    let plots := field c 49 26
    match NMap.get? s.tier.lend w with
    | none =>
      if plots = 0 || bit p 15 || !runFree s a (base * 16) (plots * 16) then s
      else { s with tier := { s.tier with
        fldFree := s.tier.fldFree.set a (cutRun (base * 16) (plots * 16) (s.tier.fldFree.get a)),
        lend := NMap.put s.tier.lend w ⟨.free, a, base, plots, field p 14 0, none⟩ } }
    | some x =>
      if bit p 15 && x.st = .active then revokeWindow w s
      else if x.st = .free && (plots = 0 || bit p 15) then
        giveField x.acre (x.basePlot * 16) (x.plots * 16) { s with tier := { s.tier with lend := NMap.erase s.tier.lend w } }
      else s) s

/-- Borrow entries (R130, R132): an entry with plots becomes ACTIVE; DRAIN starts draining; an entry without plots is FREE once nothing
is homed there. -/
def borrowSwitch (s : State) : State :=
  let d := Die.yoke s.ckp.primary
  (List.range 1024).foldl (fun s b =>
    let c := live s .TIER_BORROW_CFG d b
    let plots := field c 46 23
    let fresh : BorrowEntry := ⟨.active, field c 14 0, field c 22 15, plots, [(0, plots)], false⟩
    let put := fun (e : BorrowEntry) (s : State) => { s with tier := { s.tier with borrow := NMap.put s.tier.borrow b e } }
    match NMap.get? s.tier.borrow b with
    | none => if plots = 0 || bit c 47 then s else put fresh s
    | some e =>
      if plots = 0 && (windowHomes s b).isEmpty then { s with tier := { s.tier with borrow := NMap.erase s.tier.borrow b } }
      else if bit c 47 && e.st = .active then drainWindow b (put { e with st := .draining } s)
      else if !bit c 47 && e.st = .empty && plots ≠ 0 then put fresh s
      else s) s

/-- PTP follows TSC_PTP_CTRL.EN (R415). -/
def ptpSwitch (s : State) : State :=
  if ptpOn s then (if s.tsc.ptp.st = .disabled then setPtp (fun u => { u with st := .listening }) s else s)
  else setPtp (fun u => { u with st := .disabled, locked := false, good := 0, half := none, delayReq := none, foreign := [] }) s

/-- Steps 5 and 6 of R49: every masked block of every die switches, and LIVE_GEN is the generation. -/
def commitApply (gen mask : Nat) (s : State) : State :=
  let s := if mask.testBit 7 then shaperHold s else s
  let t := switchRegs mask s
  let t := ringsAfresh s t
  let t := if mask.testBit 17 then synWords s t else t
  let t := if mask.testBit 11 then borrowSwitch (lendSwitch t) else t
  let t := if mask.testBit 7 then ptpSwitch (Yoke.all.foldl (fun t y => gclSwitch (ktbOf t (.yoke y)) y t) t) else t
  let t := if mask.testBit 15 then Acre.all.foldl (fun t a => glnDispatch a t) t else t
  let t := if mask.testBit 5 then Acre.all.foldl (fun t a => traceDrain a t) t else t
  certUpdate (driftCheck { t with cfg := { t.cfg with liveGen := BitVec.ofNat 16 gen, fpValid := false } })

/-! ## The commit (R49 to R52) -/

/-- The refusal of step 1, if any: BUSY, GEN and mask, plane, primacy; then the apply time of a scheduled commit (R51). -/
def commitCheck (y : Yoke) (p : Plane) (gen mask : Nat) (at_ : Option Nat) (s : State) : Option Status :=
  if s.cfg.pendingC.isSome then some .busy
  else if gen % 65536 ≠ (s.cfg.liveGen.toNat + 1) % 65536 ∨ 2 ^ 18 ≤ mask then some .badFormat
  else if (List.range 18).any (fun n => mask.testBit n && mgmtBlock n != (p == Plane.management)) then some .access
  else if y ≠ s.ckp.primary ∨ (s.ckp.yokes.get y).issuing = false then some .primacy
  else match at_ with
    | none => none
    | some t =>
      if t < ktb s + 10000 then some .timeout
      else if ktb s + 3600000000000 < t then some .badFormat
      else none

/-- FAIL_DIE. -/
def setFailDie (d : Die) (s : State) : State := setLiveF .CFG_RESULT (.yoke s.ckp.primary) 0 35 32 d.code s

/-- The commit whose dies have all answered ends, applies or stays pending (step 4). -/
def commitDecide (s : State) : State :=
  match s.cfg.pendingC with
  | none => s
  | some c =>
    match c.failed with
    | some (d, st) => commitEnd st (setFailDie d s)
    | none =>
      if c.scheduled then s
      else commitEnd .ok (commitApply c.gen c.mask s)

/-- Steps 1 to 4 of a commit written at a Yoke; `silent`: dies that do not answer PREPARE. -/
def commitStart (y : Yoke) (p : Plane) (gen mask tag : Nat) (at_ : Option Nat) (silent : List Nat) (cmd : Option (Nat × Nat))
    (req : Option MgmtReq) (s : State) : State :=
  let c : PendingCommit := { gen := gen, mask := mask, applyAt := at_.getD (ktb s + 5000), plane := p, tag := tag, scheduled := at_.isSome,
                             sentAt := ktb s, silent := [], failed := none, cmd := cmd, req := req }
  match commitCheck y p gen mask at_ s with
  | some st => commitTell c st (commitResult p tag st s)
  | none =>
    let dies := maskDies mask
    let mute := dies.filter (fun d => silent.contains d.code)
    let heard := dies.filter (fun d => !silent.contains d.code)
    let t := switchRegs mask s
    let closing := if mask.testBit 17 then Acre.all.flatMap (fun a => if heard.contains (.acre a) then goingFree s t a else []) else []
    let s := { s with cfg := { s.cfg with pendingC := some { c with silent := mute, failed := commitFail mask heard s } },
                      sync := { s.sync with closing := closing } }
    if mute.isEmpty then commitDecide s else s

/-- 3 µs after PREPARE the primary Yoke decides without the dies that are silent (step 4). -/
def commitTimeout (s : State) : State :=
  match s.cfg.pendingC with
  | none => s
  | some c =>
    if c.silent.isEmpty || decide (ktb s < c.sentAt + 3000) then s
    else match c.failed with
      | some (d, st) => commitEnd st (setFailDie d s)
      | none => match c.silent with
        | d :: _ => commitEnd .timeout (setFailDie d s)
        | [] => s

/-- The cancel of R52: its status, and the state. -/
def commitCancel (p : Plane) (gen tag : Nat) (s : State) : Status × State :=
  let st := match s.cfg.pendingC with
    | some c =>
      if c.gen % 65536 = gen % 65536 then
        (if c.plane ≠ p then Status.access else if ktb s + 5000 ≤ c.applyAt then .ok else .abortLate)
      else if s.cfg.liveGen.toNat = gen % 65536 then .abortLate
      else .badFormat
    | none => if s.cfg.liveGen.toNat = gen % 65536 then .abortLate else .badFormat
  let s := if st = .ok then commitEnd .aborted s else s
  (st, commitResult p tag st s)

/-! ## Fingerprint (R55, R56, R575) -/

/-- An index exists for a register on a die: a principal the Acre keeps (R86), a class of KLT_CC, a filter from 1 on. -/
def idxOk (r : Reg) (d : Die) (i : Nat) : Bool :=
  match r, d with
  | .BUR_PRIN_LIMIT, .acre a => prinAcre i == a
  | .BUR_PRIN_USE, .acre a => prinAcre i == a
  | .KLT_CC, _ => decide (i < 7)
  | .GLN_FLT_ADDR, _ => decide (1 ≤ i)
  | .GLN_FLT_RANGE, _ => decide (1 ≤ i)
  | _, _ => true

/-- The fields of R575 that stay out of the fingerprint though their register enters it. -/
def fpField (r : Reg) (name : String) : Bool :=
  match r with
  | .FUR_ARQ_CFG => name != "BASE"
  | .GEN_TKQ_CFG => name != "BASE"
  | .GLN_SRQ_CFG => name != "BASE"
  | .GLN_FLT_ADDR => name != "ADDR"
  | .FUR_RSP_CFG => name != "CONN"
  | .OBS_TRACE_EXPORT => name != "CONN"
  | .OBS_TRACE_EXP_BASE => false
  | .OBS_TRACE_EXP_KEY => false
  | .FUR_RSP_KEY => false
  | .TSC_PTP_CTRL => name != "MASTER_OK" && name != "PRIORITY1" && name != "PRIORITY2"
  | _ => name != "rsvd"

/-- A value as the message holds it: rsvd bits and per-device fields zero. -/
def fpValue (r : Reg) (w : Word) : Nat :=
  (r.fields.filter (fun f => f.name != "rsvd" && fpField r f.name)).foldl (fun n f => n + field w f.hi f.lo * 2 ^ f.lo) 0

/-- Insert by offset. -/
def regInsert (r : Reg) : List Reg → List Reg
  | [] => [r]
  | x :: l => if r.offset < x.offset then r :: x :: l else x :: regInsert r l

/-- The registers of a block on a die that enter the fingerprint, by address (R55, R575). -/
def fpRegs (d : Die) (n : Nat) : List Reg :=
  (Reg.all.filter (fun r => r.staged && !r.perDevice && r.block = n && n ≠ 0 && regOn r d)).foldl (fun l r => regInsert r l) []

/-- The 40-bit control address of a register's shadow view (R571). -/
def regAddr (r : Reg) (d : Die) : Nat := d.code * 2 ^ 36 + r.block * 2 ^ 28 + r.offset

/-- The records of a register. -/
def fpRecords (s : State) (r : Reg) (d : Die) : List (List Byte) :=
  let is := if r.sel.isSome then (List.range (r.indexMask + 1)).filter (idxOk r d) else [0]
  is.map (fun i => leBytes 5 (regAddr r d) ++ leBytes 3 i ++ leBytes 8 (fpValue r (live s r d i)))

/-- ASCII "KORNEROTH CFG FP". -/
def fpMagic : List Byte := [0x4B, 0x4F, 0x52, 0x4E, 0x45, 0x52, 0x4F, 0x54, 0x48, 0x20, 0x43, 0x46, 0x47, 0x20, 0x46, 0x50]

/-- The message of R55. -/
def fpMessage (s : State) : List Byte :=
  let rs := Die.all.flatMap (fun d => (List.range 18).flatMap (fun n => (fpRegs d n).flatMap (fun r => fpRecords s r d)))
  fpMagic ++ [0x01] ++ List.replicate 7 0 ++ rs.flatten ++ leBytes 8 rs.length

/-- CFG_FP equals CFG_DOMAIN_FP. -/
def domainMatches (s : State) : Bool :=
  let w := fun (r : Reg) => (live s r (.yoke s.ckp.primary)).toNat
  [w .CFG_DOMAIN_FP_0, w .CFG_DOMAIN_FP_1, w .CFG_DOMAIN_FP_2, w .CFG_DOMAIN_FP_3, w .CFG_DOMAIN_FP_4, w .CFG_DOMAIN_FP_5] ==
    (List.range 6).map (digestWord s.cfg.fp)

/-- The state of R58 once the fingerprint is valid. -/
def domainState (s : State) : DomainState :=
  if primF s .CFG_DOMAIN 0 15 0 = 0 then .none
  else if domainMatches s then .joined
  else if primF s .CFG_DOMAIN 0 24 24 = 1 then .refused
  else .joinedMismatch

/-- The fingerprint of LIVE_GEN is computed, and the device joins or refuses its domain (R56, R58). -/
def fingerprint (s : State) : State :=
  let s := { s with cfg := { s.cfg with fp := Config.sha384 (fpMessage s), fpValid := true } }
  { s with cfg := { s.cfg with domain := domainState s } }

end Sys2Proof.Machine
end

