-- ==== Sys2Proof/Machine/PowerOps.lean ====
section
/-!
DEFINITION. The reset kinds and what each keeps (R524, R525), and the Fallow agreement: its entry checks, its commit point, its end
and the wake (R533 to R540).
-/
namespace Sys2Proof.Machine

def setPower (f : PowerState → PowerState) (s : State) : State := { s with power := f s.power }

/-! ## What a reset keeps (R524) -/

/-- What lies in fuses, secure store and SPI flash. -/
def keptSec (x : SecState) : SecState :=
  { SecState.reset with
    epoch := x.epoch, era := x.era, curGen := x.curGen, localMode := x.localMode, certified := x.certified, tenantId := x.tenantId,
    tenantRoot := x.tenantRoot, imageKey := x.imageKey, consentKey := x.consentKey, keys := x.keys, ten := x.ten,
    storeCopies := x.storeCopies, records := x.records, lcA := x.lcA, lcB := x.lcB, lcPending := x.lcPending, dus := x.dus,
    creds := x.creds, fuses := x.fuses, flash := x.flash, bootSlot := x.bootSlot }

/-- A drive's media; the controller's side is gone (R135, R160). -/
def mediaOf (d : Drive) : Drive := { d with st := .absent, cmds := [], failedResets := [], rejoining := false }

/-- The Chest's media, the sealed frames on it, and its anchor in the secure store. -/
def keptChest (c : ChestState) : ChestState :=
  { ChestState.reset with drives := NMap.mapV c.drives (fun _ d => mediaOf d), content := c.content, anchor := c.anchor, anchorRecs := c.anchorRecs }

/-- Checkpoints: the anchor, what the manifests hold, and the handover sequence reserved in the store (R473, R476). -/
def keptCkp (c : CkptState) : CkptState :=
  { CkptState.reset with anchor := c.anchor, anchorRecs := c.anchorRecs, manifests := c.manifests, handSeq := c.handHigh, handHigh := c.handHigh }

/-- Live registers a SYSTEM reset keeps: staged registers of the blocks the management plane owns, RWS fields, and the discipline of
KTB (R20, R48, R524). -/
def keptRegs : List Reg :=
  Reg.all.filter (fun r => (r.staged && mgmtBlock r.block) || r.fields.any (fun f => f.acc = .rws) || r == .YOK_KTB_FREQ)

/-- Their values. -/
def keptLive (m : NMap Word) : NMap Word :=
  let ks := keptRegs.flatMap (fun r => (Die.all.filter (regOn r)).map (fun d => regKey r d 0 / 2 ^ 32))
  m.filter (fun e => ks.contains (e.1 / 2 ^ 32))

/-- Management sessions outlive a SYSTEM reset; exchanges half done and lockouts do not. -/
def keptPort (p : MgmtPort) : MgmtPort := { MgmtPort.reset with sessions := p.sessions, next := p.next }

/-- The state POWER_ON starts from: everything at its reset value but fuses, secure store, SPI flash and Chest media. -/
def powerOn (s : State) : State :=
  { State.reset with
    freeCtr := s.freeCtr, pending := s.pending, out := s.out, sec := keptSec s.sec, chest := keptChest s.chest, ckp := keptCkp s.ckp }

/-- Counters of a die start afresh under the period in force. -/
def freshObs (period : Nat) (now : Nat) : ObsDie :=
  { ObsDie.reset with period := period, due := if period = 0 then 0 else (now / (period * 1000) + 1) * (period * 1000) }

/-- A SYSTEM reset (R524): the planes and the system Tines stop, everything not kept returns to its reset value, and Stage 1 begins. -/
def systemReset (cause : ResetCause) (s : State) : State :=
  let p := s.power
  let live := keptLive s.regs.live
  let t : State := { powerOn s with
    time := s.time
    regs := { live := live, shadow := [] }
    cfg := { CfgState.reset with liveGen := s.cfg.liveGen } }
  let per := fun (d : Die) => freshObs (liveF t .OBS_CTRL d 0 31 0) (ktbOf t d)
  { t with
    sec := { t.sec with selfPass := s.sec.selfPass, entropyOk := s.sec.entropyOk, failedTest := s.sec.failedTest, meas4 := s.sec.meas4,
                        mgmt := s.sec.mgmt.map keptPort }
    power := { PowerState.reset with
      pwrgood := p.pwrgood, haltInLow := p.haltInLow, primaryPref := p.primaryPref, hostSel := p.hostSel, stage := .s1,
      stageAt := ktb t, stage1At := ktb t, cause := cause, stageMs0 := p.stageMs0, energyUj := p.energyUj, win10 := (ktb t, p.energyUj),
      win1 := (ktb t, p.energyUj), thermtrip := p.thermtrip }
    obs := { ObsState.reset with
      energyMark := p.energyUj, energyAt := ktb t / 10000 * 10000,
      dies := ⟨⟨per (.yoke .yw), per (.yoke .ye)⟩, perAcre (fun a => per (.acre a))⟩ } }

/-- A MGMT reset of one Yoke's management controller: its sessions and lockout counts go (R524). -/
def mgmtReset (y : Yoke) (s : State) : State := putPortM y { MgmtPort.reset with next := (portM s y).next } s

/-! ## Fallow: the entry (R533, R534) -/

/-- Times ahead that the device has promised to act at: deadlines armed, program timers and timeouts, the AT of a scheduled commit and
of a pending epoch (R533, R539). -/
def promised (s : State) : List Nat :=
  let deadlines := (sessions s).filterMap (fun x =>
    let d := desc s x
    if (d.state.parked || d.state = .dormant) && d.wakeDeadline && d.deadline ≠ 0 then some d.deadline else none)
  let timers := s.tin.asyncs.filterMap (fun o => match o.kind with
    | .timer t => if o.ended then none else some t
    | _ => none)
  let waits := s.sync.waits.filterMap (fun w => w.timeout)
  let commit := match s.cfg.pendingC with
    | some c => if c.scheduled then [c.applyAt] else []
    | none => []
  let epoch := match s.ckp.epochSt, s.ckp.epoch with
    | .pending, some e => [e.at_]
    | _, _ => []
  deadlines ++ timers ++ waits ++ commit ++ epoch

/-- T_e, if there is one. -/
def earliest (s : State) : Option Nat :=
  match promised s with
  | [] => none
  | t :: ts => some (ts.foldl min t)

/-- A batch is in flight in an ARQ, TKQ, SRQ or PWQ. -/
def batchInFlight (s : State) : Bool :=
  (NMap.vals s.fur.arqs).any (fun q => q.batches.any (fun b => !b.answered) || (q.err.isNone && q.take < q.pi)) ||
  (NMap.vals s.gen.tkqs).any (fun q => q.holding || (q.err.isNone && q.take < q.pi)) ||
  (NMap.vals s.gln.srqs).any (fun q => !q.batches.isEmpty || (q.err.isNone && q.take < q.pi)) ||
  (NMap.vals s.klt.pwqs).any (fun q => !q.inflight.isEmpty || (q.err.isNone && q.start < q.pi))

/-- The conditions of R533. -/
def fallowIdle (s : State) : Bool :=
  s.power.fallow.mode = .active && (s.sec.tenancy = .unassigned || s.sec.tenancy = .bound) &&
  (sessions s).all (fun x => let d := desc s x; !d.state.live && d.state != .migrating && !d.wakeQueued) &&
  !batchInFlight s && (NMap.vals s.gln.indexes).all (fun x => x.st != .compacting) &&
  (NMap.vals s.tin.tines).all (fun c => c.system) && !epochRuns s && s.cfg.pendingC.isNone &&
  (NMap.vals s.tier.lend).all (fun w => w.st = .free) &&
  (match earliest s with
   | none => true
   | some t => decide (ktb s + primF s .PWR_FALLOW_CTRL 0 31 16 * 1000000 ≤ t))

/-- The valid neighbours. -/
def neighboursOf (s : State) : List Nat :=
  (List.range 32).filter (fun n => bit (live s .PWR_FALLOW_NB_CFG (.yoke s.ckp.primary) n) 42)

/-- ENTER (R533, R534 step 1): ST_BUSY, or PREPARING and a PROPOSE to every neighbour. -/
def fallowEnter (s : State) : State :=
  let f := s.power.fallow
  if !fallowIdle s then setFallow { f with lastStatus := Status.busy.code } s
  else
    let hint := ktb s + primF s .PWR_FALLOW_CTRL 0 15 0 * 1000000
    let s := setFallow { f with
      mode := .preparing, round := (f.round + 1) % 2 ^ 32, hint := hint, quiesced := false, deferred := 0, entering := true,
      neighbours := NMap.mapV f.neighbours (fun _ n => { n with answered := false, accepted := false }) } s
    fallowSendAll 1 hint s

/-- Every neighbour has accepted. -/
def allAccepted (s : State) : Bool := (neighboursOf s).all (fun n => (NMap.get .empty s.power.fallow.neighbours n).accepted)

/-- T_wake (R538). -/
def tWake : Nat := 2000000

/-- The commit point, once step 2 is done and every answer is ACCEPT (R534 steps 4 and 5, R539). -/
def fallowTry (s : State) : State :=
  if s.power.fallow.mode = .preparing && s.power.fallow.quiesced && allAccepted s then
    let s := fallowSendAll 5 0 s
    setFallow { s.power.fallow with
      mode := .fallow, lastStatus := Status.ok.code, entering := false, commitAt := some (ktb s),
      selfWake := (earliest s).map (fun t => t - tWake), wakeAt := none } s
  else s

/-- A write to PWR_FALLOW_CMD: 1 ENTER, 2 WAKE, 3 CANCEL (R533, R536). -/
def fallowCmd (op : Nat) (s : State) : State :=
  match op with
  | 1 => fallowEnter s
  | 2 => startWake (cancelAgreement s)
  | 3 => cancelAgreement s
  | _ => s

/-- Change what is known of a neighbour. -/
def setNeighbour (n : Nat) (f : Neighbour → Neighbour) (s : State) : State :=
  let x := s.power.fallow
  setFallow { x with neighbours := NMap.put x.neighbours n (f (NMap.get .empty x.neighbours n)) } s

/-- The wake is done (R537, R538 steps 2 and 3). -/
def wakeDone (s : State) : State :=
  let f := s.power.fallow
  let s := { s with klt := { s.klt with conns := NMap.mapV s.klt.conns (fun _ c => { c with msnW := c.msnHigh }) } }
  let s := setFallow { f with mode := .active, lastWakeNs := ktb s - f.wakeAt.getD (ktb s), wakeAt := none, selfWake := none, commitAt := none,
                              quiesced := false } s
  fallowSendAll 6 0 s

end Sys2Proof.Machine
end

