-- ==== Sys2Proof/Machine/Sync.lean ====
section
/-!
DEFINITION. The commands on synchronisation objects: `signal` and `wait` codes, time-outs, the wait-for search and its
failures, and system firmware's operations (chapter 11).
-/
namespace Sys2Proof.Machine

/-- SIGNAL_READ (R349, R351). -/
def execSignalRead (t : Nat) (rd rs1 rs2 rs3 : BitVec 6) (mbz : BitVec 21) (s : State) : Host.Outcome State Fault Refusal := running s <|
  okSettle (tineSignal t cREAD rd rs1 rs2 rs3 mbz s)

/-- SIGNAL_GE (R349, R351). -/
def execSignalGe (t : Nat) (rd rs1 rs2 rs3 : BitVec 6) (mbz : BitVec 21) (s : State) : Host.Outcome State Fault Refusal := running s <|
  okSettle (tineSignal t cGE rd rs1 rs2 rs3 mbz s)

/-- SIGNAL_NE (R349, R351). -/
def execSignalNe (t : Nat) (rd rs1 rs2 rs3 : BitVec 6) (mbz : BitVec 21) (s : State) : Host.Outcome State Fault Refusal := running s <|
  okSettle (tineSignal t cNE rd rs1 rs2 rs3 mbz s)

/-- SIGNAL_PHASE (R349, R351). -/
def execSignalPhase (t : Nat) (rd rs1 rs2 rs3 : BitVec 6) (mbz : BitVec 21) (s : State) : Host.Outcome State Fault Refusal := running s <|
  okSettle (tineSignal t cPHASE rd rs1 rs2 rs3 mbz s)

/-- SIGNAL_FREE (R349, R351). -/
def execSignalFree (t : Nat) (rd rs1 rs2 rs3 : BitVec 6) (mbz : BitVec 21) (s : State) : Host.Outcome State Fault Refusal := running s <|
  okSettle (tineSignal t cFREE rd rs1 rs2 rs3 mbz s)

/-- SIGNAL_LOCK (R349, R351). -/
def execSignalLock (t : Nat) (rd rs1 rs2 rs3 : BitVec 6) (mbz : BitVec 21) (s : State) : Host.Outcome State Fault Refusal := running s <|
  okSettle (tineSignal t cLOCK rd rs1 rs2 rs3 mbz s)

/-- SIGNAL_P (R349, R351). -/
def execSignalP (t : Nat) (rd rs1 rs2 rs3 : BitVec 6) (mbz : BitVec 21) (s : State) : Host.Outcome State Fault Refusal := running s <|
  okSettle (tineSignal t cP rd rs1 rs2 rs3 mbz s)

/-- SIGNAL_ARRIVE (R349, R351). -/
def execSignalArrive (t : Nat) (rd rs1 rs2 rs3 : BitVec 6) (mbz : BitVec 21) (s : State) : Host.Outcome State Fault Refusal := running s <|
  okSettle (tineSignal t cARRIVE rd rs1 rs2 rs3 mbz s)

/-- UNLOCK (R349, R351). -/
def execUnlock (t : Nat) (rd rs1 rs2 rs3 : BitVec 6) (mbz : BitVec 21) (s : State) : Host.Outcome State Fault Refusal := running s <|
  okSettle (tineSignal t cUNLOCK rd rs1 rs2 rs3 mbz s)

/-- SIGNAL_V (R349, R351). -/
def execSignalV (t : Nat) (rd rs1 rs2 rs3 : BitVec 6) (mbz : BitVec 21) (s : State) : Host.Outcome State Fault Refusal := running s <|
  okSettle (tineSignal t cV rd rs1 rs2 rs3 mbz s)

/-- SIGNAL_ADD (R349, R351). -/
def execSignalAdd (t : Nat) (rd rs1 rs2 rs3 : BitVec 6) (mbz : BitVec 21) (s : State) : Host.Outcome State Fault Refusal := running s <|
  okSettle (tineSignal t cADD rd rs1 rs2 rs3 mbz s)

/-- ARM_GE (R356, R357). -/
def execArmGe (t : Nat) (rd rs1 rs2 rs3 : BitVec 6) (mbz : BitVec 21) (s : State) : Host.Outcome State Fault Refusal := running s <|
  okSettle (tineArm t cARMGE rd rs1 rs2 rs3 mbz s)

/-- ARM_NE (R356, R357). -/
def execArmNe (t : Nat) (rd rs1 rs2 rs3 : BitVec 6) (mbz : BitVec 21) (s : State) : Host.Outcome State Fault Refusal := running s <|
  okSettle (tineArm t cARMNE rd rs1 rs2 rs3 mbz s)

/-- ARM_PHASE (R356, R357). -/
def execArmPhase (t : Nat) (rd rs1 rs2 rs3 : BitVec 6) (mbz : BitVec 21) (s : State) : Host.Outcome State Fault Refusal := running s <|
  okSettle (tineArm t cARMPHASE rd rs1 rs2 rs3 mbz s)

/-- ARM_FREE (R356, R357). -/
def execArmFree (t : Nat) (rd rs1 rs2 rs3 : BitVec 6) (mbz : BitVec 21) (s : State) : Host.Outcome State Fault Refusal := running s <|
  okSettle (tineArm t cARMFREE rd rs1 rs2 rs3 mbz s)

/-- WAIT_GE (R349, R351, R352). -/
def execWaitGe (t : Nat) (rd rs1 rs2 rs3 : BitVec 6) (mbz : BitVec 21) (s : State) : Host.Outcome State Fault Refusal := running s <|
  okSettle (tineWait t cGE rd rs1 rs2 rs3 mbz s)

/-- WAIT_NE (R349, R351, R352). -/
def execWaitNe (t : Nat) (rd rs1 rs2 rs3 : BitVec 6) (mbz : BitVec 21) (s : State) : Host.Outcome State Fault Refusal := running s <|
  okSettle (tineWait t cNE rd rs1 rs2 rs3 mbz s)

/-- WAIT_PHASE (R349, R351, R352). -/
def execWaitPhase (t : Nat) (rd rs1 rs2 rs3 : BitVec 6) (mbz : BitVec 21) (s : State) : Host.Outcome State Fault Refusal := running s <|
  okSettle (tineWait t cPHASE rd rs1 rs2 rs3 mbz s)

/-- WAIT_FREE (R349, R351, R352). -/
def execWaitFree (t : Nat) (rd rs1 rs2 rs3 : BitVec 6) (mbz : BitVec 21) (s : State) : Host.Outcome State Fault Refusal := running s <|
  okSettle (tineWait t cFREE rd rs1 rs2 rs3 mbz s)

/-- WAIT_LOCK (R349, R351, R352). -/
def execWaitLock (t : Nat) (rd rs1 rs2 rs3 : BitVec 6) (mbz : BitVec 21) (s : State) : Host.Outcome State Fault Refusal := running s <|
  okSettle (tineWait t cLOCK rd rs1 rs2 rs3 mbz s)

/-- WAIT_P (R349, R351, R352). -/
def execWaitP (t : Nat) (rd rs1 rs2 rs3 : BitVec 6) (mbz : BitVec 21) (s : State) : Host.Outcome State Fault Refusal := running s <|
  okSettle (tineWait t cP rd rs1 rs2 rs3 mbz s)

/-- WAIT_ARRIVE (R349, R351, R352). -/
def execWaitArrive (t : Nat) (rd rs1 rs2 rs3 : BitVec 6) (mbz : BitVec 21) (s : State) : Host.Outcome State Fault Refusal := running s <|
  okSettle (tineWait t cARRIVE rd rs1 rs2 rs3 mbz s)

/-- DISARM (R349, R356). -/
def execDisarm (t : Nat) (rd rs1 rs2 rs3 : BitVec 6) (mbz : BitVec 21) (s : State) : Host.Outcome State Fault Refusal := running s <| okSettle (tineDisarm t rd rs1 rs2 rs3 mbz s)

/-- WAIT_TIMEOUT (R354): the timer of a wait reaches its object while the wait is pending and its time has come. -/
def execWaitTimeout (obj slot tag : Nat) (s : State) : Host.Outcome State Fault Refusal := running s <|
  match s.sync.waits.find? (fun w => w.obj = obj && w.who = .session slot tag) with
  | none => ok s
  | some w =>
    match w.timeout with
    | none => ok s
    | some at_ => if at_ ≤ ktb s then okSettle (synChanged obj (failWait w .timeout s)) else ok s

/-- The session a lock's holder field names, with the lock HELD or REPAIR. -/
def holderOf (s : State) (obj : Nat) : Option Nat :=
  let x := synWord s obj
  if synKind s obj = .lock && (lstate x = 1 || lstate x = 3) then some (slotOf (synValue x)) else none

/-- Edges out of a session (R359): its pending LOCK waits on held locks, less those already chosen as victims. -/
def edgesOf (s : State) (slot : Nat) : List SyncWait :=
  s.sync.waits.filter (fun w => w.code = cLOCK &&
    (match w.who with
     | .session x tag => decide (x = slot) && !s.sync.victims.contains (w.obj, x, tag)
     | .gate _ => false) && (holderOf s w.obj).isSome)

/-- A path of edges from session `cur` to session `goal` (R360). -/
def findPath (s : State) (goal : Nat) : Nat → Nat → List Nat → Option (List SyncWait)
  | 0, _, _ => none
  | fuel + 1, cur, seen =>
    if cur = goal then some []
    else if seen.contains cur then none
    else
      (edgesOf s cur).foldl (fun r w =>
        match r with
        | some p => some p
        | none =>
          match holderOf s w.obj with
          | none => none
          | some h => (findPath s goal fuel h (cur :: seen)).map (fun p => w :: p)) none

/-- The youngest wait of a cycle: the highest sequence number (R360). -/
def youngest (l : List SyncWait) : Option SyncWait :=
  l.foldl (fun r w => match r with
    | none => some w
    | some v => if v.seq < w.seq then some w else some v) none

/-- Search from one edge until no cycle through it remains, sending a failure for each victim (R360). -/
def searchEdge (w : SyncWait) (slot : Nat) : Nat → State → State
  | 0, s => s
  | fuel + 1, s =>
    if !(edgesOf s slot).contains w then s
    else match holderOf s w.obj with
      | none => s
      | some h =>
        match findPath s slot (s.sync.waits.length + 1) h [] with
        | none => s
        | some p =>
          match youngest (w :: p) with
          | none => s
          | some v =>
            match v.who with
            | .gate _ => s
            | .session x tag =>
              searchEdge w slot fuel
                { s with sync := { s.sync with victims := s.sync.victims ++ [(v.obj, x, tag)] } }

/-- WAIT_FOR_SEARCH (R359, R360): the unit searches from the edge of a session's pending LOCK wait on the object. After
a change of primacy the graph's rebuild ends with a search from every edge (R362). -/
def execWaitForSearch (obj slot tag : Nat) (s : State) : Host.Outcome State Fault Refusal := running s <|
  let fuel := s.sync.waits.length + 1
  if s.sync.rebuilding then
    ok ({ s with sync := { s.sync with rebuilding := false } } |> fun s =>
      s.sync.waits.foldl (fun s w => match w.who with
        | .session x _ => searchEdge w x fuel s
        | .gate _ => s) s)
  else
    match s.sync.waits.find? (fun w => w.obj = obj && w.who = .session slot tag) with
    | none => ok s
    | some w => ok (searchEdge w slot fuel s)

/-- DEADLOCK_FAIL (R361): the failure of the oldest victim on the object reaches its arbiter. The wait ends
ST_DEADLOCK, unless it was granted first. -/
def execDeadlockFail (obj slot tag : Nat) (s : State) : Host.Outcome State Fault Refusal := running s <|
  if !s.sync.victims.contains (obj, slot, tag) then ok s
  else
    let s := { s with sync := { s.sync with victims := s.sync.victims.filter (· ≠ (obj, slot, tag)) } }
    match s.sync.waits.find? (fun w => w.obj = obj && w.who = .session slot tag) with
    | none => ok s
    | some w =>
      okSettle (synChanged obj (failWait w .deadlock
        (bumpF .SYN_WFG_STAT (.yoke s.ckp.primary) 0 41 18 1 s)))

/-- Post the result of a SYN_OP (R366). -/
def postSynResult (a : Acre) (st : Status) (v : Nat) (s : State) : State :=
  setLive .SYN_OP_RESULT (.acre a) 0 (BitVec.ofNat 64 (st.code + 2 ^ 8 + v * 2 ^ 32)) s

/-- SYN_OP (R366): one `signal` in its try form on an object of the Acre, the operand from SYN_OP_ARG. ARM and DISARM
name a session, which system firmware has none of: ST_BAD_FORMAT (log 30). -/
def execSynOp (a : Acre) (index : BitVec 14) (code : BitVec 4) (s : State) : Host.Outcome State Fault Refusal := running s <|
  let obj := a.num * 2 ^ 14 + index.toNat
  let (r, s) := applySignal obj code.toNat (live s .SYN_OP_ARG (.acre a) 0) none s
  okSettle (postSynResult a r.1 r.2 s)

/-- SYN_OP_FORCE (R366): bits [47:0] of the object's word take SYN_OP_ARG[47:0]; ST_BUSY while a wait or a watch is
registered on it; ST_BAD_HANDLE on a FREE object (R346). -/
def execSynOpForce (a : Acre) (index : BitVec 14) (s : State) : Host.Outcome State Fault Refusal := running s <|
  let obj := a.num * 2 ^ 14 + index.toNat
  let arg := live s .SYN_OP_ARG (.acre a) 0
  if s.sync.closing.contains obj then
    ok (postSynResult a .busy (synValue (synWord s obj)) (closingRefused obj s))
  else if synKind s obj = .free then ok (postSynResult a .badHandle (synValue (synWord s obj)) s)
  else if !(waitsOn s obj).isEmpty || s.sync.watches.any (fun w => w.obj = obj) then
    ok (postSynResult a .busy (synValue (synWord s obj)) s)
  else
    let s := setSynWord obj (setField (synWord s obj) 47 0 (field arg 47 0)) s
    ok (postSynResult a .ok (synValue (synWord s obj)) s)

end Sys2Proof.Machine
end

