-- ==== Sys2Proof/Machine/RegAccess.lean ====
section
/-!
DEFINITION. Reading and writing a register by its control address: what an address names, views, locks, owners, selections per
requester, and the registers that act when written (R44, R47, R48, R53, R571 to R573, R576, R577).
-/
namespace Sys2Proof.Machine

/-! ## Addresses (R571, R572) -/

/-- What a control address names: nothing the device has (ST_BAD_HANDLE), an unassigned offset, or a register of a die. -/
inductive AddrName where
  | bad
  | hole
  | reg (r : Reg) (d : Die)
  deriving DecidableEq, Repr

def addrBlock (a : Nat) : Nat := bitsOf a 35 28

/-- Bit 27: the live view. -/
def addrLive (a : Nat) : Bool := a.testBit 27

/-- The register at a 40-bit address. -/
def addrName (a : Nat) : AddrName :=
  match Die.ofCode (bitsOf a 39 36) with
  | none => .bad
  | some d =>
    if !(blockDies (addrBlock a)).contains d then .bad
    else match Reg.all.find? (fun r => regOn r d && r.block = addrBlock a && r.offset = bitsOf a 26 0) with
      | none => .hole
      | some r => .reg r d

/-- The status R572 gives an address. -/
def addrStatus (a : Nat) : Status := if addrName a = .bad then .badHandle else .ok

/-- A selection register (R573). -/
def isSel (r : Reg) : Bool := Reg.all.any (fun x => x.sel == some r)

/-- A register with no field that can be written. -/
def allRo (r : Reg) : Bool := r.fields.all (fun f => f.acc = .ro || f.acc = .rc)

/-! ## Requesters (R573) -/

/-- The bank of a requester: the two management controllers, the host's window, each system Tine. -/
def bankOf : Requester → Nat
  | .mgmt y => y.num
  | .host => 2
  | .sysTine n => n

/-- The entry an access of a register moves: a selection register's own bank, or the index selected. -/
def entryOf (q : Requester) (r : Reg) (d : Die) (s : State) : Nat :=
  if isSel r then bankOf q
  else match r.sel with
    | none => 0
    | some l => (live s l d (bankOf q)).toNat &&& r.indexMask

/-- The system Tine that applies configuration for the runtime (R577). -/
def firmwareTine (s : State) : Requester := .sysTine (256 + 16 * s.ckp.primary.num)

/-- The host reaches YOK_IFV and the YOK_HQ_ registers of the active port, and YOK_HQ_STATUS of the other (R521, R576). -/
def hostWindow (r : Reg) (d : Die) (isWrite : Bool) (s : State) : Bool :=
  let inside := r.block = 1 && (r.offset = 0x10 || r.offset = 0x18 || decide (0x200 ≤ r.offset ∧ r.offset < 0x240))
  if s.power.hostActive.isSome && Die.yoke (hostYoke s) = d then inside else !isWrite && r == .YOK_HQ_STATUS

/-! ## Reading -/

/-- A read: status, value, and the state once read-to-clear fields are cleared. -/
def readAccess (q : Requester) (a : Nat) (s : State) : Status × Word × State :=
  match addrName a with
  | .bad => (.badHandle, 0, s)
  | .hole => (.ok, 0, s)
  | .reg r d =>
    let i := entryOf q r d s
    if q == .host && !hostWindow r d false s then (.ok, 0, s)
    else if !idxOk r d i then (.ok, 0, s)
    else if r.staged && !addrLive a then (.ok, layAll (shadow s r d i) (woFields r), s)
    else (.ok, readReg r d i s, readClear r d i s)

/-! ## Writing -/

/-- The state a command of its own row leaves. -/
def took (o : Host.Outcome State Fault Refusal) (s : State) : State :=
  match o with
  | .next t => t
  | _ => s

/-- Fields of a register set by a write: RW and RWS take the value, W1C clears where 1 is written (R20). -/
def writeFields (r : Reg) (old v : Word) : Word :=
  r.fields.foldl (fun w f =>
    if f.acc = .rw || f.acc = .rws then setField w f.hi f.lo (field v f.hi f.lo)
    else if f.acc = .w1c then w &&& ~~~(setField 0 f.hi f.lo (field v f.hi f.lo))
    else w) old

/-- The shadows of a register's block are locked by a pending commit (R53). -/
def shadowLocked (s : State) (r : Reg) : Bool := s.cfg.pendingC.elim false (fun c => c.mask.testBit r.block)

/-- A frequency adjustment saturates at ±500 ppm (R44). -/
def freqSat (v : Word) : Nat := twos 32 (max (-500000000) (min 500000000 (signedOf 32 (field v 31 0))))

/-- YOK_KTB_FREQ (R44). -/
def freqWrite (y : Yoke) (v : Word) (s : State) : State := setLive .YOK_KTB_FREQ (.yoke y) 0 (BitVec.ofNat 64 (freqSat v)) s

/-- YOK_KTB_STEP (R44): a step is applied in UNASSIGNED; otherwise it is ignored and STEP_REFUSED is set. -/
def stepWrite (y : Yoke) (v : Word) (s : State) : State :=
  let n := field v 47 0
  let s := setLive .YOK_KTB_STEP (.yoke y) 0 (writeFields .YOK_KTB_STEP (live s .YOK_KTB_STEP (.yoke y)) v) s
  if n = 0 then s
  else if s.sec.tenancy = .unassigned then stepKtb y n s
  else setLiveF .YOK_KTB_STEP (.yoke y) 0 48 48 1 s

/-- CFG_COMMIT (R49, R51, R52): a commit, a scheduled commit, or a cancel. -/
def commitWrite (y : Yoke) (p : Plane) (v : Word) (s : State) : State :=
  let gen := field v 15 0
  let tag := field v 49 42
  if bit v 41 then (commitCancel p gen tag s).2
  else
    let at_ := if bit v 40 then some (live s .CFG_COMMIT_AT (.yoke y)).toNat else none
    commitStart y p gen (field v 39 16) tag at_ [] none none s

/-- KLT_CMD (R399): OP 0 and 8 to 15 name no command. -/
def kltCmdWrite (y : Yoke) (op : Nat) (s : State) : State :=
  match op with
  | 1 => took (execConnOpen y s) s
  | 2 => took (execConnClose y s) s
  | 3 => took (execRegRegister y s) s
  | 4 => took (execRegRevoke y s) s
  | 5 => took (execPwqCreate y s) s
  | 6 => took (execPwqDelete y s) s
  | 7 => took (execMclSet y s) s
  | _ => kltResult y .badFormat 0 s

/-- A register on a Yoke that acts when written: `none` where the write is an ordinary one. -/
def yokeAct (q : Requester) (r : Reg) (y : Yoke) (i : Nat) (v : Word) (s : State) : Option (Status × State) :=
  let good := fun (t : State) => some (Status.ok, t)
  match r with
  | .CFG_COMMIT => good (commitWrite y (planeOf q) v s)
  | .YOK_KTB_FREQ => good (freqWrite y v s)
  | .YOK_KTB_SLEW => good (slewWrite y (signedOf 48 (field v 47 0)) s)
  | .YOK_KTB_STEP => good (stepWrite y v s)
  | .YOK_HQ_NEGOTIATE => good (if y = hostYoke s then took (execYokHqNegotiate (BitVec.ofNat 32 (field v 31 0)) s) s else s)
  | .YOK_HQ_AQ_EN => good (if y = hostYoke s then took (execYokHqAqEn (bit v 0) s) s else s)
  | .PWR_RESET =>
    good (match field v 1 0 with
      | 1 => systemReset .management s
      | 2 => mgmtReset (if bit v 2 then .ye else .yw) s
      | _ => s)
  | .PWR_FALLOW_CMD => good (fallowCmd (field v 1 0) s)
  | .OBS_MARK => some (markWrite y q (field v 31 0) s)
  | .KLT_CMD => if planeOf q = .control then good (kltCmdWrite y (field v 3 0) s) else good s
  | .KLT_PWQ_STATUS => if bit v 40 then good (took (execPwqErrorClear i s) s) else good s
  | .TIER_BORROW_STATUS =>
    if bit v 2 then good { s with tier := { s.tier with borrow := NMap.modify s.tier.borrow i (fun b => { b with lost := false }) } }
    else good s
  | _ => none

/-- A register on an Acre that acts when written. -/
def acreAct (r : Reg) (a : Acre) (i : Nat) (v : Word) (s : State) : Option (Status × State) :=
  let good := fun (t : State) => some (Status.ok, t)
  match r with
  | .OBS_TRACE_FLUSH => if bit v 0 && tracing (s.obs.trace.get a) then good (frameWrite a s) else good s
  | .FUR_ARQ_STATUS => if bit v 40 then good (took (execArqErrorClear (64 * a.num + i) s) s) else good s
  | .GEN_TKQ_STATUS => if bit v 40 then good (took (execTkqErrorClear (64 * a.num + i) s) s) else good s
  | .GLN_SRQ_STATUS => if bit v 40 then good (took (execSrqErrorClear (16 * a.num + i) s) s) else good s
  | .GLN_IDX_STATUS =>
    if bit v 7 then good { s with gln := { s.gln with indexes := NMap.modify s.gln.indexes (1024 * a.num + i) (fun x => { x with damaged := false }) } }
    else good s
  | .SYN_OP =>
    let index := BitVec.ofNat 14 (field v 13 0)
    good (if bit v 18 then took (execSynOpForce a index s) s else took (execSynOp a index (BitVec.ofNat 4 (field v 17 14)) s) s)
  | _ => none

/-- A write of a register that is not staged. -/
def actWrite (q : Requester) (r : Reg) (d : Die) (i : Nat) (v : Word) (s : State) : Status × State :=
  let special := match d with
    | .yoke y => yokeAct q r y i v s
    | .acre a => acreAct r a i v s
  match special with
  | some x => x
  | none =>
    let s := if r == .OBS_SNAP && bit v 0 then snapTake d s else s
    (.ok, setLive r d i (writeFields r (live s r d i) v) s)

/-- A write at a control address (R47, R48, R53, R572, R573). A write to a live view, or of a plane that does not own the block's
shadows, is ignored; one to a locked shadow is ignored and sets LOCK_WR_ERR (ST_BUSY for who asks). The management plane writes
only its own blocks and selections. -/
def writeReg (q : Requester) (a : Nat) (v : Word) (s : State) : Status × State :=
  match addrName a with
  | .bad => (.badHandle, s)
  | .hole => (.ok, s)
  | .reg r d =>
    let i := entryOf q r d s
    if q == .host && !hostWindow r d true s then (.ok, s)
    else if isSel r then (.ok, setLive r d i (writeFields r (live s r d i) v) s)
    else if !idxOk r d i then (.ok, s)
    else if r.staged then
      if addrLive a || mgmtBlock r.block != (planeOf q == Plane.management) then (.ok, s)
      else if shadowLocked s r then (.busy, setLiveF .CFG_STATUS (.yoke s.ckp.primary) 0 17 17 1 s)
      else (.ok, setShadow r d i (writeFields r (shadow s r d i) v) s)
    else if planeOf q = .management && !mgmtBlock r.block then (.ok, s)
    else actWrite q r d i v s

/-- The status R299 and R455 give a write that asks for one: an address that fails R572, the live view, or a register the writer may
not write. -/
def configRefusal (a : Nat) : Option Status :=
  match addrName a with
  | .bad => some .badHandle
  | .hole => none
  | .reg r _ => if (r.staged && addrLive a) || allRo r || mgmtBlock r.block then some .access else none

/-- A register REG_WRITE may write: a shadow of a management-owned block, a selection register, PWR_FALLOW_CMD (R455, R533). -/
def mgmtMayWrite (a : Nat) : Bool :=
  match addrName a with
  | .reg r _ => isSel r || (r.staged && mgmtBlock r.block && !addrLive a) || r == .PWR_FALLOW_CMD
  | _ => false

end Sys2Proof.Machine
end

