-- ==== Sys2Proof/Machine/Access.lean ====
section
/-!
DEFINITION. Register writes, commits, the timebase and the speed sample: REGISTER_WRITE to PWR_SPEED_SAMPLE; CONFIG_WRITE,
CONFIG_READ, CONFIG_COMMIT; RREG and WREG; REG_READ, REG_WRITE, the management CONFIG_COMMIT, RESET (R37 to R59, R299, R329, R455).
-/
namespace Sys2Proof.Machine

/-- The requester can make an access: its controller, its Tine or the host port runs. -/
def requesterUp (q : Requester) (s : State) : Bool :=
  match q with
  | .mgmt _ => mgmtUp s
  | .sysTine n => planesRun s && decide (256 ≤ n ∧ n < 288)
  | .host => planesRun s

/-- REGISTER_WRITE (R47, R48, R53, R572): any register, by its control address. -/
def execRegisterWrite (r : Requester) (addr : BitVec 40) (v : Word) (s : State) : Host.Outcome State Fault Refusal :=
  if requesterUp r s then
    let (st, s) := writeReg r addr.toNat v s
    okSettle (emit (.access st 0) s)
  else ok s

/-! ## Commits (R49 to R59) -/

/-- CFG_COMMIT, immediate (R49). `silent`: codes of the dies that do not answer PREPARE. -/
def execCfgCommit (y : Yoke) (r : Requester) (gen mask tag : Nat) (silent : List Nat) (s : State) : Host.Outcome State Fault Refusal := running s <|
  if requesterUp r s then okSettle (commitStart y (planeOf r) gen mask tag none silent none none s) else ok s

/-- CFG_COMMIT with AT_VALID (R51): AT is CFG_COMMIT_AT. -/
def execScheduledCommit (y : Yoke) (r : Requester) (gen mask tag : Nat) (silent : List Nat) (s : State) : Host.Outcome State Fault Refusal := running s <|
  if requesterUp r s then
    ok (commitStart y (planeOf r) gen mask tag (some (live s .CFG_COMMIT_AT (.yoke y)).toNat) silent none none s)
  else ok s

/-- CFG_COMMIT with CANCEL (R52). -/
def execCommitCancel (r : Requester) (gen tag : Nat) (s : State) : Host.Outcome State Fault Refusal := running s <|
  if requesterUp r s then ok (commitCancel (planeOf r) gen tag s).2 else ok s

/-- COMMIT_ANSWER_TIMEOUT (R49 step 4). -/
def execCommitAnswerTimeout (s : State) : Host.Outcome State Fault Refusal := running s <| ok (commitTimeout s)

/-- COMMIT_APPLY_AT (R49 steps 5 and 6, R51). -/
def execCommitApplyAt (s : State) : Host.Outcome State Fault Refusal := running s <|
  match s.cfg.pendingC with
  | none => ok s
  | some c =>
    if c.scheduled && c.silent.isEmpty && c.failed.isNone && decide (c.applyAt ≤ ktb s) then okSettle (commitEnd .ok (commitApply c.gen c.mask s))
    else ok s

/-- CONFIG_FINGERPRINT (R56, R58). -/
def execConfigFingerprint (s : State) : Host.Outcome State Fault Refusal := running s <|
  if s.cfg.fpValid then ok s else ok (fingerprint s)

/-- DIVERGENCE_GRACE_EXPIRY (R59): a GRACE of 0 counts as 1 ms. -/
def execDivergenceGraceExpiry (entry : Nat) (s : State) : Host.Outcome State Fault Refusal := running s <|
  match NMap.get? s.cfg.divergent entry with
  | none => ok s
  | some d =>
    if d.counted || ktb s ≤ d.since + max 1 (primF s .CFG_DOMAIN 0 23 16) * 1000000 then ok s
    else ok (mgmtPost (.divergence entry) { s with cfg := { s.cfg with divergent := NMap.put s.cfg.divergent entry { d with counted := true } } })

/-! ## The timebase (R43 to R46) -/

/-- YOK_KTB_FREQ (R44). -/
def execYokKtbFreqWrite (y : Yoke) (v : Word) (s : State) : Host.Outcome State Fault Refusal := running s <| ok (freqWrite y v s)

/-- YOK_KTB_SLEW (R44). -/
def execYokKtbSlewWrite (y : Yoke) (v : Word) (s : State) : Host.Outcome State Fault Refusal := running s <|
  ok (slewWrite y (signedOf 48 (field v 47 0)) s)

/-- YOK_KTB_STEP (R44). -/
def execYokKtbStepWrite (y : Yoke) (v : Word) (s : State) : Host.Outcome State Fault Refusal := running s <| ok (stepWrite y v s)

/-- PPS_IN_EDGE (R46, R559): the stamp lies within ±2 ns. -/
def execPpsInEdge (y : Yoke) (s : State) : Host.Outcome State Fault Refusal :=
  if s.time.running then
    ok (setLive .YOK_PPS_IN_TS (.yoke y) 0 (BitVec.ofNat 64 (ktbOf s (.yoke y) + freeBelow 5 s - 2)) (drew s))
  else ok s

/-- PPS_OUT_PULSE (R46): KTB has crossed a whole second; the primary Yoke's ball rises for 100 µs. -/
def execPpsOutPulse (s : State) : Host.Outcome State Fault Refusal :=
  let sec := ktb s / 1000000000 * 1000000000
  if s.time.running && sec ≠ 0 && s.time.ppsRise ≠ some sec then ok { s with time := { s.time with ppsRise := some sec } } else ok s

/-- ACRE_TIME_TRANSFER (R44, R45): the Acre's copy comes within ±4 ns of the reference and never goes back. -/
def execAcreTimeTransfer (a : Acre) (s : State) : Host.Outcome State Fault Refusal :=
  if s.time.running && pastStage1 s then
    let t := ktb s + freeBelow 9 s - 4
    let s := drew s
    ok { s with time := { s.time with ktb := s.time.ktb.set (.acre a) (max (ktbOf s (.acre a)) t) } }
  else ok s

/-- SPEED below the (S) ratio of the array (R37, R38), as (S) and (N) figures; none is given for the network and the reserved codes. -/
def speedRatio : Nat → Option (Nat × Nat)
  | 0 => some (167, 256)
  | 1 => some (26, 40)
  | 2 => some (10, 16)
  | _ => none

/-- PWR_SPEED_SAMPLE (R38): the replica's speed in 1/1,024 of (N), and its array. -/
def execPwrSpeedSample (die speed source : Nat) (s : State) : Host.Outcome State Fault Refusal :=
  match Die.ofCode die with
  | none => ok s
  | some d =>
    if !s.power.pwrgood then ok s
    else
      let v := min speed 1023
      let (below, s) := match speedRatio source with
        | some (lo, hi) => (decide (v * hi < lo * 1024), s)
        | none => (decide (freeBelow 2 s = 1), drew s)
      let w := setField (setField (live s .PWR_SPEED d) 9 0 v) 15 10 source
      ok (setLive .PWR_SPEED d 0 (if below then setField w 16 16 1 else w) s)

/-! ## Configuration over the Host Queue ABI (R299, R577) -/

/-- Entry `k` of a configuration buffer: control address and value. -/
def configEntry (b : List Byte) (k : Nat) : Nat × Word := (bufN b (16 * k) 5, BitVec.ofNat 64 (bufN b (16 * k + 8) 8))

/-- The buffer is a whole number of entries, 1 to 4,096. -/
def configLenOk (b : List Byte) : Bool := b.length % 16 = 0 && decide (16 ≤ b.length ∧ b.length ≤ 65536)

/-- Write entries from number `k`, until one is refused: its number and status. -/
def configWrites : List (Nat × Word) → Nat → State → Option (Nat × Status) × State
  | [], _, s => (none, s)
  | (a, v) :: l, k, s =>
    match configRefusal a with
    | some st => (some (k, st), s)
    | none =>
      match writeReg (firmwareTine s) a v s with
      | (.ok, t) => configWrites l (k + 1) t
      | (st, t) => (some (k, st), t)

/-- CONFIG_WRITE (R299). -/
def execConfigWrite (sq cid : Nat) (b : List Byte) (s : State) : Host.Outcome State Fault Refusal := running s <|
  ok (hostCmd sq cid .admin false (fun s =>
    if !configLenOk b then postCqe sq cid .badFormat 0 0 s
    else match configWrites ((List.range (b.length / 16)).map (configEntry b)) 0 s with
      | (none, t) => postCqe sq cid .ok 0 0 t
      | (some (k, st), t) => postCqe sq cid st 0 k t) s)

/-- Read entries, until an address fails: the bytes of the entries read, newest last, and the refusal. -/
def configReads (q : Requester) : List (Nat × Word) → Nat → State → List Byte × Option (Nat × Status) × State
  | [], _, s => ([], none, s)
  | (a, _) :: l, k, s =>
    match readAccess q a s with
    | (.ok, v, t) =>
      let (bs, r, t) := configReads q l (k + 1) t
      (leBytes 8 a ++ leBytes 8 v.toNat ++ bs, r, t)
    | (st, _, t) => ([], some (k, st), t)

/-- CONFIG_READ (R299): values go into bytes 8 to 15 of the entries of the data buffer. -/
def execConfigRead (sq cid : Nat) (b : List Byte) (s : State) : Host.Outcome State Fault Refusal := running s <|
  ok (hostCmd sq cid .admin false (fun s =>
    if !configLenOk b then postCqe sq cid .badFormat 0 0 s
    else
      let (bs, r, t) := configReads (firmwareTine s) ((List.range (b.length / 16)).map (configEntry b)) 0 s
      let t := emit (.hostData sq cid bs) t
      match r with
      | none => postCqe sq cid .ok 0 0 t
      | some (k, st) => postCqe sq cid st 0 k t) s)

/-- A commit whose asker is answered after step 4 when it is scheduled: it then waits for its time alone (R299). -/
def tellScheduled (s : State) : State :=
  match s.cfg.pendingC with
  | none => s
  | some c =>
    if c.scheduled && c.silent.isEmpty && c.failed.isNone then
      commitTell c .ok { s with cfg := { s.cfg with pendingC := some { c with cmd := none, req := none } } }
    else s

/-- CONFIG_COMMIT (R299): `at_` is ARG2, 0 for an immediate commit; `cancel` and `tag` lie in ARG3. -/
def execConfigCommit (sq cid : Nat) (passed : Bool) (gen mask at_ : Nat) (cancel : Bool) (tag : Nat) (silent : List Nat) (s : State) :
    Host.Outcome State Fault Refusal := running s <|
  okSettle (primCmd sq cid .admin passed (fun s =>
    if cancel then
      let (st, s) := commitCancel .control gen (tag % 256) s
      postCqe sq cid st 0 0 s
    else
      let y := s.ckp.primary
      if at_ = 0 then commitStart y .control gen mask (tag % 256) none silent (some (sq, cid)) none s
      else tellScheduled (commitStart y .control gen mask (tag % 256) (some at_) silent (some (sq, cid)) none
        (setLive .CFG_COMMIT_AT (.yoke y) 0 (BitVec.ofNat 64 at_) s))) s)

/-! ## Registers from a Tine (R329) -/

/-- RREG (R329). -/
def execRreg (t : Nat) (rd rs1 rs2 : BitVec 6) (s : State) : Host.Outcome State Fault Refusal := running s <|
  let w := encR 0x24 rd rs1 rs2 0x20
  ok (tineExec t w 1 [rd, rs1] (rs2 != 0) (fun c s =>
    let a := (tineReg c rs1).toNat
    if !c.system then tineTrap t c .access w s
    else if 2 ^ 40 ≤ a || addrName a == .bad then tineTrap t c .badHandle w s
    else
      let (_, v, s) := readAccess (.sysTine t) a s
      tineWrite t 1 rd v c s) s)

/-- WREG (R329): the Tine goes on, and what the register does may end it. -/
def execWreg (t : Nat) (rd rs1 rs2 : BitVec 6) (s : State) : Host.Outcome State Fault Refusal := running s <|
  let w := encR 0x24 rd rs1 rs2 0x21
  okSettle (tineExec t w 1 [rs1, rs2] (rd != 0) (fun c s =>
    let a := (tineReg c rs1).toNat
    if !c.system then tineTrap t c .access w s
    else if 2 ^ 40 ≤ a || addrName a == .bad then tineTrap t c .badHandle w s
    else (writeReg (.sysTine t) a (tineReg c rs2) (putTine t { c with pc := c.pc + 4 } s)).2) s)

/-! ## Registers over management (R455) -/

/-- REG_READ (R455, R518, R536). -/
def execRegRead (q : MgmtReq) (addr : BitVec 40) (s : State) : Host.Outcome State Fault Refusal :=
  ok (mgmtCmd q true true rObserve (fun s =>
    let (st, v, s) := readAccess (.mgmt q.port) addr.toNat s
    mgmtReply q st (.word v) s) s)

/-- The address names a selection register. -/
def namesSel (a : Nat) : Bool :=
  match addrName a with
  | .reg r _ => isSel r
  | _ => false

/-- REG_WRITE (R48, R455). -/
def execRegWrite (q : MgmtReq) (addr : BitVec 40) (v : Word) (s : State) : Host.Outcome State Fault Refusal :=
  let a := addr.toNat
  ok (mgmtCmd q false false (fun r => rConfigure r || (namesSel a && rObserve r)) (fun s =>
    match addrName a with
    | .reg _ _ =>
      if mgmtMayWrite a then
        let (st, s) := writeReg (.mgmt q.port) a v s
        mgmtReply q st .none s
      else mgmtReply q .access .none s
    | _ => mgmtReply q (addrStatus a) .none s) s)

/-- CONFIG_COMMIT of the management plane (R49, R51, R52, R455): the response of a scheduled commit follows step 4. -/
def execMgmtConfigCommit (q : MgmtReq) (gen mask : Nat) (at_ : Option Nat) (cancel : Bool) (tag : Nat) (silent : List Nat) (s : State) :
    Host.Outcome State Fault Refusal :=
  ok (mgmtCmd q false false rConfigure (fun s =>
    if cancel then
      let (st, s) := commitCancel .management gen (tag % 256) s
      mgmtReply q st .none s
    else if !planesRun s then mgmtReply q .busy .none s
    else tellScheduled (commitStart s.ckp.primary .management gen mask (tag % 256) at_ silent none (some q) s)) s)

/-- RESET (R455, R524): 1 SYSTEM, 2 MGMT of a Yoke. The response leaves before the reset acts. -/
def execReset (q : MgmtReq) (kind : Nat) (y : Yoke) (s : State) : Host.Outcome State Fault Refusal :=
  ok (mgmtCmd q false true rConfigure (fun s =>
    match kind with
    | 1 => systemReset .management (mgmtReply q .ok .none s)
    | 2 => mgmtReset y (mgmtReply q .ok .none s)
    | _ => mgmtReply q .badFormat .none s) s)

end Sys2Proof.Machine
end

