-- ==== Sys2Proof/Machine/Start.lean ====
section
/-!
DEFINITION. Start-up, resets and provisioning: PWRGOOD_RISE, STAGE0 to STAGE3, PWRGOOD_FALL, RESET_N, the PWR_RESET kinds, HOST_RESET,
HOST_PORT_SELECT, PROVISIONING (R427, R435, R438, R517 to R525, R552, R556, R557).
-/
namespace Sys2Proof.Machine

/-- PWRGOOD_RISE (R517, R524, R557): a POWER_ON; the straps are sampled and Stage 0 begins. -/
def execPwrgoodRise (primaryPref hostSel : Bool) (s : State) : Host.Outcome State Fault Refusal :=
  if s.power.pwrgood then ok s
  else ok { powerOn s with power := { PowerState.reset with
    pwrgood := true, primaryPref := primaryPref, hostSel := hostSel, haltInLow := s.power.haltInLow } }

/-- What Stage 0's tests give (R424): the known-answer tests and entropy source of each Yoke, the number of the failed test. -/
def selfTests (pw pe ew ee : Bool) (fw fe : Nat) (s : State) : State :=
  setSec (fun x => { x with selfPass := ⟨pw, pe⟩, entropyOk := ⟨ew, ee⟩, failedTest := ⟨fw, fe⟩ }) s

/-- A pending life-cycle advance is completed (R428). -/
def lcComplete (s : State) : State :=
  match s.sec.lcPending with
  | some n => lcBurn (n - 1) s
  | none => s

/-- Stage 0 ends: its tests are known, KTB starts from zero, VDD_CORE is at 0.80 V, Stage 1 begins (R424, R518). -/
def stage0Done (pw pe ew ee : Bool) (fw fe : Nat) (torn : Bool) (ms : Nat) (s : State) : State :=
  let s := lcComplete { selfTests pw pe ew ee fw fe s with time := { TimeState.reset with running := true } }
  let s := if torn then setLiveF .SEC_STORE (.yoke .yw) 0 2 2 1 s else s
  setPower (fun p => { p with stage := .s1, stageAt := ktb s, stage1At := ktb s, stageMs0 := ms, targetMv := 800, resetHeld := false }) s

/-- STAGE0 (R424 to R428, R518): tests, KTB from zero, a pending life-cycle advance completed; a RESET_N that came before its end acts
then (R556). `torn`: start-up found a record that failed its tag; `ms`: how long the stage took. -/
def execStage0 (pw pe ew ee : Bool) (fw fe : Nat) (torn : Bool) (ms : Nat) (s : State) : Host.Outcome State Fault Refusal :=
  if !s.power.pwrgood || s.power.stage ≠ .s0 then ok s
  else if s.power.resetHeld then ok (systemReset .resetN (stage0Done pw pe ew ee fw fe torn ms s))
  else ok (stage0Done pw pe ew ee fw fe torn ms s)

/-! ## Stage 1 (R519) -/

/-- The slot accepted, the named one first: its signature verifies and its SVNs reach the fuses. -/
def slotAccepted (ok0 ok1 : Bool) (s : State) : Option (Nat × FwImage) :=
  let try_ := fun (n : Nat) => match NMap.get? s.sec.flash n with
    | some i => if (if n = 0 then ok0 else ok1) && decide (s.sec.fuses.scSvn ≤ i.scSvn ∧ s.sec.fuses.mcSvn ≤ i.mcSvn ∧ s.sec.fuses.sysSvn ≤ i.sysSvn)
        then some (n, i) else none
    | none => none
  match try_ s.sec.bootSlot with
  | some x => some x
  | none => try_ (1 - s.sec.bootSlot)

/-- The images are measured into indices 1 to 5 (R446, R447): one signed image carries the firmware of indices 2, 3 and 5. -/
def measure (i : FwImage) (s : State) : State :=
  setSec (fun x => { x with
    meas1 := Config.bootRomDigest, meas2 := Config.sha384 (digestBytes i.digest ++ leBytes 2 i.scSvn),
    meas3 := Config.sha384 (digestBytes i.digest ++ leBytes 2 i.mcSvn), meas4 := extendDigest x.meas4 (digestBytes i.digest), meas5 := i.digest }) s

/-- A system Tine at its first instruction: its local store holds the image's code from address 0. -/
def sysContext (code : List Byte) : TineCtx :=
  { system := true, slot := 0, handle := 0, image := 0, evCode := 0, dispatchAt := 0, budget := 0, pc := 0, g := [], c := [],
    data := Cells.writeN [] 0 (code.take (2 ^ 18)), stall := none, trapped := none }

/-- The system Tines of the Yokes that run (R519). -/
def startTines (code : List Byte) (ys : List Yoke) (s : State) : State :=
  let ts := ys.flatMap (fun y => (List.range 16).map (fun n => 256 + 16 * y.num + n))
  ts.foldl (fun s t => putTine t (sysContext code) s) s

/-- Primacy starts with P = 1 at the Yoke PRIMARY_PREF names; a Yoke that did not finish is lost (R485, R487, R519). -/
def startPrimacy (lost : Option Yoke) (s : State) : State :=
  let x : YokePrim := { YokePrim.reset with heardAt := ktb s, partnerUp := lost.isNone, winAt := ktb s }
  let of := fun (y : Yoke) => { x with issuing := decide (lost ≠ some y) }
  setCkp (fun c => { c with primary := prefYoke s, primacyEpoch := 1, acreP := .mk1 1, leases := .mk1 none, voted := .mk1 none, yokes := ⟨of .yw, of .ye⟩ }) s

/-- No Yoke reaches any Acre (R565). -/
def islanded (links : List Link) : Bool := [Link.ywA0, .ywA1, .yeA2, .yeA3].all (fun l => links.contains l)

/-- Firmware from flash slot `n` has been accepted and measured, and the links trained (R519). -/
def fwLoaded (n : Nat) (i : FwImage) (links : List Nat) (s : State) : State :=
  { measure i (setPower (fun p => { p with fwSlot := n }) s) with links := (links.filterMap Link.ofNum).eraseDups }

/-- Primacy, the system Tines and PTP start, and Stage 2 begins (R519). -/
def stage1Done (code : List Byte) (lost : Option Yoke) (ms : Nat) (s : State) : State :=
  let s := startTines code (Yoke.all.filter (fun y => decide (lost ≠ some y))) (startPrimacy lost s)
  ptpSwitch (setPower (fun p => { p with stage := .s2, stageAt := ktb s, stageMs1 := ms }) s)

/-- STAGE1 (R519, R565). `ok0` and `ok1`: the signatures of the flash slots verify; `links`: numbers of the links that training could not
repair; `lost`: a Yoke that did not finish in time. -/
def execStage1 (ok0 ok1 : Bool) (links : List Nat) (lost : Option Yoke) (ms : Nat) (s : State) : Host.Outcome State Fault Refusal :=
  if !s.power.pwrgood || s.power.stage ≠ .s1 || s.power.failCode ≠ 0 then ok s
  else match slotAccepted ok0 ok1 s with
    | none => ok (setPower (fun p => { p with failCode := 1 }) s)
    | some (n, i) =>
      if islanded (fwLoaded n i links s).links then ok (setPower (fun p => { p with failCode := 2 }) (fwLoaded n i links s))
      else ok (stage1Done i.code lost ms (fwLoaded n i links s))

/-! ## Stage 2 (R522) -/

/-- The self-test decides every fence map: a core named in one is cleared where it passes (R484, R522). -/
def retest (failed : List (Nat × Nat × Nat)) (s : State) : State :=
  let s := Acre.all.foldl (fun s a =>
    let d := Die.acre a
    setLive .CKP_FENCE_TINE d 0 0 (setLive .CKP_FENCE_PC d 0 0 (setLive .CKP_FENCE_MISC d 0 0 s))) s
  failed.foldl (fun s f =>
    match Die.ofCode f.1 with
    | none => s
    | some d =>
      if !coreExists d f.2.1 f.2.2 then s
      else
        let s := mgmtPost (.coreFenced d f.2.1 f.2.2) (fenceMark d f.2.1 f.2.2 s)
        match d with
        | .yoke y => { s with tin := { s.tin with tines := NMap.erase s.tin.tines (256 + 16 * y.num + f.2.2) } }
        | .acre _ => s) s

/-- DDR5 channels of an Acre that are fenced. -/
def fencedChannels (s : State) (a : Acre) : Nat :=
  ((List.range 4).filter (fun n => bit (live s .CKP_FENCE_MISC (.acre a)) (16 + n))).length

/-- Configuration writes of system firmware: addresses and values. -/
def bootWrites (l : List (Nat × Word)) (s : State) : State := l.foldl (fun s w => (writeReg (firmwareTine s) w.1 w.2 s).2) s

/-- The blocks of the control plane. -/
def controlMask : Nat := ((List.range 18).filter (fun n => !mgmtBlock n)).foldl (fun m n => m + 2 ^ n) 0

/-- The layout of every Acre online: Near, Field, descriptors, free lists (R522 step 4). -/
def layOut (online : PerAcre Bool) (config : List (Nat × Word)) (s : State) : State :=
  let t := switchRegs controlMask (bootWrites config s)
  let s := setPower (fun p => { p with online := online }) s
  let s := setCkp (fun c => { c with
    threeCh := perAcre (fun a => fencedChannels s a == 1), degraded := perAcre (fun a => decide (2 ≤ fencedChannels s a))
    shadowGib := perAcre (fun a => liveF t .CKP_CTRL (.acre a) 0 27 16) }) s
  let s := { s with
    tier := { s.tier with nearSize := perAcre (fun a => if online.get a then 70898995200 else 0) }
    obs := { s.obs with trace := perAcre (fun a => { Trace.reset with gib := liveF s .OBS_TRACE_CFG (.acre a) 0 4 0, cfg := live s .OBS_TRACE_CFG (.acre a) }) } }
  clearTenant s

/-- The control-plane configuration of system firmware is loaded and committed, and the fingerprint computed (R522 step 5); a set that
a die refuses is not applied. -/
def bootCommit (config : List (Nat × Word)) (s : State) : State :=
  let s := bootWrites config s
  match commitFail controlMask (maskDies controlMask) s with
  | some _ => fingerprint s
  | none => fingerprint (commitApply ((s.cfg.liveGen.toNat + 1) % 65536) controlMask s)

/-- The Acres that come online. -/
def onlineOf (offline : List Nat) : PerAcre Bool := perAcre (fun a => !offline.contains a.num)

/-- The layout, the configuration of system firmware, and the end of Stage 2 (R522 steps 3 to 5). -/
def stage2Done (offline : List Nat) (deviceId : Nat) (config : List (Nat × Word)) (ms : Nat) (s : State) : State :=
  let s := setSec (fun x => { x with deviceId := deviceId }) (bootCommit config (layOut (onlineOf offline) config s))
  setPower (fun p => { p with stage := .s3, stageAt := ktb s, stageMs2 := ms, fallow := { p.fallow with mode := .active } }) s

/-- STAGE2 (R522). `failed`: cores (die code, kind, number) that fail training or self-test; `offline`: Acres that stay offline;
`deviceId` and `config`: what system firmware holds. -/
def execStage2 (failed : List (Nat × Nat × Nat)) (offline : List Nat) (deviceId : Nat) (config : List (Nat × Word)) (ms : Nat) (s : State) :
    Host.Outcome State Fault Refusal := running s <|
  if s.power.stage ≠ .s2 || s.power.failCode ≠ 0 then ok s
  else if !Acre.all.any (fun a => (onlineOf offline).get a) then ok (setPower (fun p => { p with failCode := 3 }) (retest failed s))
  else ok (stage2Done offline deviceId config ms (retest failed s))

/-! ## Stage 3 (R435, R438, R523) -/

/-- The resume of a tenancy (R435): one RESUME record raises era and epoch; at the end of the era the device enters RELEASING. -/
def resumeTenancy (s : State) : State :=
  if 0x3FFF ≤ s.sec.era then mgmtPost .eraEnd (startRelease s)
  else enterBound .resume (setSec (fun x => { x with epoch := (x.epoch + 1) % 2 ^ 32, era := x.era + 1 }) s)

/-- What the latest tenancy record decides (R438). -/
def tenOutcome (s : State) : State :=
  match s.sec.ten with
  | .none => s
  | .released => s
  | .aborted => s
  | .prepare => bindAbort s
  | .commit => resumeTenancy s
  | .resume => resumeTenancy s
  | .releaseBegin => cryptoErase (setTen .releasing .releaseBegin s)
  | .erased => setSec (fun x => { x with rel := .scrub }) (setTen .releasing .erased s)

/-- STAGE3 (R438, R523): the latest tenancy record decides. -/
def execStage3 (s : State) : Host.Outcome State Fault Refusal := running s <|
  if s.power.stage ≠ .s3 || s.sec.tenancy ≠ .unassigned then ok s else ok (tenOutcome s)

/-! ## Falls and resets (R514, R524, R552, R556) -/

/-- A halt source that SOURCE has no code for: what it records is free (log 93). -/
def haltFree (s : State) : State := haltWave (freeBelow 4 s) (drew s)

/-- Power is gone. -/
def powerLost (s : State) : State :=
  { s with power := { s.power with pwrgood := false, thermtrip := false }, time := { s.time with running := false } }

/-- PWRGOOD_FALL (R552): the halt wave, and nothing further is written; KTB stops; THERMTRIP_N rises (R556). -/
def execPwrgoodFall (s : State) : Host.Outcome State Fault Refusal :=
  if s.power.pwrgood then ok (powerLost (haltFree s)) else ok s

/-- RESET_N (R524, R556): it acts at its rising edge, or at the end of Stage 0. -/
def execResetN (s : State) : Host.Outcome State Fault Refusal :=
  if !s.power.pwrgood then ok s
  else if s.power.stage = .s0 then ok (setPower (fun p => { p with resetHeld := true }) s)
  else ok (systemReset .resetN s)

/-- PWR_RESET_SYSTEM (R524): KIND 1 written by system firmware. -/
def execPwrResetSystem (s : State) : Host.Outcome State Fault Refusal := running s <| ok (systemReset .management s)

/-- PWR_RESET_MGMT (R524): KIND 2, naming a Yoke. -/
def execPwrResetMgmt (y : Yoke) (s : State) : Host.Outcome State Fault Refusal := running s <| ok (mgmtReset y s)

/-- HOST_RESET (R524, R525): PERST_N or a hot reset on a host port; only the active one holds Host Queue state. -/
def execHostReset (port : Yoke) (s : State) : Host.Outcome State Fault Refusal :=
  if s.power.pwrgood && s.power.hostActive = some port then ok (hostReset s) else ok s

/-- The port the HOST_SEL strap names. -/
def prefPort (s : State) : Yoke := if s.power.hostSel then .ye else .yw

/-- With no active port yet: the preferred one within 1 s of Stage 1's begin, the other one after it, once its link is at L0 (R521). -/
def portChosen (s : State) : State :=
  let y := if ktb s ≤ s.power.stage1At + 1000000000 then prefPort s else (prefPort s).other
  if s.power.hostActive.isNone && s.power.hostLink.get y then setPower (fun p => { p with hostActive := some y }) s else s

/-- HOST_PORT_SELECT (R521): the link of a port reaches L0, or the 1 s of the preferred port ends. -/
def execHostPortSelect (linked : Option Yoke) (s : State) : Host.Outcome State Fault Refusal :=
  if !s.power.pwrgood || s.power.stage = .s0 then ok s
  else match linked with
    | some y => ok (portChosen (setPower (fun p => { p with hostLink := p.hostLink.set y true }) s))
    | none => ok (portChosen s)

/-- PROVISIONING (R427, R428, R440): the DRBG draws the device unique secret, which is burnt, and the life cycle becomes PROVISIONED. -/
def execProvisioning (s : State) : Host.Outcome State Fault Refusal :=
  if mgmtUp s && lifeCycle s = 0 && s.sec.dus.isNone then
    ok (lcAdvance (setSec (fun x => { x with dus := some (freeBelow (2 ^ 256) s) }) (drew s)))
  else ok s

end Sys2Proof.Machine
end

