-- ==== Sys2Proof/Machine/Power.lean ====
section
/-!
DEFINITION. Voltage, energy, rails and temperature, the Fallow agreement, and the TAP: AVS_STEP to JTAG SCANOUT, THERMTRIP_COMPARATOR,
CHEST_QUIESCE_DONE (R515, R526 to R540, R549, R550, R556, R566, R569).
-/
namespace Sys2Proof.Machine

/-! ## Voltage, energy, rails (R526 to R528, R569) -/

/-- The package protection runs: Stage 0 has armed it (R518). -/
def armed (s : State) : Bool := s.power.pwrgood && s.power.stage ≠ .s0

/-- The hottest junction of the package, in °C. -/
def hottest (s : State) : Nat := (Die.all.map (fun d => liveF s .PWR_THERM d 0 7 0)).foldl max 0

/-- A mean lies above its limit, or a junction above THERM_ALARM_C (R527). -/
def avsPast (s : State) : Bool :=
  decide (primF s .PWR_CAP 0 21 11 < s.power.mean10ms) || decide (primF s .PWR_CAP 0 10 0 < s.power.mean1s) ||
    decide (primF s .PWR_CAP 0 29 22 < hottest s)

/-- Both means lie 5% below their limits, and no junction above THERM_ALARM_C − 5 °C (R527). -/
def avsUnder (s : State) : Bool :=
  decide (100 * s.power.mean10ms ≤ 95 * primF s .PWR_CAP 0 21 11) && decide (100 * s.power.mean1s ≤ 95 * primF s .PWR_CAP 0 10 0) &&
    decide (hottest s ≤ primF s .PWR_CAP 0 29 22 - 5)

/-- AVS_TARGET_MV, the highest target. -/
def avsTop (s : State) : Nat := primF s .PWR_CAP 0 39 30

/-- The time from one step of VDD_CORE to the next: 100 µs down, 1 ms up. -/
def avsDue (s : State) (ns : Nat) : Bool := decide (s.power.avsStepAt + ns ≤ ktb s)

/-- VDD_CORE takes a target, never outside 0.65 V to 0.80 V (R526). -/
def avsSet (mv : Nat) (capping : Bool) (s : State) : State :=
  setPower (fun p => { p with targetMv := min 800 (max 650 mv), capping := capping, avsStepAt := ktb s }) s

/-- AVS_STEP (R526, R527): at most one step of 10 mV per 100 µs down, per 1 ms up. -/
def execAvsStep (s : State) : Host.Outcome State Fault Refusal :=
  let p := s.power
  if !armed s then ok s
  else if avsPast s then (if avsDue s 100000 then ok (avsSet (p.targetMv - 10) true s) else ok s)
  else if avsTop s < p.targetMv then (if avsDue s 100000 then ok (avsSet (max (avsTop s) (p.targetMv - 10)) p.capping s) else ok s)
  else if avsUnder s then
    (if p.targetMv < avsTop s then
      (if avsDue s 1000000 then
        ok (avsSet (min (avsTop s) (p.targetMv + 10)) (p.capping && decide (p.targetMv + 10 < avsTop s)) s)
       else ok s)
     else ok (setPower (fun p => { p with capping := false }) s))
  else ok s

/-- Nominal voltage of rails 1 to 7 in mV, and the tolerance in percent (R549). -/
def railRange : Nat → Nat × Nat
  | 1 => (750, 3)
  | 2 => (1800, 5)
  | 3 => (900, 3)
  | 4 => (1100, 3)
  | 5 => (1100, 3)
  | 6 => (400, 3)
  | _ => (1800, 3)

/-- The read-back lies in the rail's operating range; VDD_CORE from the target to 20 mV above it (R549, R550). -/
def railGood (s : State) (rail mv : Nat) : Bool :=
  if rail = 0 then decide (s.power.targetMv ≤ mv ∧ mv ≤ s.power.targetMv + 20)
  else
    let (v, pct) := railRange rail
    decide (v * (100 - pct) ≤ 100 * mv ∧ 100 * mv ≤ v * (100 + pct))

/-- A rail has been read back: mV and units of 0.1 A (R569). -/
def railRead (rail mv dA : Nat) (s : State) : State :=
  let good := railGood s rail mv
  let s := setPower (fun p => { p with rails := NMap.put p.rails rail ⟨mv, dA⟩ }) s
  if good then s else mgmtPost (.railFault rail) (setLiveF .PWR_RAIL (.yoke s.ckp.primary) rail 32 32 1 s)

/-- Energy of 10 µs in µJ: the rails' last read-backs, voltage times current, summed (R528). -/
def energy10us (s : State) : Nat := (NMap.vals s.power.rails).foldl (fun n r => n + r.mv * r.dA) 0 / 1000

/-- The mean power of a window that began at `w.1` with `w.2` µJ, in W. -/
def meanW (w : Nat × Nat) (now uj : Nat) : Nat := (uj - w.2) * 1000 / (now - w.1)

/-- The 10 ms and 1 s windows whose end has come are closed (R527). -/
def closeWindows (s : State) : State :=
  let now := ktb s
  let p := s.power
  let s := if now < p.win10.1 + 10000000 then s
    else
      let m := meanW p.win10 now p.energyUj
      setPower (fun p => { p with mean10ms := m, max10ms := max p.max10ms m, win10 := (now, p.energyUj) }) s
  if now < p.win1.1 + 1000000000 then s
  else setPower (fun p => { p with mean1s := meanW p.win1 now p.energyUj, win1 := (now, p.energyUj) }) s

/-- 10 µs of energy are counted, and the windows that have ended are closed (R527, R528). -/
def energyCount (s : State) : State := closeWindows (setPower (fun p => { p with energyUj := p.energyUj + energy10us s }) s)

/-- ENERGY_UPDATE (R528, R569): VDD_CORE is read back over AVSBus, and 10 µs of energy are counted. -/
def execEnergyUpdate (mv dA : Nat) (s : State) : Host.Outcome State Fault Refusal :=
  if !armed s then ok s
  else ok (energyCount (railRead 0 mv dA (setPower (fun p => { p with readMv := mv }) s)))

/-- RAIL_POLL (R569): rail 1 to 7 over PMBus; `none`: no regulator answers at its address. -/
def execRailPoll (rail : Nat) (answer : Option (Nat × Nat)) (s : State) : Host.Outcome State Fault Refusal :=
  if !armed s || rail = 0 || 7 < rail then ok s
  else match answer with
    | some (mv, dA) => ok (railRead rail mv dA s)
    | none => ok (setLiveF .PWR_RAIL (.yoke s.ckp.primary) rail 33 33 1 s)

/-! ## Temperature (R529, R556) -/

/-- 115 °C: THERMTRIP_N goes low and the halt wave is raised. -/
def thermTrip (s : State) : State := haltFree (setPower (fun p => { p with thermtrip := true }) s)

/-- A die's hottest sensor reads `t`: PWR_THERM follows; a crossing of THERM_ALARM_C upwards sets ALARM and tells the management plane
(R529). -/
def thermRead (d : Die) (t : Nat) (s : State) : State :=
  let old := liveF s .PWR_THERM d 0 7 0
  let alarm := primF s .PWR_CAP 0 29 22
  let s := setLiveF .PWR_THERM d 0 7 0 t (setLiveF .PWR_THERM d 0 15 8 (max t (liveF s .PWR_THERM d 0 15 8)) s)
  if old ≤ alarm && decide (alarm < t) then mgmtPost (.thermAlarm d) (setLiveF .PWR_THERM d 0 16 16 1 s) else s

/-- THERMAL_SAMPLE (R529): a die's hottest sensor, in °C; at 115 °C the package trips. -/
def execThermalSample (die tj : Nat) (s : State) : Host.Outcome State Fault Refusal :=
  match Die.ofCode die with
  | none => ok s
  | some d =>
    if !armed s then ok s
    else if 115 ≤ tj then ok (thermTrip (thermRead d (min tj 255) s))
    else ok (thermRead d tj s)

/-- THERMTRIP_COMPARATOR (R529, R556): independent of the stage. -/
def execThermtripComparator (s : State) : Host.Outcome State Fault Refusal := if s.power.pwrgood then ok (thermTrip s) else ok s

/-! ## Fallow (R530 to R540) -/

/-- FALLOW_ENTER (R533, R534): PWR_FALLOW_CMD ENTER. -/
def execFallowEnter (s : State) : Host.Outcome State Fault Refusal := running s <| ok (fallowTry (fallowEnter s))

/-- FALLOW_WAKE (R536): PWR_FALLOW_CMD WAKE. -/
def execFallowWake (s : State) : Host.Outcome State Fault Refusal := running s <| ok (fallowCmd 2 s)

/-- FALLOW_CANCEL (R535): PWR_FALLOW_CMD CANCEL, during PREPARING. -/
def execFallowCancel (s : State) : Host.Outcome State Fault Refusal := running s <| ok (fallowCmd 3 s)

/-- A valid neighbour's KIND is noted. -/
def heard (n kind : Nat) (s : State) : State := setNeighbour n (fun x => { x with lastKind := kind }) s

/-- A message from a valid neighbour: its KIND is noted, and `f` follows. -/
def fromNeighbour (n kind : Nat) (f : State → State) (s : State) : Host.Outcome State Fault Refusal := running s <|
  if (neighboursOf s).contains n then ok (f (heard n kind s)) else ok s

/-- A KLT operation is outstanding on a connection to a neighbour. -/
def owesTo (n : Nat) (s : State) : Bool :=
  let entry := liveF s .PWR_FALLOW_NB_CFG (.yoke s.ckp.primary) n 12 0
  s.klt.conns.any (fun c => c.2.entry = entry && (c.2.ops.any (fun o => !o.done) || s.klt.reqs.any (fun r => r.conn = c.1)))

/-- The answer to PROPOSE (R532): ACCEPT, with CONSENT, or REFUSE with a HINT, the KTB at which the operation's deadline or bound ends. -/
def proposeAnswer (nb round : Nat) (s : State) : State :=
  if owesTo nb s then
    emit (.fallowMsg nb 3 round (ktb s) (freeBelow (2 ^ 64) s)) (drew (setNeighbour nb (fun x => { x with round := round }) s))
  else
    emit (.fallowMsg nb 2 round (ktb s) 0)
      (setNeighbour nb (fun x => { x with round := round, consent := true, consentAt := ktb s, committed := false }) s)

/-- PROPOSE (R532). -/
def execPropose (nb round : Nat) (s : State) : Host.Outcome State Fault Refusal := fromNeighbour nb 1 (proposeAnswer nb round) s

/-- A message of a round is of the exchange under way (R531). -/
def ofExchange (round : Nat) (s : State) : Bool := round = s.power.fallow.round && s.power.fallow.mode = .preparing

/-- ACCEPT (R534 steps 3 and 4); another round's is ignored (R531). -/
def execAccept (nb round : Nat) (s : State) : Host.Outcome State Fault Refusal :=
  fromNeighbour nb 2 (fun s =>
    if ofExchange round s then fallowTry (setNeighbour nb (fun x => { x with answered := true, accepted := true }) s) else s) s

/-- REFUSE (R534 step 3): CANCEL to all, ACTIVE, and the ENTER ends ST_ABORTED. -/
def execRefuse (nb round : Nat) (s : State) : Host.Outcome State Fault Refusal :=
  fromNeighbour nb 3 (fun s =>
    if ofExchange round s then cancelAgreement (setNeighbour nb (fun x => { x with answered := true, accepted := false }) s) else s) s

/-- CANCEL, COMMITTED and WAKE from a neighbour, of the round of its PROPOSE (R531, R532). -/
def ofRound (nb round : Nat) (f : Neighbour → Neighbour) (s : State) : State :=
  setNeighbour nb (fun x => if x.round = round then f x else x) s

def execCancel (nb round : Nat) (s : State) : Host.Outcome State Fault Refusal :=
  fromNeighbour nb 4 (ofRound nb round (fun x => { x with consent := false })) s

def execCommitted (nb round : Nat) (s : State) : Host.Outcome State Fault Refusal :=
  fromNeighbour nb 5 (ofRound nb round (fun x => { x with committed := true })) s

def execWake (nb round : Nat) (s : State) : Host.Outcome State Fault Refusal :=
  fromNeighbour nb 6 (ofRound nb round (fun x => { x with consent := false })) s

/-- HINT has come and a neighbour is silent (R534 step 3). -/
def answerLate (s : State) : Bool :=
  let f := s.power.fallow
  f.mode = .preparing && decide (f.hint ≤ ktb s) && (neighboursOf s).any (fun n => !(NMap.get .empty f.neighbours n).answered)

/-- FALLOW_ANSWER_TIMEOUT (R534 step 3): a neighbour is silent at HINT. -/
def execFallowAnswerTimeout (s : State) : Host.Outcome State Fault Refusal := running s <|
  if answerLate s then ok (cancelAgreement s) else ok s

/-- 60 s have passed since CONSENT without COMMITTED (R532). -/
def consentEnds (s : State) (nb : Nat) : Bool :=
  let x := NMap.get .empty s.power.fallow.neighbours nb
  x.consent && !x.committed && decide (x.consentAt + 60000000000 ≤ ktb s)

/-- CONSENT_EXPIRY (R532): 60 s without COMMITTED. -/
def execConsentExpiry (nb : Nat) (s : State) : Host.Outcome State Fault Refusal := running s <|
  if consentEnds s nb then ok (setNeighbour nb (fun x => { x with consent := false }) s)
  else ok s

/-- CHEST_QUIESCE_DONE (R151, R534 steps 2 and 4). -/
def execChestQuiesceDone (s : State) : Host.Outcome State Fault Refusal := running s <|
  if s.power.fallow.mode ≠ .preparing || s.power.fallow.quiesced then ok s
  else match chestClean s with
    | none => ok s
    | some t => ok (fallowTry (setFallow { t.power.fallow with quiesced := true } t))

/-- SELF_WAKE (R539): T_e − T_wake has come. -/
def execSelfWake (s : State) : Host.Outcome State Fault Refusal := running s <|
  match earliest s with
  | some t => if s.power.fallow.mode = .fallow && t ≤ ktb s + tWake then ok (startWake s) else ok s
  | none => ok s

/-- A wake request once the wake has started: its deferral (R536). -/
def wakeDeferral (r : WakeReq) (s : State) : State :=
  match r with
  | .host sq cid => hostCmd sq cid .any true (fun s => s) s
  | .mgmt q => mgmtCmd q true false rAny (fun s => s) s
  | .packet => countDeferred s
  | .command => s

/-- WAKE_REQUEST_DEFERRED (R536, R540): a wake request ordered after the commit point starts the wake, and is deferred with the hint; WAKE
in PWR_FALLOW_CMD has no status. A packet's refusal is the sender's ST_WAKE_DEFERRED (R537). -/
def execWakeRequestDeferred (r : WakeReq) (s : State) : Host.Outcome State Fault Refusal := running s <|
  if deferring s then ok (wakeDeferral r (startWake s)) else ok s

/-- FALLOW_WAKE_DONE (R537, R538). -/
def execFallowWakeDone (s : State) : Host.Outcome State Fault Refusal := running s <|
  if s.power.fallow.mode = .waking then ok (wakeDone s) else ok s

/-! ## The TAP (R456, R515, R566) -/

/-- An instruction is loaded into a Yoke's instruction register. -/
def loadTap (y : Yoke) (i : JtagInstr) (s : State) : State := setPower (fun p => { p with jtag := p.jtag.set y i }) s

/-- An instruction of the TAP: without power nothing happens. -/
def onTap (s t : State) : Host.Outcome State Fault Refusal := if s.power.pwrgood then ok t else ok s

/-- JTAG_BYPASS (R566): code 0xFF, and the codes that name nothing. -/
def execJtagBypass (y : Yoke) (s : State) : Host.Outcome State Fault Refusal := onTap s (loadTap y .bypass s)

/-- IDCODE (R566). -/
def idcode (y : Yoke) : Nat := 0x10000001 + (0x4800 + y.num) * 2 ^ 12 + Config.manufacturer.toNat * 2

/-- JTAG_IDCODE: the register selected is shifted out. -/
def execJtagIdcode (y : Yoke) (s : State) : Host.Outcome State Fault Refusal := onTap s (emit (.jtag y (idcode y)) (loadTap y .idcode s))

/-- JTAG_SAMPLE_PRELOAD. -/
def execJtagSamplePreload (y : Yoke) (s : State) : Host.Outcome State Fault Refusal := onTap s (loadTap y .samplePreload s)

/-- EXTEST, CLAMP and HIGHZ raise the halt wave first while the planes run (R566). -/
def tapHalts (y : Yoke) (i : JtagInstr) (s : State) : State := loadTap y i (if planesRun s then haltFree s else s)

def execJtagExtest (y : Yoke) (s : State) : Host.Outcome State Fault Refusal := onTap s (tapHalts y .extest s)
def execJtagClamp (y : Yoke) (s : State) : Host.Outcome State Fault Refusal := onTap s (tapHalts y .clamp s)
def execJtagHighz (y : Yoke) (s : State) : Host.Outcome State Fault Refusal := onTap s (tapHalts y .highz s)

/-- SCANOUT is open: the JTAG scope is unlocked, and with a tenant bound the SCAN_OUT scope (R456, R515). -/
def scanOpen (s : State) : Bool := debugOpen s 4 && consented s 1

/-- The blocks of a halted die's chain are shifted out (R515, R516). -/
def tapScan (y : Yoke) (d : Die) (chain : Nat) (s : State) : State :=
  let r := scanOut d chain (loadTap y .scanout s)
  if r.1 = .ok then emit (.jtagScan y r.2.1) r.2.2 else r.2.2

/-- SCANOUT (R456, R515); where it is not open the code acts as BYPASS. -/
def execScanout (y : Yoke) (die chain : Nat) (s : State) : Host.Outcome State Fault Refusal :=
  match Die.ofCode die with
  | none => ok s
  | some d => if scanOpen s then onTap s (tapScan y d chain s) else onTap s (loadTap y .bypass s)

end Sys2Proof.Machine
end

