-- ==== Sys2Proof/Machine/Abort.lean ====
section
/-!
DEFINITION. ABORT and `wait.c`: an abort races its target to the completion point (R309 to R311).
-/
namespace Sys2Proof.Machine

/-! ## ABORT (R309 to R311) -/

/-- ST_OK becomes ST_ABORT_LATE in a completion record not yet handed over (R311). -/
def lateStatus (st : Status) : Status := if st = .ok then .abortLate else st

/-- The home move of an object that a SET_HOME started is given up: its run is released. A redirected round that writes to the
new location already completes there. -/
def cancelMove (m : HomeMove) (s : State) : State :=
  let o := getObj s m.obj
  if s.tier.rounds.any (fun r => r.obj = m.obj && r.dest = m.dest) then s
  else
    let s := if o.stageLoc.map (fun x => Home.fld x.1 x.2) = some m.dest || m.dest.tier = .chest then s else giveHome m.dest o.run s
    modObj m.obj (fun o => { o with moveActive := false })
      { s with tier := { s.tier with moves := s.tier.moves.filter (fun x => x.obj ≠ m.obj) } }

/-- A directive is aborted (R310): objects past their point stay done and are counted; the others are not moved or staged. -/
def abortDirective (d : Directive) (s : State) : State :=
  let s := { s with tier := { s.tier with directives := s.tier.directives.filter (fun x => !(x.sq == d.sq && x.cid == d.cid)) } }
  let s := (s.tier.moves.filter (fun m => m.cause = .directive d.sq d.cid)).foldl (fun s m => cancelMove m s) s
  let s := (s.chest.stagings.filter (fun g => g.cause = .directive d.sq d.cid)).foldl (fun s g => unstageAny g.obj s) s
  postCqe d.sq d.cid .aborted d.done 0 s

/-- A held operation of a command. -/
def HeldOp.byCmd (sq cid : Nat) : HeldOp → Bool
  | .trim src _ => src = .host sq cid
  | .setFloor src _ => src = .host sq cid
  | .park src _ => src = .host sq cid
  | _ => false

/-- Sessions that hold an operation of a command. -/
def holders (s : State) (h : HeldOp → Bool) : List Nat := (NMap.keys s.bur.aux).filter (fun x => (auxOf s x).held.any h)

/-- A held operation is taken away; what waited behind it goes on. -/
def unhold (slot : Nat) (h : HeldOp → Bool) (s : State) : State :=
  let x := auxOf s slot
  setAux slot { x with held := x.held.filter (fun o => !h o) } s

/-- What a command that is outstanding is doing. -/
inductive CmdWork where
  | held (slot : Nat)
  | directive (d : Directive)
  | compacting (index : Nat)
  | compactWaits (index : Nat)
  | migration (slot : Nat)
  /-- A CONFIG_COMMIT before its outcome, which the table of R310 does not list. -/
  | commit
  /-- Its row has not run: not admitted. -/
  | notAdmitted
  deriving DecidableEq, Repr

def cmdWork (sq cid : Nat) (s : State) : CmdWork :=
  match holders s (HeldOp.byCmd sq cid), s.tier.directives.find? (fun d => d.sq = sq && d.cid = cid) with
  | slot :: _, _ => .held slot
  | [], some d => .directive d
  | [], none =>
    match s.gln.indexes.find? (fun e => e.2.compactBy = some (sq, cid)),
        s.gln.indexes.find? (fun e => e.2.waiting.contains (.compact sq cid)) with
    | some e, _ => .compacting e.1
    | none, some e => .compactWaits e.1
    | none, none =>
      match s.ckp.migs.find? (fun e => e.2.source && e.2.cmd = some (sq, cid)) with
      | some e => .migration e.1
      | none => if s.cfg.pendingC.any (fun c => c.cmd = some (sq, cid)) then .commit else .notAdmitted

/-- The abort of an outstanding command reaches its completion point (R310): whether it won. -/
def abortCmd (sq cid : Nat) (s : State) : Bool × State :=
  match cmdWork sq cid s with
  | .held slot => (true, drainHeld slot (postCqe sq cid .aborted 0 0 (unhold slot (HeldOp.byCmd sq cid) s)))
  | .directive d => (true, abortDirective d s)
  | .compacting i => (true, glnGoOn (idxAcre i) (compactFail i .aborted s))
  | .compactWaits i =>
    (true, glnGoOn (idxAcre i) (postCqe sq cid .aborted 0 0
      (modIdx i (fun x => { x with waiting := x.waiting.filter (fun w => w ≠ .compact sq cid) }) s)))
  | .migration slot =>
    (match migOf s slot with
     | some m => if m.st = .handover then (false, s) else (true, migAbandon slot .aborted s)
     | none => (false, s))
  | .commit => (false, s)
  | .notAdmitted => (true, postCqe sq cid .aborted 0 0 s)

/-- The abort of a named command (R309, R311): a completion entry that still waits reports a late abort; an entry not yet
fetched, and one not yet admitted, is always aborted. -/
def abortTarget (sq cid : Nat) (s : State) : Status × State :=
  match NMap.get? s.host.qps sq with
  | none => (.badHandle, s)
  | some qp =>
    if qp.waiting.any (fun e => e.sqid = sq && e.cid = cid) then
      (.abortLate, putQp sq { qp with waiting := qp.waiting.map (fun e =>
        if e.sqid = sq ∧ e.cid = cid then { e with status := lateStatus e.status } else e) } s)
    else if s.host.outstanding.any (fun c => c.sq == sq && c.cid == cid) then
      let r := abortCmd sq cid s
      (if r.1 then .ok else .abortLate, r.2)
    else if qp.unfetched.any (fun c => c.cid = cid) then
      (.ok, postCqe sq cid .aborted 0 0 (putQp sq { qp with
        unfetched := qp.unfetched.filter (fun c => c.cid ≠ cid), sqHead := (qp.sqHead + 1) % qp.sqDepth } s))
    else (.badHandle, s)

/-- ABORT (R309, R311). One that names itself is not listed in R310: its own completion comes first. -/
def execAbort (sq cid tsq tcid : Nat) (s : State) : Host.Outcome State Fault Refusal := running s <|
  okSettle (hostCmd sq cid .any false (fun s =>
    if tsq = sq ∧ tcid = cid then postCqe sq cid .abortLate 0 0 s
    else
      let r := abortTarget tsq tcid s
      postCqe sq cid r.1 0 0 r.2) s)

/-! ## `wait.c` (R309 to R311, R342) -/

/-- An operation's tag ends without an event (R310). -/
def asyncDrop (slot tag : Nat) (s : State) : State :=
  { s with tin := { s.tin with asyncs := s.tin.asyncs.filter (fun o => !(o.slot == slot && o.tag == tag)) } }

/-- The event of a completed operation reports the late abort in place of ST_OK, while it is queued (R311). -/
def lateEvent (slot tag : Nat) (s : State) : State :=
  let a := homeAcre slot
  let late := fun (e : TEvent) =>
    if e.slot = slot ∧ e.a = BitVec.ofNat 64 tag then
      if e.code = 6 ∧ field e.b 7 0 = Status.ok.code then { e with b := setField e.b 7 0 Status.abortLate.code }
      else if e.code = 8 ∧ field e.b 39 32 = Status.ok.code then { e with b := setField e.b 39 32 Status.abortLate.code }
      else e
    else e
  { s with tin := { s.tin with evq := s.tin.evq.set a ((s.tin.evq.get a).map late) } }

/-- The connection that carries an operation of a session program, and the operation. -/
def sndOf (s : State) (slot tag : Nat) : Option (Nat × SndOp) :=
  s.klt.conns.findSome? (fun e => (e.2.ops.find? (fun o => o.src = .tine slot tag)).map (fun o => (e.1, o)))

/-- An operation of a session program ends ST_ABORTED; its output area is undefined (R18, R336). -/
def abortedEvent (slot tag : Nat) (s : State) : State :=
  asyncEnd slot tag 6 (BitVec.ofNat 64 Status.aborted.code) (freeOuts slot tag s)

/-- Abort an `rwrite` or `rread` (R310): what no connection has taken is not sent; of a write, packets not yet handed to the wire
are not sent; the bytes a read still brings are dropped (log 202). -/
def abortKlt (slot tag : Nat) (s : State) : Bool × State :=
  if s.klt.reqs.any (fun r => r.src = .tine slot tag) then
    (true, abortedEvent slot tag (setKlt (fun k => { k with reqs := k.reqs.filter (fun r => r.src ≠ .tine slot tag) }) s))
  else match sndOf s slot tag with
    | none => (false, s)
    | some (n, o) =>
      match connOf s n with
      | none => (false, s)
      | some c =>
        let isRead := o.reading
        if !isRead && decide (o.count ≤ o.sent) then (false, s)
        else
          let ops := if o.sent = 0 then c.ops.filter (fun x => x.msn ≠ o.msn)
            else c.ops.map (fun x => if x.msn = o.msn then { x with src := .dropped, cut := !isRead } else x)
          (true, abortedEvent slot tag (settleOps n (putConn n { c with ops := ops } s)))

/-- The abort of an operation of a session program reaches its completion point (R310): whether it won. -/
def abortAsync (o : AsyncOp) (s : State) : Bool × State :=
  let slot := o.slot
  let tag := o.tag
  match o.kind with
  | .timer _ => (true, asyncDrop slot tag s)
  | .wait obj =>
    (true, synChanged obj (asyncDrop slot tag
      { s with sync := { s.sync with waits := s.sync.waits.filter (fun w => w.who ≠ .session slot tag) } }))
  | .attn | .append =>
    (match s.fur.entries.find? (fun e => match e.2.src with
      | .tine x g _ _ => x = slot && g = tag
      | _ => false) with
     | some e => abortEntry e.1 s
     | none => (false, s))
  | .srch =>
    (match s.gln.batches.find? (fun e => match e.2.src with
      | .srch x g _ _ => x = slot && g = tag
      | _ => false) with
     | some e => abortSearch e.1 s
     | none => (false, s))
  | .rwrite | .rread => abortKlt slot tag s
  | .ckpt => (true, abortedEvent slot tag (setCkptRow slot { ckptRow s slot with once := false, pinNext := false } s))
  | .park =>
    let mine : HeldOp → Bool := fun h => match h with
      | .park src _ => src = .async slot tag
      | _ => false
    if (auxOf s slot).held.any mine then (true, drainHeld slot (abortedEvent slot tag (unhold slot mine s))) else (false, s)

/-- WAIT_C (R289, R310, R311, R342): RS1 names a tag of the own session; a value of a failed issue is none. -/
def execWaitC (t : Nat) (rd rs1 rs2 rs3 : BitVec 6) (imm : BitVec 25) (s : State) : Host.Outcome State Fault Refusal := running s <|
  okSettle (tineEngine t 0x23 rd rs1 rs2 [rd, rs1] (rs2 != 0 || rs3 != 0 || imm != 0)
    (fun c s =>
      let v := (tineReg c rs1).toNat
      match s.tin.asyncs.find? (fun o => o.slot = c.slot && o.tag = v) with
      | none => tineWrite t 2 rd (statusWord .badHandle) c s
      | some o =>
        if o.ended then lateEvent c.slot v (tineWrite t 2 rd (statusWord .abortLate) c s)
        else
          let r := abortAsync o s
          tineWrite t 2 rd (statusWord (if r.1 then .ok else .abortLate)) c r.2) s)

end Sys2Proof.Machine
end

