-- ==== Sys2Proof/Machine/KsiScalar.lean ====
section
/-!
DEFINITION. The scalar instructions of KSI level K1: one meaning each (R325 to R330), and words that are no
instruction (R320, R321).
-/
namespace Sys2Proof.Machine

/-- 1 when a comparison holds, 0 otherwise (R325). -/
def ofBool (b : Bool) : Word := if b then 1 else 0

/-- Bits [127:64] of the signed product. -/
def mulHigh (a b : Word) : Word := BitVec.ofInt 64 (a.toInt * b.toInt / 2 ^ 64)

/-- Bits [127:64] of the unsigned product. -/
def mulHighU (a b : Word) : Word := BitVec.ofNat 64 (a.toNat * b.toNat / 2 ^ 64)

/-- Signed quotient, truncated towards zero; divisor 0 gives −1; −2^63 ÷ −1 wraps to −2^63 (R325). -/
def divS (a b : Word) : Word := if b = 0 then BitVec.allOnes 64 else a.sdiv b

/-- Unsigned quotient; divisor 0 gives 2^64 − 1 (R325). -/
def divU (a b : Word) : Word := if b = 0 then BitVec.allOnes 64 else a / b

/-- Signed remainder; divisor 0 gives the dividend (R325). -/
def remS (a b : Word) : Word := if b = 0 then a else a.srem b

/-- Unsigned remainder; divisor 0 gives the dividend (R325). -/
def remU (a b : Word) : Word := if b = 0 then a else a % b

/-- A form-R ALU operation of major opcode 0x01 (R326). -/
def tineAlu (t : Nat) (rd rs1 rs2 : BitVec 6) (fn : Nat) (f : Word → Word → Word) (s : State) : State :=
  tineExec t (encR 0x01 rd rs1 rs2 fn) 1 [rd, rs1, rs2] false
    (fun c => tineWrite t 1 rd (f (tineReg c rs1) (tineReg c rs2)) c) s

/-- A form-I ALU operation (R327). -/
def tineAluImm (t op : Nat) (rd rs1 : BitVec 6) (imm : BitVec 13) (f : Word → Word → Word) (s : State) : State :=
  tineExec t (encI op rd rs1 imm) 1 [rd, rs1] false
    (fun c => tineWrite t 1 rd (f (tineReg c rs1) (sext13 imm)) c) s

/-- A shift by immediate (R327). -/
def tineShift (t kind : Nat) (rd rs1 sh : BitVec 6) (mbz : BitVec 5) (f : Word → Nat → Word) (s : State) : State :=
  tineExec t (encI 0x08 rd rs1 (BitVec.ofNat 13 (mbz.toNat * 2 ^ 8 + kind * 2 ^ 6 + sh.toNat))) 1 [rd, rs1] (mbz != 0)
    (fun c => tineWrite t 1 rd (f (tineReg c rs1) sh.toNat) c) s

/-- A conditional branch (R328): to PC + OFF13 × 4 when the comparison holds, else to the next word. -/
def tineBranch (t op : Nat) (rs1 rs2 : BitVec 6) (off : BitVec 13) (f : Word → Word → Bool) (s : State) : State :=
  tineExec t (encI op rs1 rs2 off) 1 [rs1, rs2] false
    (fun c => tineJump t
      (if f (tineReg c rs1) (tineReg c rs2) then BitVec.ofNat 64 c.pc + sext13 off * 4
       else BitVec.ofNat 64 (c.pc + 4)) c) s

/-- A local load of `n` bytes (R330): alignment, then the permitted range. -/
def tineLoad (t op n : Nat) (rd rs1 : BitVec 6) (imm : BitVec 13) (s : State) : State :=
  tineExec t (encI op rd rs1 imm) 1 [rd, rs1] false
    (fun c s =>
      let a := (tineReg c rs1 + sext13 imm).toNat
      if a % n ≠ 0 then tineTrap t c .badFormat (encI op rd rs1 imm) s
      else if !loadOk c a n then tineTrap t c .access (encI op rd rs1 imm) s
      else tineWrite t 1 rd (BitVec.ofNat 64 (leNat (localRead s c a n))) c s) s

/-- A local store of `n` bytes (R330). -/
def tineStore (t op n : Nat) (rs2 rs1 : BitVec 6) (imm : BitVec 13) (s : State) : State :=
  tineExec t (encI op rs2 rs1 imm) 1 [rs2, rs1] false
    (fun c s =>
      let a := (tineReg c rs1 + sext13 imm).toNat
      if a % n ≠ 0 then tineTrap t c .badFormat (encI op rs2 rs1 imm) s
      else if !storeOk c a n then tineTrap t c .access (encI op rs2 rs1 imm) s
      else putTine t { localWrite c a (leBytes n (tineReg c rs2).toNat) with pc := c.pc + 4 } s) s

/-- c0 to c15 as the descriptor's words 32 to 47 (R279, R287). -/
def ctxWords (c : TineCtx) : List Word := (List.range 16).map (fun i => NMap.get 0 c.c i)

/-- FN values of major opcode 0x01 that are assigned (R326). -/
def aluFn (fn : Nat) : Bool :=
  fn ≤ 0x0D || (0x10 ≤ fn && fn ≤ 0x12) || (0x14 ≤ fn && fn ≤ 0x17)

/-- EOP values below 0x40 with the issue form A they have (R333). -/
def eopForm (eop a : Nat) : Bool :=
  if eop = 0x01 then true
  else if a = 0 then [0x03, 0x04, 0x05, 0x06, 0x21, 0x23].contains eop
  else [0x10, 0x11, 0x12, 0x18, 0x19, 0x20, 0x22, 0x28].contains eop

/-! ## Register operations (R325, R326) -/

/-- ADD (R326). -/
def execAdd (t : Nat) (rd rs1 rs2 : BitVec 6) (s : State) : Host.Outcome State Fault Refusal := running s <|
  ok (tineAlu t rd rs1 rs2 0x0 (fun a b => a + b) s)

/-- SUB (R326). -/
def execSub (t : Nat) (rd rs1 rs2 : BitVec 6) (s : State) : Host.Outcome State Fault Refusal := running s <|
  ok (tineAlu t rd rs1 rs2 0x1 (fun a b => a - b) s)

/-- AND (R326). -/
def execAndReg (t : Nat) (rd rs1 rs2 : BitVec 6) (s : State) : Host.Outcome State Fault Refusal := running s <|
  ok (tineAlu t rd rs1 rs2 0x2 (fun a b => a &&& b) s)

/-- OR (R326). -/
def execOrReg (t : Nat) (rd rs1 rs2 : BitVec 6) (s : State) : Host.Outcome State Fault Refusal := running s <|
  ok (tineAlu t rd rs1 rs2 0x3 (fun a b => a ||| b) s)

/-- XOR (R326). -/
def execXorReg (t : Nat) (rd rs1 rs2 : BitVec 6) (s : State) : Host.Outcome State Fault Refusal := running s <|
  ok (tineAlu t rd rs1 rs2 0x4 (fun a b => a ^^^ b) s)

/-- SLL (R326). -/
def execSll (t : Nat) (rd rs1 rs2 : BitVec 6) (s : State) : Host.Outcome State Fault Refusal := running s <|
  ok (tineAlu t rd rs1 rs2 0x5 (fun a b => a <<< (b.toNat % 64)) s)

/-- SRL (R326). -/
def execSrl (t : Nat) (rd rs1 rs2 : BitVec 6) (s : State) : Host.Outcome State Fault Refusal := running s <|
  ok (tineAlu t rd rs1 rs2 0x6 (fun a b => a >>> (b.toNat % 64)) s)

/-- SRA (R326). -/
def execSra (t : Nat) (rd rs1 rs2 : BitVec 6) (s : State) : Host.Outcome State Fault Refusal := running s <|
  ok (tineAlu t rd rs1 rs2 0x7 (fun a b => a.sshiftRight (b.toNat % 64)) s)

/-- SLT (R326). -/
def execSlt (t : Nat) (rd rs1 rs2 : BitVec 6) (s : State) : Host.Outcome State Fault Refusal := running s <|
  ok (tineAlu t rd rs1 rs2 0x8 (fun a b => ofBool (a.slt b)) s)

/-- SLTU (R326). -/
def execSltu (t : Nat) (rd rs1 rs2 : BitVec 6) (s : State) : Host.Outcome State Fault Refusal := running s <|
  ok (tineAlu t rd rs1 rs2 0x9 (fun a b => ofBool (a.ult b)) s)

/-- MIN (R326). -/
def execMin (t : Nat) (rd rs1 rs2 : BitVec 6) (s : State) : Host.Outcome State Fault Refusal := running s <|
  ok (tineAlu t rd rs1 rs2 0xa (fun a b => if b.slt a then b else a) s)

/-- MAX (R326). -/
def execMax (t : Nat) (rd rs1 rs2 : BitVec 6) (s : State) : Host.Outcome State Fault Refusal := running s <|
  ok (tineAlu t rd rs1 rs2 0xb (fun a b => if a.slt b then b else a) s)

/-- MINU (R326). -/
def execMinu (t : Nat) (rd rs1 rs2 : BitVec 6) (s : State) : Host.Outcome State Fault Refusal := running s <|
  ok (tineAlu t rd rs1 rs2 0xc (fun a b => if b.ult a then b else a) s)

/-- MAXU (R326). -/
def execMaxu (t : Nat) (rd rs1 rs2 : BitVec 6) (s : State) : Host.Outcome State Fault Refusal := running s <|
  ok (tineAlu t rd rs1 rs2 0xd (fun a b => if a.ult b then b else a) s)

/-- MUL (R326). -/
def execMul (t : Nat) (rd rs1 rs2 : BitVec 6) (s : State) : Host.Outcome State Fault Refusal := running s <|
  ok (tineAlu t rd rs1 rs2 0x10 (fun a b => a * b) s)

/-- MULH (R326). -/
def execMulh (t : Nat) (rd rs1 rs2 : BitVec 6) (s : State) : Host.Outcome State Fault Refusal := running s <|
  ok (tineAlu t rd rs1 rs2 0x11 (fun a b => mulHigh a b) s)

/-- MULHU (R326). -/
def execMulhu (t : Nat) (rd rs1 rs2 : BitVec 6) (s : State) : Host.Outcome State Fault Refusal := running s <|
  ok (tineAlu t rd rs1 rs2 0x12 (fun a b => mulHighU a b) s)

/-- DIV (R326). -/
def execDiv (t : Nat) (rd rs1 rs2 : BitVec 6) (s : State) : Host.Outcome State Fault Refusal := running s <|
  ok (tineAlu t rd rs1 rs2 0x14 (fun a b => divS a b) s)

/-- DIVU (R326). -/
def execDivu (t : Nat) (rd rs1 rs2 : BitVec 6) (s : State) : Host.Outcome State Fault Refusal := running s <|
  ok (tineAlu t rd rs1 rs2 0x15 (fun a b => divU a b) s)

/-- REM (R326). -/
def execRem (t : Nat) (rd rs1 rs2 : BitVec 6) (s : State) : Host.Outcome State Fault Refusal := running s <|
  ok (tineAlu t rd rs1 rs2 0x16 (fun a b => remS a b) s)

/-- REMU (R326). -/
def execRemu (t : Nat) (rd rs1 rs2 : BitVec 6) (s : State) : Host.Outcome State Fault Refusal := running s <|
  ok (tineAlu t rd rs1 rs2 0x17 (fun a b => remU a b) s)

/-! ## Immediate operations and constants (R327) -/

/-- ADDI (R327). -/
def execAddi (t : Nat) (rd rs1 : BitVec 6) (imm : BitVec 13) (s : State) : Host.Outcome State Fault Refusal := running s <|
  ok (tineAluImm t 0x2 rd rs1 imm (fun a i => a + i) s)

/-- ANDI (R327). -/
def execAndi (t : Nat) (rd rs1 : BitVec 6) (imm : BitVec 13) (s : State) : Host.Outcome State Fault Refusal := running s <|
  ok (tineAluImm t 0x3 rd rs1 imm (fun a i => a &&& i) s)

/-- ORI (R327). -/
def execOri (t : Nat) (rd rs1 : BitVec 6) (imm : BitVec 13) (s : State) : Host.Outcome State Fault Refusal := running s <|
  ok (tineAluImm t 0x4 rd rs1 imm (fun a i => a ||| i) s)

/-- XORI (R327). -/
def execXori (t : Nat) (rd rs1 : BitVec 6) (imm : BitVec 13) (s : State) : Host.Outcome State Fault Refusal := running s <|
  ok (tineAluImm t 0x5 rd rs1 imm (fun a i => a ^^^ i) s)

/-- SLTI (R327). -/
def execSlti (t : Nat) (rd rs1 : BitVec 6) (imm : BitVec 13) (s : State) : Host.Outcome State Fault Refusal := running s <|
  ok (tineAluImm t 0x6 rd rs1 imm (fun a i => ofBool (a.slt i)) s)

/-- SLTIU (R327). -/
def execSltiu (t : Nat) (rd rs1 : BitVec 6) (imm : BitVec 13) (s : State) : Host.Outcome State Fault Refusal := running s <|
  ok (tineAluImm t 0x7 rd rs1 imm (fun a i => ofBool (a.ult i)) s)

/-- SLLI (R327): IMM13[7:6] is KIND 0, IMM13[5:0] the amount, IMM13[12:8] must be zero. -/
def execSlli (t : Nat) (rd rs1 sh : BitVec 6) (mbz : BitVec 5) (s : State) : Host.Outcome State Fault Refusal := running s <|
  ok (tineShift t 0 rd rs1 sh mbz (fun a n => a <<< n) s)

/-- SRLI (R327): IMM13[7:6] is KIND 1, IMM13[5:0] the amount, IMM13[12:8] must be zero. -/
def execSrli (t : Nat) (rd rs1 sh : BitVec 6) (mbz : BitVec 5) (s : State) : Host.Outcome State Fault Refusal := running s <|
  ok (tineShift t 1 rd rs1 sh mbz (fun a n => a >>> n) s)

/-- SRAI (R327): IMM13[7:6] is KIND 2, IMM13[5:0] the amount, IMM13[12:8] must be zero. -/
def execSrai (t : Nat) (rd rs1 sh : BitVec 6) (mbz : BitVec 5) (s : State) : Host.Outcome State Fault Refusal := running s <|
  ok (tineShift t 2 rd rs1 sh mbz (fun a n => a.sshiftRight n) s)

/-- LI_SHORT (R327). -/
def execLiShort (t : Nat) (rd : BitVec 6) (imm : BitVec 19) (s : State) : Host.Outcome State Fault Refusal := running s <|
  ok (tineExec t (encU 0x09 rd imm) 1 [rd] false (fun c => tineWrite t 1 rd (sext19 imm) c) s)

/-- LI_LONG (R327): the 51-bit constant, bits [50:32] in W0 and [31:0] in W1. -/
def execLiLong (t : Nat) (rd : BitVec 6) (imm : BitVec 51) (s : State) : Host.Outcome State Fault Refusal := running s <|
  ok (tineExec t (encU 0x60 rd (BitVec.ofNat 19 (imm.toNat / 2 ^ 32))) 2 [rd] false
    (fun c => tineWrite t 2 rd (imm.signExtend 64) c) s)

/-- LPC (R327). -/
def execLpc (t : Nat) (rd : BitVec 6) (imm : BitVec 19) (s : State) : Host.Outcome State Fault Refusal := running s <|
  ok (tineExec t (encU 0x0A rd imm) 1 [rd] false
    (fun c => tineWrite t 1 rd (BitVec.ofNat 64 c.pc + sext19 imm * 4) c) s)

/-! ## Branches and jumps (R328) -/

/-- JAL (R328). -/
def execJal (t : Nat) (rd : BitVec 6) (imm : BitVec 19) (s : State) : Host.Outcome State Fault Refusal := running s <|
  ok (tineExec t (encU 0x0B rd imm) 1 [rd] false
    (fun c => tineJump t (BitVec.ofNat 64 c.pc + sext19 imm * 4)
      (setTineReg c rd.toNat (BitVec.ofNat 64 (c.pc + 4)))) s)

/-- JALR (R328): a misaligned target traps before RD is written. -/
def execJalr (t : Nat) (rd rs1 : BitVec 6) (imm : BitVec 13) (s : State) : Host.Outcome State Fault Refusal := running s <|
  ok (tineExec t (encI 0x0C rd rs1 imm) 1 [rd, rs1] false
    (fun c s =>
      let target := tineReg c rs1 + sext13 imm
      if target.toNat % 4 ≠ 0 then tineTrap t c .badFormat (encI 0x0C rd rs1 imm) s
      else tineJump t target (setTineReg c rd.toNat (BitVec.ofNat 64 (c.pc + 4))) s) s)

/-- BEQ (R328). -/
def execBeq (t : Nat) (rs1 rs2 : BitVec 6) (off : BitVec 13) (s : State) : Host.Outcome State Fault Refusal := running s <|
  ok (tineBranch t 0xd rs1 rs2 off (fun a b => a == b) s)

/-- BNE (R328). -/
def execBne (t : Nat) (rs1 rs2 : BitVec 6) (off : BitVec 13) (s : State) : Host.Outcome State Fault Refusal := running s <|
  ok (tineBranch t 0xe rs1 rs2 off (fun a b => a != b) s)

/-- BLT (R328). -/
def execBlt (t : Nat) (rs1 rs2 : BitVec 6) (off : BitVec 13) (s : State) : Host.Outcome State Fault Refusal := running s <|
  ok (tineBranch t 0xf rs1 rs2 off (fun a b => a.slt b) s)

/-- BGE (R328). -/
def execBge (t : Nat) (rs1 rs2 : BitVec 6) (off : BitVec 13) (s : State) : Host.Outcome State Fault Refusal := running s <|
  ok (tineBranch t 0x10 rs1 rs2 off (fun a b => !a.slt b) s)

/-- BLTU (R328). -/
def execBltu (t : Nat) (rs1 rs2 : BitVec 6) (off : BitVec 13) (s : State) : Host.Outcome State Fault Refusal := running s <|
  ok (tineBranch t 0x11 rs1 rs2 off (fun a b => a.ult b) s)

/-- BGEU (R328). -/
def execBgeu (t : Nat) (rs1 rs2 : BitVec 6) (off : BitVec 13) (s : State) : Host.Outcome State Fault Refusal := running s <|
  ok (tineBranch t 0x12 rs1 rs2 off (fun a b => !a.ult b) s)

/-! ## Local loads and stores (R330) -/

/-- LD_B (R330). -/
def execLdB (t : Nat) (rd rs1 : BitVec 6) (imm : BitVec 13) (s : State) : Host.Outcome State Fault Refusal := running s <|
  ok (tineLoad t 0x14 1 rd rs1 imm s)

/-- LD_H (R330). -/
def execLdH (t : Nat) (rd rs1 : BitVec 6) (imm : BitVec 13) (s : State) : Host.Outcome State Fault Refusal := running s <|
  ok (tineLoad t 0x15 2 rd rs1 imm s)

/-- LD_W (R330). -/
def execLdW (t : Nat) (rd rs1 : BitVec 6) (imm : BitVec 13) (s : State) : Host.Outcome State Fault Refusal := running s <|
  ok (tineLoad t 0x16 4 rd rs1 imm s)

/-- LD_D (R330). -/
def execLdD (t : Nat) (rd rs1 : BitVec 6) (imm : BitVec 13) (s : State) : Host.Outcome State Fault Refusal := running s <|
  ok (tineLoad t 0x17 8 rd rs1 imm s)

/-- ST_B (R330). -/
def execStB (t : Nat) (rs2 rs1 : BitVec 6) (imm : BitVec 13) (s : State) : Host.Outcome State Fault Refusal := running s <|
  ok (tineStore t 0x18 1 rs2 rs1 imm s)

/-- ST_H (R330). -/
def execStH (t : Nat) (rs2 rs1 : BitVec 6) (imm : BitVec 13) (s : State) : Host.Outcome State Fault Refusal := running s <|
  ok (tineStore t 0x19 2 rs2 rs1 imm s)

/-- ST_W (R330). -/
def execStW (t : Nat) (rs2 rs1 : BitVec 6) (imm : BitVec 13) (s : State) : Host.Outcome State Fault Refusal := running s <|
  ok (tineStore t 0x1a 4 rs2 rs1 imm s)

/-- ST_D (R330). -/
def execStD (t : Nat) (rs2 rs1 : BitVec 6) (imm : BitVec 13) (s : State) : Host.Outcome State Fault Refusal := running s <|
  ok (tineStore t 0x1b 8 rs2 rs1 imm s)

/-! ## System and control operations (R329) -/

/-- EVRET (R287, R329): commits c0 to c15 to words 32 to 47, raises SEQ by one and frees the Tine. In system mode it
traps with ST_BAD_FORMAT. -/
def execEvret (t : Nat) (rd rs1 rs2 : BitVec 6) (s : State) : Host.Outcome State Fault Refusal := running s <|
  ok (tineExec t (encR 0x24 rd rs1 rs2 0x00) 1 [] (rd != 0 || rs1 != 0 || rs2 != 0)
    (fun c s =>
      if c.system then tineTrap t c .badFormat (encR 0x24 rd rs1 rs2 0x00) s
      else freeTine t (commitDesc c.slot (fun d => { d with ctx := ctxWords c }) s)) s)

/-- FAULT (R329): traps with ST_ABORTED; the code, in the RD field, reaches the host in the record's C. -/
def execFault (t : Nat) (code rs1 rs2 : BitVec 6) (s : State) : Host.Outcome State Fault Refusal := running s <|
  ok (tineExec t (encR 0x24 code rs1 rs2 0x01) 1 [] (rs1 != 0 || rs2 != 0)
    (fun c => tineTrap t c .aborted (encR 0x24 code rs1 rs2 0x01)) s)

/-- KTB (R329): the KTB copy of the Tine's own die. -/
def execKtb (t : Nat) (rd rs1 rs2 : BitVec 6) (s : State) : Host.Outcome State Fault Refusal := running s <|
  ok (tineExec t (encR 0x24 rd rs1 rs2 0x02) 1 [rd] (rs1 != 0 || rs2 != 0)
    (fun c s => tineWrite t 1 rd (BitVec.ofNat 64 (ktbOf s (tineDie t))) c s) s)

/-! ## Encodings without an instruction (R320, R321, R323, R326, R329, R333) -/

/-- The status with which a Tine traps on a word it cannot execute: ST_VERSION on an encoding reserved for K2 or K3,
ST_BAD_FORMAT on an unassigned opcode, FN, EOP, shift KIND or issue form. `none`: the word is an instruction of
K1. -/
def illegalStatus (w0 w1 : Nat) : Option Status :=
  let op := bitsOf w0 31 25
  let fn := bitsOf w0 6 0
  let a := bitsOf w1 31 31
  if (0x30 ≤ op && op ≤ 0x5F) || (0x68 ≤ op && op ≤ 0x77) then some .version
  else if op = 0x01 then (if aluFn fn then none else some .badFormat)
  else if op = 0x08 then (if bitsOf w0 7 6 = 3 then some .badFormat else none)
  else if op = 0x24 then (if fn = 0x00 || fn = 0x01 || fn = 0x02 || fn = 0x20 || fn = 0x21 then none else some .badFormat)
  else if op = 0x61 then
    (if 0x40 ≤ fn then some .version
     else if eopForm fn a then none else some .badFormat)
  else if op = 0x60 || (0x02 ≤ op && op ≤ 0x12) || (0x14 ≤ op && op ≤ 0x23) then none
  else some .badFormat

/-- ILLEGAL_INSTRUCTION (R321, R323): the Tine has fetched a word whose opcode, FN, EOP, KIND or form it does not
execute. The opcode decides on the first word alone. A word of an instruction of K1 reaches this row never. -/
def execIllegalInstruction (t : Nat) (w0 w1 : BitVec 32) (s : State) : Host.Outcome State Fault Refusal := running s <|
  match illegalStatus w0.toNat w1.toNat with
  | none => ok s
  | some st =>
    ok (tineExec t w0.toNat (if bitsOf w0.toNat 31 25 = 0x61 then 2 else 1) [] false
      (fun c => tineTrap t c st w0.toNat) s)

end Sys2Proof.Machine
end

