-- ==== Sys2Proof/Machine/Dispatch.lean ====
section
/-!
DEFINITION. The meaning of every command: one arm per constructor, each one call of a meaning.
-/
namespace Sys2Proof.Machine

def exec (i : Instr) (s : State) : Host.Outcome State Fault Refusal :=
  match i with
  | .registerWrite r addr v => Sys2Proof.Machine.execRegisterWrite r addr v s
  | .cfgCommit y r gen mask tag silent => Sys2Proof.Machine.execCfgCommit y r gen mask tag silent s
  | .scheduledCommit y r gen mask tag silent => Sys2Proof.Machine.execScheduledCommit y r gen mask tag silent s
  | .commitCancel r gen tag => Sys2Proof.Machine.execCommitCancel r gen tag s
  | .commitAnswerTimeout => Sys2Proof.Machine.execCommitAnswerTimeout s
  | .commitApplyAt => Sys2Proof.Machine.execCommitApplyAt s
  | .configFingerprint => Sys2Proof.Machine.execConfigFingerprint s
  | .divergenceGraceExpiry entry => Sys2Proof.Machine.execDivergenceGraceExpiry entry s
  | .yokKtbFreqWrite y v => Sys2Proof.Machine.execYokKtbFreqWrite y v s
  | .yokKtbSlewWrite y v => Sys2Proof.Machine.execYokKtbSlewWrite y v s
  | .yokKtbStepWrite y v => Sys2Proof.Machine.execYokKtbStepWrite y v s
  | .ppsInEdge y => Sys2Proof.Machine.execPpsInEdge y s
  | .ppsOutPulse => Sys2Proof.Machine.execPpsOutPulse s
  | .acreTimeTransfer a => Sys2Proof.Machine.execAcreTimeTransfer a s
  | .pwrSpeedSample die speed source => Sys2Proof.Machine.execPwrSpeedSample die speed source s
  | .linkFence link => Sys2Proof.Machine.execLinkFence link s
  | .openSession sq cid buf => Sys2Proof.Machine.execOpenSession sq cid buf s
  | .park sq cid handle => Sys2Proof.Machine.execPark sq cid handle s
  | .revive sq cid handle => Sys2Proof.Machine.execRevive sq cid handle s
  | .dormant sq cid handle => Sys2Proof.Machine.execDormant sq cid handle s
  | .migrate sq cid handle device tier target conn => Sys2Proof.Machine.execMigrate sq cid handle device tier target conn s
  | .retire sq cid handle => Sys2Proof.Machine.execRetire sq cid handle s
  | .retireComplete slot => Sys2Proof.Machine.execRetireComplete slot s
  | .wakeSet sq cid handle en deadline => Sys2Proof.Machine.execWakeSet sq cid handle en deadline s
  | .deadlineWake slot => Sys2Proof.Machine.execDeadlineWake slot s
  | .queuedWakeAdmit principal => Sys2Proof.Machine.execQueuedWakeAdmit principal s
  | .revivalFetchStart acre => Sys2Proof.Machine.execRevivalFetchStart acre s
  | .revivalReady slot => Sys2Proof.Machine.execRevivalReady slot s
  | .descRead sq cid handle dlen => Sys2Proof.Machine.execDescRead sq cid handle dlen s
  | .getx acre slot => Sys2Proof.Machine.execGetx acre slot s
  | .recall slot => Sys2Proof.Machine.execRecall slot s
  | .shelfWb slot => Sys2Proof.Machine.execShelfWb slot s
  | .getxGrant slot => Sys2Proof.Machine.execGetxGrant slot s
  | .getxRetry acre => Sys2Proof.Machine.execGetxRetry acre s
  | .shelfEvict acre slot => Sys2Proof.Machine.execShelfEvict acre slot s
  | .profileUnbind sq cid profile => Sys2Proof.Machine.execProfileUnbind sq cid profile s
  | .writeBackRound obj => Sys2Proof.Machine.execWriteBackRound obj s
  | .writeBackComplete obj => Sys2Proof.Machine.execWriteBackComplete obj s
  | .nearEvict acre => Sys2Proof.Machine.execNearEvict acre s
  | .stackFetchForAppend slot k => Sys2Proof.Machine.execStackFetchForAppend slot k s
  | .setPolicy sq cid handle tier target fill => Sys2Proof.Machine.execSetPolicy sq cid handle tier target fill s
  | .setHome sq cid t tier target => Sys2Proof.Machine.execSetHome sq cid t tier target s
  | .homeMoveCopyDone obj => Sys2Proof.Machine.execHomeMoveCopyDone obj s
  | .oldRunFree obj => Sys2Proof.Machine.execOldRunFree obj s
  | .stage sq cid t => Sys2Proof.Machine.execStage sq cid t s
  | .unstage sq cid t => Sys2Proof.Machine.execUnstage sq cid t s
  | .prefetch sq cid t lo hi => Sys2Proof.Machine.execPrefetch sq cid t lo hi s
  | .evict sq cid t => Sys2Proof.Machine.execEvict sq cid t s
  | .pin sq cid t => Sys2Proof.Machine.execPin sq cid t s
  | .unpin sq cid t => Sys2Proof.Machine.execUnpin sq cid t s
  | .prefixCreate sq cid handle len principal => Sys2Proof.Machine.execPrefixCreate sq cid handle len principal s
  | .prefixRetire sq cid id => Sys2Proof.Machine.execPrefixRetire sq cid id s
  | .borrowEmpty borrow => Sys2Proof.Machine.execBorrowEmpty borrow s
  | .chestWrite obj => Sys2Proof.Machine.execChestWrite obj s
  | .chestWriteDurable index => Sys2Proof.Machine.execChestWriteDurable index s
  | .chestPieceRead loc drive outcome => Sys2Proof.Machine.execChestPieceRead loc drive outcome s
  | .stagingDone obj => Sys2Proof.Machine.execStagingDone obj s
  | .nvmeCompletion drive cid media => Sys2Proof.Machine.execNvmeCompletion drive cid media s
  | .nvmeCmdTimeout drive cid abortOk resetOk => Sys2Proof.Machine.execNvmeCmdTimeout drive cid abortOk resetOk s
  | .driveFailed drive unreachable => Sys2Proof.Machine.execDriveFailed drive unreachable s
  | .driveLinkUp drive segments vwc same => Sys2Proof.Machine.execDriveLinkUp drive segments vwc same s
  | .journalGroupClose => Sys2Proof.Machine.execJournalGroupClose s
  | .journalGroupDurable => Sys2Proof.Machine.execJournalGroupDurable s
  | .mapCheckpoint => Sys2Proof.Machine.execMapCheckpoint s
  | .harrowCollect drive => Sys2Proof.Machine.execHarrowCollect drive s
  | .harrowDeallocate drive seg => Sys2Proof.Machine.execHarrowDeallocate drive seg s
  | .chestMount => Sys2Proof.Machine.execChestMount s
  | .smartPoll drive pct crit event => Sys2Proof.Machine.execSmartPoll drive pct crit event s
  | .chestFormat sq cid => Sys2Proof.Machine.execChestFormat sq cid s
  | .chestAttach sq cid drive => Sys2Proof.Machine.execChestAttach sq cid drive s
  | .arqBatchTake arq => Sys2Proof.Machine.execArqBatchTake arq s
  | .sampleHoldTimeout entry => Sys2Proof.Machine.execSampleHoldTimeout entry s
  | .itemDispatch acre => Sys2Proof.Machine.execItemDispatch acre s
  | .itemComplete furrow => Sys2Proof.Machine.execItemComplete furrow s
  | .entryComplete entry => Sys2Proof.Machine.execEntryComplete entry s
  | .batchResponse arq serial => Sys2Proof.Machine.execBatchResponse arq serial s
  | .preemptSave acre => Sys2Proof.Machine.execPreemptSave acre s
  | .preemptSaveDone furrow => Sys2Proof.Machine.execPreemptSaveDone furrow s
  | .prefillRestore acre => Sys2Proof.Machine.execPrefillRestore acre s
  | .arqErrorClear arq => Sys2Proof.Machine.execArqErrorClear arq s
  | .tkqRecordApply tkq => Sys2Proof.Machine.execTkqRecordApply tkq s
  | .tkqErrorClear tkq => Sys2Proof.Machine.execTkqErrorClear tkq s
  | .trim sq cid handle target => Sys2Proof.Machine.execTrim sq cid handle target s
  | .setFloor sq cid handle floor => Sys2Proof.Machine.execSetFloor sq cid handle floor s
  | .genSet sq cid handle buf => Sys2Proof.Machine.execGenSet sq cid handle buf s
  | .srqBatchTake srq => Sys2Proof.Machine.execSrqBatchTake srq s
  | .srqErrorClear srq => Sys2Proof.Machine.execSrqErrorClear srq s
  | .centroidPassDone gleaner => Sys2Proof.Machine.execCentroidPassDone gleaner s
  | .listVisitDone gleaner => Sys2Proof.Machine.execListVisitDone gleaner s
  | .searchMerge serial => Sys2Proof.Machine.execSearchMerge serial s
  | .gleanerSwitch gleaner => Sys2Proof.Machine.execGleanerSwitch gleaner s
  | .idxCreate sq cid target buf => Sys2Proof.Machine.execIdxCreate sq cid target buf s
  | .idxLoad sq cid handle list buf => Sys2Proof.Machine.execIdxLoad sq cid handle list buf s
  | .idxPublish sq cid handle => Sys2Proof.Machine.execIdxPublish sq cid handle s
  | .idxCompact sq cid handle => Sys2Proof.Machine.execIdxCompact sq cid handle s
  | .compactionBuildDone gleaner => Sys2Proof.Machine.execCompactionBuildDone gleaner s
  | .compactionSwitch slot => Sys2Proof.Machine.execCompactionSwitch slot s
  | .idxRetire sq cid handle => Sys2Proof.Machine.execIdxRetire sq cid handle s
  | .shardDeadline serial => Sys2Proof.Machine.execShardDeadline serial s
  | .imageLoad sq cid b verifies => Sys2Proof.Machine.execImageLoad sq cid b verifies s
  | .imageUnload sq cid id => Sys2Proof.Machine.execImageUnload sq cid id s
  | .routeSet sq cid principal route conn base len key perm => Sys2Proof.Machine.execRouteSet sq cid principal route conn base len key perm s
  | .eventDispatch acre => Sys2Proof.Machine.execEventDispatch acre s
  | .handlerBudgetExpire tine => Sys2Proof.Machine.execHandlerBudgetExpire tine s
  | .programTimer slot tag => Sys2Proof.Machine.execProgramTimer slot tag s
  | .sqTailDoorbell sq tail entries => Sys2Proof.Machine.execSqTailDoorbell sq tail entries s
  | .cqHeadDoorbell cq head => Sys2Proof.Machine.execCqHeadDoorbell cq head s
  | .streamRingDoorbell ring count => Sys2Proof.Machine.execStreamRingDoorbell ring count s
  | .eventRingDoorbell ring count => Sys2Proof.Machine.execEventRingDoorbell ring count s
  | .msixCoalesce kind n => Sys2Proof.Machine.execMsixCoalesce kind n s
  | .yokHqNegotiate range => Sys2Proof.Machine.execYokHqNegotiate range s
  | .yokHqAqEn enable => Sys2Proof.Machine.execYokHqAqEn enable s
  | .createQp sq cid q sqBase cqBase sqLog2 cqLog2 vector => Sys2Proof.Machine.execCreateQp sq cid q sqBase cqBase sqLog2 cqLog2 vector s
  | .deleteQp sq cid q => Sys2Proof.Machine.execDeleteQp sq cid q s
  | .streamCreate sq cid ring base k paddr vector => Sys2Proof.Machine.execStreamCreate sq cid ring base k paddr vector s
  | .streamDelete sq cid ring => Sys2Proof.Machine.execStreamDelete sq cid ring s
  | .evringCreate sq cid ring base k paddr vector => Sys2Proof.Machine.execEvringCreate sq cid ring base k paddr vector s
  | .evringDelete sq cid ring => Sys2Proof.Machine.execEvringDelete sq cid ring s
  | .configWrite sq cid b => Sys2Proof.Machine.execConfigWrite sq cid b s
  | .configRead sq cid b => Sys2Proof.Machine.execConfigRead sq cid b s
  | .configCommit sq cid passed gen mask at_ cancel tag silent => Sys2Proof.Machine.execConfigCommit sq cid passed gen mask at_ cancel tag silent s
  | .deadlineSet sq cid handle cMax qMax dReq => Sys2Proof.Machine.execDeadlineSet sq cid handle cMax qMax dReq s
  | .deadlineClear sq cid handle => Sys2Proof.Machine.execDeadlineClear sq cid handle s
  | .abort sq cid tsq tcid => Sys2Proof.Machine.execAbort sq cid tsq tcid s
  | .add tine rd rs1 rs2 => Sys2Proof.Machine.execAdd tine rd rs1 rs2 s
  | .sub tine rd rs1 rs2 => Sys2Proof.Machine.execSub tine rd rs1 rs2 s
  | .andReg tine rd rs1 rs2 => Sys2Proof.Machine.execAndReg tine rd rs1 rs2 s
  | .orReg tine rd rs1 rs2 => Sys2Proof.Machine.execOrReg tine rd rs1 rs2 s
  | .xorReg tine rd rs1 rs2 => Sys2Proof.Machine.execXorReg tine rd rs1 rs2 s
  | .sll tine rd rs1 rs2 => Sys2Proof.Machine.execSll tine rd rs1 rs2 s
  | .srl tine rd rs1 rs2 => Sys2Proof.Machine.execSrl tine rd rs1 rs2 s
  | .sra tine rd rs1 rs2 => Sys2Proof.Machine.execSra tine rd rs1 rs2 s
  | .slt tine rd rs1 rs2 => Sys2Proof.Machine.execSlt tine rd rs1 rs2 s
  | .sltu tine rd rs1 rs2 => Sys2Proof.Machine.execSltu tine rd rs1 rs2 s
  | .min tine rd rs1 rs2 => Sys2Proof.Machine.execMin tine rd rs1 rs2 s
  | .max tine rd rs1 rs2 => Sys2Proof.Machine.execMax tine rd rs1 rs2 s
  | .minu tine rd rs1 rs2 => Sys2Proof.Machine.execMinu tine rd rs1 rs2 s
  | .maxu tine rd rs1 rs2 => Sys2Proof.Machine.execMaxu tine rd rs1 rs2 s
  | .mul tine rd rs1 rs2 => Sys2Proof.Machine.execMul tine rd rs1 rs2 s
  | .mulh tine rd rs1 rs2 => Sys2Proof.Machine.execMulh tine rd rs1 rs2 s
  | .mulhu tine rd rs1 rs2 => Sys2Proof.Machine.execMulhu tine rd rs1 rs2 s
  | .div tine rd rs1 rs2 => Sys2Proof.Machine.execDiv tine rd rs1 rs2 s
  | .divu tine rd rs1 rs2 => Sys2Proof.Machine.execDivu tine rd rs1 rs2 s
  | .rem tine rd rs1 rs2 => Sys2Proof.Machine.execRem tine rd rs1 rs2 s
  | .remu tine rd rs1 rs2 => Sys2Proof.Machine.execRemu tine rd rs1 rs2 s
  | .addi tine rd rs1 imm => Sys2Proof.Machine.execAddi tine rd rs1 imm s
  | .andi tine rd rs1 imm => Sys2Proof.Machine.execAndi tine rd rs1 imm s
  | .ori tine rd rs1 imm => Sys2Proof.Machine.execOri tine rd rs1 imm s
  | .xori tine rd rs1 imm => Sys2Proof.Machine.execXori tine rd rs1 imm s
  | .slti tine rd rs1 imm => Sys2Proof.Machine.execSlti tine rd rs1 imm s
  | .sltiu tine rd rs1 imm => Sys2Proof.Machine.execSltiu tine rd rs1 imm s
  | .slli tine rd rs1 sh mbz => Sys2Proof.Machine.execSlli tine rd rs1 sh mbz s
  | .srli tine rd rs1 sh mbz => Sys2Proof.Machine.execSrli tine rd rs1 sh mbz s
  | .srai tine rd rs1 sh mbz => Sys2Proof.Machine.execSrai tine rd rs1 sh mbz s
  | .liShort tine rd imm => Sys2Proof.Machine.execLiShort tine rd imm s
  | .liLong tine rd imm => Sys2Proof.Machine.execLiLong tine rd imm s
  | .lpc tine rd imm => Sys2Proof.Machine.execLpc tine rd imm s
  | .jal tine rd imm => Sys2Proof.Machine.execJal tine rd imm s
  | .jalr tine rd rs1 imm => Sys2Proof.Machine.execJalr tine rd rs1 imm s
  | .beq tine rs1 rs2 off => Sys2Proof.Machine.execBeq tine rs1 rs2 off s
  | .bne tine rs1 rs2 off => Sys2Proof.Machine.execBne tine rs1 rs2 off s
  | .blt tine rs1 rs2 off => Sys2Proof.Machine.execBlt tine rs1 rs2 off s
  | .bge tine rs1 rs2 off => Sys2Proof.Machine.execBge tine rs1 rs2 off s
  | .bltu tine rs1 rs2 off => Sys2Proof.Machine.execBltu tine rs1 rs2 off s
  | .bgeu tine rs1 rs2 off => Sys2Proof.Machine.execBgeu tine rs1 rs2 off s
  | .ldB tine rd rs1 imm => Sys2Proof.Machine.execLdB tine rd rs1 imm s
  | .ldH tine rd rs1 imm => Sys2Proof.Machine.execLdH tine rd rs1 imm s
  | .ldW tine rd rs1 imm => Sys2Proof.Machine.execLdW tine rd rs1 imm s
  | .ldD tine rd rs1 imm => Sys2Proof.Machine.execLdD tine rd rs1 imm s
  | .stB tine rs2 rs1 imm => Sys2Proof.Machine.execStB tine rs2 rs1 imm s
  | .stH tine rs2 rs1 imm => Sys2Proof.Machine.execStH tine rs2 rs1 imm s
  | .stW tine rs2 rs1 imm => Sys2Proof.Machine.execStW tine rs2 rs1 imm s
  | .stD tine rs2 rs1 imm => Sys2Proof.Machine.execStD tine rs2 rs1 imm s
  | .dldB tine rd rs1 imm => Sys2Proof.Machine.execDldB tine rd rs1 imm s
  | .dldH tine rd rs1 imm => Sys2Proof.Machine.execDldH tine rd rs1 imm s
  | .dldW tine rd rs1 imm => Sys2Proof.Machine.execDldW tine rd rs1 imm s
  | .dldD tine rd rs1 imm => Sys2Proof.Machine.execDldD tine rd rs1 imm s
  | .dstB tine rs2 rs1 imm => Sys2Proof.Machine.execDstB tine rs2 rs1 imm s
  | .dstH tine rs2 rs1 imm => Sys2Proof.Machine.execDstH tine rs2 rs1 imm s
  | .dstW tine rs2 rs1 imm => Sys2Proof.Machine.execDstW tine rs2 rs1 imm s
  | .dstD tine rs2 rs1 imm => Sys2Proof.Machine.execDstD tine rs2 rs1 imm s
  | .evret tine rd rs1 rs2 => Sys2Proof.Machine.execEvret tine rd rs1 rs2 s
  | .fault tine code rs1 rs2 => Sys2Proof.Machine.execFault tine code rs1 rs2 s
  | .ktb tine rd rs1 rs2 => Sys2Proof.Machine.execKtb tine rd rs1 rs2 s
  | .rreg tine rd rs1 rs2 => Sys2Proof.Machine.execRreg tine rd rs1 rs2 s
  | .wreg tine rd rs1 rs2 => Sys2Proof.Machine.execWreg tine rd rs1 rs2 s
  | .ksiPark tine rd rs1 rs2 rs3 imm => Sys2Proof.Machine.execKsiPark tine rd rs1 rs2 rs3 imm s
  | .parkA tine rd rs1 rs2 rs3 imm => Sys2Proof.Machine.execParkA tine rd rs1 rs2 rs3 imm s
  | .ksiRevive tine rd rs1 rs2 rs3 imm => Sys2Proof.Machine.execKsiRevive tine rd rs1 rs2 rs3 imm s
  | .ksiTrim tine rd rs1 rs2 rs3 imm => Sys2Proof.Machine.execKsiTrim tine rd rs1 rs2 rs3 imm s
  | .rdesc tine rd rs1 rs2 rs3 imm => Sys2Proof.Machine.execRdesc tine rd rs1 rs2 rs3 imm s
  | .post tine rd rs1 rs2 rs3 imm => Sys2Proof.Machine.execPost tine rd rs1 rs2 rs3 imm s
  | .attn tine rd rs1 rs2 rs3 imm => Sys2Proof.Machine.execAttn tine rd rs1 rs2 rs3 imm s
  | .append tine rd rs1 rs2 rs3 imm => Sys2Proof.Machine.execAppend tine rd rs1 rs2 rs3 imm s
  | .srch tine rd rs1 rs2 rs3 imm => Sys2Proof.Machine.execSrch tine rd rs1 rs2 rs3 imm s
  | .rwrite tine rd rs1 rs2 rs3 imm => Sys2Proof.Machine.execRwrite tine rd rs1 rs2 rs3 imm s
  | .rread tine rd rs1 rs2 rs3 imm => Sys2Proof.Machine.execRread tine rd rs1 rs2 rs3 imm s
  | .waitT tine rd rs1 rs2 rs3 imm => Sys2Proof.Machine.execWaitT tine rd rs1 rs2 rs3 imm s
  | .waitC tine rd rs1 rs2 rs3 imm => Sys2Proof.Machine.execWaitC tine rd rs1 rs2 rs3 imm s
  | .ckpt tine rd rs1 rs2 rs3 imm => Sys2Proof.Machine.execCkpt tine rd rs1 rs2 rs3 imm s
  | .signalRead tine rd rs1 rs2 rs3 mbz => Sys2Proof.Machine.execSignalRead tine rd rs1 rs2 rs3 mbz s
  | .signalGe tine rd rs1 rs2 rs3 mbz => Sys2Proof.Machine.execSignalGe tine rd rs1 rs2 rs3 mbz s
  | .signalNe tine rd rs1 rs2 rs3 mbz => Sys2Proof.Machine.execSignalNe tine rd rs1 rs2 rs3 mbz s
  | .signalPhase tine rd rs1 rs2 rs3 mbz => Sys2Proof.Machine.execSignalPhase tine rd rs1 rs2 rs3 mbz s
  | .signalFree tine rd rs1 rs2 rs3 mbz => Sys2Proof.Machine.execSignalFree tine rd rs1 rs2 rs3 mbz s
  | .armGe tine rd rs1 rs2 rs3 mbz => Sys2Proof.Machine.execArmGe tine rd rs1 rs2 rs3 mbz s
  | .armNe tine rd rs1 rs2 rs3 mbz => Sys2Proof.Machine.execArmNe tine rd rs1 rs2 rs3 mbz s
  | .armPhase tine rd rs1 rs2 rs3 mbz => Sys2Proof.Machine.execArmPhase tine rd rs1 rs2 rs3 mbz s
  | .armFree tine rd rs1 rs2 rs3 mbz => Sys2Proof.Machine.execArmFree tine rd rs1 rs2 rs3 mbz s
  | .signalLock tine rd rs1 rs2 rs3 mbz => Sys2Proof.Machine.execSignalLock tine rd rs1 rs2 rs3 mbz s
  | .signalP tine rd rs1 rs2 rs3 mbz => Sys2Proof.Machine.execSignalP tine rd rs1 rs2 rs3 mbz s
  | .signalArrive tine rd rs1 rs2 rs3 mbz => Sys2Proof.Machine.execSignalArrive tine rd rs1 rs2 rs3 mbz s
  | .unlock tine rd rs1 rs2 rs3 mbz => Sys2Proof.Machine.execUnlock tine rd rs1 rs2 rs3 mbz s
  | .signalV tine rd rs1 rs2 rs3 mbz => Sys2Proof.Machine.execSignalV tine rd rs1 rs2 rs3 mbz s
  | .signalAdd tine rd rs1 rs2 rs3 mbz => Sys2Proof.Machine.execSignalAdd tine rd rs1 rs2 rs3 mbz s
  | .disarm tine rd rs1 rs2 rs3 mbz => Sys2Proof.Machine.execDisarm tine rd rs1 rs2 rs3 mbz s
  | .waitGe tine rd rs1 rs2 rs3 mbz => Sys2Proof.Machine.execWaitGe tine rd rs1 rs2 rs3 mbz s
  | .waitNe tine rd rs1 rs2 rs3 mbz => Sys2Proof.Machine.execWaitNe tine rd rs1 rs2 rs3 mbz s
  | .waitPhase tine rd rs1 rs2 rs3 mbz => Sys2Proof.Machine.execWaitPhase tine rd rs1 rs2 rs3 mbz s
  | .waitFree tine rd rs1 rs2 rs3 mbz => Sys2Proof.Machine.execWaitFree tine rd rs1 rs2 rs3 mbz s
  | .waitLock tine rd rs1 rs2 rs3 mbz => Sys2Proof.Machine.execWaitLock tine rd rs1 rs2 rs3 mbz s
  | .waitP tine rd rs1 rs2 rs3 mbz => Sys2Proof.Machine.execWaitP tine rd rs1 rs2 rs3 mbz s
  | .waitArrive tine rd rs1 rs2 rs3 mbz => Sys2Proof.Machine.execWaitArrive tine rd rs1 rs2 rs3 mbz s
  | .waitTimeout obj slot tag => Sys2Proof.Machine.execWaitTimeout obj slot tag s
  | .waitForSearch obj slot tag => Sys2Proof.Machine.execWaitForSearch obj slot tag s
  | .deadlockFail obj slot tag => Sys2Proof.Machine.execDeadlockFail obj slot tag s
  | .synOp acre index code => Sys2Proof.Machine.execSynOp acre index code s
  | .synOpForce acre index => Sys2Proof.Machine.execSynOpForce acre index s
  | .kltWrite h data => Sys2Proof.Machine.execKltWrite h data s
  | .frameWrite h frame tag => Sys2Proof.Machine.execFrameWrite h frame tag s
  | .readReq h => Sys2Proof.Machine.execReadReq h s
  | .frameReadReq h => Sys2Proof.Machine.execFrameReadReq h s
  | .readExecute conn => Sys2Proof.Machine.execReadExecute conn s
  | .readRsp h data => Sys2Proof.Machine.execReadRsp h data s
  | .frameReadRsp h frame tag plain good => Sys2Proof.Machine.execFrameReadRsp h frame tag plain good s
  | .readUnitTimeout conn msn unit => Sys2Proof.Machine.execReadUnitTimeout conn msn unit s
  | .ack a => Sys2Proof.Machine.execAck a s
  | .ackDelayExpiry conn => Sys2Proof.Machine.execAckDelayExpiry conn s
  | .lossDetect conn psn => Sys2Proof.Machine.execLossDetect conn psn s
  | .ccWindowEnd conn => Sys2Proof.Machine.execCcWindowEnd conn s
  | .connectReq r => Sys2Proof.Machine.execConnectReq r s
  | .connectRsp r => Sys2Proof.Machine.execConnectRsp r s
  | .connectResend conn => Sys2Proof.Machine.execConnectResend conn s
  | .close dconn cgen sep => Sys2Proof.Machine.execClose dconn cgen sep s
  | .closeAck dconn cgen sep => Sys2Proof.Machine.execCloseAck dconn cgen sep s
  | .closeResend conn => Sys2Proof.Machine.execCloseResend conn s
  | .heartbeat sep b => Sys2Proof.Machine.execHeartbeat sep b s
  | .heartbeatSend entry => Sys2Proof.Machine.execHeartbeatSend entry s
  | .peerDown entry => Sys2Proof.Machine.execPeerDown entry s
  | .connOpen y => Sys2Proof.Machine.execConnOpen y s
  | .connClose y => Sys2Proof.Machine.execConnClose y s
  | .regRegister y => Sys2Proof.Machine.execRegRegister y s
  | .regRevoke y => Sys2Proof.Machine.execRegRevoke y s
  | .pwqCreate y => Sys2Proof.Machine.execPwqCreate y s
  | .pwqDelete y => Sys2Proof.Machine.execPwqDelete y s
  | .mclSet y => Sys2Proof.Machine.execMclSet y s
  | .pwqRequestStart q => Sys2Proof.Machine.execPwqRequestStart q s
  | .pwqRequestComplete q idx => Sys2Proof.Machine.execPwqRequestComplete q idx s
  | .pwqErrorClear q => Sys2Proof.Machine.execPwqErrorClear q s
  | .egressSelect port => Sys2Proof.Machine.execEgressSelect port s
  | .shaperRefill port => Sys2Proof.Machine.execShaperRefill port s
  | .queueSample port => Sys2Proof.Machine.execQueueSample port s
  | .gateEdge y => Sys2Proof.Machine.execGateEdge y s
  | .gclTakeover y => Sys2Proof.Machine.execGclTakeover y s
  | .ptpSync port seq t1 ts => Sys2Proof.Machine.execPtpSync port seq t1 ts s
  | .ptpFollowUp port seq t1 => Sys2Proof.Machine.execPtpFollowUp port seq t1 s
  | .ptpDelayResp port seq t4 => Sys2Proof.Machine.execPtpDelayResp port seq t4 s
  | .ptpDelayReq port seq ts => Sys2Proof.Machine.execPtpDelayReq port seq ts s
  | .ptpAnnounce port domain c => Sys2Proof.Machine.execPtpAnnounce port domain c s
  | .ptpSendTimer port => Sys2Proof.Machine.execPtpSendTimer port s
  | .ptpSyncLoss => Sys2Proof.Machine.execPtpSyncLoss s
  | .hello y minVer maxVer cred => Sys2Proof.Machine.execHello y minVer maxVer cred s
  | .auth y session verifies => Sys2Proof.Machine.execAuth y session verifies s
  | .mgmtIdleTimeout y session => Sys2Proof.Machine.execMgmtIdleTimeout y session s
  | .mgmtLockoutExpiry y => Sys2Proof.Machine.execMgmtLockoutExpiry y s
  | .getInfo q => Sys2Proof.Machine.execGetInfo q s
  | .getChain q slot off more => Sys2Proof.Machine.execGetChain q slot off more s
  | .sessionClose q => Sys2Proof.Machine.execSessionClose q s
  | .regRead q addr => Sys2Proof.Machine.execRegRead q addr s
  | .regWrite q addr v => Sys2Proof.Machine.execRegWrite q addr v s
  | .mgmtConfigCommit q gen mask at_ cancel tag silent => Sys2Proof.Machine.execMgmtConfigCommit q gen mask at_ cancel tag silent s
  | .reset q kind y => Sys2Proof.Machine.execReset q kind y s
  | .fenceCore q die kind n hit => Sys2Proof.Machine.execFenceCore q die kind n hit s
  | .fwStage q image verifies => Sys2Proof.Machine.execFwStage q image verifies s
  | .fwActivate q advance => Sys2Proof.Machine.execFwActivate q advance s
  | .bindBegin q b => Sys2Proof.Machine.execBindBegin q b s
  | .bindCommit q => Sys2Proof.Machine.execBindCommit q s
  | .bindAbort q => Sys2Proof.Machine.execBindAbort q s
  | .bindTimeout => Sys2Proof.Machine.execBindTimeout s
  | .release q => Sys2Proof.Machine.execRelease q s
  | .releaseScrubDone => Sys2Proof.Machine.execReleaseScrubDone s
  | .zeroise q => Sys2Proof.Machine.execZeroise q s
  | .spdmRelay q r => Sys2Proof.Machine.execSpdmRelay q r s
  | .credAdd q key roles => Sys2Proof.Machine.execCredAdd q key roles s
  | .credRemove q slot => Sys2Proof.Machine.execCredRemove q slot s
  | .deploy q key => Sys2Proof.Machine.execDeploy q key s
  | .decommission q => Sys2Proof.Machine.execDecommission q s
  | .debugChallenge q => Sys2Proof.Machine.execDebugChallenge q s
  | .debugUnlock q t => Sys2Proof.Machine.execDebugUnlock q t s
  | .debugLock q => Sys2Proof.Machine.execDebugLock q s
  | .debugUnlockExpiry => Sys2Proof.Machine.execDebugUnlockExpiry s
  | .eventSubscribe q => Sys2Proof.Machine.execEventSubscribe q s
  | .traceTrigger q => Sys2Proof.Machine.execTraceTrigger q s
  | .halt q => Sys2Proof.Machine.execHalt q s
  | .scanOut q die chain => Sys2Proof.Machine.execScanOut q die chain s
  | .entropyTestFail y => Sys2Proof.Machine.execEntropyTestFail y s
  | .ckptMark sq cid passed e at_ full remote => Sys2Proof.Machine.execCkptMark sq cid passed e at_ full remote s
  | .epochMarker a => Sys2Proof.Machine.execEpochMarker a s
  | .shardCaptured a => Sys2Proof.Machine.execShardCaptured a s
  | .epochDrained st => Sys2Proof.Machine.execEpochDrained st s
  | .ckptPolicy sq cid passed handle auto => Sys2Proof.Machine.execCkptPolicy sq cid passed handle auto s
  | .ckptDiscard sq cid passed e => Sys2Proof.Machine.execCkptDiscard sq cid passed e s
  | .restore sq cid passed src mode keepLog tier target => Sys2Proof.Machine.execRestore sq cid passed src mode keepLog tier target s
  | .restoreStacksDone slot => Sys2Proof.Machine.execRestoreStacksDone slot s
  | .restoreObjects sq cid passed e reachable intact what => Sys2Proof.Machine.execRestoreObjects sq cid passed e reachable intact what s
  | .exportCmd sq cid passed handle route locs outcome => Sys2Proof.Machine.execExport sq cid passed handle route locs outcome s
  | .importCmd sq cid passed handle route items => Sys2Proof.Machine.execImport sq cid passed handle route items s
  | .coreFence die kind n hit => Sys2Proof.Machine.execCoreFence die kind n hit s
  | .itemOverrun die kind n => Sys2Proof.Machine.execItemOverrun die kind n s
  | .leaseRenew reached => Sys2Proof.Machine.execLeaseRenew reached s
  | .leaseExpiry a => Sys2Proof.Machine.execLeaseExpiry a s
  | .yokeHeartbeat y p => Sys2Proof.Machine.execYokeHeartbeat y p s
  | .partnerSilence y => Sys2Proof.Machine.execPartnerSilence y s
  | .claim a y p => Sys2Proof.Machine.execClaim a y p s
  | .primacyTakeover y => Sys2Proof.Machine.execPrimacyTakeover y s
  | .stalePrimacy y => Sys2Proof.Machine.execStalePrimacy y s
  | .migOffer conn h o => Sys2Proof.Machine.execMigOffer conn h o s
  | .migAccept h places => Sys2Proof.Machine.execMigAccept h places s
  | .migRefuse h st => Sys2Proof.Machine.execMigRefuse h st s
  | .migrationFreeze slot => Sys2Proof.Machine.execMigrationFreeze slot s
  | .migHandover h good x => Sys2Proof.Machine.execMigHandover h good x s
  | .migConfirm h => Sys2Proof.Machine.execMigConfirm h s
  | .migRelease h => Sys2Proof.Machine.execMigRelease h s
  | .migQuery conn h => Sys2Proof.Machine.execMigQuery conn h s
  | .migOutcome h o => Sys2Proof.Machine.execMigOutcome h o s
  | .migResend slot => Sys2Proof.Machine.execMigResend slot s
  | .migResolve sq cid passed handle activate => Sys2Proof.Machine.execMigResolve sq cid passed handle activate s
  | .leave sq cid passed => Sys2Proof.Machine.execLeave sq cid passed s
  | .left => Sys2Proof.Machine.execLeft s
  | .periodBoundary die => Sys2Proof.Machine.execPeriodBoundary die s
  | .obsSnapTake die => Sys2Proof.Machine.execObsSnapTake die s
  | .energyApportion usage => Sys2Proof.Machine.execEnergyApportion usage s
  | .traceFlush acre => Sys2Proof.Machine.execTraceFlush acre s
  | .traceTimeTrigger acre => Sys2Proof.Machine.execTraceTimeTrigger acre s
  | .traceStallTrigger die kind n => Sys2Proof.Machine.execTraceStallTrigger die kind n s
  | .tracePostDone acre => Sys2Proof.Machine.execTracePostDone acre s
  | .obsMark y r v => Sys2Proof.Machine.execObsMark y r v s
  | .haltWave src => Sys2Proof.Machine.execHaltWave src s
  | .haltInN low => Sys2Proof.Machine.execHaltInN low s
  | .trigIn => Sys2Proof.Machine.execTrigIn s
  | .pwrgoodRise primaryPref hostSel => Sys2Proof.Machine.execPwrgoodRise primaryPref hostSel s
  | .stage0 pw pe ew ee fw fe torn ms => Sys2Proof.Machine.execStage0 pw pe ew ee fw fe torn ms s
  | .stage1 ok0 ok1 links lost ms => Sys2Proof.Machine.execStage1 ok0 ok1 links lost ms s
  | .stage2 failed offline deviceId config ms => Sys2Proof.Machine.execStage2 failed offline deviceId config ms s
  | .stage3 => Sys2Proof.Machine.execStage3 s
  | .pwrgoodFall => Sys2Proof.Machine.execPwrgoodFall s
  | .resetN => Sys2Proof.Machine.execResetN s
  | .pwrResetSystem => Sys2Proof.Machine.execPwrResetSystem s
  | .pwrResetMgmt y => Sys2Proof.Machine.execPwrResetMgmt y s
  | .hostReset port => Sys2Proof.Machine.execHostReset port s
  | .hostPortSelect linked => Sys2Proof.Machine.execHostPortSelect linked s
  | .avsStep => Sys2Proof.Machine.execAvsStep s
  | .energyUpdate mv dA => Sys2Proof.Machine.execEnergyUpdate mv dA s
  | .railPoll rail answer => Sys2Proof.Machine.execRailPoll rail answer s
  | .thermalSample die tj => Sys2Proof.Machine.execThermalSample die tj s
  | .fallowEnter => Sys2Proof.Machine.execFallowEnter s
  | .fallowWake => Sys2Proof.Machine.execFallowWake s
  | .fallowCancel => Sys2Proof.Machine.execFallowCancel s
  | .propose nb round => Sys2Proof.Machine.execPropose nb round s
  | .accept nb round => Sys2Proof.Machine.execAccept nb round s
  | .refuse nb round => Sys2Proof.Machine.execRefuse nb round s
  | .cancel nb round => Sys2Proof.Machine.execCancel nb round s
  | .committed nb round => Sys2Proof.Machine.execCommitted nb round s
  | .wake nb round => Sys2Proof.Machine.execWake nb round s
  | .fallowAnswerTimeout => Sys2Proof.Machine.execFallowAnswerTimeout s
  | .consentExpiry nb => Sys2Proof.Machine.execConsentExpiry nb s
  | .selfWake => Sys2Proof.Machine.execSelfWake s
  | .wakeRequestDeferred r => Sys2Proof.Machine.execWakeRequestDeferred r s
  | .fallowWakeDone => Sys2Proof.Machine.execFallowWakeDone s
  | .jtagBypass y => Sys2Proof.Machine.execJtagBypass y s
  | .jtagIdcode y => Sys2Proof.Machine.execJtagIdcode y s
  | .jtagSamplePreload y => Sys2Proof.Machine.execJtagSamplePreload y s
  | .jtagExtest y => Sys2Proof.Machine.execJtagExtest y s
  | .jtagClamp y => Sys2Proof.Machine.execJtagClamp y s
  | .jtagHighz y => Sys2Proof.Machine.execJtagHighz y s
  | .scanout y die chain => Sys2Proof.Machine.execScanout y die chain s
  | .illegalInstruction tine w0 w1 => Sys2Proof.Machine.execIllegalInstruction tine w0 w1 s
  | .ethernetLinkChange port up => Sys2Proof.Machine.execEthernetLinkChange port up s
  | .suspectHoldExpiry conn port e => Sys2Proof.Machine.execSuspectHoldExpiry conn port e s
  | .kltMalformedPacket y => Sys2Proof.Machine.execKltMalformedPacket y s
  | .claimRetry y => Sys2Proof.Machine.execClaimRetry y s
  | .partnerHeartbeatSend y => Sys2Proof.Machine.execPartnerHeartbeatSend y s
  | .holdoverExcessRise => Sys2Proof.Machine.execHoldoverExcessRise s
  | .thermtripComparator => Sys2Proof.Machine.execThermtripComparator s
  | .chestQuiesceDone => Sys2Proof.Machine.execChestQuiesceDone s
  | .shadowCopy obj => Sys2Proof.Machine.execShadowCopy obj s
  | .drainWriteComplete a obj st => Sys2Proof.Machine.execDrainWriteComplete a obj st s
  | .provisioning => Sys2Proof.Machine.execProvisioning s

end Sys2Proof.Machine
end

