-- ==== Sys2Proof/Machine/Tick.lean ====
section
/-!
DEFINITION. The tick of the timebase: what a step does while no command waits (R43 to R45, R498; log 4).
-/
namespace Sys2Proof.Machine

/-- FREQ_ADJ of a Yoke in parts per 10^12, within ±500,000,000 (R44). -/
def freqAdj (y : Yoke) (s : State) : Int :=
  max (-500000000) (min 500000000 (signedOf 32 (liveF s .YOK_KTB_FREQ (.yoke y) 0 31 0)))

/-- Most that a slew may remove in a reference edge: 500 ppm of 10 ns, in units of 2^-32 ns (R44). -/
def slewMax : Nat := 21474836

/-- What the slew removes in this edge: at most `r`, of the sign of what remains (R44). -/
def slewPart (r : Nat) (left : Int) : Int := max (-(r : Int)) (min (r : Int) left)

/-- One edge of the 100 MHz reference at the Yoke that holds primacy: 10 ns, the frequency adjustment, and the slew at a rate the
spec bounds and leaves free (R43, R44). Answers the whole nanoseconds the count advances by. -/
def ktbEdge (s : State) : Nat × State :=
  let y := s.ckp.primary
  let adj := freqAdj y s * 2 ^ 32 + (s.time.freqRem.get y : Int)
  let part := slewPart (freeBelow slewMax s + 1) (s.time.slew.get y)
  let s := drew s
  let total := ((s.time.frac.get y : Int) + 10 * 2 ^ 32 + adj / 100000000000 + part).toNat
  (total / 2 ^ 32, { s with time := { s.time with
    frac := s.time.frac.set y (total % 2 ^ 32), freqRem := s.time.freqRem.set y (adj % 100000000000).toNat,
    slew := s.time.slew.set y (s.time.slew.get y - part) } })

/-- Every copy of KTB advances with the reference, which the other dies track (R45; log 82). -/
def advanceKtb (n : Nat) (s : State) : State := { s with time := { s.time with ktb := s.time.ktb.map (fun t => t + n) } }

/-- The block idles for one reference edge (log 4): KTB advances once Stage 0 has started it, and the engines' counters with it
while the planes run. -/
def tick (s : State) : State :=
  if !s.time.running then s
  else
    let (n, s) := ktbEdge s
    let s := advanceKtb n s
    if planesRun s then Die.all.foldl (fun s d => obsDieTick d n s) s else s

end Sys2Proof.Machine
end

