-- ==== Sys2Proof/Safety.lean ====
section
/-!
DEFINITION. What a safe state is, in the terms of the statements: when a command is served at once, and what a table in canonical form is.
-/
namespace Sys2Proof.Machine

/-- The host's queue pair `sq` is served: the planes run, Stage 2 has ended, the pair exists, and Fallow defers nothing (R296, R520, R535,
R536). -/
def Served (s : State) (sq : Nat) : Prop :=
  planesRun s = true ∧ (s.power.stage = .s3 ∨ s.power.stage = .serving) ∧ (NMap.get? s.host.qps sq).isSome = true ∧
    s.power.fallow.mode = .active

/-- Tine `t` executes its next instruction, of `n` words, in context `c`: it runs, its budget has not expired, and its words lie in the code
it may fetch (R287, R316, R323). -/
def TineReady (s : State) (t : Nat) (c : TineCtx) (n : Nat) : Prop :=
  planesRun s = true ∧ tineRunning s t = some c ∧ budgetOver s t c = false ∧ fetchOk s c n = true

/-- The management session `x` takes request `q` at once: the port works, Stage 1 has ended, Fallow defers nothing, SEQ is the next one, and
the session's credential has the role (R451, R454, R518, R536). -/
def MgmtReady (s : State) (q : MgmtReq) (x : MgmtSess) (role : Nat → Bool) : Prop :=
  mgmtUp s = true ∧ pastStage1 s = true ∧ s.power.fallow.mode = .active ∧ NMap.get? (portM s q.port).sessions q.session = some x ∧
    q.seq = x.seqIn + 1 ∧ q.seq < 2 ^ 32 ∧ (x.seqIn = 0 ∨ x.cached.isSome = true) ∧ role (rolesOf s x) = true

/-- A command on I/O queue pair `sq` names a session by `handle` that the checks of R63 let pass; its descriptor is, or becomes in `u`, owned
by a Shelf, and the operation finds it in state `st` (R63, R68, R88). -/
def SessionReady (s : State) (sq handle : Nat) (u : State) (st : SState) : Prop :=
  Served s sq ∧ sq ≠ 0 ∧ handleCheck s handle = none ∧ own (slotOf handle) s = some u ∧ effState u (slotOf handle) = st

/-- The next state of a `signal` of a code (R342): RD holds the status in [7:0] and the value in [63:32]. -/
def signalNext (t : Nat) (rd rs1 rs2 : BitVec 6) (code : Nat) (c : TineCtx) (s : State) : Host.Outcome State Fault Refusal :=
  let r := applySignal ((tineReg c rs1).toNat % 2 ^ 16) code (tineReg c rs2) (some c.slot) s
  .next (settle (tineWrite t 2 rd (BitVec.ofNat 64 (r.1.1.code + r.1.2 * 2 ^ 32)) c r.2))

/-- The next state of an ARM code that registers predicate `pred` (R342, R356, R357). -/
def armNext (t : Nat) (rd rs1 rs2 : BitVec 6) (pred : Nat) (c : TineCtx) (s : State) : Host.Outcome State Fault Refusal :=
  let obj := (tineReg c rs1).toNat % 2 ^ 16
  let u := armObject c.slot obj pred (tineReg c rs2) s
  .next (settle (tineWrite t 2 rd (BitVec.ofNat 64 (Status.ok.code + synValue (synWord u obj) * 2 ^ 32)) c u))

/-- The next state of a `wait` of a code: RD gets the tag, the operation is noted, and the wait is admitted (R334, R342). -/
def waitNext (t : Nat) (rd rs1 rs2 rs3 : BitVec 6) (code : Nat) (c : TineCtx) (s : State) : Host.Outcome State Fault Refusal :=
  let obj := (tineReg c rs1).toNat % 2 ^ 16
  let ns := (tineReg c rs3).toNat
  let valid := (s.tin.asyncs.filter (fun o => o.slot = c.slot)).map (fun o => o.tag)
  let tag := nextTag valid (valid.length + 2) (NMap.get 0 s.tin.lastTag c.slot)
  let u := { s with tin := { s.tin with
    lastTag := NMap.put s.tin.lastTag c.slot tag, asyncs := s.tin.asyncs ++ [{ slot := c.slot, tag := tag, kind := .wait obj, ended := false, ins := [], outs := [] }] } }
  .next (settle (admitWait c.slot tag obj code (tineReg c rs2) (if ns = 0 then none else some (ktb s + ns))
    (tineWrite t 2 rd (BitVec.ofNat 64 tag) c u)))

/-- A command of the control or data plane, which cannot take effect while the planes stand still (R512, R514, R518). The commands of the
management plane, of security, start-up, power and the TAP, and the pins, can. -/
def planeCommand (i : Instr) : Bool :=
  match i with
  | .cfgCommit .. | .scheduledCommit .. | .commitCancel .. | .commitAnswerTimeout .. | .commitApplyAt .. | .configFingerprint ..
  | .divergenceGraceExpiry .. | .yokKtbFreqWrite .. | .yokKtbSlewWrite .. | .yokKtbStepWrite .. | .openSession .. | .park .. | .revive ..
  | .dormant .. | .migrate .. | .retire .. | .retireComplete .. | .wakeSet .. | .deadlineWake .. | .queuedWakeAdmit ..
  | .revivalFetchStart .. | .revivalReady .. | .descRead .. | .getx .. | .recall .. | .shelfWb .. | .getxGrant .. | .getxRetry ..
  | .shelfEvict .. | .profileUnbind .. | .writeBackRound .. | .writeBackComplete .. | .nearEvict .. | .stackFetchForAppend ..
  | .setPolicy .. | .setHome .. | .homeMoveCopyDone .. | .oldRunFree .. | .stage .. | .unstage .. | .prefetch .. | .evict .. | .pin ..
  | .unpin .. | .prefixCreate .. | .prefixRetire .. | .borrowEmpty .. | .chestWrite .. | .chestWriteDurable .. | .chestPieceRead ..
  | .stagingDone .. | .nvmeCompletion .. | .nvmeCmdTimeout .. | .driveFailed .. | .driveLinkUp .. | .journalGroupClose ..
  | .journalGroupDurable .. | .mapCheckpoint .. | .harrowCollect .. | .harrowDeallocate .. | .chestMount .. | .smartPoll ..
  | .chestFormat .. | .chestAttach .. | .arqBatchTake .. | .sampleHoldTimeout .. | .itemDispatch .. | .itemComplete ..
  | .entryComplete .. | .batchResponse .. | .preemptSave .. | .preemptSaveDone .. | .prefillRestore .. | .arqErrorClear ..
  | .tkqRecordApply .. | .tkqErrorClear .. | .trim .. | .setFloor .. | .genSet .. | .srqBatchTake .. | .srqErrorClear ..
  | .centroidPassDone .. | .listVisitDone .. | .searchMerge .. | .gleanerSwitch .. | .idxCreate .. | .idxLoad .. | .idxPublish ..
  | .idxCompact .. | .compactionBuildDone .. | .compactionSwitch .. | .idxRetire .. | .shardDeadline .. | .imageLoad .. | .imageUnload ..
  | .routeSet .. | .eventDispatch .. | .handlerBudgetExpire .. | .programTimer .. | .sqTailDoorbell .. | .cqHeadDoorbell ..
  | .streamRingDoorbell .. | .eventRingDoorbell .. | .msixCoalesce .. | .yokHqNegotiate .. | .yokHqAqEn .. | .createQp .. | .deleteQp ..
  | .streamCreate .. | .streamDelete .. | .evringCreate .. | .evringDelete .. | .configWrite .. | .configRead .. | .configCommit ..
  | .deadlineSet .. | .deadlineClear .. | .abort .. | .add .. | .sub .. | .andReg .. | .orReg .. | .xorReg .. | .sll .. | .srl ..
  | .sra .. | .slt .. | .sltu .. | .min .. | .max .. | .minu .. | .maxu .. | .mul .. | .mulh .. | .mulhu .. | .div .. | .divu ..
  | .rem .. | .remu .. | .addi .. | .andi .. | .ori .. | .xori .. | .slti .. | .sltiu .. | .slli .. | .srli .. | .srai .. | .liShort ..
  | .liLong .. | .lpc .. | .jal .. | .jalr .. | .beq .. | .bne .. | .blt .. | .bge .. | .bltu .. | .bgeu .. | .ldB .. | .ldH .. | .ldW ..
  | .ldD .. | .stB .. | .stH .. | .stW .. | .stD .. | .dldB .. | .dldH .. | .dldW .. | .dldD .. | .dstB .. | .dstH .. | .dstW ..
  | .dstD .. | .evret .. | .fault .. | .ktb .. | .rreg .. | .wreg .. | .ksiPark .. | .parkA .. | .ksiRevive .. | .ksiTrim .. | .rdesc ..
  | .post .. | .attn .. | .append .. | .srch .. | .rwrite .. | .rread .. | .waitT .. | .waitC .. | .ckpt .. | .signalRead ..
  | .signalGe .. | .signalNe .. | .signalPhase .. | .signalFree .. | .armGe .. | .armNe .. | .armPhase .. | .armFree .. | .signalLock ..
  | .signalP .. | .signalArrive .. | .unlock .. | .signalV .. | .signalAdd .. | .disarm .. | .waitGe .. | .waitNe .. | .waitPhase ..
  | .waitFree .. | .waitLock .. | .waitP .. | .waitArrive .. | .waitTimeout .. | .waitForSearch .. | .deadlockFail .. | .synOp ..
  | .synOpForce .. | .kltWrite .. | .frameWrite .. | .readReq .. | .frameReadReq .. | .readExecute .. | .readRsp .. | .frameReadRsp ..
  | .readUnitTimeout .. | .ack .. | .ackDelayExpiry .. | .lossDetect .. | .ccWindowEnd .. | .connectReq .. | .connectRsp ..
  | .connectResend .. | .close .. | .closeAck .. | .closeResend .. | .heartbeat .. | .heartbeatSend .. | .peerDown .. | .connOpen ..
  | .connClose .. | .regRegister .. | .regRevoke .. | .pwqCreate .. | .pwqDelete .. | .mclSet .. | .pwqRequestStart ..
  | .pwqRequestComplete .. | .pwqErrorClear .. | .egressSelect .. | .shaperRefill .. | .queueSample .. | .gateEdge .. | .gclTakeover ..
  | .ptpSync .. | .ptpFollowUp .. | .ptpDelayResp .. | .ptpDelayReq .. | .ptpAnnounce .. | .ptpSendTimer .. | .ptpSyncLoss ..
  | .ckptMark .. | .epochMarker .. | .shardCaptured .. | .epochDrained .. | .ckptPolicy .. | .ckptDiscard .. | .restore ..
  | .restoreStacksDone .. | .restoreObjects .. | .exportCmd .. | .importCmd .. | .coreFence .. | .itemOverrun .. | .leaseRenew ..
  | .leaseExpiry .. | .yokeHeartbeat .. | .partnerSilence .. | .claim .. | .primacyTakeover .. | .stalePrimacy .. | .migOffer ..
  | .migAccept .. | .migRefuse .. | .migrationFreeze .. | .migHandover .. | .migConfirm .. | .migRelease .. | .migQuery ..
  | .migOutcome .. | .migResend .. | .migResolve .. | .leave .. | .left .. | .periodBoundary .. | .obsSnapTake .. | .energyApportion ..
  | .traceFlush .. | .traceTimeTrigger .. | .traceStallTrigger .. | .tracePostDone .. | .obsMark .. | .trigIn .. | .stage2 ..
  | .stage3 .. | .pwrResetSystem .. | .pwrResetMgmt .. | .fallowEnter .. | .fallowWake .. | .fallowCancel .. | .propose .. | .accept ..
  | .refuse .. | .cancel .. | .committed .. | .wake .. | .fallowAnswerTimeout .. | .consentExpiry .. | .selfWake ..
  | .wakeRequestDeferred .. | .fallowWakeDone .. | .illegalInstruction .. | .ethernetLinkChange .. | .suspectHoldExpiry ..
  | .kltMalformedPacket .. | .claimRetry .. | .partnerHeartbeatSend .. | .holdoverExcessRise .. | .chestQuiesceDone .. | .shadowCopy ..
  | .drainWriteComplete .. => true
  | .registerWrite .. | .ppsInEdge .. | .ppsOutPulse .. | .acreTimeTransfer .. | .pwrSpeedSample .. | .linkFence .. | .hello ..
  | .auth .. | .mgmtIdleTimeout .. | .mgmtLockoutExpiry .. | .getInfo .. | .getChain .. | .sessionClose .. | .regRead .. | .regWrite ..
  | .mgmtConfigCommit .. | .reset .. | .fenceCore .. | .fwStage .. | .fwActivate .. | .bindBegin .. | .bindCommit .. | .bindAbort ..
  | .bindTimeout .. | .release .. | .releaseScrubDone .. | .zeroise .. | .spdmRelay .. | .credAdd .. | .credRemove .. | .deploy ..
  | .decommission .. | .debugChallenge .. | .debugUnlock .. | .debugLock .. | .debugUnlockExpiry .. | .eventSubscribe ..
  | .traceTrigger .. | .halt .. | .scanOut .. | .entropyTestFail .. | .haltWave .. | .haltInN .. | .pwrgoodRise .. | .stage0 ..
  | .stage1 .. | .pwrgoodFall .. | .resetN .. | .hostReset .. | .hostPortSelect .. | .avsStep .. | .energyUpdate .. | .railPoll ..
  | .thermalSample .. | .jtagBypass .. | .jtagIdcode .. | .jtagSamplePreload .. | .jtagExtest .. | .jtagClamp .. | .jtagHighz ..
  | .scanout .. | .thermtripComparator .. | .provisioning .. => false

/-- The parts of the device of which some commands change no more than one. -/
inductive Part where
  | bureau | store | recovery | control | tine | queue | transport | observation
  deriving DecidableEq, Repr

/-- The part a command belongs to, for the commands that stay within one part. -/
def partOf (i : Instr) : Option Part :=
  match i with
  | .getx .. | .recall .. | .shelfWb .. | .getxGrant .. | .shelfEvict .. => some .bureau
  | .nvmeCompletion .. | .driveLinkUp .. | .journalGroupClose .. | .journalGroupDurable .. | .mapCheckpoint .. | .harrowCollect ..
  | .harrowDeallocate .. => some .store
  | .epochMarker .. | .leaseRenew .. | .leaseExpiry .. | .yokeHeartbeat .. | .partnerSilence .. | .claim .. | .stalePrimacy .. | .left ..
  | .claimRetry .. | .partnerHeartbeatSend .. => some .recovery
  | .pwrSpeedSample .. | .hello .. | .auth .. | .mgmtIdleTimeout .. | .mgmtLockoutExpiry .. | .getInfo .. | .getChain ..
  | .sessionClose .. | .fwStage .. | .fwActivate .. | .bindBegin .. | .bindAbort .. | .bindTimeout .. | .credAdd .. | .credRemove ..
  | .deploy .. | .debugChallenge .. | .debugUnlock .. | .debugLock .. | .debugUnlockExpiry .. | .eventSubscribe .. | .entropyTestFail ..
  | .pwrResetMgmt .. | .hostPortSelect .. | .avsStep .. | .energyUpdate .. | .railPoll .. | .thermalSample .. | .fallowEnter ..
  | .fallowWake .. | .fallowCancel .. | .propose .. | .accept .. | .refuse .. | .cancel .. | .committed .. | .wake ..
  | .fallowAnswerTimeout .. | .consentExpiry .. | .selfWake .. | .jtagBypass .. | .jtagIdcode .. | .jtagSamplePreload .. | .jtagExtest ..
  | .jtagClamp .. | .jtagHighz .. | .thermtripComparator .. | .provisioning .. => some .control
  | .handlerBudgetExpire .. | .add .. | .sub .. | .andReg .. | .orReg .. | .xorReg .. | .sll .. | .srl .. | .sra .. | .slt .. | .sltu ..
  | .min .. | .max .. | .minu .. | .maxu .. | .mul .. | .mulh .. | .mulhu .. | .div .. | .divu .. | .rem .. | .remu .. | .addi ..
  | .andi .. | .ori .. | .xori .. | .slti .. | .sltiu .. | .slli .. | .srli .. | .srai .. | .liShort .. | .liLong .. | .lpc .. | .jal ..
  | .jalr .. | .beq .. | .bne .. | .blt .. | .bge .. | .bltu .. | .bgeu .. | .ldB .. | .ldH .. | .ldW .. | .ldD .. | .stB .. | .stH ..
  | .stW .. | .stD .. | .fault .. | .ktb .. | .illegalInstruction .. => some .tine
  | .descRead .. | .profileUnbind .. | .sqTailDoorbell .. | .cqHeadDoorbell .. | .eventRingDoorbell .. | .msixCoalesce ..
  | .yokHqNegotiate .. | .yokHqAqEn .. | .createQp .. | .deleteQp .. | .streamCreate .. | .streamDelete .. | .evringCreate ..
  | .evringDelete .. | .configRead .. | .hostReset .. => some .queue
  | .yokKtbFreqWrite .. | .yokKtbSlewWrite .. | .yokKtbStepWrite .. | .ppsInEdge .. | .ppsOutPulse .. | .acreTimeTransfer ..
  | .ackDelayExpiry .. | .connectReq .. | .connectResend .. | .closeAck .. | .closeResend .. | .heartbeatSend .. | .connOpen ..
  | .pwqCreate .. | .mclSet .. | .pwqErrorClear .. | .egressSelect .. | .shaperRefill .. | .queueSample .. | .gateEdge ..
  | .gclTakeover .. | .ptpSync .. | .ptpFollowUp .. | .ptpDelayResp .. | .ptpDelayReq .. | .ptpAnnounce .. | .ptpSendTimer ..
  | .ptpSyncLoss .. | .migQuery .. | .migResend .. | .suspectHoldExpiry .. | .kltMalformedPacket .. | .holdoverExcessRise .. => some .transport
  | .regRead .. | .traceTrigger .. | .halt .. | .scanOut .. | .periodBoundary .. | .obsSnapTake .. | .energyApportion .. | .traceFlush ..
  | .traceTimeTrigger .. | .traceStallTrigger .. | .tracePostDone .. | .obsMark .. | .haltWave .. | .haltInN .. | .trigIn ..
  | .scanout .. => some .observation
  | _ => none

/-- Between the two states nothing differs but what the commands of a part may change: the part's own state, the registers, the count of
free values, and what is handed to the outside. -/
def Within (p : Part) (s t : State) : Prop :=
  match p with
  | .bureau => ∃ n bu, t = { s with freeCtr := n, bur := bu }
  | .store => ∃ n rg ch ou, t = { s with freeCtr := n, regs := rg, chest := ch, out := ou }
  | .recovery => ∃ n rg ck ou, t = { s with freeCtr := n, regs := rg, ckp := ck, out := ou }
  | .control => ∃ n rg pw se ob ou, t = { s with freeCtr := n, regs := rg, power := pw, sec := se, obs := ob, out := ou }
  | .tine => ∃ rg ti ho ou, t = { s with regs := rg, tin := ti, host := ho, out := ou }
  | .queue => ∃ n rg pw kl ob ho ou, t = { s with freeCtr := n, regs := rg, power := pw, klt := kl, obs := ob, host := ho, out := ou }
  | .transport => ∃ n tm rg se kl ts ou, t = { s with freeCtr := n, time := tm, regs := rg, sec := se, klt := kl, tsc := ts, out := ou }
  | .observation => ∃ n rg pw se kl ts ob ou, t = { s with freeCtr := n, regs := rg, power := pw, sec := se, klt := kl, tsc := ts, obs := ob, out := ou }

/-- The session commands of an I/O queue: queue pair, command and handle (R63, R585). -/
def namesSession (i : Instr) : Option (Nat × Nat × Nat) :=
  match i with
  | .park sq cid h | .revive sq cid h | .dormant sq cid h | .retire sq cid h | .wakeSet sq cid h _ _ | .migrate sq cid h _ _ _ _
  | .trim sq cid h _ | .setFloor sq cid h _ | .genSet sq cid h _ | .deadlineSet sq cid h _ _ _ | .deadlineClear sq cid h => some (sq, cid, h)
  | _ => none

/-- The scalar instructions: the Tine, and the register the instruction writes; register 0, which is never written, where it writes
none (R318, R326 to R330). -/
def scalarDest (i : Instr) : Option (Nat × BitVec 6) :=
  match i with
  | .add t rd _ _ | .sub t rd _ _ | .andReg t rd _ _ | .orReg t rd _ _ | .xorReg t rd _ _ | .sll t rd _ _ | .srl t rd _ _ | .sra t rd _ _
  | .slt t rd _ _ | .sltu t rd _ _ | .min t rd _ _ | .max t rd _ _ | .minu t rd _ _ | .maxu t rd _ _ | .mul t rd _ _ | .mulh t rd _ _
  | .mulhu t rd _ _ | .div t rd _ _ | .divu t rd _ _ | .rem t rd _ _ | .remu t rd _ _ | .ktb t rd _ _ | .addi t rd _ _ | .andi t rd _ _
  | .ori t rd _ _ | .xori t rd _ _ | .slti t rd _ _ | .sltiu t rd _ _ | .jalr t rd _ _ | .ldB t rd _ _ | .ldH t rd _ _ | .ldW t rd _ _
  | .ldD t rd _ _ | .slli t rd _ _ _ | .srli t rd _ _ _ | .srai t rd _ _ _ | .liShort t rd _ | .liLong t rd _ | .lpc t rd _
  | .jal t rd _ => some (t, rd)
  | .beq t _ _ _ | .bne t _ _ _ | .blt t _ _ _ | .bge t _ _ _ | .bltu t _ _ _ | .bgeu t _ _ _ | .stB t _ _ _ | .stH t _ _ _ | .stW t _ _ _
  | .stD t _ _ _ => some (t, 0)
  | _ => none

/-- Bytes of the local store that a scalar instruction stores to in context `c`: the address and the count (R330). -/
def storeSpan (i : Instr) (c : TineCtx) : Nat × Nat :=
  match i with
  | .stB _ _ rs1 imm => ((tineReg c rs1 + imm.signExtend 64).toNat, 1)
  | .stH _ _ rs1 imm => ((tineReg c rs1 + imm.signExtend 64).toNat, 2)
  | .stW _ _ rs1 imm => ((tineReg c rs1 + imm.signExtend 64).toNat, 4)
  | .stD _ _ rs1 imm => ((tineReg c rs1 + imm.signExtend 64).toNat, 8)
  | _ => (0, 0)

/-- What a step leaves of `u` while the planes stand still and no command but those of the planes waits: everything but the queue, the
timebase and the count of free values (R512, R514). -/
def StandsStill (u s : State) : Prop :=
  planesRun u = false ∧ (∀ c ∈ s.pending, planeCommand c = true) ∧ ∃ p tm n, s = { u with pending := p, time := tm, freeCtr := n }

/-- What a step leaves of `u` while there is no power and PWRGOOD does not rise: everything but the queue, the timebase, the registers, the
level at HALT_IN_N and the count of free values (R524, R552). -/
def Unpowered (u s : State) : Prop :=
  u.power.pwrgood = false ∧ (∀ c ∈ s.pending, ∀ a b, c ≠ .pwrgoodRise a b) ∧
    ∃ low p tm rg n, s = { u with power := { u.power with haltInLow := low }, pending := p, time := tm, regs := rg, freeCtr := n }

/-- The state with other keys in the key slots, and another unique secret. -/
def otherKeys (f : Nat → Nat → Nat) (g : Nat → Nat) (s : State) : State :=
  { s with sec := { s.sec with keys := NMap.mapV s.sec.keys (fun k x => { x with key := f k x.key }), dus := s.sec.dus.map g } }

/-- The value of a finite FP32 number: its sign, integer and power of two, as a rational. -/
def ratOf (neg : Bool) (m : Nat) (e : Int) : Rat := (if neg then -1 else 1) * (m : Rat) * (2 : Rat) ^ e

end Sys2Proof.Machine
end

