-- ==== Sys2Proof/Certificates/Slice0/Obligations.lean ====
section
/-!
DEFINITION. The statements about the model: one per group of commands or per rule of the whole machine.
-/
open Sys2Proof Sys2Proof.Machine

/-- A register read or write acts on the register the control address names, in the view and bank of its requester. -/
def Obligations.RegisterAccessCommands : Prop :=
  (∀ (r : Requester) (addr : BitVec 40) (v : Word) (s : State),
      requesterUp r s = true →
      exec (.registerWrite r addr v) s = .next (settle (emit (.access (writeReg r addr.toNat v s).1 0) (writeReg r addr.toNat v s).2))) ∧
  (∀ (t : Nat) (rd rs1 rs2 : BitVec 6) (c : TineCtx) (s : State),
      TineReady s t c 1 →
      c.system = true →
      badReg rs1 = false →
      (tineReg c rs1).toNat < 2 ^ 40 →
      addrName (tineReg c rs1).toNat ≠ .bad →
      badReg rd = false →
      badReg rs2 = false →
      (exec (.rreg t rd rs1 0) s = .next (tineWrite t 1 rd (readAccess (.sysTine t) (tineReg c rs1).toNat s).2.1 c (readAccess (.sysTine t) (tineReg c rs1).toNat s).2.2) ∧
       exec (.wreg t 0 rs1 rs2) s = .next (settle (writeReg (.sysTine t) (tineReg c rs1).toNat (tineReg c rs2) (putTine t { c with pc := c.pc + 4 } s)).2))) ∧
  (∀ (q : MgmtReq) (x : MgmtSess) (addr : BitVec 40) (s : State),
      MgmtReady s q x rObserve →
      exec (.regRead q addr) s = .next (mgmtReply q (readAccess (.mgmt q.port) addr.toNat (mgmtTake q x s)).1 (.word (readAccess (.mgmt q.port) addr.toNat (mgmtTake q x s)).2.1) (readAccess (.mgmt q.port) addr.toNat (mgmtTake q x s)).2.2)) ∧
  (∀ (q : MgmtReq) (x : MgmtSess) (addr : BitVec 40) (v : Word) (r : Reg) (d : Die) (s : State),
      MgmtReady s q x rConfigure →
      addrName addr.toNat = .reg r d →
      mgmtMayWrite addr.toNat = true →
      exec (.regWrite q addr v) s = .next (mgmtReply q (writeReg (.mgmt q.port) addr.toNat v (mgmtTake q x s)).1 .none (writeReg (.mgmt q.port) addr.toNat v (mgmtTake q x s)).2))

/-- A commit whose checks pass locks, validates and applies the masked shadows; a scheduled one waits for its time; a cancel ends it. -/
def Obligations.CommitCommands : Prop :=
  (∀ (y : Yoke) (r : Requester) (gen mask tag : Nat) (silent : List Nat) (s : State),
      planesRun s = true →
      requesterUp r s = true →
      (exec (.cfgCommit y r gen mask tag silent) s = .next (settle (commitStart y (planeOf r) gen mask tag none silent none none s)) ∧
       exec (.scheduledCommit y r gen mask tag silent) s = .next (commitStart y (planeOf r) gen mask tag (some (live s .CFG_COMMIT_AT (.yoke y)).toNat) silent none none s) ∧
       exec (.commitCancel r gen tag) s = .next (commitCancel (planeOf r) gen tag s).2)) ∧
  (∀ (s : State) (p : PendingCommit) (d : Die) (l : List Die),
      planesRun s = true →
      s.cfg.pendingC = some p →
      p.silent = d :: l →
      p.failed = none →
      p.sentAt + 3000 ≤ ktb s →
      exec .commitAnswerTimeout s = .next (commitEnd .timeout (setFailDie d s))) ∧
  (∀ (s : State) (p : PendingCommit),
      planesRun s = true →
      s.cfg.pendingC = some p →
      p.scheduled = true →
      p.silent = [] →
      p.failed = none →
      p.applyAt ≤ ktb s →
      exec .commitApplyAt s = .next (settle (commitEnd .ok (commitApply p.gen p.mask s)))) ∧
  (∀ (sq cid : Nat) (b : List Byte) (t : State) (s : State),
      Served s sq →
      sq = 0 →
      configLenOk b = true →
      configWrites ((List.range (b.length / 16)).map (configEntry b)) 0 s = (none, t) →
      exec (.configWrite sq cid b) s = .next (postCqe sq cid .ok 0 0 t)) ∧
  (∀ (sq cid : Nat) (b bs : List Byte) (t : State) (s : State),
      Served s sq →
      sq = 0 →
      configLenOk b = true →
      configReads (firmwareTine s) ((List.range (b.length / 16)).map (configEntry b)) 0 s = (bs, none, t) →
      exec (.configRead sq cid b) s = .next (postCqe sq cid .ok 0 0 (emit (.hostData sq cid bs) t))) ∧
  (∀ (sq cid gen mask tag : Nat) (silent : List Nat) (s : State),
      Served s sq →
      sq = 0 →
      (s.ckp.yokes.get s.ckp.primary).issuing = true →
      exec (.configCommit sq cid false gen mask 0 false tag silent) s = .next (settle (commitStart s.ckp.primary .control gen mask (tag % 256) none silent (some (sq, cid)) none s))) ∧
  (∀ (q : MgmtReq) (x : MgmtSess) (gen mask tag : Nat) (at_ : Option Nat) (silent : List Nat) (s : State),
      MgmtReady s q x rConfigure →
      planesRun s = true →
      exec (.mgmtConfigCommit q gen mask at_ false tag silent) s = .next (tellScheduled (commitStart s.ckp.primary .management gen mask (tag % 256) at_ silent none (some q) (mgmtTake q x s)))) ∧
  (∀ (q : MgmtReq) (x : MgmtSess) (y : Yoke) (s : State),
      MgmtReady s q x rConfigure →
      (exec (.reset q 1 y) s = .next (systemReset .management (mgmtReply q .ok .none (mgmtTake q x s))) ∧
       exec (.reset q 2 y) s = .next (mgmtReset y (mgmtReply q .ok .none (mgmtTake q x s)))))

/-- The timebase rows write the adjustment, the slew, the step, the stamps and the copies of KTB; the fingerprint, divergence and speed rows their state. -/
def Obligations.TimebaseCommands : Prop :=
  (∀ (y : Yoke) (v : Word) (s : State),
      planesRun s = true →
      (exec (.yokKtbFreqWrite y v) s = .next (setLive .YOK_KTB_FREQ (.yoke y) 0 (BitVec.ofNat 64 (twos 32 (max (-500000000) (min 500000000 (signedOf 32 (field v 31 0)))))) s) ∧
       exec (.yokKtbSlewWrite y v) s = .next (slewWrite y (signedOf 48 (field v 47 0)) s) ∧
       exec (.yokKtbStepWrite y v) s = .next (stepWrite y v s))) ∧
  (∀ (y : Yoke) (s : State),
      s.time.running = true →
      exec (.ppsInEdge y) s = .next (setLive .YOK_PPS_IN_TS (.yoke y) 0 (BitVec.ofNat 64 (ktbOf s (.yoke y) + freeBelow 5 s - 2)) (drew s))) ∧
  (∀ (s : State),
      s.time.running = true →
      1000000000 ≤ ktb s →
      s.time.ppsRise ≠ some (ktb s / 1000000000 * 1000000000) →
      exec .ppsOutPulse s = .next { s with time := { s.time with ppsRise := some (ktb s / 1000000000 * 1000000000) } }) ∧
  (∀ (a : Acre) (s : State),
      s.time.running = true →
      pastStage1 s = true →
      exec (.acreTimeTransfer a) s = .next { drew s with time := { s.time with ktb := s.time.ktb.set (.acre a) (max (ktbOf s (.acre a)) (ktb s + freeBelow 9 s - 4)) } }) ∧
  (∀ (s : State),
      planesRun s = true →
      s.cfg.fpValid = false →
      exec .configFingerprint s = .next (fingerprint s)) ∧
  (∀ (entry : Nat) (e : Divergence) (s : State),
      planesRun s = true →
      NMap.get? s.cfg.divergent entry = some e →
      e.counted = false →
      e.since + max 1 (primF s .CFG_DOMAIN 0 23 16) * 1000000 < ktb s →
      exec (.divergenceGraceExpiry entry) s = .next (mgmtPost (.divergence entry) { s with cfg := { s.cfg with divergent := NMap.put s.cfg.divergent entry { e with counted := true } } })) ∧
  (∀ (die speed : Nat) (d : Die) (s : State),
      s.power.pwrgood = true →
      Die.ofCode die = some d →
      speed < 1024 →
      exec (.pwrSpeedSample die speed 0) s = .next (setLive .PWR_SPEED d 0 (if speed * 256 < 167 * 1024 then setField (setField (setField (live s .PWR_SPEED d) 9 0 speed) 15 10 0) 16 16 1 else setField (setField (live s .PWR_SPEED d) 9 0 speed) 15 10 0) s)) ∧
  (∀ (n : Nat) (l : Link) (s : State),
      Link.ofNum n = some l →
      s.links.contains l = false →
      s.power.pwrgood = true →
      exec (.linkFence n) s = .next { s with links := s.links ++ [l] })

/-- PARK, REVIVE, DORMANT, RETIRE and WAKE_SET do what R68 and R585 give for the state they find. -/
def Obligations.SessionCommandResults : Prop :=
  (∀ (sq cid handle : Nat) (u s : State),
      SessionReady s sq handle u .decode →
      streamRoom (desc u (slotOf handle)).streamRing 256 u = true →
      exec (.park sq cid handle) s = .next (settle (postCqe sq cid .ok 0 0 (parkByCommand (slotOf handle) u)))) ∧
  (∀ (sq cid handle : Nat) (u s : State),
      SessionReady s sq handle u .reviving →
      exec (.park sq cid handle) s = .next (settle (postCqe sq cid .ok 0 0 (parkReviving (slotOf handle) u)))) ∧
  (∀ (sq cid handle : Nat) (st : SState) (u s : State),
      SessionReady s sq handle u st →
      st = .idleWait ∨ st = .toolWait →
      attnInflight u (slotOf handle) = 0 →
      (auxOf u (slotOf handle)).held = [] →
      (exec (.revive sq cid handle) s = .next (settle (postCqe sq cid .ok 0 0 (fireWake (slotOf handle) .explicit u))) ∧
       exec (.dormant sq cid handle) s = .next (settle (postCqe sq cid .ok 0 0 (dormantCommit (slotOf handle) u))) ∧
       exec (.retire sq cid handle) s = .next (settle (postCqe sq cid .ok 0 0 (retiringCommit (slotOf handle) u))) ∧
       exec (.park sq cid handle) s = .next (settle (postCqe sq cid .ok 0 0 u)))) ∧
  (∀ (sq cid handle en deadline : Nat) (st : SState) (u s : State),
      SessionReady s sq handle u st →
      st = .idleWait ∨ st = .toolWait ∨ st = .dormant →
      (desc (commitDesc (slotOf handle) (fun d => { d with wakeDoorbell := en.testBit 0, wakeDeadline := en.testBit 2, deadline := deadline % 2 ^ 64 }) u) (slotOf handle)).wakeQueued = false →
      exec (.wakeSet sq cid handle en deadline) s = .next (settle (postCqe sq cid .ok 0 0 (armWakes (slotOf handle) (commitDesc (slotOf handle) (fun d => { d with wakeDoorbell := en.testBit 0, wakeDeadline := en.testBit 2, deadline := deadline % 2 ^ 64 }) u))))) ∧
  (∀ (sq cid handle : Nat) (u s : State),
      SessionReady s sq handle u .migrating →
      (exec (.park sq cid handle) s = .next (settle (postCqe sq cid .busy 0 0 u)) ∧
       exec (.dormant sq cid handle) s = .next (settle (postCqe sq cid .busy 0 0 u)) ∧
       exec (.retire sq cid handle) s = .next (settle (postCqe sq cid .busy 0 0 u)))) ∧
  (∀ (sq cid handle : Nat) (u s : State),
      SessionReady s sq handle u .fenced →
      (exec (.park sq cid handle) s = .next (settle (postCqe sq cid .fenced 0 0 u)) ∧
       exec (.revive sq cid handle) s = .next (settle (postCqe sq cid .fenced 0 0 u)) ∧
       exec (.dormant sq cid handle) s = .next (settle (postCqe sq cid .fenced 0 0 u)) ∧
       exec (.retire sq cid handle) s = .next (settle (postCqe sq cid .ok 0 0 (retiringCommit (slotOf handle) u)))))

/-- OPEN creates the session; a deadline fires its wake, queued wakes are admitted, a revival is fetched and becomes READY, and an empty RETIRING slot becomes FREE. -/
def Obligations.SessionLifeEvents : Prop :=
  (∀ (sq cid : Nat) (buf : List Byte) (u s : State),
      Served s sq →
      sq ≠ 0 →
      openCheck (openBlock buf) (if 1376 ≤ buf.length then genBlock (buf.drop 64) else GenBlock.none) (decide (buf.length < 64)) s = .ok u →
      exec (.openSession sq cid buf) s = .next (settle (openRun sq cid (openBlock buf) (if 1376 ≤ buf.length then genBlock (buf.drop 64) else GenBlock.none) u))) ∧
  (∀ (slot : Nat) (s : State),
      planesRun s = true →
      s.power.fallow.mode = .active →
      (desc s slot).state = .idleWait →
      (desc s slot).wakeQueued = false →
      (desc s slot).wakeDeadline = true →
      (desc s slot).deadline ≠ 0 →
      (desc s slot).deadline ≤ ktbOf s (.acre (homeAcre slot)) →
      exec (.deadlineWake slot) s = .next (settle (fireWake slot .deadline s))) ∧
  (∀ (p slot : Nat) (s : State),
      planesRun s = true →
      oldestWake s p = some slot →
      reviveRoom s slot = true →
      exec (.queuedWakeAdmit p) s = .next (settle (revivingCommit slot (unqueueWake slot s)))) ∧
  (∀ (a : Acre) (e : Acre × Nat) (s : State),
      planesRun s = true →
      s.bur.getxRetry.find? (fun e => e.1 = a) = some e →
      oldestWake s (desc s e.2).principal = some e.2 →
      reviveRoom s e.2 = true →
      exec (.getxRetry a) s = .next (settle (revivingCommit e.2 (unqueueWake e.2 s)))) ∧
  (∀ (a : Acre) (f : RevFetch) (r : List RevFetch) (u s : State),
      planesRun s = true →
      fieldFree s a = true →
      s.bur.revQ.get a = f :: r →
      fetchObjs (homeAcre f.slot) (fetchFrom s f.slot a) (fetchBegun a f r s) = .ok u →
      exec (.revivalFetchStart a) s = .next u) ∧
  (∀ (slot : Nat) (u s : State),
      planesRun s = true →
      (desc s slot).state = .reviving →
      (auxOf s slot).fencing = false →
      windowReady s slot = true →
      own slot s = some u →
      exec (.revivalReady slot) s = .next (settle (drainHeld slot (readyCommit slot u)))) ∧
  (∀ (slot : Nat) (u s : State),
      planesRun s = true →
      retireDone s slot = true →
      own slot s = some u →
      exec (.retireComplete slot) s = .next (freeSlot slot (releaseAll slot u))) ∧
  (∀ (sq cid handle dlen : Nat) (s : State),
      Served s sq →
      sq ≠ 0 →
      handleCheck s handle = none →
      512 ≤ dlen →
      exec (.descRead sq cid handle dlen) s = .next (postCqe sq cid .ok 0 0 (emit (.hostData sq cid (descBytes s (slotOf handle))) s)))

/-- GETX queues at home, RECALL makes the owner release, a write-back reaches home, a grant hands the line to the oldest request, an eviction writes an O line back. -/
def Obligations.ShelfCommands : Prop :=
  (∀ (a : Acre) (slot : Nat) (s : State),
      planesRun s = true →
      slot < 2 ^ 22 →
      (dirOf s slot).waiting.contains a = false →
      (dirOf s slot).st ≠ .owned a →
      (dirOf s slot).waiting.length < 3 →
      exec (.getx a slot) s = .next (setDir slot { dirOf s slot with waiting := (dirOf s slot).waiting ++ [a], recalled := (match (dirOf s slot).st with | .owned _ => (dirOf s slot).wb.isNone | _ => (dirOf s slot).recalled) } { s with bur := { s.bur with getx := s.bur.getx.set (homeAcre slot) (s.bur.getx.get (homeAcre slot) + 1) } })) ∧
  (∀ (slot : Nat) (a : Acre) (l : ShelfLine) (s : State),
      planesRun s = true →
      (dirOf s slot).st = .owned a →
      (dirOf s slot).wb = none →
      (dirOf s slot).recalled = true →
      NMap.get? (s.bur.shelf.get a) slot = some l →
      exec (.recall slot) s = .next (setDir slot { dirOf s slot with wb := some l.copy } (dropLine a slot s))) ∧
  (∀ (slot : Nat) (d : Desc) (s : State),
      planesRun s = true →
      (dirOf s slot).wb = some d →
      exec (.shelfWb slot) s = .next (setDir slot { dirOf s slot with st := .home, wb := none, recalled := false } (setHome slot d s))) ∧
  (∀ (slot : Nat) (a : Acre) (r : List Acre) (u s : State),
      planesRun s = true →
      (dirOf s slot).st = .home →
      (dirOf s slot).waiting = a :: r →
      shelfRoom a (setDir slot { dirOf s slot with waiting := r } s) = some u →
      exec (.getxGrant slot) s = .next (setDir slot { dirOf (takeOwned a slot u) slot with recalled := !r.isEmpty } (takeOwned a slot u))) ∧
  (∀ (a : Acre) (slot : Nat) (l : ShelfLine) (s : State),
      planesRun s = true →
      NMap.get? (s.bur.shelf.get a) slot = some l →
      lineEvictable s slot = true →
      l.own = true →
      exec (.shelfEvict a slot) s = .next (setDir slot { dirOf s slot with wb := some l.copy } (dropLine a slot s)))

/-- The placement directives do what R112 names on what they name: policy, home moves, staging, prefetch, eviction, pins. -/
def Obligations.PlacementDirectives : Prop :=
  (∀ (sq cid handle tier target fill slot : Nat) (t : Tier) (n : Option Nat) (s : State),
      Served s sq →
      sq ≠ 0 →
      sessionDir s handle = .ok slot →
      tier = 1 ∧ t = .fld ∨ tier = 2 ∧ t = .headland →
      placeTarget t target = some n →
      fill ≤ 2 →
      exec (.setPolicy sq cid handle tier target fill) s = .next (postCqe sq cid .ok 1 0 (setAux slot { auxOf s slot with policy := { isSet := true, tier := t, target := n, fill := some fill } } s))) ∧
  (∀ (sq cid tier target : Nat) (t : DirTarget) (tr : Tier) (g : Option Nat) (n : Named) (staged : List Nat) (s u : State),
      Served s sq →
      sq ≠ 0 →
      named s t = .ok n →
      tier = 1 ∧ tr = .fld ∨ tier = 2 ∧ tr = .headland →
      placeTarget tr target = some g →
      (n.records.any fun i => (getObj s i).moveActive) = false →
      stageAll t sq cid n.entries s = (staged, true, u) →
      (n.records ++ staged).isEmpty = false →
      exec (.setHome sq cid t tier target) s = .next (movesStart sq cid tr g (n.records ++ staged) (dirStart sq cid 0x31 n.slot (n.records ++ staged) u))) ∧
  (∀ (sq cid h : Nat) (n : Named) (objs : List Nat) (s u : State),
      Served s sq →
      sq ≠ 0 →
      named s (.session h) = .ok n →
      stageAll (.session h) sq cid n.entries s = (objs, true, u) →
      exec (.stage sq cid (.session h)) s = .next (if objs.isEmpty then postCqe sq cid .ok 0 0 u else dirStart sq cid 0x32 n.slot objs u)) ∧
  (∀ (sq cid h : Nat) (n : Named) (s : State),
      Served s sq →
      sq ≠ 0 →
      named s (.session h) = .ok n →
      ((n.records.filter fun i => (getObj s i).home.tier = .chest).any fun i => anyReader s i) = false →
      exec (.unstage sq cid (.session h)) s = .next (postCqe sq cid .ok (((n.records.filter fun i => (getObj s i).home.tier = .chest).filter fun i => !(getObj s i).dirty && !(getObj s i).wbActive).length) 0 ((n.records.filter fun i => (getObj s i).home.tier = .chest).foldl (fun s i => unstageAny i s) s))) ∧
  (∀ (sq cid h lo hi slot c : Nat) (n : Named) (s u : State),
      Served s sq →
      sq ≠ 0 →
      named s (.session h) = .ok n →
      n.slot = some slot →
      ∀ e ∈ n.entries, ∃ i, e.2.ref = .record i ∧ (getObj s i).home.tier ≠ .chest →
      prefetchRun (homeAcre slot) ({ n with entries := n.entries.filter (fun e => overlaps e.1 (lo, hi)) } : Named).records s = (c, none, u) →
      exec (.prefetch sq cid (.session h) lo hi) s = .next (settle (postCqe sq cid .ok c 0 u))) ∧
  (∀ (sq cid h k i slot : Nat) (sh : Bool) (s : State),
      Served s sq →
      sq ≠ 0 →
      named s (.stack h k) = .ok ⟨some slot, true, [(k, ⟨sh, .record i⟩)]⟩ →
      (desc s slot).state.live = false →
      isPinned s (getObj s i) = false →
      (getObj (writeBackNow i s) i).dirty = false →
      exec (.evict sq cid (.stack h k)) s = .next (postCqe sq cid .ok 1 0 (dropCopies i (writeBackNow i s)))) ∧
  (∀ (sq cid h k i slot : Nat) (sh : Bool) (s : State),
      Served s sq →
      sq ≠ 0 →
      named s (.stack h k) = .ok ⟨some slot, true, [(k, ⟨sh, .record i⟩)]⟩ →
      isPinned s (getObj s i) = false →
      ∀ a ∈ Acre.all, pinnedUse s a (getObj s i).principal + objNear s a (getObj s i) ≤ prinResv s a (getObj s i).principal →
      (exec (.pin sq cid (.stack h k)) s = .next (postCqe sq cid .ok 1 0 (modObj i (fun o => { o with pinned := true }) s)) ∧
       exec (.unpin sq cid (.stack h k)) s = .next (postCqe sq cid .ok 1 0 (modObj i (fun o => { o with pinned := false }) s))))

/-- Rounds start and finish, the evictor runs between its watermarks, moves publish or redirect, old runs are freed, a drained window becomes EMPTY. -/
def Obligations.TierEvents : Prop :=
  (∀ (obj : Nat) (s : State),
      planesRun s = true →
      (exec (.writeBackRound obj) s = .next (wbStart obj s) ∧ exec (.writeBackComplete obj) s = .next (sweepObj obj (wbFinish obj s)))) ∧
  (∀ (a : Acre) (s : State),
      planesRun s = true →
      nearFree s a < liveF s .TIER_NEAR_CTRL (.acre a) 0 15 0 * 2 ^ 20 →
      exec (.nearEvict a) s = .next (evictLoop a (liveF s .TIER_NEAR_CTRL (.acre a) 0 31 16 * 2 ^ 20) (roomFuel s a) s)) ∧
  (∀ (slot k i : Nat) (s u : State),
      planesRun s = true →
      mapEntry s slot k = some ⟨false, .record i⟩ →
      (getObj s i).sstate ≠ .free →
      fetchUnits i (homeAcre slot) true true (missing s i (homeAcre slot)) s = .ok u →
      exec (.stackFetchForAppend slot k) s = .next u) ∧
  (∀ (obj : Nat) (m : HomeMove) (s : State),
      planesRun s = true →
      s.tier.moves.find? (fun m => m.obj = obj) = some m →
      m.redirect = false →
      m.dest.tier ≠ .chest →
      (getObj s obj).home.tier ≠ .chest →
      (getObj s obj).lost = false →
      ((m.ctr0 = (getObj s obj).ctr → (getObj s obj).dirty = false → (getObj s obj).wbActive = false →
        exec (.homeMoveCopyDone obj) s = .next (publishHome obj m s)) ∧
       (m.ctr0 ≠ (getObj s obj).ctr ∨ (getObj s obj).dirty = true ∨ (getObj s obj).wbActive = true →
        exec (.homeMoveCopyDone obj) s = .next (queueWb obj { s with tier := { s.tier with moves := s.tier.moves.map (fun x => if x.obj = obj then { x with redirect := true } else x) } })))) ∧
  (∀ (obj : Nat) (r : OldRun) (s : State),
      planesRun s = true →
      s.tier.oldRuns.find? (fun r => r.obj = obj) = some r →
      oldRunBusy s r = false →
      exec (.oldRunFree obj) s = .next (giveRun r.obj r.home r.frames { s with tier := { s.tier with oldRuns := s.tier.oldRuns.erase r } })) ∧
  (∀ (b : Nat) (e : BorrowEntry) (s : State),
      planesRun s = true →
      NMap.get? s.tier.borrow b = some e →
      e.st = .draining →
      windowHomes s b = [] →
      ∀ m ∈ s.tier.moves, ∀ p, m.dest ≠ .headland b p →
      exec (.borrowEmpty b) s = .next { s with tier := { s.tier with borrow := NMap.put s.tier.borrow b { e with st := .empty } } }) ∧
  (∀ (cid profile : Nat) (s : State),
      Served s 0 →
      profile ≤ 15 →
      (geom s profile).valid = true →
      profileUsed s profile = false →
      exec (.profileUnbind 0 cid profile) s = .next (postCqe 0 cid .ok 0 0 (Acre.all.foldl (profileClear profile) s)))

/-- PREFIX_CREATE shares the stacks of a parked session below L and returns the prefix ID; PREFIX_RETIRE sets RETIRING and releases what nothing forks. -/
def Obligations.SharedPrefixCommands : Prop :=
  (∀ (sq cid handle len principal : Nat) (u s : State),
      SessionReady s sq handle u .idleWait →
      admitNew u [1] = none →
      1 ≤ len ∧ len ≤ (desc u (slotOf handle)).len ∧ principal ≤ 4095 →
      prefixHomed u (slotOf handle) len = true →
      exec (.prefixCreate sq cid handle len principal) s = .next (match prefixBuild (slotOf handle) len principal u with | none => postCqe sq cid .noSpace 0 0 u | some (id, v) => postCqe sq cid .ok id 0 v)) ∧
  (∀ (sq cid handle len principal : Nat) (st : SState) (u s : State),
      SessionReady s sq handle u st →
      admitNew u [1] = none →
      st ≠ .idleWait ∧ st ≠ .fenced →
      exec (.prefixCreate sq cid handle len principal) s = .next (postCqe sq cid .busy 0 0 u)) ∧
  (∀ (sq cid id : Nat) (p : PrefixEntry) (s : State),
      Served s sq →
      sq ≠ 0 →
      s.sec.tenancy = .bound →
      NMap.get? s.tier.prefixes id = some p →
      exec (.prefixRetire sq cid id) s = .next (postCqe sq cid .ok 0 0 (prefixSweep id { s with tier := { s.tier with prefixes := NMap.put s.tier.prefixes id { p with retiring := true } } })))

/-- A move into the Chest writes pieces and a PUT, and is published when the PUT is durable; staging reads pieces and completes when every one has been read. -/
def Obligations.ChestObjectCommands : Prop :=
  (∀ (obj d : Nat) (m : HomeMove) (f : Sealed) (s : State),
      planesRun s = true →
      s.tier.moves.find? (fun m => m.obj = obj) = some m →
      m.dest = .chest d →
      (getObj s obj).sealed = some f →
      (getObj s obj).dirty = false ∧ (getObj s obj).wbActive = false ∧ (getObj s obj).home.tier ≠ .chest →
      (s.chest.writes.any fun w => w.cause = .move obj) = false →
      chestUp s = true →
      readFault (getObj s obj) = none →
      exec (.chestWrite obj) s = .next (let r := chestWrite f (if (getObj s obj).kind = .searchList then .searchList else .stack) (getObj s obj).profile (chestFrames s (getObj s obj)).1 (chestFrames s (getObj s obj)).2 (chestTargets (chestBegun obj s) d) (.move obj) (chestBegun obj s)
      if r.1 = .ok then r.2 else moveEnd obj (getObj s obj).home.tier (some r.1) (chestBegun obj s))) ∧
  (∀ (index obj : Nat) (w : ChestWrite) (m : HomeMove) (s : State),
      planesRun s = true →
      s.chest.writes.find? (fun w => w.index = index) = some w →
      w.cause = .move obj →
      s.tier.moves.find? (fun m => m.obj = obj) = some m →
      writeDurable s w = true →
      anyReader s obj = false →
      ((getObj s obj).ctr = m.ctr0 → (getObj s obj).dirty = false → (getObj s obj).wbActive = false →
        exec (.chestWriteDurable index) s = .next (chestPublish obj (locOf index w.incarn) m { s with chest := { s.chest with writes := s.chest.writes.erase w } })) ∧
      ((getObj s obj).ctr ≠ m.ctr0 → exec (.chestWriteDurable index) s = .next (chestRelease (locOf index w.incarn) { s with chest := { s.chest with writes := s.chest.writes.erase w } }))) ∧
  (∀ (loc drive : Nat) (g : Staging) (c : Sealed) (s : State),
      planesRun s = true →
      s.chest.stagings.find? (fun g => g.loc = loc && g.left.contains drive) = some g →
      chestUp s = true →
      (driveOf s drive).st = .online →
      locValid s loc = true →
      NMap.get? s.chest.content (locIndex loc) = some c →
      c.corrupt = false →
      exec (.chestPieceRead loc drive .ok) s = .next { s with chest := { s.chest with stagings := s.chest.stagings.map (fun x => if x = g then { x with left := x.left.filter (· ≠ drive) } else x) } }) ∧
  (∀ (obj slot : Nat) (g : Staging) (s : State),
      planesRun s = true →
      s.chest.stagings.find? (fun g => g.obj = obj) = some g →
      g.left = [] →
      g.cause = .gather slot ∨ g.cause = .background slot →
      exec (.stagingDone obj) s = .next (modObj obj (fun o => { o with staged := true }) { s with chest := { s.chest with stagings := s.chest.stagings.filter (fun x => x.obj ≠ obj) } }))

/-- Drive completions, timeouts, failures, arrivals and SMART polls change the drive they name. -/
def Obligations.ChestDriveEvents : Prop :=
  (∀ (d cid : Nat) (c : NvmeCmd) (s : State),
      planesRun s = true →
      (driveOf s d).cmds.find? (fun c => c.cid = cid) = some c →
      exec (.nvmeCompletion d cid false) s = .next (putDrive d { driveOf s d with cmds := (driveOf s d).cmds.filter (fun c => c.cid ≠ cid) } s) ∧
      (c.issuedAt + chsF s 47 32 * 1000000 ≤ ktb s → c.retried = false →
        exec (.nvmeCmdTimeout d cid true false) s = .next (putDrive d { driveOf s d with cmds := (driveOf s d).cmds.filter (fun x => x.cid ≠ cid) ++ [{ c with issuedAt := ktb s, retried := true }] } (bumpF .CHS_DRIVE_ERR (.yoke .yw) d 31 0 1 s)))) ∧
  (∀ (d : Nat) (far : Bool) (s : State),
      planesRun s = true →
      d < 4 →
      exec (.driveFailed d far) s = .next (settle (driveDown d (!far) s))) ∧
  (∀ (d segments : Nat) (vwc : Bool) (s : State),
      planesRun s = true →
      d < 4 →
      (driveOf s d).st ≠ .online →
      34 ≤ segments →
      exec (.driveLinkUp d segments vwc false) s = .next (putDrive d { Drive.absent with st := .unformatted, vwc := vwc, segments := segments, free := ⟨33, segments, []⟩, smartAt := ktb s } s)) ∧
  (∀ (d pct crit : Nat) (s : State),
      planesRun s = true →
      (driveOf s d).st = .online →
      min pct 255 < chsF s 31 24 →
      crit = 0 →
      exec (.smartPoll d pct crit true) s = .next (putDrive d { driveOf s d with pctUsed := min pct 255, critWarn := 0, smartAt := ktb s } s))

/-- The journal closes and commits its groups, the map checkpoint starts when it is due, the Harrow collects and deallocates. -/
def Obligations.ChestJournalAndHarrow : Prop :=
  (∀ (r : JRec) (l : List JRec) (s : State),
      planesRun s = true →
      s.chest.group = r :: l →
      s.chest.inFlight = [] →
      50 ≤ (r :: l).length ∨ r.joined + 250000 ≤ ktb s →
      exec .journalGroupClose s = .next ((onlineDrives s).foldl (fun s d => nvmeIssue d 1 s) { s with chest := { s.chest with inFlight := (r :: l).take 50, group := (r :: l).drop 50, blocks := s.chest.blocks + 1 } })) ∧
  (∀ (l : JRec) (s : State),
      planesRun s = true →
      s.chest.inFlight.getLast? = some l →
      ((onlineDrives s).any fun d => (driveOf s d).cmds.any fun c => c.opc = 1) = false →
      exec .journalGroupDurable s = .next (let u := s.chest.inFlight.foldl (fun s r => applyRec r s) ((onlineDrives s).foldl (fun v d => putDrive d { driveOf v d with journal := (driveOf v d).journal ++ s.chest.inFlight } v) s)
      { u with chest := { u.chest with durable := l.jseq, inFlight := [] } })) ∧
  (∀ (s : State),
      planesRun s = true →
      chestUp s = true →
      s.chest.ckpt = none →
      65536 ≤ s.chest.blocks ∨ s.chest.baseAt + chsF s 55 48 * 1000000000 ≤ ktb s →
      exec .mapCheckpoint s = .next (let u := jWrite .ckptBegin (1 - s.chest.slot) .empty s
      { u with chest := { u.chest with baseAt := ktb u, ckpt := some { base := s.chest.jseq, slot := 1 - s.chest.slot, copy := ⟨0, [], []⟩, endJseq := 0, blocks := s.chest.blocks } } })) ∧
  (∀ (d g : Nat) (s : State),
      planesRun s = true →
      chestUp s = true →
      (driveOf s d).st = .online →
      NMap.get? s.chest.harrow d = none →
      freeU s (driveOf s d) < pctOf (chsF s 15 8) (dataSegs (driveOf s d)) →
      harrowVictim (driveOf s d) = some g →
      exec (.harrowCollect d) s = .next (let u := putDrive d { driveOf s d with segs := NMap.modify (driveOf s d).segs g (fun x => { x with st := .collecting }) } s
      let v := { u with chest := { u.chest with harrow := NMap.put u.chest.harrow d { victim := g, lastPut := 0 } } }
      (livePieces v d g).foldl (harrowCopy d) v)) ∧
  (∀ (d seg : Nat) (g : Seg) (h : Collect) (s : State),
      planesRun s = true →
      chestUp s = true →
      (driveOf s d).st = .online →
      NMap.get? (driveOf s d).segs seg = some g ∧ g.st = .collecting ∧ g.live = 0 →
      NMap.get? s.chest.harrow d = some h ∧ h.victim = seg ∧ h.lastPut ≤ s.chest.durable →
      s.chest.stagings = [] →
      s.chest.group = [] ∧ s.chest.inFlight = [] ∧ s.chest.stalled = [] →
      exec (.harrowDeallocate d seg) s = .next (let u := putDrive d { driveOf s d with segs := NMap.erase (driveOf s d).segs seg, free := { (driveOf s d).free with freed := (driveOf s d).free.freed ++ [seg] } } s
      let v := { u with chest := { u.chest with harrow := NMap.erase u.chest.harrow d } }
      jAppend .segFree (d * 2 ^ 24 + seg) .empty (bumpF .CHS_HARROW (.yoke .yw) 0 31 0 1 v)))

/-- Mount replays the journal from the base of the newest superblock and refuses a set that differs from the anchor; format and attach make and grow a set. -/
def Obligations.ChestSetCommands : Prop :=
  (∀ (sb : Superblock) (an : Anchor) (m : MapCkpt) (s : State),
      planesRun s = true →
      s.sec.tenancy = .bound →
      s.chest.mount = .unmounted ∨ s.chest.mount = .mounting →
      mountSuper s = some sb →
      s.chest.anchor = some an →
      sb.setId = an.setId ∧ an.base ≤ sb.base →
      mountCopy s sb = some m →
      an.clean = true → (mountLoad an.setId sb.base m s).1 = an.finalJseq →
      exec .chestMount s = .next (mountDone (setDrives s an.setId) sb an (mountLoad an.setId sb.base m s).1 (mountLoad an.setId sb.base m s).2)) ∧
  (∀ (sb : Superblock) (an : Anchor) (s : State),
      planesRun s = true →
      s.sec.tenancy = .bound →
      s.chest.mount = .unmounted →
      mountSuper s = some sb →
      s.chest.anchor = some an →
      sb.setId ≠ an.setId →
      exec .chestMount s = .next (mountRefused s)) ∧
  (∀ (cid d : Nat) (s : State),
      Served s 0 →
      s.sec.tenancy = .bound →
      (chestInUse s = false → exec (.chestFormat 0 cid) s = .next (postCqe 0 cid .ok 0 0 (formatSet s))) ∧
      (chestUp s = true → d < 4 → (driveOf s d).st = .unformatted → exec (.chestAttach 0 cid d) s = .next (postCqe 0 cid .ok 0 0 (writeSuper false 0 (formatDrive d s)))))

/-- A batch at the take point of an ARQ is checked, taken or refused by its header, and answered when every entry has ended. -/
def Obligations.AttentionQueueCommands : Prop :=
  (∀ (arq : Nat) (s : State),
      planesRun s = true →
      arqReady s arq = true →
      hdrOk s arq (arqHdr s arq) = false →
      exec (.arqBatchTake arq) s = .next (stopArq arq .badFormat s)) ∧
  (∀ (arq : Nat) (s : State),
      planesRun s = true →
      arqReady s arq = true →
      hdrOk s arq (arqHdr s arq) = true →
      (arqOf s arq).take + (arqHdr s arq).len ≤ (arqOf s arq).pi →
      hdrPad s arq (arqHdr s arq) = false →
      ((rspCfg s (arqHdr s arq).ring).1 < batchNeed s (arqHdr s arq) (batchEntries s arq (arqHdr s arq)) → exec (.arqBatchTake arq) s = .next (stopArq arq .noSpace s)) ∧
      (batchNeed s (arqHdr s arq) (batchEntries s arq (arqHdr s arq)) ≤ (rspCfg s (arqHdr s arq).ring).1 → batchNeed s (arqHdr s arq) (batchEntries s arq (arqHdr s arq)) ≤ rspRoom s (arqHdr s arq).ring →
        exec (.arqBatchTake arq) s = .next (settle (batchTaken arq (arqHdr s arq) s)))) ∧
  (∀ (arq serial : Nat) (b : Batch) (s : State),
      planesRun s = true →
      (arqOf s arq).batches.find? (fun b => b.serial = serial && !b.answered) = some b →
      (b.entries.filterMap fun i => NMap.get? s.fur.entries i).any (fun e => e.status.isNone) = false →
      exec (.batchResponse arq serial) s = .next (batchAnswered arq b (rspEmit b.ring 6 (batchRecord s arq b) b.reserved 0x01 s))) ∧
  (∀ (arq : Nat) (st : Status) (s : State),
      planesRun s = true →
      (arqOf s arq).err = some st →
      exec (.arqErrorClear arq) s = .next (setLiveF .FUR_ARQ_STATUS (.acre (Acre.ofNum (arq / 64))) (arq % 64) 40 40 0 (writePi (Acre.ofNum (arq / 64)) (arqCfg s arq) (arqOf s arq).take (putArq arq { arqOf s arq with err := none, pi := (arqOf s arq).take, marks := [], aborts := [] } s)))) ∧
  (∀ (id at_ : Nat) (e : AttnEntry) (s : State),
      planesRun s = true →
      NMap.get? s.fur.entries id = some e →
      (auxOf s e.slot).sampleHold.find? (fun h => h.1 = id) = some (id, at_) →
      at_ ≤ ktb s →
      exec (.sampleHoldTimeout id) s = .next (settle (drainHeld e.slot (endEntry id .badFormat (setAux e.slot { auxOf s e.slot with sampleHold := (auxOf s e.slot).sampleHold.filter (fun y => y.1 ≠ id) } s)))))

/-- Items start, complete, are saved and restored, and an entry with no item left completes. -/
def Obligations.FurrowItemCommands : Prop :=
  (∀ (a : Acre) (f : Nat) (i : WorkItem) (r : List WorkItem) (s : State),
      planesRun s = true →
      s.fur.dvQ.get a = i :: r →
      freeFurrow s (acreFurrows a) = some f →
      exec (.itemDispatch a) s = .next (settle (latchCheck a (startItem f i { s with fur := { s.fur with dvQ := s.fur.dvQ.set a r } })))) ∧
  (∀ (a : Acre) (f : Nat) (i : WorkItem) (r : List WorkItem) (s : State),
      planesRun s = true →
      s.fur.dvQ.get a = [] →
      s.fur.pfQ.get a = i :: r →
      freeFurrow s (nonReserve s a) = some f →
      i.saved = true →
      exec (.prefillRestore a) s = .next (putFur f (.running { i with saved := false } (ktb s)) { s with fur := { s.fur with pfQ := s.fur.pfQ.set a r } })) ∧
  (∀ (f : Nat) (i : WorkItem) (e : AttnEntry) (s : State),
      planesRun s = true →
      itemOn (furUse s f) = some i →
      furrowUp s f = true →
      NMap.get? s.fur.entries i.entry = some e →
      gatherCheck s e (itemSheaves s e i) = (none, none) →
      exec (.itemComplete f) s = .next (itemDone f i e (itemSheaves s e i) s)) ∧
  (∀ (a : Acre) (f at_ : Nat) (i : WorkItem) (s : State),
      planesRun s = true →
      s.fur.latch.get a = some f →
      furUse s f = .running i at_ →
      (backlog s a = false → exec (.preemptSave a) s = .next (bumpF .FUR_EVENTS (.acre a) 0 39 24 1 { s with fur := { s.fur with latch := s.fur.latch.set a none } })) ∧
      (∀ u e, backlog s a = true → NMap.get? s.fur.entries i.entry = some e → makeRoom a (desc s e.slot).principal 16777216 false (roomFuel s a) s = some u →
        exec (.preemptSave a) s = .next (putFur f (.saving i) u))) ∧
  (∀ (f : Nat) (i : WorkItem) (s : State),
      planesRun s = true →
      furUse s f = .saving i →
      exec (.preemptSaveDone f) s = .next (let a := Acre.ofNum (f / 12)
      let q := s.fur.pfQ.get a
      let u := acctAdd ((NMap.get? s.fur.entries i.entry).elim 0 (fun e => (desc s e.slot).principal)) 6 1 s
      bumpF .FUR_EVENTS (.acre a) 0 23 0 1 (putFur f .idle { u with fur := { u.fur with pfQ := u.fur.pfQ.set a (q.takeWhile (fun x => x.saved) ++ [{ i with saved := true, preempts := i.preempts + 1 }] ++ q.dropWhile (fun x => x.saved)), latch := u.fur.latch.set a (if s.fur.latch.get a = some f then none else s.fur.latch.get a) } }))) ∧
  (∀ (id : Nat) (e : AttnEntry) (u s : State),
      planesRun s = true →
      NMap.get? s.fur.entries id = some e →
      e.open_ = true →
      e.left = 0 →
      earlierOpen s id e = false →
      own e.slot s = some u →
      exec (.entryComplete id) s = .next (settle (attnEnded e.slot (entryDone id e u))))

/-- Sample records are applied, refused, held or stop their queue; TRIM, SET_FLOOR and GEN_SET act on the session's lengths and settings. -/
def Obligations.GenerationCommands : Prop :=
  (∀ (tkq : Nat) (s : State),
      planesRun s = true →
      tkq < 256 →
      (tkqOf s tkq).err = none ∧ (tkqOf s tkq).holding = false ∧ (tkqOf s tkq).take + 128 ≤ (tkqOf s tkq).pi →
      (let b := ringRead s (Acre.ofNum (tkq / 64)) (tkqCfg s tkq) (tkqOf s tkq).take 128
       let fmt := leNat ((b.drop 4).take 1)
       let op := leNat ((b.drop 5).take 1)
       let r := sampleRec b
       (fmt ≠ 1 ∨ 1 < op ∨ 16 < r.count → exec (.tkqRecordApply tkq) s = .next (stopTkq tkq .badFormat s)) ∧
       (fmt = 1 → op = 0 → r.count ≤ 16 → exec (.tkqRecordApply tkq) s = .next (tkqNext tkq s)) ∧
       (fmt = 1 → op = 1 → r.count ≤ 16 → tkqHolds s r = false → exec (.tkqRecordApply tkq) s = .next (settle (tkqApply tkq s))) ∧
       (fmt = 1 → op = 1 → r.count ≤ 16 → tkqHolds s r = true → exec (.tkqRecordApply tkq) s = .next (hold (slotOf r.handle) (.sample tkq)
         (putTkq tkq { tkqOf s tkq with holding := true } (if streamRoom (desc s (slotOf r.handle)).streamRing 256 s then s else stall (slotOf r.handle) s)))))) ∧
  (∀ (tkq : Nat) (st : Status) (s : State),
      planesRun s = true →
      (tkqOf s tkq).err = some st →
      exec (.tkqErrorClear tkq) s = .next (setLiveF .GEN_TKQ_STATUS (.acre (Acre.ofNum (tkq / 64))) (tkq % 64) 40 40 0 (writePi (Acre.ofNum (tkq / 64)) (tkqCfg s tkq) (tkqOf s tkq).take (putTkq tkq { tkqOf s tkq with err := none, pi := (tkqOf s tkq).take, marks := [] } s)))) ∧
  (∀ (sq cid handle n : Nat) (st : SState) (u s : State),
      SessionReady s sq handle u st →
      st = .prefill ∨ st = .decode ∨ st = .idleWait ∨ st = .toolWait →
      attnInflight u (slotOf handle) = 0 ∧ (auxOf u (slotOf handle)).held = [] →
      (((desc u (slotOf handle)).len ≤ n ∨ streamRoom (desc u (slotOf handle)).streamRing 256 u = true → exec (.trim sq cid handle n) s = .next (settle (postCqe sq cid (applyTrim (slotOf handle) n u).1 0 0 (applyTrim (slotOf handle) n u).2))) ∧
       exec (.setFloor sq cid handle n) s = .next (settle (postCqe sq cid (applySetFloor (slotOf handle) n u).1 0 0 (applySetFloor (slotOf handle) n u).2)))) ∧
  (∀ (sq cid handle : Nat) (buf : List Byte) (st : SState) (u v w s : State),
      SessionReady s sq handle u st →
      st = .idleWait ∨ st = .toolWait ∨ st = .dormant →
      1312 ≤ buf.length →
      (genBlock buf).ok = true →
      drawerWrite (slotOf handle) 0x100 ((genBlock buf).stopSeq ++ (genBlock buf).stopLen) u = .ok v →
      drawerWrite (slotOf handle) 0x600 (genBlock buf).eosSet v = .ok w →
      exec (.genSet sq cid handle buf) s = .next (settle (postCqe sq cid .ok 0 0 (commitDesc (slotOf handle) (genBlock buf).set w))))

/-- A search batch is checked, taken or refused by its header; its passes follow one another; its merge or its members' answers end it. -/
def Obligations.SearchQueueCommands : Prop :=
  (∀ (srq : Nat) (s : State),
      planesRun s = true →
      srqReady s srq = true →
      srqHdrOk s srq (srqHdr s srq) = false →
      exec (.srqBatchTake srq) s = .next (stopSrq srq .badFormat s)) ∧
  (∀ (srq : Nat) (s : State),
      planesRun s = true →
      srqReady s srq = true →
      srqHdrOk s srq (srqHdr s srq) = true →
      (srqOf s srq).take + (srqHdr s srq).len ≤ (srqOf s srq).pi →
      srqPad s srq (srqHdr s srq) = false →
      ((rspCfg s (srqHdr s srq).ring).1 < srqNeed s srq (srqHdr s srq) → exec (.srqBatchTake srq) s = .next (stopSrq srq .noSpace s)) ∧
      (srqNeed s srq (srqHdr s srq) ≤ (rspCfg s (srqHdr s srq).ring).1 → srqNeed s srq (srqHdr s srq) ≤ rspRoom s (srqHdr s srq).ring →
        ((srqHdr s srq).cls = 1 ∨ acreBatches s (Acre.ofNum (srq / 16)) < 4) →
        exec (.srqBatchTake srq) s = .next (settle (srqTaken srq (srqHdr s srq) s)))) ∧
  (∀ (srq : Nat) (st : Status) (s : State),
      planesRun s = true →
      (srqOf s srq).err = some st →
      exec (.srqErrorClear srq) s = .next (setLiveF .GLN_SRQ_STATUS (.acre (Acre.ofNum (srq / 16))) (srq % 16) 40 40 0 (writePi (Acre.ofNum (srq / 16)) (srqCfg s srq) (srqOf s srq).take (putSrq srq { srqOf s srq with err := none, pi := (srqOf s srq).take, marks := [], aborts := [] } s)))) ∧
  (∀ (g serial at_ : Nat) (low : Bool) (b : SBatch) (x : Index) (s : State),
      planesRun s = true →
      NMap.get? s.gln.units g = some { pass := .centroid serial, low := low, at_ := at_ } →
      glnUp s g = true →
      NMap.get? s.gln.batches serial = some b →
      NMap.get? s.gln.indexes b.slot = some x →
      exec (.centroidPassDone g) s = .next (settle (glnGoOn (Acre.ofNum (g / 4)) (centroidEnd (Acre.ofNum (g / 4)) b x (freeGln g s))))) ∧
  (∀ (g serial l at_ : Nat) (low : Bool) (b : SBatch) (x : Index) (s : State),
      planesRun s = true →
      NMap.get? s.gln.units g = some { pass := .visit serial l, low := low, at_ := at_ } →
      glnUp s g = true →
      NMap.get? s.gln.batches serial = some b →
      NMap.get? s.gln.indexes b.slot = some x →
      exec (.listVisitDone g) s = .next (settle (glnGoOn (Acre.ofNum (g / 4)) (visitEnd (Acre.ofNum (g / 4)) b x l (freeGln g s))))) ∧
  (∀ (serial : Nat) (b : SBatch) (s : State),
      planesRun s = true →
      NMap.get? s.gln.batches serial = some b →
      b.phase = .visits ∧ b.visits = [] →
      (b.cls = 1 → exec (.searchMerge serial) s = .next (settle (glnGoOn b.acre (searchEmit serial (plainResults b) (traceSearch b .ok s))))) ∧
      (b.cls ≠ 1 → exec (.searchMerge serial) s = .next (settle (glnGoOn b.acre (searchEmit serial (queryResults s b) (traceSearch b (firstBad (queryResults s b)) (queryDrew b s))))))) ∧
  (∀ (g : Nat) (r p : GlnRun) (s : State),
      planesRun s = true →
      NMap.get? s.gln.units g = some r →
      (s.gln.passQ.get (Acre.ofNum (g / 4))).find? (fun p => !p.low) = some p →
      maySwitch s g r = true →
      exec (.gleanerSwitch g) s = .next (switched g r p s)) ∧
  (∀ (serial : Nat) (b : SBatch) (s : State),
      planesRun s = true →
      NMap.get? s.gln.batches serial = some b →
      b.phase = .members ∧ shardWaits s b = false →
      exec (.shardDeadline serial) s = .next (settle (glnGoOn b.acre (searchEmit serial (shardResults s b) (traceSearch b (firstBad (shardResults s b)) (shardDrew b s))))))

/-- An index is created BUILDING, loaded list by list, published ACTIVE, compacted and switched, and retired. -/
def Obligations.IndexCommands : Prop :=
  (∀ (sq cid target : Nat) (buf : List Byte) (x : Index) (s : State),
      Served s sq →
      sq ≠ 0 →
      admitNew s [1, 3] = none →
      target ≤ 3 ∨ target = 0xFF →
      idxBlock buf = some x →
      (∀ st, idxMake (idxHome s target) x buf s = .error st → exec (.idxCreate sq cid target buf) s = .next (postCqe sq cid st 0 0 s)) ∧
      (∀ h u, idxMake (idxHome s target) x buf s = .ok (h, u) → exec (.idxCreate sq cid target buf) s = .next (postCqe sq cid .ok h 0 u))) ∧
  (∀ (sq cid handle list slot : Nat) (buf : List Byte) (x : Index) (items : List (Nat × List F32)) (s : State),
      Served s sq →
      sq ≠ 0 →
      idxCheck s handle = .ok (slot, x) →
      s.ckp.leaving = false ∧ x.st = .building ∧ NMap.get? x.lists list = none →
      list < x.nlist ∧ 64 ≤ buf.length →
      listFrames x.d (bufN buf 0 4) ≤ 65536 →
      listBlock x buf = some items →
      (∀ st, buildList slot x list items s = .error st → exec (.idxLoad sq cid handle list buf) s = .next (postCqe sq cid st 0 0 s)) ∧
      (∀ e u, buildList slot x list items s = .ok (e, u) → exec (.idxLoad sq cid handle list buf) s = .next (postCqe sq cid .ok 0 0 (nameList slot list e u)))) ∧
  (∀ (sq cid handle slot : Nat) (x : Index) (s : State),
      Served s sq →
      sq ≠ 0 →
      idxCheck s handle = .ok (slot, x) →
      (x.st = .building → exec (.idxPublish sq cid handle) s = .next (postCqe sq cid .ok 0 0 (modIdx slot (fun x => { x with st := .active }) (writeBackNow x.centroid s)))) ∧
      (x.st = .active → exec (.idxCompact sq cid handle) s = .next (settle (glnGoOn (idxAcre slot) (modIdx slot (fun x => { x with waiting := x.waiting ++ [.compact sq cid] }) s)))) ∧
      (exec (.idxRetire sq cid handle) s = .next (settle (postCqe sq cid .ok 0 0 (glnGoOn (idxAcre slot) (idxRetired slot x s)))))) ∧
  (∀ (g slot at_ : Nat) (low : Bool) (x : Index) (s : State),
      planesRun s = true →
      NMap.get? s.gln.units g = some { pass := .compact slot, low := low, at_ := at_ } →
      glnUp s g = true →
      NMap.get? s.gln.indexes slot = some x →
      compactBlocked s x (idxAcre slot) = false →
      exec (.compactionBuildDone g) s = .next (settle (compactBuilt g slot x s))) ∧
  (∀ (slot : Nat) (x : Index) (m : NMap (Option ListEnt)) (w : List IdxWait) (s : State),
      planesRun s = true →
      NMap.get? s.gln.indexes slot = some x →
      x.built = some m ∧ x.waiting = .switch :: w →
      idxQueries s slot = 0 →
      exec (.compactionSwitch slot) s = .next (settle (glnGoOn (idxAcre slot) (switchDone slot x m w s))))

/-- Doorbells move tails and heads of queues and rings, one of none is counted, coalesced interrupts signal, a version is agreed, ABORT reports who came first. -/
def Obligations.HostRingCommands : Prop :=
  (∀ (sq tail head : Nat) (entries : List (List Byte)) (qp : QPair) (s : State),
      planesRun s = true →
      NMap.get? s.host.qps sq = some qp →
      (exec (.sqTailDoorbell sq tail entries) s = .next (sqRung sq tail entries qp s)) ∧
       (exec (.cqHeadDoorbell sq head) s = .next (cqDrain sq qp.waiting.length (putQp sq { qp with cqHead := head % qp.cqDepth } s)))) ∧
  (∀ (sq ring count : Nat) (es : List (List Byte)) (s : State),
      planesRun s = true →
      NMap.get? s.host.qps sq = none →
      NMap.get? s.host.streams ring = none ∧ NMap.get? s.host.events ring = none →
      exec (.sqTailDoorbell sq count es) s = .next (badDoorbell s) ∧ exec (.cqHeadDoorbell sq count) s = .next (badDoorbell s) ∧
      exec (.streamRingDoorbell ring count) s = .next (badDoorbell s) ∧ exec (.eventRingDoorbell ring count) s = .next (badDoorbell s)) ∧
  (∀ (ring count : Nat) (r q : Ring) (s : State),
      planesRun s = true →
      NMap.get? s.host.streams ring = some r →
      NMap.get? s.host.events ring = some q →
      (exec (.streamRingDoorbell ring count) s = .next (settle ((ringHolders s ring).foldl (fun s x => drainHeld x s) (putStream ring (consumed r count) s)))) ∧
      (exec (.eventRingDoorbell ring count) s = .next (evDrain ring (evFuel s ring) (putEvRing ring (consumed q count) s))) ∧
      (coalDue s r.coal = true → exec (.msixCoalesce 1 ring) s = .next (emit (.msix r.vector) (putStream ring { r with coal := ⟨0, 0⟩ } s))) ∧
      (coalDue s q.coal = true → exec (.msixCoalesce 2 ring) s = .next (emit (.msix q.vector) (putEvRing ring { q with coal := ⟨0, 0⟩ } s)))) ∧
  (∀ (range : BitVec 32) (s : State),
      planesRun s = true →
      ((range.toNat % 256 * 256 + range.toNat / 256 % 256 ≤ 256 ∧ 256 ≤ range.toNat / 65536 % 256 * 256 + range.toNat / 16777216 % 256 →
        exec (.yokHqNegotiate range) s = .next { s with host := { s.host with agreed := some 0x100, negStatus := .ok } }) ∧
      (¬ (range.toNat % 256 * 256 + range.toNat / 256 % 256 ≤ 256 ∧ 256 ≤ range.toNat / 65536 % 256 * 256 + range.toNat / 16777216 % 256) →
        exec (.yokHqNegotiate range) s = .next { s with host := { s.host with agreed := none, negStatus := .version } }))) ∧
  (∀ (log2 sqBase cqBase : Nat) (s : State),
      planesRun s = true →
      s.host.agreed.isSome = true →
      NMap.get? s.host.qps 0 = none →
      log2 = liveF s .YOK_HQ_AQ_DEPTH (.yoke (hostYoke s)) 0 3 0 ∧ 1 ≤ log2 ∧ log2 ≤ 12 →
      sqBase = (live s .YOK_HQ_ASQ_BASE (.yoke (hostYoke s))).toNat ∧ sqBase % 4096 = 0 →
      cqBase = (live s .YOK_HQ_ACQ_BASE (.yoke (hostYoke s))).toNat ∧ cqBase % 4096 = 0 →
      (exec (.yokHqAqEn true) s = .next (setLiveF .YOK_HQ_AQ_EN (.yoke (hostYoke s)) 0 0 0 1 (putQp 0 (newQp sqBase cqBase (2 ^ log2) (2 ^ log2) 0) s))) ∧
      (exec (.yokHqAqEn false) s = .next (setLiveF .YOK_HQ_AQ_EN (.yoke (hostYoke s)) 0 0 0 0 { s with host := { s.host with qps := [], outstanding := [] } }))) ∧
  (∀ (q : Nat) (qp : QPair) (s : State),
      planesRun s = true →
      NMap.get? s.host.qps q = some qp →
      coalDue s qp.coal = true →
      exec (.msixCoalesce 0 q) s = .next (emit (.msix qp.vector) (putQp q { qp with coal := ⟨0, 0⟩ } s))) ∧
  (∀ (sq cid tsq tcid : Nat) (s : State),
      Served s sq →
      ((tsq = sq ∧ tcid = cid → exec (.abort sq cid tsq tcid) s = .next (settle (postCqe sq cid .abortLate 0 0 s))) ∧
      (¬ (tsq = sq ∧ tcid = cid) → exec (.abort sq cid tsq tcid) s = .next (settle (postCqe sq cid (abortTarget tsq tcid s).1 0 0 (abortTarget tsq tcid s).2)))))

/-- Queues, rings, images, routes and contracts are made and removed by their commands. -/
def Obligations.HostAdminCommands : Prop :=
  (∀ (sq cid q sqBase cqBase sqLog2 cqLog2 vector : Nat) (qp : QPair) (s : State),
      Served s sq →
      sq = 0 →
      (qpOk q sqBase cqBase sqLog2 cqLog2 vector = true → NMap.get? s.host.qps q = none →
        exec (.createQp sq cid q sqBase cqBase sqLog2 cqLog2 vector) s = .next (postCqe sq cid .ok 0 0 (putQp q (newQp sqBase cqBase (2 ^ sqLog2) (2 ^ cqLog2) vector) s))) ∧
      (1 ≤ q → q ≤ 255 → NMap.get? s.host.qps q = some qp →
        exec (.deleteQp sq cid q) s = .next (postCqe sq cid .ok 0 0 { s with host := { s.host with qps := NMap.erase s.host.qps q, outstanding := s.host.outstanding.filter (fun c => c.sq ≠ q) } }))) ∧
  (∀ (sq cid ring base k paddr vector : Nat) (s : State),
      Served s sq →
      sq = 0 →
      (ringOk ring 4095 base k vector = true → NMap.get? s.host.streams ring = none →
        exec (.streamCreate sq cid ring base k paddr vector) s = .next (postCqe sq cid .ok 0 0 (putStream ring (newRing base k paddr vector) s))) ∧
      (ringOk ring 255 base k vector = true → NMap.get? s.host.events ring = none →
        exec (.evringCreate sq cid ring base k paddr vector) s = .next (postCqe sq cid .ok 0 0 (evDrain ring (evFuel s ring) (putEvRing ring (newRing base k paddr vector) s))))) ∧
  (∀ (sq cid ring : Nat) (s : State),
      Served s sq →
      sq = 0 →
      (NMap.get? s.host.streams ring).isSome = true ∧ (NMap.get? s.host.events ring).isSome = true →
      (sessions s).all (fun x => (desc s x).streamRing != ring) = true →
      (exec (.streamDelete sq cid ring) s = .next (postCqe sq cid .ok 0 0 { s with host := { s.host with streams := NMap.erase s.host.streams ring } })) ∧
      (exec (.evringDelete sq cid ring) s = .next (postCqe sq cid .ok 0 0 { s with host := { s.host with events := NMap.erase s.host.events ring } }))) ∧
  (∀ (sq cid principal route conn base len key perm i : Nat) (b : List Byte) (verifies : Bool) (img : Image) (s : State),
      Served s sq →
      sq = 0 →
      (imageCheck s b = none → exec (.imageLoad sq cid b verifies) s = .next (postCqe sq cid (imageInstall b verifies s).1 0 0 (imageInstall b verifies s).2)) ∧
      (s.tin.images.find? (fun e => e.2.id == img.id) = some (i, img) → (sessions s).all (fun x => (desc s x).imageId != img.id) = true →
        exec (.imageUnload sq cid img.id) s = .next (postCqe sq cid .ok 0 0 (imageRemove i img s))) ∧
      (routeOk principal route conn base len key perm = true →
        exec (.routeSet sq cid principal route conn base len key perm) s = .next (postCqe sq cid .ok 0 0 (setRoute (principal * 64 + route)
          { conn := conn, base := base, len := len, key := key, canRead := perm.testBit 0, canWrite := perm.testBit 1, canDb := perm.testBit 2 } s)))) ∧
  (∀ (sq cid handle cMax qMax dReq : Nat) (st : SState) (u s : State),
      SessionReady s sq handle u st →
      st ≠ .fenced ∧ st ≠ .migrating →
      u.ckp.leaving = false →
      1 ≤ qMax ∧ qMax ≤ 16 ∧ qMax ≤ cMax ∧ cMax < 2 ^ 32 →
      liveF u .BUR_GUAR_CTRL (.acre (homeAcre (slotOf handle))) 0 0 0 ≠ 0 ∧ furCtl u (homeAcre (slotOf handle)) 3 0 ≠ 0 ∧ (otherContracts u (slotOf handle)).length < 256 →
      (desc u (slotOf handle)).pinned = true ∧ sheafAway u (slotOf handle) = false →
      contractD u (slotOf handle) cMax qMax (newSumW u (slotOf handle) cMax qMax) ≤ dReq →
      contractsHold (setContracts (homeAcre (slotOf handle)) (otherContracts u (slotOf handle)) u) (homeAcre (slotOf handle)) (newSumW u (slotOf handle) cMax qMax) = true →
      exec (.deadlineSet sq cid handle cMax qMax dReq) s = .next (settle (postCqe sq cid .ok (contractD u (slotOf handle) cMax qMax (newSumW u (slotOf handle) cMax qMax)) 0 (setContracts (homeAcre (slotOf handle)) (otherContracts u (slotOf handle) ++ [{ slot := slotOf handle, cMax := cMax, qMax := qMax, dReq := dReq }]) u)))) ∧
  (∀ (sq cid handle : Nat) (st : SState) (k : Contract) (u s : State),
      SessionReady s sq handle u st →
      st ≠ .fenced ∧ st ≠ .migrating →
      contractOf u (slotOf handle) = some k →
      exec (.deadlineClear sq cid handle) s = .next (settle (postCqe sq cid .ok 0 0 (endContract (slotOf handle) 5 u))))

/-- A Drawer load writes RD with the zero-extended bytes of the own Drawer; a Drawer store of a naturally aligned address in the scratch region writes them. -/
def Obligations.DrawerAccessResults : Prop :=
  (∀ (t n a : Nat) (rd rs1 : BitVec 6) (imm : BitVec 13) (c : TineCtx) (s : State),
      TineReady s t c 1 →
      c.system = false →
      badReg rd = false →
      badReg rs1 = false →
      a = (tineReg c rs1 + imm.signExtend 64).toNat ∧ a % n = 0 ∧ a + n ≤ (desc s c.slot).drawerPlots * 65536 →
      drawerFault s c.slot a n = none →
      ((n = 1 → exec (.dldB t rd rs1 imm) s = .next (settle (if loadsOutput s c.slot a n then tineWrite t 1 rd (BitVec.ofNat 64 (freeBelow (256 ^ n) s)) c (drew s) else tineWrite t 1 rd (BitVec.ofNat 64 (leNat (drawerRead s c.slot a n))) c s))) ∧
       (n = 2 → exec (.dldH t rd rs1 imm) s = .next (settle (if loadsOutput s c.slot a n then tineWrite t 1 rd (BitVec.ofNat 64 (freeBelow (256 ^ n) s)) c (drew s) else tineWrite t 1 rd (BitVec.ofNat 64 (leNat (drawerRead s c.slot a n))) c s))) ∧
       (n = 4 → exec (.dldW t rd rs1 imm) s = .next (settle (if loadsOutput s c.slot a n then tineWrite t 1 rd (BitVec.ofNat 64 (freeBelow (256 ^ n) s)) c (drew s) else tineWrite t 1 rd (BitVec.ofNat 64 (leNat (drawerRead s c.slot a n))) c s))) ∧
       (n = 8 → exec (.dldD t rd rs1 imm) s = .next (settle (if loadsOutput s c.slot a n then tineWrite t 1 rd (BitVec.ofNat 64 (freeBelow (256 ^ n) s)) c (drew s) else tineWrite t 1 rd (BitVec.ofNat 64 (leNat (drawerRead s c.slot a n))) c s))))) ∧
  (∀ (t n a : Nat) (rs2 rs1 : BitVec 6) (imm : BitVec 13) (c : TineCtx) (s u : State),
      TineReady s t c 1 →
      c.system = false →
      badReg rs2 = false →
      badReg rs1 = false →
      a = (tineReg c rs1 + imm.signExtend 64).toNat ∧ a % n = 0 ∧ a + n ≤ (desc s c.slot).drawerPlots * 65536 →
      inScratch s c.slot a n = true →
      drawerWrite c.slot a (leBytes n (tineReg c rs2).toNat) s = .ok u →
      ((n = 1 → exec (.dstB t rs2 rs1 imm) s = .next (settle (putTine t { c with pc := c.pc + 4 } (spoilAll c.slot a n u)))) ∧
       (n = 2 → exec (.dstH t rs2 rs1 imm) s = .next (settle (putTine t { c with pc := c.pc + 4 } (spoilAll c.slot a n u)))) ∧
       (n = 4 → exec (.dstW t rs2 rs1 imm) s = .next (settle (putTine t { c with pc := c.pc + 4 } (spoilAll c.slot a n u)))) ∧
       (n = 8 → exec (.dstD t rs2 rs1 imm) s = .next (settle (putTine t { c with pc := c.pc + 4 } (spoilAll c.slot a n u))))))

/-- Session operations of a handler, timers and cancels, and how an event reaches its handler. -/
def Obligations.SessionEngineResults : Prop :=
  (∀ (t : Nat) (rd rs1 : BitVec 6) (imm : BitVec 25) (c : TineCtx) (s : State),
      TineReady s t c 2 →
      c.system = false →
      badReg rd = false →
      badReg rs1 = false →
      ((tineReg c rs1 = 0 → exec (.ksiPark t rd rs1 0 0 0) s = .next (settle (tineSync t 0x01 rd rs1 0 c doPark s))) ∧
       (exec (.ksiRevive t rd 0 0 0 0) s = .next (settle (tineSync t 0x03 rd 0 0 c doRevive s))) ∧
       ((tineReg c rs1).toNat < 2 ^ 32 → exec (.ksiTrim t rd rs1 0 0 0) s = .next (settle (tineSync t 0x04 rd rs1 0 c (fun slot st src => doTrim slot st src (tineReg c rs1).toNat) s))) ∧
       (tineReg c rs1 = 1 → outstandingOps s c.slot false < 4 → exec (.parkA t rd rs1 0 0 0) s = .next (settle (onSession c.handle (.async c.slot (issueTag s c.slot)) (fun slot st => doDormant slot st (.async c.slot (issueTag s c.slot))) (issued t rd .park c s)))) ∧
       (outstandingOps s c.slot true < 4 → exec (.waitT t rd rs1 0 0 0) s = .next (settle (issued t rd (.timer (ktb s + (tineReg c rs1).toNat)) c s))) ∧
       (imm.toNat < 64 → [2, 3, 7, 8, 16, 17, 18, 19, 20].contains imm.toNat = true → exec (.rdesc t rd 0 0 0 imm) s = .next (settle (tineWrite t 2 rd (descWord s c.slot imm.toNat) c s))) ∧
       ((desc s c.slot).eventRing = 0xFFFF → exec (.post t rd rs1 0 0 imm) s = .next (settle (tineWrite t 2 rd (statusWord .access) c s))) ∧
       ((desc s c.slot).eventRing ≠ 0xFFFF → exec (.post t rd rs1 0 0 imm) s = .next (settle (tineWrite t 2 rd (statusWord .ok) c (postEvent (desc s c.slot).eventRing
         { kind := 3, status := .ok, handle := c.handle, ktb := ktb s, a := imm.toNat % 2 ^ 16, b := (tineReg c rs1).toNat % 2 ^ 32, c := 0, extra := localRead s c (0x30000 + 32 * (imm.toNat / 2 ^ 16)) 32 } s)))))) ∧
  (∀ (t : Nat) (rd rs1 : BitVec 6) (c : TineCtx) (s : State),
      TineReady s t c 2 →
      c.system = false →
      badReg rd = false →
      badReg rs1 = false →
      (s.tin.asyncs.find? (fun o => o.slot = c.slot && o.tag = (tineReg c rs1).toNat) = none → exec (.waitC t rd rs1 0 0 0) s = .next (settle (tineWrite t 2 rd (statusWord .badHandle) c s))) ∧
       (∀ o, s.tin.asyncs.find? (fun o => o.slot = c.slot && o.tag = (tineReg c rs1).toNat) = some o →
         (o.ended = true → exec (.waitC t rd rs1 0 0 0) s = .next (settle (lateEvent c.slot (tineReg c rs1).toNat (tineWrite t 2 rd (statusWord .abortLate) c s)))) ∧
         (o.ended = false → exec (.waitC t rd rs1 0 0 0) s = .next (settle (tineWrite t 2 rd (statusWord (if (abortAsync o s).1 then .ok else .abortLate)) c (abortAsync o s).2))))) ∧
  (∀ (a : Acre) (t : Nat) (e : TEvent) (i : Image) (u s : State),
      planesRun s = true →
      (s.tin.evq.get a).find? (runnable s) = some e →
      (scanTines s a).find? (tineFree s) = some t →
      own e.slot s = some u →
      imageOf u (desc u e.slot).imageId = some i →
      exec (.eventDispatch a) s = .next (dispatched t e i (takeEvent a e u))) ∧
  (∀ (slot tag at_ : Nat) (o : AsyncOp) (s : State),
      planesRun s = true →
      s.tin.asyncs.find? (fun o => o.slot = slot && o.tag = tag && !o.ended) = some o →
      o.kind = .timer at_ ∧ at_ ≤ ktb s →
      s.power.fallow.mode = .active →
      exec (.programTimer slot tag) s = .next (asyncEnd slot tag 7 0 s)) ∧
  (∀ (t : Nat) (c : TineCtx) (s : State),
      planesRun s = true →
      NMap.get? s.tin.tines t = some c →
      c.system = false ∧ c.stall = none →
      budgetOver s t c = true →
      exec (.handlerBudgetExpire t) s = .next (tineTrap t c .timeout (leNat (localRead s c c.pc 4)) s))

/-- attn, append, srch, rwrite, rread and ckpt whose checks pass give RD a tag and hand the operation to its engine. -/
def Obligations.EngineIssueResults : Prop :=
  (∀ (t : Nat) (rd rs1 rs2 : BitVec 6) (c : TineCtx) (s : State),
      TineReady s t c 2 →
      c.system = false →
      badReg rd = false →
      badReg rs1 = false →
      badReg rs2 = false →
      outstandingOps s c.slot false < 4 →
      attnIssue s c (tineReg c rs1).toNat (tineReg c rs2).toNat false = none →
      drawerFault s c.slot (tineReg c rs1).toNat (leNat (drawerRead s c.slot (tineReg c rs1).toNat 4)) = none →
      exec (.attn t rd rs1 rs2 0 0) s = .next (settle (attnIssued t c (tineReg c rs1).toNat (drawerRead s c.slot (tineReg c rs1).toNat (leNat (drawerRead s c.slot (tineReg c rs1).toNat 4))) (tineReg c rs2).toNat (issueTag s c.slot) (issued t rd .attn c s)))) ∧
  (∀ (t : Nat) (rd rs1 rs2 : BitVec 6) (c : TineCtx) (s : State),
      TineReady s t c 2 →
      c.system = false →
      badReg rd = false →
      badReg rs1 = false →
      badReg rs2 = false →
      outstandingOps s c.slot false < 4 →
      attnIssue s c (tineReg c rs1).toNat (tineReg c rs2).toNat true = none →
      drawerFault s c.slot (tineReg c rs1).toNat (leNat (drawerRead s c.slot (tineReg c rs1).toNat 4)) = none →
      exec (.append t rd rs1 rs2 0 0) s = .next (settle (attnIssued t c (tineReg c rs1).toNat (drawerRead s c.slot (tineReg c rs1).toNat (leNat (drawerRead s c.slot (tineReg c rs1).toNat 4))) (tineReg c rs2).toNat (issueTag s c.slot) (issued t rd .append c s)))) ∧
  (∀ (t req out : Nat) (rd rs1 rs2 : BitVec 6) (c : TineCtx) (s : State),
      TineReady s t c 2 →
      c.system = false →
      badReg rd = false ∧ badReg rs1 = false ∧ badReg rs2 = false →
      outstandingOps s c.slot false < 4 →
      req = (tineReg c rs1).toNat ∧ out = (tineReg c rs2).toNat ∧ req % 64 = 0 ∧ out % 64 = 0 →
      inScratch s c.slot req 64 = true ∧ inScratch s c.slot out (64 + 16 * leNat (((drawerRead s c.slot req 64).drop 8).take 2)) = true →
      drawerFault s c.slot req 64 = none →
      (exec (.srch t rd rs1 rs2 0 0) s = .next (settle (srchIssued t c req (drawerRead s c.slot req 64) out (issueTag s c.slot) (issued t rd .srch c s)))) ∧
       (exec (.ckpt t rd rs1 0 0 0) s = .next (settle (ckptIssued c (tineReg c rs1).toNat (issueTag s c.slot) (issued t rd .ckpt c s))))) ∧
  (∀ (t off loc len : Nat) (rd rs1 rs2 rs3 : BitVec 6) (imm : BitVec 25) (c : TineCtx) (r : Route) (s : State),
      TineReady s t c 2 →
      c.system = false →
      badReg rd = false ∧ badReg rs1 = false ∧ badReg rs2 = false ∧ badReg rs3 = false →
      outstandingOps s c.slot false < 4 →
      off = (tineReg c rs1).toNat ∧ loc = (tineReg c rs2).toNat ∧ len = (tineReg c rs3).toNat →
      imm.toNat < 2 ^ 8 →
      routeCheck s c.slot imm off len true = .ok r →
      (imm.getLsbD 6 = false → len ≤ 512 → storeOk c loc len = true → exec (.rwrite t rd rs1 rs2 rs3 imm) s = .next (settle (kltPost { conn := r.conn, tc := 0, op := .write (r.base + off) r.key (localRead s c loc len) (imm.getLsbD 7), src := .tine c.slot (issueTag s c.slot) } (noteAreas c.slot (issueTag s c.slot) [] [] (issued t rd .rwrite c s))))) ∧
       (imm.getLsbD 6 = true → loc + len ≤ (desc s c.slot).drawerPlots * 65536 → drawerFault s c.slot loc len = none → exec (.rwrite t rd rs1 rs2 rs3 imm) s = .next (settle (kltPost { conn := r.conn, tc := 0, op := .write (r.base + off) r.key (drawerRead s c.slot loc len) (imm.getLsbD 7), src := .tine c.slot (issueTag s c.slot) } (noteAreas c.slot (issueTag s c.slot) [(loc, len)] [] (issued t rd .rwrite c s)))))) ∧
  (∀ (t off loc len : Nat) (rd rs1 rs2 rs3 : BitVec 6) (imm : BitVec 25) (c : TineCtx) (r : Route) (s : State),
      TineReady s t c 2 →
      c.system = false →
      badReg rd = false ∧ badReg rs1 = false ∧ badReg rs2 = false ∧ badReg rs3 = false →
      outstandingOps s c.slot false < 4 →
      off = (tineReg c rs1).toNat ∧ loc = (tineReg c rs2).toNat ∧ len = (tineReg c rs3).toNat →
      imm.toNat < 2 ^ 8 ∧ imm.getLsbD 6 = true →
      routeCheck s c.slot imm off len false = .ok r →
      inScratch s c.slot loc len = true →
      exec (.rread t rd rs1 rs2 rs3 imm) s = .next (settle (kltPost { conn := r.conn, tc := 0, op := .read (r.base + off) r.key len loc, src := .tine c.slot (issueTag s c.slot) } (noteAreas c.slot (issueTag s c.slot) [] [(loc, len)] (issued t rd .rread c s)))))

/-- The register ALU instructions write RD with the result of R325 and R326 and go on at PC + 4. -/
def Obligations.ScalarRegisterResults : Prop :=
  (∀ (t : Nat) (rd rs1 rs2 : BitVec 6) (c : TineCtx) (s : State),
      TineReady s t c 1 →
      badReg rd = false →
      badReg rs1 = false →
      badReg rs2 = false →
      (exec (.add t rd rs1 rs2) s = .next (tineWrite t 1 rd (tineReg c rs1 + tineReg c rs2) c s) ∧
       exec (.sub t rd rs1 rs2) s = .next (tineWrite t 1 rd (tineReg c rs1 - tineReg c rs2) c s) ∧
       exec (.andReg t rd rs1 rs2) s = .next (tineWrite t 1 rd (tineReg c rs1 &&& tineReg c rs2) c s) ∧
       exec (.orReg t rd rs1 rs2) s = .next (tineWrite t 1 rd (tineReg c rs1 ||| tineReg c rs2) c s) ∧
       exec (.xorReg t rd rs1 rs2) s = .next (tineWrite t 1 rd (tineReg c rs1 ^^^ tineReg c rs2) c s) ∧
       exec (.sll t rd rs1 rs2) s = .next (tineWrite t 1 rd (tineReg c rs1 <<< ((tineReg c rs2).toNat % 64)) c s) ∧
       exec (.srl t rd rs1 rs2) s = .next (tineWrite t 1 rd (tineReg c rs1 >>> ((tineReg c rs2).toNat % 64)) c s) ∧
       exec (.sra t rd rs1 rs2) s = .next (tineWrite t 1 rd ((tineReg c rs1).sshiftRight ((tineReg c rs2).toNat % 64)) c s) ∧
       exec (.slt t rd rs1 rs2) s = .next (tineWrite t 1 rd (if (tineReg c rs1).toInt < (tineReg c rs2).toInt then 1 else 0) c s) ∧
       exec (.sltu t rd rs1 rs2) s = .next (tineWrite t 1 rd (if (tineReg c rs1).toNat < (tineReg c rs2).toNat then 1 else 0) c s) ∧
       exec (.min t rd rs1 rs2) s = .next (tineWrite t 1 rd (if (tineReg c rs2).toInt < (tineReg c rs1).toInt then tineReg c rs2 else tineReg c rs1) c s) ∧
       exec (.max t rd rs1 rs2) s = .next (tineWrite t 1 rd (if (tineReg c rs1).toInt < (tineReg c rs2).toInt then tineReg c rs2 else tineReg c rs1) c s) ∧
       exec (.minu t rd rs1 rs2) s = .next (tineWrite t 1 rd (if (tineReg c rs2).toNat < (tineReg c rs1).toNat then tineReg c rs2 else tineReg c rs1) c s) ∧
       exec (.maxu t rd rs1 rs2) s = .next (tineWrite t 1 rd (if (tineReg c rs1).toNat < (tineReg c rs2).toNat then tineReg c rs2 else tineReg c rs1) c s) ∧
       exec (.mul t rd rs1 rs2) s = .next (tineWrite t 1 rd (tineReg c rs1 * tineReg c rs2) c s) ∧
       exec (.mulh t rd rs1 rs2) s = .next (tineWrite t 1 rd (BitVec.ofInt 64 ((tineReg c rs1).toInt * (tineReg c rs2).toInt / 2 ^ 64)) c s) ∧
       exec (.mulhu t rd rs1 rs2) s = .next (tineWrite t 1 rd (BitVec.ofNat 64 ((tineReg c rs1).toNat * (tineReg c rs2).toNat / 2 ^ 64)) c s) ∧
       exec (.div t rd rs1 rs2) s = .next (tineWrite t 1 rd (if tineReg c rs2 = 0 then BitVec.allOnes 64 else BitVec.ofInt 64 (((tineReg c rs1).toInt).tdiv (tineReg c rs2).toInt)) c s) ∧
       exec (.divu t rd rs1 rs2) s = .next (tineWrite t 1 rd (if tineReg c rs2 = 0 then BitVec.allOnes 64 else BitVec.ofNat 64 ((tineReg c rs1).toNat / (tineReg c rs2).toNat)) c s) ∧
       exec (.rem t rd rs1 rs2) s = .next (tineWrite t 1 rd (if tineReg c rs2 = 0 then tineReg c rs1 else BitVec.ofInt 64 (((tineReg c rs1).toInt).tmod (tineReg c rs2).toInt)) c s) ∧
       exec (.remu t rd rs1 rs2) s = .next (tineWrite t 1 rd (if tineReg c rs2 = 0 then tineReg c rs1 else BitVec.ofNat 64 ((tineReg c rs1).toNat % (tineReg c rs2).toNat)) c s)))

/-- The immediate and constant instructions write RD with the result of R327 and go on after their words. -/
def Obligations.ScalarImmediateResults : Prop :=
  (∀ (t : Nat) (rd rs1 sh : BitVec 6) (imm : BitVec 13) (wide : BitVec 19) (c : TineCtx) (s : State),
      TineReady s t c 1 →
      badReg rd = false →
      badReg rs1 = false →
      (exec (.addi t rd rs1 imm) s = .next (tineWrite t 1 rd (tineReg c rs1 + imm.signExtend 64) c s) ∧
       exec (.andi t rd rs1 imm) s = .next (tineWrite t 1 rd (tineReg c rs1 &&& imm.signExtend 64) c s) ∧
       exec (.ori t rd rs1 imm) s = .next (tineWrite t 1 rd (tineReg c rs1 ||| imm.signExtend 64) c s) ∧
       exec (.xori t rd rs1 imm) s = .next (tineWrite t 1 rd (tineReg c rs1 ^^^ imm.signExtend 64) c s) ∧
       exec (.slti t rd rs1 imm) s = .next (tineWrite t 1 rd (if (tineReg c rs1).toInt < (imm.signExtend 64).toInt then 1 else 0) c s) ∧
       exec (.sltiu t rd rs1 imm) s = .next (tineWrite t 1 rd (if (tineReg c rs1).toNat < (imm.signExtend 64).toNat then 1 else 0) c s) ∧
       exec (.slli t rd rs1 sh 0) s = .next (tineWrite t 1 rd (tineReg c rs1 <<< sh.toNat) c s) ∧
       exec (.srli t rd rs1 sh 0) s = .next (tineWrite t 1 rd (tineReg c rs1 >>> sh.toNat) c s) ∧
       exec (.srai t rd rs1 sh 0) s = .next (tineWrite t 1 rd ((tineReg c rs1).sshiftRight sh.toNat) c s) ∧
       exec (.liShort t rd wide) s = .next (tineWrite t 1 rd (wide.signExtend 64) c s) ∧
       exec (.lpc t rd wide) s = .next (tineWrite t 1 rd (BitVec.ofNat 64 c.pc + wide.signExtend 64 * 4) c s))) ∧
  (∀ (t : Nat) (rd : BitVec 6) (imm : BitVec 51) (c : TineCtx) (s : State),
      TineReady s t c 2 →
      badReg rd = false →
      exec (.liLong t rd imm) s = .next (tineWrite t 2 rd (imm.signExtend 64) c s))

/-- Branches and jumps set the program counter as R328 gives it, and ktb reads the KTB of the die of the Tine. -/
def Obligations.ScalarControlResults : Prop :=
  (∀ (t : Nat) (rs1 rs2 : BitVec 6) (off : BitVec 13) (c : TineCtx) (s : State),
      TineReady s t c 1 →
      badReg rs1 = false →
      badReg rs2 = false →
      (exec (.beq t rs1 rs2 off) s = .next (tineJump t (if tineReg c rs1 = tineReg c rs2 then BitVec.ofNat 64 c.pc + off.signExtend 64 * 4 else BitVec.ofNat 64 (c.pc + 4)) c s) ∧
       exec (.bne t rs1 rs2 off) s = .next (tineJump t (if tineReg c rs1 ≠ tineReg c rs2 then BitVec.ofNat 64 c.pc + off.signExtend 64 * 4 else BitVec.ofNat 64 (c.pc + 4)) c s) ∧
       exec (.blt t rs1 rs2 off) s = .next (tineJump t (if (tineReg c rs1).toInt < (tineReg c rs2).toInt then BitVec.ofNat 64 c.pc + off.signExtend 64 * 4 else BitVec.ofNat 64 (c.pc + 4)) c s) ∧
       exec (.bge t rs1 rs2 off) s = .next (tineJump t (if (tineReg c rs2).toInt ≤ (tineReg c rs1).toInt then BitVec.ofNat 64 c.pc + off.signExtend 64 * 4 else BitVec.ofNat 64 (c.pc + 4)) c s) ∧
       exec (.bltu t rs1 rs2 off) s = .next (tineJump t (if (tineReg c rs1).toNat < (tineReg c rs2).toNat then BitVec.ofNat 64 c.pc + off.signExtend 64 * 4 else BitVec.ofNat 64 (c.pc + 4)) c s) ∧
       exec (.bgeu t rs1 rs2 off) s = .next (tineJump t (if (tineReg c rs2).toNat ≤ (tineReg c rs1).toNat then BitVec.ofNat 64 c.pc + off.signExtend 64 * 4 else BitVec.ofNat 64 (c.pc + 4)) c s))) ∧
  (∀ (t : Nat) (rd rs1 : BitVec 6) (imm : BitVec 13) (wide : BitVec 19) (c : TineCtx) (s : State),
      TineReady s t c 1 →
      badReg rd = false →
      badReg rs1 = false →
      (tineReg c rs1 + imm.signExtend 64).toNat % 4 = 0 →
      (exec (.jal t rd wide) s = .next (tineJump t (BitVec.ofNat 64 c.pc + wide.signExtend 64 * 4) (setTineReg c rd.toNat (BitVec.ofNat 64 (c.pc + 4))) s) ∧
       exec (.jalr t rd rs1 imm) s = .next (tineJump t (tineReg c rs1 + imm.signExtend 64) (setTineReg c rd.toNat (BitVec.ofNat 64 (c.pc + 4))) s) ∧
       exec (.ktb t rd 0 0) s = .next (tineWrite t 1 rd (BitVec.ofNat 64 (ktbOf s (tineDie t))) c s))) ∧
  (∀ (t : Nat) (c : TineCtx) (s : State),
      TineReady s t c 1 →
      c.system = false →
      exec (.evret t 0 0 0) s = .next (freeTine t (commitDesc c.slot (fun d => { d with ctx := (List.range 16).map (fun i => NMap.get 0 c.c i) }) s)))

/-- Local loads zero-extend what lies at RS1 + IMM13, and local stores write the low bytes of RS2 there. -/
def Obligations.LocalMemoryResults : Prop :=
  (∀ (t : Nat) (rd rs1 : BitVec 6) (imm : BitVec 13) (c : TineCtx) (s : State),
      TineReady s t c 1 →
      badReg rd = false →
      badReg rs1 = false →
      (tineReg c rs1 + imm.signExtend 64).toNat % 8 = 0 →
      (tineReg c rs1 + imm.signExtend 64).toNat + 8 ≤ (if c.system then 0x40000 else 0x34000) →
      (exec (.ldB t rd rs1 imm) s = .next (tineWrite t 1 rd (BitVec.ofNat 64 (leNat (localRead s c (tineReg c rs1 + imm.signExtend 64).toNat 1))) c s) ∧
       exec (.ldH t rd rs1 imm) s = .next (tineWrite t 1 rd (BitVec.ofNat 64 (leNat (localRead s c (tineReg c rs1 + imm.signExtend 64).toNat 2))) c s) ∧
       exec (.ldW t rd rs1 imm) s = .next (tineWrite t 1 rd (BitVec.ofNat 64 (leNat (localRead s c (tineReg c rs1 + imm.signExtend 64).toNat 4))) c s) ∧
       exec (.ldD t rd rs1 imm) s = .next (tineWrite t 1 rd (BitVec.ofNat 64 (leNat (localRead s c (tineReg c rs1 + imm.signExtend 64).toNat 8))) c s))) ∧
  (∀ (t : Nat) (rs2 rs1 : BitVec 6) (imm : BitVec 13) (c : TineCtx) (s : State),
      TineReady s t c 1 →
      badReg rs2 = false →
      badReg rs1 = false →
      (tineReg c rs1 + imm.signExtend 64).toNat % 8 = 0 →
      (if c.system then 0 else 0x30000) ≤ (tineReg c rs1 + imm.signExtend 64).toNat →
      (tineReg c rs1 + imm.signExtend 64).toNat + 8 ≤ (if c.system then 0x40000 else 0x34000) →
      (exec (.stB t rs2 rs1 imm) s = .next (putTine t { c with data := Cells.writeN c.data (tineReg c rs1 + imm.signExtend 64).toNat (leBytes 1 (tineReg c rs2).toNat), pc := c.pc + 4 } s) ∧
       exec (.stH t rs2 rs1 imm) s = .next (putTine t { c with data := Cells.writeN c.data (tineReg c rs1 + imm.signExtend 64).toNat (leBytes 2 (tineReg c rs2).toNat), pc := c.pc + 4 } s) ∧
       exec (.stW t rs2 rs1 imm) s = .next (putTine t { c with data := Cells.writeN c.data (tineReg c rs1 + imm.signExtend 64).toNat (leBytes 4 (tineReg c rs2).toNat), pc := c.pc + 4 } s) ∧
       exec (.stD t rs2 rs1 imm) s = .next (putTine t { c with data := Cells.writeN c.data (tineReg c rs1 + imm.signExtend 64).toNat (leBytes 8 (tineReg c rs2).toNat), pc := c.pc + 4 } s)))

/-- A trap ends the handler: the Tine is free, the trap is counted and a FAULT record names the status, PC and W0. -/
def Obligations.TrapResults : Prop :=
  (∀ (t : Nat) (code : BitVec 6) (c : TineCtx) (s : State),
      TineReady s t c 1 →
      c.system = false →
      exec (.fault t code 0 0) s = .next (postEvent (desc s c.slot).eventRing { kind := 2, status := .aborted, handle := c.handle, ktb := ktb s, a := c.evCode, b := c.pc, c := 0x24 * 2 ^ 25 + code.toNat * 2 ^ 19 + 1, extra := [] } (countTrap t .aborted c.handle (freeTine t s)))) ∧
  (∀ (t : Nat) (w0 w1 : BitVec 32) (st : Status) (c : TineCtx) (s : State),
      TineReady s t c 2 →
      c.system = false →
      illegalStatus w0.toNat w1.toNat = some st →
      TineReady s t c 1 →
      exec (.illegalInstruction t w0 w1) s = .next (postEvent (desc s c.slot).eventRing { kind := 2, status := st, handle := c.handle, ktb := ktb s, a := c.evCode, b := c.pc, c := w0.toNat, extra := [] } (countTrap t st c.handle (freeTine t s)))) ∧
  (∀ (t : Nat) (rd rs1 rs2 : BitVec 6) (c : TineCtx) (s : State),
      TineReady s t c 1 →
      c.system = false →
      48 ≤ rd.toNat →
      exec (.add t rd rs1 rs2) s = .next (postEvent (desc s c.slot).eventRing { kind := 2, status := .badFormat, handle := c.handle, ktb := ktb s, a := c.evCode, b := c.pc, c := 0x01 * 2 ^ 25 + rd.toNat * 2 ^ 19 + rs1.toNat * 2 ^ 13 + rs2.toNat * 2 ^ 7, extra := [] } (countTrap t .badFormat c.handle (freeTine t s))))

/-- Each signal code applies its operation in the try form and writes RD with the status and the value. -/
def Obligations.SignalCommands : Prop :=
  (∀ (t : Nat) (rd rs1 rs2 : BitVec 6) (c : TineCtx) (s : State),
      TineReady s t c 2 →
      c.system = false →
      badReg rd = false →
      badReg rs1 = false →
      badReg rs2 = false →
      (exec (.signalRead t rd rs1 rs2 0 0) s = signalNext t rd rs1 rs2 0 c s ∧
       exec (.signalGe t rd rs1 rs2 0 0) s = signalNext t rd rs1 rs2 1 c s ∧
       exec (.signalNe t rd rs1 rs2 0 0) s = signalNext t rd rs1 rs2 2 c s ∧
       exec (.signalPhase t rd rs1 rs2 0 0) s = signalNext t rd rs1 rs2 3 c s ∧
       exec (.signalFree t rd rs1 rs2 0 0) s = signalNext t rd rs1 rs2 4 c s ∧
       exec (.signalLock t rd rs1 rs2 0 0) s = signalNext t rd rs1 rs2 8 c s ∧
       exec (.signalP t rd rs1 rs2 0 0) s = signalNext t rd rs1 rs2 9 c s ∧
       exec (.signalArrive t rd rs1 rs2 0 0) s = signalNext t rd rs1 rs2 10 c s ∧
       exec (.unlock t rd rs1 rs2 0 0) s = signalNext t rd rs1 rs2 12 c s ∧
       exec (.signalV t rd rs1 rs2 0 0) s = signalNext t rd rs1 rs2 13 c s ∧
       exec (.signalAdd t rd rs1 rs2 0 0) s = signalNext t rd rs1 rs2 14 c s))

/-- An ARM code sets the session's object wake, DISARM clears it, and wait gives RD a tag and admits the wait at the object. -/
def Obligations.ArmAndWaitCommands : Prop :=
  (∀ (t : Nat) (rd rs1 rs2 : BitVec 6) (c : TineCtx) (s u : State),
      TineReady s t c 2 →
      c.system = false →
      badReg rd = false →
      badReg rs1 = false →
      badReg rs2 = false →
      own c.slot s = some u →
      ((synCheck s ((tineReg c rs1).toNat % 2 ^ 16) 5 (tineReg c rs2) (some (desc s c.slot).principal) = none →
        exec (.armGe t rd rs1 rs2 0 0) s = armNext t rd rs1 rs2 1 c u) ∧
       (synCheck s ((tineReg c rs1).toNat % 2 ^ 16) 6 (tineReg c rs2) (some (desc s c.slot).principal) = none →
        exec (.armNe t rd rs1 rs2 0 0) s = armNext t rd rs1 rs2 2 c u) ∧
       (synCheck s ((tineReg c rs1).toNat % 2 ^ 16) 7 (tineReg c rs2) (some (desc s c.slot).principal) = none →
        exec (.armPhase t rd rs1 rs2 0 0) s = armNext t rd rs1 rs2 3 c u) ∧
       (synCheck s ((tineReg c rs1).toNat % 2 ^ 16) 11 (tineReg c rs2) (some (desc s c.slot).principal) = none →
        exec (.armFree t rd rs1 rs2 0 0) s = armNext t rd rs1 rs2 4 c u))) ∧
  (∀ (t : Nat) (rd rs1 rs2 rs3 : BitVec 6) (c : TineCtx) (s : State),
      TineReady s t c 2 →
      c.system = false →
      badReg rd = false →
      badReg rs1 = false →
      badReg rs2 = false →
      badReg rs3 = false →
      outstandingOps s c.slot true < 4 →
      (exec (.waitGe t rd rs1 rs2 rs3 0) s = waitNext t rd rs1 rs2 rs3 1 c s ∧
       exec (.waitNe t rd rs1 rs2 rs3 0) s = waitNext t rd rs1 rs2 rs3 2 c s ∧
       exec (.waitPhase t rd rs1 rs2 rs3 0) s = waitNext t rd rs1 rs2 rs3 3 c s ∧
       exec (.waitFree t rd rs1 rs2 rs3 0) s = waitNext t rd rs1 rs2 rs3 4 c s ∧
       exec (.waitLock t rd rs1 rs2 rs3 0) s = waitNext t rd rs1 rs2 rs3 8 c s ∧
       exec (.waitP t rd rs1 rs2 rs3 0) s = waitNext t rd rs1 rs2 rs3 9 c s ∧
       exec (.waitArrive t rd rs1 rs2 rs3 0) s = waitNext t rd rs1 rs2 rs3 10 c s)) ∧
  (∀ (t : Nat) (rd rs1 rs2 : BitVec 6) (c : TineCtx) (s u : State),
      TineReady s t c 2 →
      c.system = false →
      badReg rd = false →
      badReg rs1 = false →
      badReg rs2 = false →
      own c.slot (drew s) = some u →
      exec (.disarm t rd rs1 rs2 0 0) s = .next (settle (tineWrite t 2 rd (BitVec.ofNat 64 (0 + freeBelow (2 ^ 32) s * 2 ^ 32)) c (removeWatch c.slot (commitDesc c.slot (fun d => { d with wakeObject := false }) u)))))

/-- A wait that times out ends with ST_TIMEOUT, a search sends failures, a failure ends its wait with ST_DEADLOCK, and SYN_OP and FORCE act for system firmware. -/
def Obligations.SyncServiceCommands : Prop :=
  (∀ (obj slot tag n : Nat) (w : SyncWait) (s : State),
      planesRun s = true →
      s.sync.waits.find? (fun w => w.obj = obj && w.who = .session slot tag) = some w →
      w.timeout = some n →
      n ≤ ktb s →
      exec (.waitTimeout obj slot tag) s = .next (settle (synChanged obj (failWait w .timeout s)))) ∧
  (∀ (obj slot tag : Nat) (w : SyncWait) (s : State),
      planesRun s = true →
      s.sync.rebuilding = false →
      s.sync.waits.find? (fun w => w.obj = obj && w.who = .session slot tag) = some w →
      exec (.waitForSearch obj slot tag) s = .next (searchEdge w slot (s.sync.waits.length + 1) s)) ∧
  (∀ (obj slot tag : Nat) (w : SyncWait) (s : State),
      planesRun s = true →
      s.sync.victims.contains (obj, slot, tag) = true →
      s.sync.waits.find? (fun w => w.obj = obj && w.who = .session slot tag) = some w →
      exec (.deadlockFail obj slot tag) s = .next (settle (synChanged obj (failWait w .deadlock (bumpF .SYN_WFG_STAT (.yoke s.ckp.primary) 0 41 18 1 { s with sync := { s.sync with victims := s.sync.victims.filter (· ≠ (obj, slot, tag)) } }))))) ∧
  (∀ (a : Acre) (index : BitVec 14) (code : BitVec 4) (s : State),
      planesRun s = true →
      exec (.synOp a index code) s = .next (settle (postSynResult a (applySignal (a.num * 2 ^ 14 + index.toNat) code.toNat (live s .SYN_OP_ARG (.acre a)) none s).1.1 (applySignal (a.num * 2 ^ 14 + index.toNat) code.toNat (live s .SYN_OP_ARG (.acre a)) none s).1.2 (applySignal (a.num * 2 ^ 14 + index.toNat) code.toNat (live s .SYN_OP_ARG (.acre a)) none s).2))) ∧
  (∀ (a : Acre) (index : BitVec 14) (obj : Nat) (u : State) (s : State),
      planesRun s = true →
      obj = a.num * 2 ^ 14 + index.toNat →
      s.sync.closing.contains obj = false →
      synKind s obj ≠ .free →
      waitsOn s obj = [] →
      s.sync.watches.any (fun w => w.obj = obj) = false →
      u = setSynWord obj (setField (synWord s obj) 47 0 (field (live s .SYN_OP_ARG (.acre a)) 47 0)) s →
      exec (.synOpForce a index) s = .next (postSynResult a .ok (synValue (synWord u obj)) u))

/-- On an object on which nothing waits and no watch stands, P, V, ADD, ARRIVE, LOCK and UNLOCK change the word as R351 and R364 say. -/
def Obligations.SyncEffects : Prop :=
  ∀ (obj slot n : Nat) (s : State), waitsOn s obj = [] → s.sync.watches.filter (fun w => w.obj = obj) = [] → s.sync.closing.contains obj = false →
    synAccess s obj (desc s slot).principal = true →
    (synKind s obj = .sem → 1 ≤ n → n ≤ 65535 → n ≤ synValue (synWord s obj) →
      applySignal obj 9 (BitVec.ofNat 64 n) (some slot) s =
        ((.ok, synValue (setField (synWord s obj) 31 0 (synValue (synWord s obj) - n))),
          setSynWord obj (setField (synWord s obj) 31 0 (synValue (synWord s obj) - n)) s)) ∧
    (synKind s obj = .sem → 1 ≤ n → n ≤ 0xFFFFFFFF → synValue (synWord s obj) + n ≤ 0xFFFFFFFF →
      applySignal obj 13 (BitVec.ofNat 64 n) (some slot) s =
        ((.ok, synValue (setField (synWord s obj) 31 0 (synValue (synWord s obj) + n))),
          setSynWord obj (setField (synWord s obj) 31 0 (synValue (synWord s obj) + n)) s)) ∧
    (synKind s obj = .sem → 1 ≤ n → n ≤ 0xFFFFFFFF → 0xFFFFFFFF < synValue (synWord s obj) + n →
      applySignal obj 13 (BitVec.ofNat 64 n) (some slot) s = ((.noSpace, synValue (synWord s obj)), s)) ∧
    (synKind s obj = .cctr → 1 ≤ n → n ≤ 0xFFFFFFFF →
      (applySignal obj 14 (BitVec.ofNat 64 n) (some slot) s).2 =
        setSynWord obj (setField (synWord s obj) 47 0 ((field (synWord s obj) 47 0 + n) % 2 ^ 48)) s) ∧
    (synKind s obj = .barrier → n ≤ 1 → field (synWord s obj) 31 16 + 1 ≠ field (synWord s obj) 47 32 →
      (applySignal obj 10 (BitVec.ofNat 64 n) (some slot) s).2 =
        setSynWord obj (setField (synWord s obj) 31 16 (field (synWord s obj) 31 16 + 1)) s) ∧
    (synKind s obj = .barrier → n ≤ 1 → field (synWord s obj) 31 16 + 1 = field (synWord s obj) 47 32 →
      (applySignal obj 10 (BitVec.ofNat 64 n) (some slot) s).2 =
        setSynWord obj (setField (setField (synWord s obj) 31 16 0) 15 0 ((field (synWord s obj) 15 0 + 1) % 2 ^ 16)) s) ∧
    (synKind s obj = .lock → lstate (synWord s obj) = 0 → (heldLocks s slot).length < 16 →
      (applySignal obj 8 (BitVec.ofNat 64 n) (some slot) s).2 = setSynWord obj (lockWord 1 (handleOf s slot)) s) ∧
    (synKind s obj = .lock → lstate (synWord s obj) = 1 → synValue (synWord s obj) = handleOf s slot → n ≤ 1 →
      applySignal obj 12 (BitVec.ofNat 64 n) (some slot) s = ((.ok, 0), setSynWord obj (lockWord 0 0) s))

/-- Packets that pass the checks of R377 are placed and stand at their PSN; reads run at FRONTIER; responses, acknowledgements, losses and windows move the sender. -/
def Obligations.KltPacketResults : Prop :=
  (∀ (h : KHdr) (data : List Byte) (n i : Nat) (c : Conn) (r : Region) (u v s : State),
      planesRun s = true →
      rcvCheck { h with opc := 1 } s = .inr (n, c) →
      wakeGate n c { h with opc := 1 } s = (false, u) →
      regionCheck u c { h with opc := 1 } data.length = .ok (i, r) →
      placeWrite { h with opc := 1 } data r u = .ok v →
      exec (.kltWrite h data) s = .next (settle (rcvTake n c { h with opc := 1 } (placedPkt { h with opc := 1 } i data) v))) ∧
  (∀ (h : KHdr) (frame tag : List Byte) (n i : Nat) (c : Conn) (r : Region) (u s : State),
      planesRun s = true →
      rcvCheck { h with opc := 2 } s = .inr (n, c) →
      wakeGate n c { h with opc := 2 } s = (false, u) →
      regionCheck u c { h with opc := 2 } 4096 = .ok (i, r) →
      exec (.frameWrite h frame tag) s = .next (settle (rcvTake n c { h with opc := 2 } (placedPkt { h with opc := 2 } i frame) (putRaw h.addr ⟨frame, tag⟩ u)))) ∧
  (∀ (h : KHdr) (n : Nat) (c : Conn) (u s : State),
      planesRun s = true →
      rcvCheck { h with opc := 3 } s = .inr (n, c) →
      wakeGate n c { h with opc := 3 } s = (false, u) →
      exec (.readReq h) s = .next (settle (rcvTake n c { h with opc := 3 } (readPkt { h with opc := 3 } false) u))) ∧
  (∀ (h : KHdr) (n : Nat) (c : Conn) (u s : State),
      planesRun s = true →
      rcvCheck { h with opc := 4 } s = .inr (n, c) →
      wakeGate n c { h with opc := 4 } s = (false, u) →
      exec (.frameReadReq h) s = .next (settle (rcvTake n c { h with opc := 4 } (readPkt { h with opc := 4 } true) u))) ∧
  (∀ (n i : Nat) (c : Conn) (h : KHdr) (frames : Bool) (p : RcvPkt) (s : State),
      planesRun s = true →
      connOf s n = some c →
      NMap.get? c.got c.frontier = some p →
      p.read = some (h, frames) ∧ p.validated = some i →
      s.klt.staging.get (connYoke n) + h.mlen ≤ 2 ^ 25 →
      exec (.readExecute n) s = .next (settle (readRun n c h frames i s))) ∧
  (∀ (h : KHdr) (data frame tag plain : List Byte) (good : Bool) (c : Conn) (o : SndOp) (s : State),
      planesRun s = true →
      connOf s h.dconn = some c →
      ackNames s h.dconn h.cgen h.sep c = true →
      c.ops.find? (fun o => o.msn = h.msn && o.reading) = some o →
      NMap.get? o.units (h.moff / 4096) = none ∧ h.moff < readLen o.op →
      exec (.readRsp h data) s = .next (settle (kltPump (rspUnit h (fun o s => readPlace o h.moff data s) s))) ∧
      exec (.frameReadRsp h frame tag plain good) s = .next (settle (kltPump (rspUnit h (fun o s => framePlace o h.moff ⟨frame, tag⟩ plain good s) s)))) ∧
  (∀ (n unit : Nat) (c : Conn) (o : SndOp) (s : State),
      planesRun s = true →
      connOf s n = some c →
      c.ops.find? (fun x => x.msn = o.msn && x.reading) = some o →
      unitDue s n c o unit = true →
      exec (.readUnitTimeout n o.msn unit) s = .next (settle (kltPump (putConn n (askUnit c o.msn unit) s)))) ∧
  (∀ (a : KAck) (c : Conn) (s : State),
      planesRun s = true →
      connOf s a.dconn = some c →
      ackNames s a.dconn a.cgen a.sep c = true →
      exec (.ack a) s = .next (settle (kltPump (settleOps a.dconn (putConn a.dconn (ackConn s a (connNow s a.dconn) c) s))))) ∧
  (∀ (n t : Nat) (c : Conn) (s : State),
      planesRun s = true →
      connOf s n = some c →
      c.firstArrival = some t →
      t + primF s .KLT_CTRL 0 51 36 ≤ connNow s n →
      exec (.ackDelayExpiry n) s = .next (sendAck n none s)) ∧
  (∀ (n psn tx : Nat) (c : Conn) (p : SndPkt) (s : State),
      planesRun s = true →
      connOf s n = some c →
      NMap.get? c.inflight psn = some p →
      p.sentAt = some tx ∧ psnLost s (connNow s n) c p tx = true →
      (primF s .KLT_CTRL2 0 35 32 < p.sends → exec (.lossDetect n psn) s = .next (settle (failConn n .timeout s))) ∧
      (p.sends ≤ primF s .KLT_CTRL2 0 35 32 → exec (.lossDetect n psn) s = .next (settle (kltPump (putConn n (markLost s (connNow s n) psn c p) s))))) ∧
  (∀ (n rtt port e t : Nat) (c : Conn) (s : State),
      planesRun s = true →
      connOf s n = some c →
      (c.tc < 5 → c.srtt = some rtt → c.winAt + rtt ≤ connNow s n → exec (.ccWindowEnd n) s = .next (settle (kltPump (putConn n (ecnWindow s (connNow s n) c) s)))) ∧
      (NMap.get? c.suspect (port * 256 + e) = some t → t ≤ connNow s n → exec (.suspectHoldExpiry n port e) s = .next (putConn n { c with suspect := NMap.erase c.suspect (port * 256 + e) } s))) ∧
  (∀ (port : Nat) (y : Yoke) (s : State),
      planesRun s = true →
      port < 8 →
      (exec (.ethernetLinkChange port true) s = .next (settle (kltPump (putPort port { portOf s port with up := true } s)))) ∧
      (exec (.ethernetLinkChange port false) s = .next (settle (kltPump (losePkts ((portOf s port).queues.flatMap (fun q => q.2)) (putPort port { portOf s port with up := false, queues := [], deficit := [] } s))))) ∧
      (exec (.kltMalformedPacket y) s = .next (bumpF .KLT_DROPS (.yoke y) 0 15 0 1 s)))

/-- CONNECT and CLOSE messages, their resends and heartbeats open, close and fail connections. -/
def Obligations.KltConnectionResults : Prop :=
  (∀ (r : ConnReq) (s : State),
      planesRun s = true →
      s.klt.answers.find? (fun x => x.1 = r.sep && x.2.1 = r.reqId) = none →
      (∀ st, connCheck r s = some st → exec (.connectReq r) s = .next (connRefuse r st s)) ∧
      (connCheck r s = none → pickConn s = none → exec (.connectReq r) s = .next (connRefuse r .noSpace s)) ∧
      (∀ n u, connCheck r s = none → pickConn s = some (n, u) → exec (.connectReq r) s = .next (connAccept r n u))) ∧
  (∀ (r : ConnReq) (a : ConnRsp) (x : Nat) (y : Nat) (s : State),
      planesRun s = true →
      s.klt.answers.find? (fun x => x.1 = r.sep && x.2.1 = r.reqId) = some (x, y, a) →
      exec (.connectReq r) s = .next (connAnswer r a s)) ∧
  (∀ (r : ConnRsp) (n : Nat) (c : Conn) (s : State),
      planesRun s = true →
      s.klt.conns.find? (fun e => e.2.st = .connecting && e.2.peer = r.sep && e.2.reqId = r.reqId) = some (n, c) →
      (r.status ≠ .ok → exec (.connectRsp r) s = .next (cmdDone 1 n r.status 0 (dropConn n s))) ∧
      (r.status = .ok → exec (.connectRsp r) s = .next (settle (kltPump (cmdDone 1 n .ok (n + NMap.get 0 s.klt.cgens n * 2 ^ 24) (putConn n (connOpened s n r c) s)))))) ∧
  (∀ (n : Nat) (c : Conn) (s : State),
      planesRun s = true →
      connOf s n = some c →
      c.st = .connecting ∧ c.triedAt + 100000 ≤ connNow s n →
      (c.tries < 8 → exec (.connectResend n) s = .next (sendConnect n s)) ∧
      (8 ≤ c.tries → exec (.connectResend n) s = .next (cmdDone 1 n .timeout 0 (dropConn n s)))) ∧
  (∀ (n cgen sep : Nat) (c : Conn) (s : State),
      planesRun s = true →
      tc7Conn s n cgen sep = some c →
      (exec (.close n cgen sep) s = .next (settle (closeStep n (modConn n (fun c => { c with st := .closing, closeGot := true }) (takeReqs (3 * s.klt.reqs.length) s))))) ∧
      (c.closeSent = true → exec (.closeAck n cgen sep) s = .next (dropConn n s))) ∧
  (∀ (n : Nat) (c : Conn) (s : State),
      planesRun s = true →
      connOf s n = some c →
      c.closeSent = true ∧ c.triedAt + 100000 ≤ connNow s n →
      (c.tries < 8 → exec (.closeResend n) s = .next (sendTc7 n c.entry 32 (.close c.peerNum c.peerGen) (putConn n { c with tries := c.tries + 1, triedAt := connNow s n } s))) ∧
      (8 ≤ c.tries → exec (.closeResend n) s = .next (dropConn n s))) ∧
  (∀ (sep e : Nat) (b : Beat) (s : State),
      planesRun s = true →
      peerEntry s sep = some e →
      exec (.heartbeat sep b) s = .next (compareBeat e b (putPeer e { peerOf s e with st := .up, lastHb := ktb s, leaving := b.leaving, fallow := b.fallow, role := b.role } s))) ∧
  (∀ (e : Nat) (s : State),
      planesRun s = true →
      (bit (live s .KLT_PEER_CFG (.yoke s.ckp.primary) e) 15 = true → bit (live s .KLT_PEER_CFG (.yoke s.ckp.primary) e) 17 = true →
        (peerOf s e).sentHb + primF s .KLT_CTRL 0 31 16 * 1000 ≤ ktb s →
        exec (.heartbeatSend e) s = .next (sendTc7 0 e 80 (.heartbeat e (ownBeat s)) (putPeer e { peerOf s e with sentHb := ktb s } s))) ∧
      (bit (live s .KLT_PEER_CFG (.yoke s.ckp.primary) e) 15 = true → (peerOf s e).st ≠ .down → (peerOf s e).lastHb + primF s .KLT_CTRL 0 35 32 * primF s .KLT_CTRL 0 31 16 * 1000 ≤ ktb s →
        exec (.peerDown e) s = .next (settle (failPeer e (dropConsent e (putPeer e { peerOf s e with st := .down } s))))))

/-- KLT_CMD opens and closes connections, registers and revokes regions, makes and deletes posted work queues, sets multicast; a PWQ starts and ends requests. -/
def Obligations.KltCommandResults : Prop :=
  (∀ (y : Yoke) (s : State),
      planesRun s = true →
      (∀ st, connOpenCheck s (cmdArg s y .KLT_CMD_ARG0) = some st → exec (.connOpen y) s = .next (kltResult y st 0 s)) ∧
      (∀ n u, connOpenCheck s (cmdArg s y .KLT_CMD_ARG0) = none → pickConn s = some (n, u) → exec (.connOpen y) s = .next (connBegin y (cmdArg s y .KLT_CMD_ARG0) n u)) ∧
      (∀ st, regionAsked s y = .error st → exec (.regRegister y) s = .next (kltResult y st 0 s)) ∧
      (∀ r key u, regionAsked s y = .ok r → regionTake r s = some (key, u) → exec (.regRegister y) s = .next (kltResult y .ok key (if r.kind = .frame then lendActivate r.base r.len key u else u))) ∧
      (∀ st, pwqAsked s y = .error st → exec (.pwqCreate y) s = .next (kltResult y st 0 s)) ∧
      (∀ p q, pwqAsked s y = .ok p → pickPwq s = some q → exec (.pwqCreate y) s = .next (kltResult y .ok q (putPwq q p (drew s))))) ∧
  (∀ (y : Yoke) (n : Nat) (c : Conn) (s : State),
      planesRun s = true →
      n = bitsOf (cmdArg s y .KLT_CMD_ARG0) 23 0 ∧ connOf s n = some c →
      (c.st = .failed → exec (.connClose y) s = .next (dropConn n (kltResult y .ok 0 s))) ∧
      (c.st = .open_ → exec (.connClose y) s = .next (settle (closeStep n (modConn n (fun c => { c with st := .closing }) (takeReqs (3 * s.klt.reqs.length) (kltResult y .ok 0 s))))))) ∧
  (∀ (y : Yoke) (key : Nat) (r : Region) (s : State),
      planesRun s = true →
      key = bitsOf (cmdArg s y .KLT_CMD_ARG0) 31 0 →
      NMap.get? s.klt.regions (key / 2 ^ 16) = some r →
      r.st = .valid ∧ r.tag = key % 2 ^ 16 ∧ regionUsed s (key / 2 ^ 16) r = false →
      exec (.regRevoke y) s = .next (revokeDrained (key / 2 ^ 16) (revoking y (key / 2 ^ 16) r s))) ∧
  (∀ (y : Yoke) (q : Nat) (p : Pwq) (s : State),
      planesRun s = true →
      q = bitsOf (cmdArg s y .KLT_CMD_ARG0) 9 0 ∧ pwqOf s q = some p →
      p.inflight = [] →
      exec (.pwqDelete y) s = .next (kltResult y .ok 0 (setKlt (fun k => { k with pwqs := NMap.erase k.pwqs q }) (dropGate q s)))) ∧
  (∀ (y : Yoke) (s : State),
      planesRun s = true →
      ((cmdArg s y .KLT_CMD_ARG0).testBit 14 = false → exec (.mclSet y) s = .next (kltResult y .ok 0 (setKlt (fun k => { k with mcl := NMap.erase k.mcl (mclPlace s y) }) s))) ∧
      ((cmdArg s y .KLT_CMD_ARG0).testBit 14 = true → 1 ≤ (mclEntry s y).conn → (mclEntry s y).conn ≤ 262143 →
        exec (.mclSet y) s = .next (kltResult y .ok 0 (setKlt (fun k => { k with mcl := NMap.put k.mcl (mclPlace s y) (mclEntry s y) }) s)))) ∧
  (∀ (q : Nat) (p : Pwq) (s : State),
      planesRun s = true →
      pwqOf s q = some p →
      pwqMay s p = true →
      (gateOpen s p = false → exec (.pwqRequestStart q) s = .next (gateWaits q p s)) ∧
      (∀ st, gateOpen s p = true → workCheck (dropGate q s) p (workReq s p) = some st → exec (.pwqRequestStart q) s = .next (pwqBegin q p { status := some st, mcast := [] } (dropGate q s))) ∧
      (gateOpen s p = true → workCheck (dropGate q s) p (workReq s p) = none → exec (.pwqRequestStart q) s = .next (settle (pwqPost q p (workReq s p) (dropGate q s))))) ∧
  (∀ (q idx : Nat) (p : Pwq) (st : Status) (m : NMap (Nat × Option Status)) (s : State),
      planesRun s = true →
      pwqOf s q = some p →
      NMap.get? p.inflight idx = some { status := some st, mcast := m } →
      (exec (.pwqRequestComplete q idx) s = .next (settle (pwqAdvance q (p.inflight.length + 1) (pwqDone q p idx st m s)))) ∧
      (exec (.pwqErrorClear q) s = .next (putPwq q { p with err := none } s)))

/-- A free port takes TC7 first, else the round robin's choice; buckets refill; queues are sampled; gate lists take over; PTP messages move servo and estimate. -/
def Obligations.SchedulerResults : Prop :=
  (∀ (port : Nat) (s : State),
      planesRun s = true →
      port < 8 ∧ (portOf (kltPump s) port).up = true →
      (eligible (kltPump s) port 7 = true → exec (.egressSelect port) s = .next (kltPump (sendHead port 7 (portOf (kltPump s) port) (kltPump s)))) ∧
      (∀ c x, eligible (kltPump s) port 7 = false → drrSelect (kltPump s) port = some (c, x) → exec (.egressSelect port) s = .next (kltPump (sendHead port c x (kltPump s))))) ∧
  (∀ (port : Nat) (s : State),
      planesRun s = true →
      port < 8 →
      (refills s (portOf s port) (ktbOf s (.yoke (portYoke port))) ≠ 0 → exec (.shaperRefill port) s = .next (putPort port { portOf s port with refillAt := ktbOf s (.yoke (portYoke port)), held := none, tokens := refillTokens s (refills s (portOf s port) (ktbOf s (.yoke (portYoke port)))) (portOf s port).tokens } s)) ∧
      (sampleDue s port = true → exec (.queueSample port) s = .next (setTsc (fun t => { t with maxLive := sampleMax s port t.maxLive }) (putPort port { portOf s port with sampleAt := ktbOf s (.yoke (portYoke port)) } s)))) ∧
  (∀ (y : Yoke) (g : Gcl) (p : GclPend) (s : State),
      planesRun s = true →
      (s.tsc.pend.get y = some p → p.at_ ≤ ktbOf s (.yoke y) →
        exec (.gclTakeover y) s = .next (setLiveF .TSC_GCL_STATUS (.yoke y) 0 8 8 (if p.late then 1 else 0)
          (setTsc (fun t => { t with running := t.running.set y p.list, pend := t.pend.set y none, takeAt := t.takeAt.set y p.at_ }) s))) ∧
      (s.tsc.pend.get y = none → s.tsc.running.get y = some g →
        exec (.gateEdge y) s = .next (driftCheckY y (setTsc (fun x => { x with opens := windowOpens s y g (ktbOf s (.yoke y)) x.opens }) s)))) ∧
  (∀ (port seq t1 ts t3 t4 n : Nat) (s : State),
      planesRun s = true →
      fromMaster s port = true →
      (exec (.ptpSync port seq (some t1) ts) s = .next (ptpTimes t1 ts (setPtp (fun u => { u with tSync := some ts }) s))) ∧
      (exec (.ptpSync port seq none ts) s = .next (driftCheck (setPtp (fun u => { u with half := some (port, seq, ts) }) (setPtp (fun u => { u with tSync := some ts }) s)))) ∧
      (s.tsc.ptp.half = some (port, seq, ts) → exec (.ptpFollowUp port seq t1) s = .next (ptpTimes t1 ts s)) ∧
      (s.tsc.ptp.delayReq = some (n, t3) → exec (.ptpDelayResp port n t4) s = .next (setPtp (fun u => { u with delayReq := none, mpd := ((((u.t2 : Int) - u.t1) + ((t4 : Int) - t3)) / 2).toNat }) s))) ∧
  (∀ (port seq ts domain : Nat) (k : PtpClock) (s : State),
      planesRun s = true →
      ptpOn s = true ∧ port < 8 →
      (s.tsc.ptp.st = .master → exec (.ptpDelayReq port seq ts) s = .next (sendPtp port .delayResp seq ts none s)) ∧
      (domain = primF s .TSC_PTP_CTRL 0 8 2 → exec (.ptpAnnounce port domain k) s = .next (bmca (setPtp (fun u => { u with foreign := NMap.put u.foreign port k }) s))) ∧
      (s.tsc.ptp.st = .master → ptpDue s port (syncInterval s) = true → exec (.ptpSendTimer port) s = .next (masterSends port s)) ∧
      (s.tsc.ptp.st = .slave ∨ s.tsc.ptp.st = .uncalibrated → s.tsc.ptp.port = port → ptpDue s port (delayInterval s) = true →
        exec (.ptpSendTimer port) s = .next (sendPtp port .delayReq s.tsc.ptp.nextSeq 0 none (ptpSends port s)))) ∧
  (∀ (t : Nat) (s : State),
      planesRun s = true →
      (s.tsc.ptp.tSync = some t → t + 4 * syncInterval s ≤ ktb s → exec .ptpSyncLoss s = .next (driftCheck (setPtp (fun u => { u with locked := false, good := 0 }) s))) ∧
      (exec .holdoverExcessRise s = .next (driftCheck s)))

/-- A HELLO is offered a session number, an AUTH that verifies opens the session, the eighth failure locks the port, and requests without a role answer. -/
def Obligations.ManagementSessions : Prop :=
  (∀ (y : Yoke) (minVer maxVer cred : Nat) (s : State),
      mgmtUp s = true →
      (portM s y).lockUntil = none →
      cryptoOk s y = true →
      lifeCycle s ≠ 3 →
      exec (.hello y minVer maxVer cred) s = .next (emit (.mgmtRsp y (rspOf (portM s y).next .ok (.hello 1))) (putPortM y (helloTaken (portM s y) minVer maxVer cred) s))) ∧
  (∀ (y : Yoke) (minVer maxVer cred t : Nat) (s : State),
      mgmtUp s = true →
      (portM s y).lockUntil = some t →
      exec (.hello y minVer maxVer cred) s = .next (emit (.mgmtRsp y (rspOf 0 .busy .none)) s)) ∧
  (∀ (y : Yoke) (n : Nat) (verifies : Bool) (h : Hello) (s : State),
      mgmtUp s = true →
      NMap.get? (portM s y).hellos n = some h →
      (portM s y).lockUntil = none →
      h.verOk = true →
      (verifies = true → (NMap.get? s.sec.creds h.cred).isSome = true → (portM s y).sessions.length < liveF s .SEC_MGMT_CTRL (.yoke y) 0 35 32 →
        exec (.auth y n verifies) s = .next (authSay y n .ok { portM s y with
          hellos := NMap.erase (portM s y).hellos n, sessions := NMap.put (portM s y).sessions n (sessOf h.cred (ktbOf s (.yoke y))) } s)) ∧
      (verifies = false → exec (.auth y n verifies) s = .next (authSay y n .access
          (authFailed (ktbOf s (.yoke y)) { portM s y with hellos := NMap.erase (portM s y).hellos n }) (bumpF .SEC_MGMT_STATUS (.yoke y) 0 15 8 1 s)))) ∧
  (∀ (y : Yoke) (n : Nat) (x : MgmtSess) (s : State),
      mgmtUp s = true →
      NMap.get? (portM s y).sessions n = some x →
      x.lastReq + liveF s .SEC_MGMT_CTRL (.yoke y) 0 31 16 * 1000000000 ≤ ktbOf s (.yoke y) →
      exec (.mgmtIdleTimeout y n) s = .next (endSess y n s)) ∧
  (∀ (y : Yoke) (t : Nat) (s : State),
      mgmtUp s = true →
      (portM s y).lockUntil = some t →
      t ≤ ktbOf s (.yoke y) →
      exec (.mgmtLockoutExpiry y) s = .next (putPortM y { portM s y with lockUntil := none } s)) ∧
  (∀ (q : MgmtReq) (x : MgmtSess) (r : SpdmReq) (st : Status) (b : List (BitVec 384)) (t s : State),
      MgmtReady s q x rAny →
      exec (.sessionClose q) s = .next (endSess q.port q.session (mgmtReply q .ok .none (mgmtTake q x s))) ∧
      (rObserve (rolesOf s x) = true → exec (.eventSubscribe q) s = .next (mgmtReply q .ok .none (putPortM q.port { portM (mgmtTake q x s) q.port with
          sessions := NMap.modify (portM (mgmtTake q x s) q.port).sessions q.session (fun x => { x with subscribed := true }) } (mgmtTake q x s)))) ∧
      (rObserve (rolesOf s x) = true → spdmAnswer q r (mgmtTake q x s) = (some (st, b), t) → exec (.spdmRelay q r) s = .next (mgmtReply q .ok (.spdm r st b) t))) ∧
  (∀ (q : MgmtReq) (slot off : Nat) (more : Bool) (s : State),
      mgmtUp s = true →
      q.session = 0 →
      exec (.getInfo q) s = .next (sayOpen q .ok (.info s.sec.deviceId 0 (lifeCycle s) s.sec.tenancy.code) s) ∧
      exec (.getChain q slot off more) s = .next (sayOpen q (chainAnswer s slot off more).1 (chainAnswer s slot off more).2 s))

/-- Every tenancy command does what the state it finds asks for. -/
def Obligations.TenancyCommands : Prop :=
  (∀ (q : MgmtReq) (x : MgmtSess) (b : BindReq) (s : State),
      MgmtReady s q x rTenancy →
      (bindCheck b (mgmtTake q x s) = none → exec (.bindBegin q b) s = .next (mgmtReply q .ok .none (bindBegun b (mgmtTake q x s)))) ∧
      (∀ st, bindCheck b (mgmtTake q x s) = some st → exec (.bindBegin q b) s = .next (mgmtReply q st .none (mgmtTake q x s)))) ∧
  (∀ (q : MgmtReq) (x : MgmtSess) (s : State),
      MgmtReady s q x rTenancy →
      s.sec.tenancy = .binding →
      (s.sec.localMode = true → exec (.bindCommit q) s = .next (mgmtReply q (bindCommit (localKey (mgmtTake q x s))).1 .none (bindCommit (localKey (mgmtTake q x s))).2)) ∧
      exec (.bindAbort q) s = .next (mgmtReply q .ok .none (bindAbort (mgmtTake q x s))) ∧
      exec (.release q) s = .next (mgmtReply q .tenant .none (mgmtTake q x s)) ∧
      exec (.zeroise q) s = .next (mgmtReply q .ok .none (bindAbort (mgmtTake q x s)))) ∧
  (∀ (q : MgmtReq) (x : MgmtSess) (s : State),
      MgmtReady s q x rTenancy →
      s.sec.tenancy ≠ .binding →
      exec (.bindCommit q) s = .next (mgmtReply q .tenant .none (mgmtTake q x s)) ∧
      exec (.bindAbort q) s = .next (mgmtReply q .tenant .none (mgmtTake q x s))) ∧
  (∀ (q : MgmtReq) (x : MgmtSess) (s : State),
      MgmtReady s q x rTenancy →
      s.sec.tenancy = .bound →
      exec (.release q) s = .next (startRelease (setSec (fun k => { k with waiters := k.waiters ++ [.mgmt q] }) (mgmtTake q x s))) ∧
      exec (.zeroise q) s = .next (startRelease (setSec (fun k => { k with waiters := k.waiters ++ [.mgmt q] }) (mgmtTake q x s)))) ∧
  (∀ (q : MgmtReq) (x : MgmtSess) (s : State),
      MgmtReady s q x rTenancy →
      s.sec.tenancy = .releasing →
      exec (.release q) s = .next (setSec (fun k => { k with waiters := k.waiters ++ [.mgmt q] }) (mgmtTake q x s)) ∧
      exec (.zeroise q) s = .next (setSec (fun k => { k with waiters := k.waiters ++ [.mgmt q] }) (mgmtTake q x s))) ∧
  (∀ (q : MgmtReq) (x : MgmtSess) (s : State),
      MgmtReady s q x rTenancy →
      s.sec.tenancy = .unassigned →
      tenPending s = false →
      exec (.release q) s = .next (mgmtReply q .ok .none (mgmtTake q x s)) ∧ exec (.zeroise q) s = .next (mgmtReply q .ok .none (mgmtTake q x s))) ∧
  (∀ (s : State),
      mgmtUp s = true →
      s.sec.tenancy = .binding →
      s.sec.resuming = false →
      s.sec.bindAt + primF s .SEC_BIND_CTRL 0 15 0 * 1000000000 ≤ ktb s →
      exec .bindTimeout s = .next (bindAbort s)) ∧
  (∀ (s : State),
      mgmtUp s = true →
      s.sec.tenancy = .releasing →
      s.sec.rel = .scrub →
      exec .releaseScrubDone s = .next (releaseEnd s))

/-- Cores are fenced, firmware is staged and activated, credentials come and go, and the life cycle moves forward. -/
def Obligations.DeviceManagement : Prop :=
  (∀ (q : MgmtReq) (x : MgmtSess) (die kind n : Nat) (hit : List Nat) (d : Die) (s : State),
      MgmtReady s q x rConfigure →
      Die.ofCode die = some d →
      coreExists d kind n = true →
      (planesRun s = true → exec (.fenceCore q die kind n hit) s = .next (mgmtReply q .ok .none (settle (fenceCore d kind n hit (mgmtTake q x s))))) ∧
      (planesRun s = false → exec (.fenceCore q die kind n hit) s = .next (mgmtReply q .ok .none (fenceMark d kind n (mgmtTake q x s))))) ∧
  (∀ (q : MgmtReq) (x : MgmtSess) (i j : FwImage) (advance : Bool) (s : State),
      MgmtReady s q x rFirmware →
      exec (.fwStage q i false) s = .next (mgmtReply q .integrity .none (mgmtTake q x s)) ∧
      (svnOk s i = false → exec (.fwStage q i true) s = .next (mgmtReply q .version .none (mgmtTake q x s))) ∧
      (svnOk s i = true → exec (.fwStage q i true) s = .next (mgmtReply q .ok .none (setSec (fun k => { k with flash := NMap.put k.flash (spareSlot s) i }) (mgmtTake q x s)))) ∧
      (NMap.get? s.sec.flash (spareSlot s) = some j → exec (.fwActivate q advance) s = .next (mgmtReply q .ok .none (fwSelect j advance (mgmtTake q x s))))) ∧
  (∀ (q : MgmtReq) (x : MgmtSess) (key roles slot i : Nat) (s : State),
      MgmtReady s q x rCredential →
      ((List.range 16).find? (fun k => (NMap.get? s.sec.creds k).isNone) = some i →
        exec (.credAdd q key roles) s = .next (mgmtReply q .ok (.word (BitVec.ofNat 64 i)) (putCred i ⟨key, roles % 64⟩ (mgmtTake q x s)))) ∧
      ((List.range 16).find? (fun k => (NMap.get? s.sec.creds k).isNone) = none → exec (.credAdd q key roles) s = .next (mgmtReply q .noSpace .none (mgmtTake q x s))) ∧
      ((NMap.get? s.sec.creds slot).isSome = true → s.sec.creds.any (fun c => c.1 ≠ slot && rCredential c.2.roles) = false →
        exec (.credRemove q slot) s = .next (mgmtReply q .busy .none (mgmtTake q x s))) ∧
      ((NMap.get? s.sec.creds slot).isSome = true → s.sec.creds.any (fun c => c.1 ≠ slot && rCredential c.2.roles) = true →
        exec (.credRemove q slot) s = .next (dropSessions (mgmtReply q .ok .none (secRecords 1 (setSec (fun k => { k with creds := NMap.erase k.creds slot }) (mgmtTake q x s))))))) ∧
  (∀ (q : MgmtReq) (key : Nat) (s : State),
      mgmtUp s = true →
      pastStage1 s = true →
      q.session = 0 →
      lifeCycle s = 1 →
      exec (.deploy q key) s = .next (sayOpen q .ok .none (certUpdate (lcAdvance (putCred 0 ⟨key, 63⟩ s))))) ∧
  (∀ (q : MgmtReq) (x : MgmtSess) (s : State),
      MgmtReady s q x rCredential →
      lifeCycle s = 2 →
      s.sec.decommission = none →
      tenPending s = false →
      exec (.decommission q) s = .next (decommissionBy q (mgmtTake q x s))) ∧
  (∀ (y : Yoke) (s : State),
      mgmtUp s = true →
      (lifeCycle s = 0 → s.sec.dus = none → exec .provisioning s = .next (lcAdvance (setSec (fun x => { x with dus := some (freeBelow (2 ^ 256) s) }) (drew s)))) ∧
      (s.power.pwrgood = true → s.sec.entropyOk.get y = true → exec (.entropyTestFail y) s = .next (certUpdate (mgmtPost (.entropyFail y) (setSec (fun x => { x with entropyOk := x.entropyOk.set y false }) s)))))

/-- A challenge is drawn, a consent token that holds opens its scopes until NOT_AFTER, and debug actions need their scope while a tenant is bound. -/
def Obligations.DebugCommands : Prop :=
  (∀ (q : MgmtReq) (x : MgmtSess) (s : State),
      MgmtReady s q x rDebug →
      exec (.debugChallenge q) s = .next (mgmtReply q .ok (.challenge (freeBelow (2 ^ 256) (mgmtTake q x s)))
        (drew (setSec (fun k => { k with challenge := some (freeBelow (2 ^ 256) (mgmtTake q x s), ktb s + 300000000000) }) (mgmtTake q x s)))) ∧
      exec (.debugLock q) s = .next (mgmtReply q .ok .none (setSec (fun k => { k with meas12 := extendDigest k.meas12 (leBytes 8 (ktb s)) }) (debugClose (mgmtTake q x s))))) ∧
  (∀ (q : MgmtReq) (x : MgmtSess) (t : Option Consent) (s : State),
      MgmtReady s q x rDebug →
      lifeCycle s = 2 →
      s.sec.tenancy = .unassigned →
      exec (.debugUnlock q t) s = .next (mgmtReply q .ok .none (debugGrant 31 (2 ^ 64 - 1) (leBytes 8 (ktb s)) (mgmtTake q x s)))) ∧
  (∀ (q : MgmtReq) (x : MgmtSess) (c : Consent) (s : State),
      MgmtReady s q x rDebug →
      lifeCycle s = 2 →
      s.sec.tenancy ≠ .unassigned →
      (consentOk (mgmtTake q x s) (credOf (mgmtTake q x s) q) c = true → exec (.debugUnlock q (some c)) s = .next (mgmtReply q .ok .none
        (debugGrant c.scope c.notAfter (digestBytes c.digest) (setSec (fun k => { k with challenge := none }) (mgmtTake q x s))))) ∧
      (consentOk (mgmtTake q x s) (credOf (mgmtTake q x s) q) c = false → exec (.debugUnlock q (some c)) s = .next (mgmtReply q .access .none (mgmtTake q x s))) ∧
      exec (.debugUnlock q none) s = .next (mgmtReply q .access .none (mgmtTake q x s))) ∧
  (∀ (s : State),
      mgmtUp s = true →
      s.sec.debugScopes ≠ 0 →
      s.sec.debugUntil ≤ ktb s →
      exec .debugUnlockExpiry s = .next (debugClose s)) ∧
  (∀ (q : MgmtReq) (x : MgmtSess) (die chain : Nat) (d : Die) (s : State),
      MgmtReady s q x rDebug →
      Die.ofCode die = some d →
      (consented s 3 = true → planesRun s = true → exec (.traceTrigger q) s = .next (mgmtReply q .ok .none (traceTrigger (.yoke s.ckp.primary) 4 0 (mgmtTake q x s)))) ∧
      (consented s 3 = false → exec (.traceTrigger q) s = .next (mgmtReply q .access .none (mgmtTake q x s))) ∧
      (consented s 0 = true → exec (.halt q) s = .next (mgmtReply q .ok .none (haltWave 0 (mgmtTake q x s)))) ∧
      (consented s 0 = false → exec (.halt q) s = .next (mgmtReply q .access .none (mgmtTake q x s))) ∧
      (consented s 1 = true → exec (.scanOut q die chain) s = .next (mgmtReply q (scanOut d chain (mgmtTake q x s)).1 (scanOut d chain (mgmtTake q x s)).2.1 (scanOut d chain (mgmtTake q x s)).2.2)) ∧
      (consented s 1 = false → exec (.scanOut q die chain) s = .next (mgmtReply q .access .none (mgmtTake q x s))))

/-- An epoch is marked, opened at each Acre, captured, drained and anchored. -/
def Obligations.EpochCommands : Prop :=
  (∀ (sq cid e at_ : Nat) (full : Bool) (remote : Option (Nat × Nat × Nat)) (s : State),
      Served s sq →
      sq ≠ 0 →
      (s.ckp.yokes.get s.ckp.primary).issuing = true →
      (markCheck s e at_ = none → exec (.ckptMark sq cid false e at_ full remote) s = .next (postCqe sq cid .ok 0 0 (epochMarked e at_ full remote s))) ∧
      (∀ st, markCheck s e at_ = some st → exec (.ckptMark sq cid false e at_ full remote) s = .next (postCqe sq cid st 0 0 s)) ∧
      exec (.ckptMark sq cid true e at_ full remote) s = .next (postCqe sq cid .primacy 0 0 s)) ∧
  (∀ (a : Acre) (e : Epoch) (s : State),
      planesRun s = true →
      s.ckp.epoch = some e →
      s.ckp.epochSt = .pending ∨ s.ckp.epochSt = .open_ →
      (e.shards.get a).marked = false →
      e.at_ ≤ ktbOf s (.acre a) →
      exec (.epochMarker a) s = .next (applyMarker a e s)) ∧
  (∀ (obj : Nat) (c : CapObj) (s : State),
      planesRun s = true →
      capOf s obj = some c →
      c.gone = false →
      c.copied = false →
      c.lost = false →
      exec (.shadowCopy obj) s = .next (shadowMove obj (takeNow obj s))) ∧
  (∀ (a : Acre) (e : Epoch) (u s : State),
      planesRun s = true →
      s.ckp.epoch = some e →
      s.ckp.epochSt = .open_ →
      (e.shards.get a).marked = true →
      (e.shards.get a).captured = false →
      sweepShard a e s = u →
      (allTaken (shardOf u a) = true → exec (.shardCaptured a) s = .next (settle (shardClosed a e u))) ∧
      (allTaken (shardOf u a) = false → exec (.shardCaptured a) s = .next (settle u))) ∧
  (∀ (a : Acre) (obj : Option Nat) (e : Epoch) (st r : Status) (s : State),
      planesRun s = true →
      s.ckp.epoch = some e →
      epochRuns s = true →
      (e.shards.get a).captured = true →
      drainEnd s a e obj st = some r →
      exec (.drainWriteComplete a obj st) s = .next (drainDone a obj r (setKlt (fun k => { k with ended := k.ended.filter (fun x => x.1 ≠ .drain a.num (drainUnit (e.shards.get a) obj)) }) s))) ∧
  (∀ (e : Epoch) (st : Status) (s : State),
      planesRun s = true →
      s.ckp.epoch = some e →
      epochRuns s = true →
      (st ≠ .ok → exec (.epochDrained st) s = .next (settle (failEpoch st s))) ∧
      (shardsDrained s e = true → exec (.epochDrained .ok) s = .next (settle (epochAnchored e s)))) ∧
  (∀ (sq cid handle : Nat) (auto : Bool) (st : SState) (u s : State),
      SessionReady s sq handle u st →
      (s.ckp.yokes.get s.ckp.primary).issuing = true →
      exec (.ckptPolicy sq cid false handle auto) s = .next (settle (postCqe sq cid .ok 0 0 (setCkptRow (slotOf handle) { ckptRow u (slotOf handle) with auto := auto } u)))) ∧
  (∀ (sq cid e : Nat) (s : State),
      Served s sq →
      sq ≠ 0 →
      (s.ckp.yokes.get s.ckp.primary).issuing = true →
      s.sec.tenancy = .bound →
      (s.ckp.manifests.any (fun m => m.full && decide (e < m.epoch)) = true → exec (.ckptDiscard sq cid false e) s = .next (postCqe sq cid .ok 0 0 (discardUpTo e s))) ∧
      (s.ckp.manifests.any (fun m => m.full && decide (e < m.epoch)) = false → exec (.ckptDiscard sq cid false e) s = .next (postCqe sq cid .busy 0 0 s)))

/-- RESTORE, RESTORE_OBJECTS, EXPORT and IMPORT complete with the status their checks give, and a detection fences its core. -/
def Obligations.RestoreAndFenceCommands : Prop :=
  (∀ (sq cid handle tier : Nat) (src : RestoreSrc) (keepLog : Bool) (target : Option Nat) (st : SState) (u s : State),
      SessionReady s sq handle u st →
      (s.ckp.yokes.get s.ckp.primary).issuing = true →
      s.sec.tenancy = .bound →
      exec (.restore sq cid false src (.inPlace handle) keepLog tier target) s =
        .next (settle (postCqe sq cid (inPlaceBy src keepLog (policyOf tier target) (slotOf handle) st u).1 0 0 (inPlaceBy src keepLog (policyOf tier target) (slotOf handle) st u).2)) ∧
      exec (.restore sq cid false src .new keepLog tier target) s =
        .next (settle (postCqe sq cid (newBy src (policyOf tier target) s).1 (newBy src (policyOf tier target) s).2.1 0 (newBy src (policyOf tier target) s).2.2))) ∧
  (∀ (sq cid e : Nat) (m : Manifest) (ms : List Manifest) (what : ObjSet) (s : State),
      Served s sq →
      sq ≠ 0 →
      (s.ckp.yokes.get s.ckp.primary).issuing = true →
      s.sec.tenancy = .bound →
      chainFrom s.ckp.manifests (s.ckp.manifests.length + 1) e = m :: ms →
      manifestGood s m e true = true →
      exec (.restoreObjects sq cid false e true true what) s = .next (settle (postCqe sq cid (restSet m (m :: ms) what s).1 0 0 (restSet m (m :: ms) what s).2))) ∧
  (∀ (sq cid handle route : Nat) (locs : List Nat) (outcome : Status) (items : List ImportIn) (st : SState) (u s : State),
      SessionReady s sq handle u st →
      (s.ckp.yokes.get s.ckp.primary).issuing = true →
      exec (.exportCmd sq cid false handle route locs outcome) s = .next (settle (postCqe sq cid (exportBy (slotOf handle) route locs outcome st u).1
        (exportBy (slotOf handle) route locs outcome st u).2.1 0 (exportBy (slotOf handle) route locs outcome st u).2.2)) ∧
      exec (.importCmd sq cid false handle route items) s = .next (settle (postCqe sq cid (importBy (slotOf handle) route items st u).1
        (importBy (slotOf handle) route items st u).2.1 0 (importBy (slotOf handle) route items st u).2.2))) ∧
  (∀ (slot : Nat) (s : State),
      planesRun s = true →
      s.ckp.restoring.any (fun r => r.slot = slot) = true →
      ((desc (placeStacks slot s) slot).state = .reviving → exec (.restoreStacksDone slot) s = .next (queueFetch slot (placeStacks slot s))) ∧
      ((desc (placeStacks slot s) slot).state ≠ .reviving → exec (.restoreStacksDone slot) s = .next (placeStacks slot s))) ∧
  (∀ (die kind n : Nat) (hit : List Nat) (d : Die) (s : State),
      planesRun s = true →
      Die.ofCode die = some d →
      exec (.coreFence die kind n hit) s = .next (settle (fenceCore d kind n hit s)) ∧
      (coreExists d kind n = true → overrun s d kind n = true → exec (.itemOverrun die kind n) s = .next (settle (fenceCore d kind n [] s))))

/-- Leases are renewed and expire, a silent partner is claimed against, Acres vote or answer WAIT, and a winning set takes P + 1. -/
def Obligations.PrimacyCommands : Prop :=
  (∀ (reached : List Nat) (s : State),
      planesRun s = true →
      (s.ckp.yokes.get s.ckp.primary).issuing = true →
      (s.ckp.yokes.get s.ckp.primary).renewAt + leaseNs s / 4 ≤ yokeNow s s.ckp.primary →
      (renewStale s reached = false → exec (.leaseRenew reached) s = .next (renewed reached s)) ∧
      (renewStale s reached = true → exec (.leaseRenew reached) s = .next (stopIssuing s.ckp.primary (renewed reached s)))) ∧
  (∀ (a : Acre) (l : Lease) (s : State),
      planesRun s = true →
      s.ckp.leases.get a = some l →
      l.expiry ≤ ktbOf s (.acre a) →
      exec (.leaseExpiry a) s = .next (setCkp (fun c => { c with leases := c.leases.set a none }) s)) ∧
  (∀ (y : Yoke) (p : Nat) (u s : State),
      planesRun s = true →
      modYoke y (fun x => { x with heardAt := yokeNow s y, partnerUp := true, claim := x.claim.filter (fun c => !c.votes.isEmpty) }) s = u →
      (s.ckp.primary = y → s.ckp.primacyEpoch < p → exec (.yokeHeartbeat y p) s = .next (stopIssuing y u)) ∧
      (s.ckp.primary ≠ y ∨ p ≤ s.ckp.primacyEpoch → exec (.yokeHeartbeat y p) s = .next u)) ∧
  (∀ (y : Yoke) (s : State),
      planesRun s = true →
      (s.ckp.yokes.get y).beatAt + 10000 ≤ yokeNow s y →
      (s.ckp.yokes.get y).heardAt + partnerNs s ≤ yokeNow s y →
      exec (.partnerHeartbeatSend y) s = .next (emit (.partnerBeat y s.ckp.primacyEpoch (s.links.contains .ywYe)) (modYoke y (fun x => { x with beatAt := yokeNow s y }) s)) ∧
      (s.ckp.primary ≠ y → (s.ckp.yokes.get y).claim = none → exec (.partnerSilence y) s = .next (sendClaim y (modYoke y (fun x => { x with partnerUp := false }) s))) ∧
      (s.ckp.primary = y → exec (.partnerSilence y) s = .next (modYoke y (fun x => { x with partnerUp := false }) s))) ∧
  (∀ (y : Yoke) (c : Claim) (s : State),
      planesRun s = true →
      (s.ckp.yokes.get y).claim = some c →
      (winning s y c.votes = false → c.at_ + leaseNs s ≤ yokeNow s y → s.ckp.primary ≠ y → exec (.claimRetry y) s = .next (sendClaim y s)) ∧
      (winning s y c.votes = true → c.epoch = s.ckp.primacyEpoch + 1 → s.ckp.primary = y → exec (.primacyTakeover y) s = .next (settle (primacyTaken y c s))) ∧
      (winning s y c.votes = true → c.epoch = s.ckp.primacyEpoch + 1 → s.ckp.primary ≠ y → exec (.primacyTakeover y) s = .next (settle (takeOver s.ckp.primary y (primacyTaken y c s))))) ∧
  (∀ (a : Acre) (y : Yoke) (c : Claim) (s : State),
      planesRun s = true →
      (s.ckp.yokes.get y).claim = some c →
      (∀ w, c.epoch = s.ckp.acreP.get a + 1 → claimWait s a y = some w → exec (.claim a y c.epoch) s = .next (stopIssuing y (emit (.claimAnswer a y (some w)) s))) ∧
      (c.epoch = s.ckp.acreP.get a + 1 → claimWait s a y = none → (s.ckp.voted.get a).any (fun v => v.1 = c.epoch) = false → exec (.claim a y c.epoch) s = .next (claimVote a y c s)) ∧
      (c.epoch ≠ s.ckp.acreP.get a + 1 → exec (.claim a y c.epoch) s = .next (stopIssuing y (modYoke y (fun x => { x with claim := none }) s)))) ∧
  (∀ (y : Yoke) (s : State),
      planesRun s = true →
      s.ckp.primary ≠ y ∨ (s.ckp.yokes.get y).winAt + leaseNs s ≤ yokeNow s y + 10000 →
      exec (.stalePrimacy y) s = .next (stopIssuing y s))

/-- A migration runs from OFFER to RELEASE, each side waits for the other's message, and an outcome settles what stays open. -/
def Obligations.MigrationCommands : Prop :=
  (∀ (sq cid handle device tier conn : Nat) (target : Option Nat) (st : SState) (u s : State),
      SessionReady s sq handle u st →
      st = .toolWait ∨ st = .idleWait ∨ st = .dormant →
      (migCheck u (slotOf handle) device conn = none → exec (.migrate sq cid handle device tier target conn) s = .next (settle (migBegin (slotOf handle) handle device tier target conn (sq, cid) st u))) ∧
      (∀ e, migCheck u (slotOf handle) device conn = some e → exec (.migrate sq cid handle device tier target conn) s = .next (settle (postCqe sq cid e 0 0 u)))) ∧
  (∀ (conn : Nat) (h : MigHdr) (o : OfferIn) (s : State),
      planesRun s = true →
      h.dst = s.sec.deviceId →
      holdsOffer s h = false →
      (∀ t, offerTake conn h o s = .ok t → exec (.migOffer conn h o) s = .next t) ∧
      (∀ e, offerTake conn h o s = .error e → exec (.migOffer conn h o) s = .next (emit (.migMsg conn { h with seq := 0, dstHandle := 0 } (.refuse e.code)) s))) ∧
  (∀ (h : MigHdr) (places : List MigPlace) (code slot : Nat) (m : Migration) (s : State),
      planesRun s = true →
      findMig s true h = some (slot, m) →
      (m.st = .offered → places.length = (migItems s slot).length → exec (.migAccept h places) s = .next (settle (migAccepted slot m h.dstHandle places s))) ∧
      (m.st = .offered → exec (.migRefuse h code) s = .next (settle (migRefused slot m ((Status.ofCode code).getD .access) s))) ∧
      (m.st = .handover → exec (.migConfirm h) s = .next (settle (migConfirmed slot m s))) ∧
      (m.st = .handover → exec (.migOutcome h 1) s = .next (settle (migConfirmed slot m s))) ∧
      exec (.migOutcome h 2) s = .next (settle (migRefused slot m .aborted s))) ∧
  (∀ (h : MigHdr) (x : HandIn) (slot : Nat) (m : Migration) (s : State),
      planesRun s = true →
      findMig s true h = none →
      findMig s false h = some (slot, m) →
      (∀ t, m.st = .accepted → handInstall slot m x s = some t → exec (.migHandover h true x) s = .next (sendMig slot .confirm (putMig slot { m with st := .confirmed, runs := [], hand := some x } t))) ∧
      (m.st = .confirmed → exec (.migHandover h true x) s = .next (migAgain m s)) ∧
      (m.st = .confirmed → exec (.migRelease h) s = .next (settle (migActivate slot m s))) ∧
      (m.st = .confirmed → exec (.migOutcome h 1) s = .next (settle (migActivate slot m s))) ∧
      exec (.migOutcome h 2) s = .next (settle (migDiscard slot m s))) ∧
  (∀ (slot : Nat) (m m' : Migration) (s : State),
      planesRun s = true →
      migOf s slot = some m →
      m.source = true →
      m.st = .sending →
      (desc s slot).state = .migrating →
      migOf (migTakeEnds slot m s) slot = some m' →
      (∀ e, (migEnds s slot).find? (fun e => e.2 ≠ .ok) = some e → exec (.migrationFreeze slot) s = .next (settle (migAbandon slot e.2 (migTakeEnds slot m s)))) ∧
      ((migEnds s slot).find? (fun e => e.2 ≠ .ok) = none → m'.unsent.isEmpty = false → exec (.migrationFreeze slot) s = .next (settle (migSend slot (migTakeEnds slot m s)))) ∧
      ((migEnds s slot).find? (fun e => e.2 ≠ .ok) = none → m'.unsent.isEmpty = true → mayFreeze (migTakeEnds slot m s) slot m' = true →
        exec (.migrationFreeze slot) s = .next (sendMig slot (.handover (handOf (migTakeEnds slot m s) slot)) (putMig slot { m' with st := .handover } (migTakeEnds slot m s))))) ∧
  (∀ (conn slot : Nat) (h : MigHdr) (m : Migration) (s : State),
      planesRun s = true →
      exec (.migQuery conn h) s = .next (emit (.migMsg conn h (.outcome (outcomeOf s h))) s) ∧
      (migOf s slot = some m → m.st = .confirmed → exec (.migResend slot) s = .next (emit (.migMsg m.conn (migHdr s m) .query) s)) ∧
      (migOf s slot = some m → m.st = .handover ∨ m.st = .offered ∨ m.st = .accepted → exec (.migResend slot) s = .next (migAgain m s))) ∧
  (∀ (sq cid handle : Nat) (activate : Bool) (m : Migration) (s : State),
      Served s sq →
      sq ≠ 0 →
      (s.ckp.yokes.get s.ckp.primary).issuing = true →
      handleCheck s handle = none →
      migOf s (slotOf handle) = some m →
      exec (.migResolve sq cid false handle activate) s = .next (settle (postCqe sq cid (resolveBy (slotOf handle) m activate s).1 0 0 (resolveBy (slotOf handle) m activate s).2)) ∧
      exec (.leave sq cid false) s = .next (postCqe sq cid .ok 0 0 (setCkp (fun c => { c with leaving := true }) s)))

/-- Banks latch at the boundary, a snapshot copies them, energy is apportioned, trace triggers fire, and the halt wave stops the planes once. -/
def Obligations.ObservationCommands : Prop :=
  (∀ (die : Nat) (d : Die) (s : State),
      planesRun s = true →
      Die.ofCode die = some d →
      ((s.obs.dies.get d).due ≤ ktbOf s d → exec (.periodBoundary die) s = .next (dieBoundary d (s.obs.dies.get d).due (dieLatched d s))) ∧
      exec (.obsSnapTake die) s = .next (snapTake d s)) ∧
  (∀ (usage : List (Nat × Nat × Nat)) (s : State),
      planesRun s = true →
      s.obs.energyAt / 10000 < ktb s / 10000 →
      exec (.energyApportion usage) s = .next (intervalDone (measuredUse usage) s)) ∧
  (∀ (n : Nat) (s : State),
      planesRun s = true →
      (tracing (s.obs.trace.get (Acre.ofNum n)) = true → exec (.traceFlush n) s = .next (frameWrite (Acre.ofNum n) s)) ∧
      (timeTrigger s (Acre.ofNum n) = true → exec (.traceTimeTrigger n) s = .next (traceTrigger (.acre (Acre.ofNum n)) 1 ((live s .OBS_TRACE_TRIG_AT (.acre (Acre.ofNum n))).toNat) s)) ∧
      ((s.obs.trace.get (Acre.ofNum n)).st = .post → (s.obs.trace.get (Acre.ofNum n)).postLeft = some 0 → haltDue (traceStop (Acre.ofNum n) 2 s) = false →
        exec (.tracePostDone n) s = .next (traceStop (Acre.ofNum n) 2 s)) ∧
      ((s.obs.trace.get (Acre.ofNum n)).st = .post → (s.obs.trace.get (Acre.ofNum n)).postLeft = some 0 → haltDue (traceStop (Acre.ofNum n) 2 s) = true →
        exec (.tracePostDone n) s = .next (haltWave 2 (traceStop (Acre.ofNum n) 2 s)))) ∧
  (∀ (die kind n : Nat) (d : Die) (s : State),
      planesRun s = true →
      Die.ofCode die = some d →
      stallTrigger s d kind n = true →
      exec (.traceStallTrigger die kind n) s = .next (traceTrigger d 2 (kind + 8 * n) s)) ∧
  (∀ (s : State),
      planesRun s = true →
      Acre.all.any (fun a => liveF s .OBS_TRACE_TRIG (.acre a) 0 11 11 = 1) = true →
      exec .trigIn s = .next (traceTrigger (.yoke s.ckp.primary) 3 0 s)) ∧
  (∀ (y : Yoke) (t v : Nat) (s : State),
      planesRun s = true →
      exec (.obsMark y (.sysTine t) v) s = .next (emit (.access .ok 0) (tracePost (.yoke y) 7 v none [] s)) ∧
      exec (.obsMark y (.mgmt y) v) s = .next (emit (.access .access 0) s)) ∧
  (∀ (src : Nat) (s : State),
      src < 3 →
      s.obs.halted = false →
      s.power.pwrgood = true →
      exec (.haltWave src) s = .next (mgmtPost (.halt src) (setFallow { s.power.fallow with mode := .halted }
        (setObs (fun o => { o with halted := true, haltSrc := src, haltTs := ktb s }) s))) ∧
      (s.power.haltInLow = false → pastStage1 s = true → exec (.haltInN true) s = .next (haltWave 1 { s with power := { s.power with haltInLow := true } })) ∧
      exec (.haltInN false) s = .next { s with power := { s.power with haltInLow := false } })

/-- The stages run in order, a stage that cannot end stops start-up with its FAIL_CODE, and each reset keeps what R524 lists. -/
def Obligations.StartAndResetCommands : Prop :=
  (∀ (pref sel : Bool) (s : State),
      s.power.pwrgood = false →
      exec (.pwrgoodRise pref sel) s = .next { powerOn s with power := { PowerState.reset with pwrgood := true, primaryPref := pref, hostSel := sel, haltInLow := s.power.haltInLow } }) ∧
  (∀ (pw pe ew ee torn : Bool) (fw fe ms : Nat) (s : State),
      s.power.pwrgood = true →
      s.power.stage = .s0 →
      (s.power.resetHeld = false → exec (.stage0 pw pe ew ee fw fe torn ms) s = .next (stage0Done pw pe ew ee fw fe torn ms s)) ∧
      (s.power.resetHeld = true → exec (.stage0 pw pe ew ee fw fe torn ms) s = .next (systemReset .resetN (stage0Done pw pe ew ee fw fe torn ms s))) ∧
      exec .resetN s = .next (setPower (fun p => { p with resetHeld := true }) s)) ∧
  (∀ (ok0 ok1 : Bool) (links : List Nat) (lost : Option Yoke) (ms n : Nat) (i : FwImage) (s : State),
      s.power.pwrgood = true →
      s.power.stage = .s1 →
      s.power.failCode = 0 →
      (slotAccepted ok0 ok1 s = none → exec (.stage1 ok0 ok1 links lost ms) s = .next (setPower (fun p => { p with failCode := 1 }) s)) ∧
      (slotAccepted ok0 ok1 s = some (n, i) → islanded (fwLoaded n i links s).links = true →
        exec (.stage1 ok0 ok1 links lost ms) s = .next (setPower (fun p => { p with failCode := 2 }) (fwLoaded n i links s))) ∧
      (slotAccepted ok0 ok1 s = some (n, i) → islanded (fwLoaded n i links s).links = false →
        exec (.stage1 ok0 ok1 links lost ms) s = .next (stage1Done i.code lost ms (fwLoaded n i links s)))) ∧
  (∀ (failed : List (Nat × Nat × Nat)) (offline : List Nat) (deviceId ms : Nat) (config : List (Nat × Word)) (s : State),
      planesRun s = true →
      s.power.stage = .s2 →
      s.power.failCode = 0 →
      (Acre.all.any (fun a => (onlineOf offline).get a) = true → exec (.stage2 failed offline deviceId config ms) s = .next (stage2Done offline deviceId config ms (retest failed s))) ∧
      (Acre.all.any (fun a => (onlineOf offline).get a) = false → exec (.stage2 failed offline deviceId config ms) s = .next (setPower (fun p => { p with failCode := 3 }) (retest failed s)))) ∧
  (∀ (y : Yoke) (s : State),
      planesRun s = true →
      (s.power.stage = .s3 → s.sec.tenancy = .unassigned → exec .stage3 s = .next (tenOutcome s)) ∧
      exec .pwrgoodFall s = .next (powerLost (haltFree s)) ∧
      exec .resetN s = .next (systemReset .resetN s) ∧
      exec .pwrResetSystem s = .next (systemReset .management s) ∧
      exec (.pwrResetMgmt y) s = .next (mgmtReset y s) ∧
      (s.power.hostActive = some y → exec (.hostReset y) s = .next (hostReset s)) ∧
      exec (.hostPortSelect (some y)) s = .next (portChosen (setPower (fun p => { p with hostLink := p.hostLink.set y true }) s)) ∧
      exec (.hostPortSelect none) s = .next (portChosen s))

/-- The target steps down while a limit is passed and up while there is room, energy and temperature are counted, and the TAP loads its instruction. -/
def Obligations.PowerAndTapCommands : Prop :=
  (∀ (s : State),
      armed s = true →
      (avsPast s = true → avsDue s 100000 = true → exec .avsStep s = .next (avsSet (s.power.targetMv - 10) true s)) ∧
      (avsPast s = false → avsTop s < s.power.targetMv → avsDue s 100000 = true → exec .avsStep s = .next (avsSet (max (avsTop s) (s.power.targetMv - 10)) s.power.capping s)) ∧
      (avsPast s = false → s.power.targetMv < avsTop s → avsUnder s = true → avsDue s 1000000 = true →
        exec .avsStep s = .next (avsSet (min (avsTop s) (s.power.targetMv + 10)) (s.power.capping && decide (s.power.targetMv + 10 < avsTop s)) s)) ∧
      (avsPast s = false → s.power.targetMv = avsTop s → avsUnder s = true → exec .avsStep s = .next (setPower (fun p => { p with capping := false }) s))) ∧
  (∀ (mv dA rail die tj : Nat) (d : Die) (s : State),
      armed s = true →
      1 ≤ rail ∧ rail ≤ 7 →
      Die.ofCode die = some d →
      exec (.energyUpdate mv dA) s = .next (energyCount (railRead 0 mv dA (setPower (fun p => { p with readMv := mv }) s))) ∧
      exec (.railPoll rail (some (mv, dA))) s = .next (railRead rail mv dA s) ∧
      exec (.railPoll rail none) s = .next (setLiveF .PWR_RAIL (.yoke s.ckp.primary) rail 33 33 1 s) ∧
      (tj < 115 → exec (.thermalSample die tj) s = .next (thermRead d tj s)) ∧
      (115 ≤ tj → exec (.thermalSample die tj) s = .next (thermTrip (thermRead d (min tj 255) s))) ∧
      exec .thermtripComparator s = .next (thermTrip s)) ∧
  (∀ (y : Yoke) (die chain : Nat) (d : Die) (s : State),
      s.power.pwrgood = true →
      Die.ofCode die = some d →
      exec (.jtagBypass y) s = .next (loadTap y .bypass s) ∧
      exec (.jtagIdcode y) s = .next (emit (.jtag y (idcode y)) (loadTap y .idcode s)) ∧
      exec (.jtagSamplePreload y) s = .next (loadTap y .samplePreload s) ∧
      exec (.jtagExtest y) s = .next (tapHalts y .extest s) ∧
      exec (.jtagClamp y) s = .next (tapHalts y .clamp s) ∧
      exec (.jtagHighz y) s = .next (tapHalts y .highz s) ∧
      (scanOpen s = true → exec (.scanout y die chain) s = .next (tapScan y d chain s)) ∧
      (scanOpen s = false → exec (.scanout y die chain) s = .next (loadTap y .bypass s)))

/-- An idle device proposes, counts the answers, commits, defers and wakes; an answer promises a neighbour, and a wake request before the commit cancels. -/
def Obligations.FallowCommands : Prop :=
  (∀ (s : State),
      planesRun s = true →
      exec .fallowEnter s = .next (fallowTry (fallowEnter s)) ∧
      exec .fallowWake s = .next (startWake (cancelAgreement s)) ∧
      exec .fallowCancel s = .next (cancelAgreement s) ∧
      (answerLate s = true → exec .fallowAnswerTimeout s = .next (cancelAgreement s))) ∧
  (∀ (nb round : Nat) (s : State),
      planesRun s = true →
      (neighboursOf s).contains nb = true →
      exec (.propose nb round) s = .next (proposeAnswer nb round (heard nb 1 s)) ∧
      (ofExchange round (heard nb 2 s) = true → exec (.accept nb round) s = .next (fallowTry (setNeighbour nb (fun x => { x with answered := true, accepted := true }) (heard nb 2 s)))) ∧
      (ofExchange round (heard nb 2 s) = false → exec (.accept nb round) s = .next (heard nb 2 s)) ∧
      (ofExchange round (heard nb 3 s) = true → exec (.refuse nb round) s = .next (cancelAgreement (setNeighbour nb (fun x => { x with answered := true, accepted := false }) (heard nb 3 s)))) ∧
      (ofExchange round (heard nb 3 s) = false → exec (.refuse nb round) s = .next (heard nb 3 s)) ∧
      exec (.cancel nb round) s = .next (ofRound nb round (fun x => { x with consent := false }) (heard nb 4 s)) ∧
      exec (.committed nb round) s = .next (ofRound nb round (fun x => { x with committed := true }) (heard nb 5 s)) ∧
      exec (.wake nb round) s = .next (ofRound nb round (fun x => { x with consent := false }) (heard nb 6 s)) ∧
      (consentEnds s nb = true → exec (.consentExpiry nb) s = .next (setNeighbour nb (fun x => { x with consent := false }) s))) ∧
  (∀ (t : State) (s : State),
      planesRun s = true →
      s.power.fallow.mode = .preparing →
      s.power.fallow.quiesced = false →
      chestClean s = some t →
      exec .chestQuiesceDone s = .next (fallowTry (setFallow { t.power.fallow with quiesced := true } t))) ∧
  (∀ (t : Nat) (s : State),
      planesRun s = true →
      s.power.fallow.mode = .fallow →
      (earliest s = some t → t ≤ ktb s + tWake → exec .selfWake s = .next (startWake s)) ∧
      (∀ r, exec (.wakeRequestDeferred r) s = .next (wakeDeferral r (startWake s)))) ∧
  (∀ (s : State),
      planesRun s = true →
      s.power.fallow.mode = .waking →
      exec .fallowWakeDone s = .next (wakeDone s))

/-- A step runs the command at the front of the queue on the state with the queue's rest, and idles one tick on an empty queue. The queue and the idle tick are the model's own (log 4) -/
def Obligations.StepRunsFront : Prop :=
  (∀ (c : Instr) (rest : List Instr) (s : State), s.pending = c :: rest → step s = exec c { s with pending := rest }) ∧
      (∀ s : State, s.pending = [] → step s = .next (tick s))

/-- While the planes stand still, no step over commands of the planes changes anything but the queue, the timebase and the count of free values. -/
def Obligations.PlanesStandStill : Prop :=
  ∀ (u s t : State), StandsStill u s → step s = .next t → StandsStill u t

/-- Without power no step changes anything but the queue, the timebase, the registers and the level at HALT_IN_N, until PWRGOOD rises. -/
def Obligations.UnpoweredKeepsState : Prop :=
  ∀ (u s t : State), Unpowered u s → step s = .next t → Unpowered u t

/-- Before the first power-on the tenancy is UNASSIGNED, every register holds its reset value, every slot is FREE and nothing waits. A reset value that the spec does not give is the model's own (the log entries on reset values) -/
def Obligations.ResetState : Prop :=
  State.reset.pending = [] ∧ State.reset.out = [] ∧ State.reset.power.pwrgood = false ∧ State.reset.power.stage = .s0 ∧
      State.reset.sec.tenancy = .unassigned ∧ (∀ h : Nat, handleCheck State.reset h = some .tenant) ∧
      (∀ (r : Reg) (d : Die) (i : Nat), live State.reset r d i = regReset r i) ∧
      (∀ slot : Nat, (desc State.reset slot).state = .free) ∧ (∀ d : Die, ktbOf State.reset d = 0) ∧
      StandsStill State.reset State.reset ∧ Unpowered State.reset State.reset

/-- The maximum, rint, the fixed sum tree and the table T are those of R197, R203 and R208. -/
def Obligations.FurrowArithmetic : Prop :=
  (∀ a b : F32, isNaN a = true ∨ isNaN b = true → isNaN (fMax a b) = true) ∧
      (∀ a b : F32, isNaN a = false → isNaN b = false → (fMax a b = a ∨ fMax a b = b) ∧ fLt (fMax a b) a = false ∧ fLt (fMax a b) b = false) ∧
      (∀ (a b : F32) (p q : Bool) (m n : Nat) (e f : Int), val32 a = .fin p m e → val32 b = .fin q n f →
        (fLt a b = true ↔ ratOf p m e < ratOf q n f)) ∧
      (∀ a : F32, isNaN a = false → fMax (fInf true) a = a ∧ fMax a (fInf true) = a ∧ fMax (fInf false) a = fInf false ∧ fMax a (fInf false) = fInf false) ∧
      fMax 0x00000000 0x80000000 = 0 ∧ fMax 0x80000000 0x00000000 = 0 ∧
      (∀ (a : F32) (p : Bool) (m : Nat) (e : Int), val32 a = .fin p m e →
        -(1 / 2) ≤ ratOf p m e - (rintZ a : Rat) ∧ ratOf p m e - (rintZ a : Rat) ≤ 1 / 2 ∧
        ((ratOf p m e - (rintZ a : Rat) = 1 / 2 ∨ ratOf p m e - (rintZ a : Rat) = -(1 / 2)) → rintZ a % 2 = 0)) ∧
      (∀ x : F32, treeSum [x] = x) ∧
      (∀ (xs : List F32) (k : Nat), 2 ^ k < xs.length → xs.length ≤ 2 ^ (k + 1) → k < 32 →
        treeSum xs = fAdd (treeSum (xs.take (2 ^ k))) (treeSum (xs.drop (2 ^ k)))) ∧
      expTable.length = 64 ∧ expTable.getD 0 0 = 0x3F800000 ∧ expTable.getD 32 0 = 0x3FB504F3 ∧
      (∀ j : Nat, j < 64 → ∃ m : Nat, val32 (expTable.getD j 0) = .fin false m (-23) ∧
        (2 * m - 1) ^ 64 < 2 ^ (j + 24 * 64) ∧ 2 ^ (j + 24 * 64) < (2 * m + 1) ^ 64)

/-- Two partials merge as R211 says: EMPTY is the unit, the order of the two does not matter, and the order of merges does. -/
def Obligations.MergeRule : Prop :=
  (∀ b : Option Partial, mergePartial none b = b) ∧ (∀ a : Option Partial, mergePartial a none = a) ∧
      (∀ a b : Partial, mergePartial (some a) (some b) =
        some { m := fMax a.m b.m,
               l := fAdd (fMul a.l (exp32 (fSub a.m (fMax a.m b.m)))) (fMul b.l (exp32 (fSub b.m (fMax a.m b.m)))),
               o := (a.o.zip b.o).map (fun z =>
                 fAdd (fMul z.1 (exp32 (fSub a.m (fMax a.m b.m)))) (fMul z.2 (exp32 (fSub b.m (fMax a.m b.m))))) }) ∧
      (∀ a b : F32, isFin a = true → isFin b = true →
        exp32 (fSub a (fMax a b)) = 0x3F800000 ∨ exp32 (fSub b (fMax a b)) = 0x3F800000) ∧
      (∀ a b : Option Partial, mergePartial a b = mergePartial b a) ∧
      (∃ a b c : Option Partial, mergePartial (mergePartial a b) c ≠ mergePartial a (mergePartial b c)) ∧
      (∀ (fmt dv : Nat) (ps : List (Option (F32 × OpRow))) (p : Partial), sheafPartial fmt dv ps = some p → p.m ≠ fEmpty) ∧
      (∀ (fmt dv : Nat) (ps : List (Option (F32 × OpRow))), (∀ x ∈ ps, ∀ y, x = some y → y.1 = fEmpty) → sheafPartial fmt dv ps = none) ∧
      (∀ a b c : Partial, a.m ≠ fEmpty → b.m ≠ fEmpty → mergePartial (some a) (some b) = some c → c.m ≠ fEmpty)

/-- The energy of an interval is shared out whole, the device account keeps the floor and the remainder, and no account gets more than its weight's part. -/
def Obligations.EnergyShares : Prop :=
  (∀ (e floor : Nat) (ws : NMap Nat), ((apportion e floor ws).map Prod.snd).sum = e) ∧
      (∀ (e floor : Nat) (ws : NMap Nat), e < floor → apportion e floor ws = [(4096, e)]) ∧
      (∀ (e floor : Nat) (ws : NMap Nat), floor ≤ e → (ws.map Prod.snd).sum ≠ 0 →
        (apportion e floor ws).map Prod.fst = ws.map Prod.fst ++ [4096] ∧
        ∀ x ∈ (apportion e floor ws).dropLast, ∃ w, (x.1, w) ∈ ws ∧ x.2 * (ws.map Prod.snd).sum ≤ (e - floor) * w) ∧
      (∀ (usage : List (Nat × Nat × Nat)) (s : State), ((energyShares usage s).map Prod.snd).sum = s.power.energyUj - s.obs.energyMark)

/-- No read of a register, by any requester and at any address, tells the value of a key or of the device's unique secret. -/
def Obligations.KeysNotReadable : Prop :=
  ∀ (q : Requester) (a : Nat) (f : Nat → Nat → Nat) (g : Nat → Nat) (s : State),
      (readAccess q a (otherKeys f g s)).1 = (readAccess q a s).1 ∧ (readAccess q a (otherKeys f g s)).2.1 = (readAccess q a s).2.1

/-- The checks of R63 run in order, and a session command that fails one ends with its status and nothing else. -/
def Obligations.HandleChecks : Prop :=
  (∀ (s : State) (h : Nat), s.sec.tenancy ≠ .bound ∨ (desc s (slotOf h)).tenancyEpoch ≠ s.sec.epoch → handleCheck s h = some .tenant) ∧
      (∀ (s : State) (h : Nat), s.sec.tenancy = .bound → (desc s (slotOf h)).tenancyEpoch = s.sec.epoch →
        (genOf h ≠ (desc s (slotOf h)).gen → handleCheck s h = some .staleGen) ∧
        (genOf h = (desc s (slotOf h)).gen → (desc s (slotOf h)).state = .free ∨ (desc s (slotOf h)).state = .retiring → handleCheck s h = some .badHandle) ∧
        (genOf h = (desc s (slotOf h)).gen → (desc s (slotOf h)).state ≠ .free → (desc s (slotOf h)).state ≠ .retiring → handleCheck s h = none)) ∧
      (∀ (i : Instr) (sq cid h : Nat) (st : Status) (s : State), namesSession i = some (sq, cid, h) → Served s sq → sq ≠ 0 →
        handleCheck s h = some st → exec i s = .next (settle (postCqe sq cid st 0 0 s)))

/-- Security, power, the TAP, observation, checkpoint timers and primacy leave every other part of the device as it was. -/
def Obligations.FrameControl : Prop :=
  ∀ (i : Instr) (p : Part) (s t : State), partOf i = some p → p = .control ∨ p = .observation ∨ p = .recovery → exec i s = .next t → Within p s t

/-- Host queues, Tines, the network's timers and handshakes, the session directory and the Chest's timers leave every other part of the device as it was. -/
def Obligations.FrameUnits : Prop :=
  ∀ (i : Instr) (p : Part) (s t : State), partOf i = some p → p = .bureau ∨ p = .store ∨ p = .tine ∨ p = .queue ∨ p = .transport →
      exec i s = .next t → Within p s t

/-- A scalar instruction changes its own Tine's context alone, and of it its destination register, the program counter and the bytes it stores. -/
def Obligations.FrameScalar : Prop :=
  ∀ (i : Instr) (k : Nat) (rd : BitVec 6) (c : TineCtx) (s t : State), scalarDest i = some (k, rd) → exec i s = .next t →
      NMap.get? s.tin.tines k = some c →
      (∀ j, j ≠ k → NMap.get? t.tin.tines j = NMap.get? s.tin.tines j) ∧
      (∀ d, NMap.get? t.tin.tines k = some d →
        (∀ r : BitVec 6, r ≠ rd → tineReg d r = tineReg c r) ∧
        (d.system = c.system ∧ d.slot = c.slot ∧ d.handle = c.handle ∧ d.image = c.image ∧ d.evCode = c.evCode ∧ d.dispatchAt = c.dispatchAt ∧
          d.budget = c.budget ∧ d.stall = c.stall) ∧
        (∀ a, a < (storeSpan i c).1 ∨ (storeSpan i c).1 + (storeSpan i c).2 ≤ a → Cells.read d.data a = Cells.read c.data a))
end

