-- ==== Sys2Proof/Laws/Exec.lean ====
section
/-!
SUPPORT. One lemma per command: exec of it is its meaning, so that no proof unfolds the dispatch of all commands.
-/
namespace Sys2Proof.Machine

@[simp] theorem exec_registerWrite (r : Requester) (addr : BitVec 40) (v : Word) (s : State) :
    exec (.registerWrite r addr v) s = execRegisterWrite r addr v s := rfl
@[simp] theorem exec_cfgCommit (y : Yoke) (r : Requester) (gen : Nat) (mask : Nat) (tag : Nat) (silent : List Nat) (s : State) :
    exec (.cfgCommit y r gen mask tag silent) s = execCfgCommit y r gen mask tag silent s := rfl
@[simp] theorem exec_scheduledCommit (y : Yoke) (r : Requester) (gen : Nat) (mask : Nat) (tag : Nat) (silent : List Nat) (s : State) :
    exec (.scheduledCommit y r gen mask tag silent) s = execScheduledCommit y r gen mask tag silent s := rfl
@[simp] theorem exec_commitCancel (r : Requester) (gen : Nat) (tag : Nat) (s : State) :
    exec (.commitCancel r gen tag) s = execCommitCancel r gen tag s := rfl
@[simp] theorem exec_commitAnswerTimeout (s : State) : exec .commitAnswerTimeout s = execCommitAnswerTimeout s := rfl
@[simp] theorem exec_commitApplyAt (s : State) : exec .commitApplyAt s = execCommitApplyAt s := rfl
@[simp] theorem exec_configFingerprint (s : State) : exec .configFingerprint s = execConfigFingerprint s := rfl
@[simp] theorem exec_divergenceGraceExpiry (entry : Nat) (s : State) :
    exec (.divergenceGraceExpiry entry) s = execDivergenceGraceExpiry entry s := rfl
@[simp] theorem exec_yokKtbFreqWrite (y : Yoke) (v : Word) (s : State) : exec (.yokKtbFreqWrite y v) s = execYokKtbFreqWrite y v s := rfl
@[simp] theorem exec_yokKtbSlewWrite (y : Yoke) (v : Word) (s : State) : exec (.yokKtbSlewWrite y v) s = execYokKtbSlewWrite y v s := rfl
@[simp] theorem exec_yokKtbStepWrite (y : Yoke) (v : Word) (s : State) : exec (.yokKtbStepWrite y v) s = execYokKtbStepWrite y v s := rfl
@[simp] theorem exec_ppsInEdge (y : Yoke) (s : State) : exec (.ppsInEdge y) s = execPpsInEdge y s := rfl
@[simp] theorem exec_ppsOutPulse (s : State) : exec .ppsOutPulse s = execPpsOutPulse s := rfl
@[simp] theorem exec_acreTimeTransfer (a : Acre) (s : State) : exec (.acreTimeTransfer a) s = execAcreTimeTransfer a s := rfl
@[simp] theorem exec_pwrSpeedSample (die : Nat) (speed : Nat) (source : Nat) (s : State) :
    exec (.pwrSpeedSample die speed source) s = execPwrSpeedSample die speed source s := rfl
@[simp] theorem exec_linkFence (link : Nat) (s : State) : exec (.linkFence link) s = execLinkFence link s := rfl
@[simp] theorem exec_openSession (sq : Nat) (cid : Nat) (buf : List Byte) (s : State) :
    exec (.openSession sq cid buf) s = execOpenSession sq cid buf s := rfl
@[simp] theorem exec_park (sq : Nat) (cid : Nat) (handle : Nat) (s : State) : exec (.park sq cid handle) s = execPark sq cid handle s := rfl
@[simp] theorem exec_revive (sq : Nat) (cid : Nat) (handle : Nat) (s : State) :
    exec (.revive sq cid handle) s = execRevive sq cid handle s := rfl
@[simp] theorem exec_dormant (sq : Nat) (cid : Nat) (handle : Nat) (s : State) :
    exec (.dormant sq cid handle) s = execDormant sq cid handle s := rfl
@[simp] theorem exec_migrate (sq : Nat) (cid : Nat) (handle : Nat) (device : Nat) (tier : Nat) (target : Option Nat) (conn : Nat) (s : State) :
    exec (.migrate sq cid handle device tier target conn) s = execMigrate sq cid handle device tier target conn s := rfl
@[simp] theorem exec_retire (sq : Nat) (cid : Nat) (handle : Nat) (s : State) :
    exec (.retire sq cid handle) s = execRetire sq cid handle s := rfl
@[simp] theorem exec_retireComplete (slot : Nat) (s : State) : exec (.retireComplete slot) s = execRetireComplete slot s := rfl
@[simp] theorem exec_wakeSet (sq : Nat) (cid : Nat) (handle : Nat) (en : Nat) (deadline : Nat) (s : State) :
    exec (.wakeSet sq cid handle en deadline) s = execWakeSet sq cid handle en deadline s := rfl
@[simp] theorem exec_deadlineWake (slot : Nat) (s : State) : exec (.deadlineWake slot) s = execDeadlineWake slot s := rfl
@[simp] theorem exec_queuedWakeAdmit (principal : Nat) (s : State) :
    exec (.queuedWakeAdmit principal) s = execQueuedWakeAdmit principal s := rfl
@[simp] theorem exec_revivalFetchStart (acre : Acre) (s : State) : exec (.revivalFetchStart acre) s = execRevivalFetchStart acre s := rfl
@[simp] theorem exec_revivalReady (slot : Nat) (s : State) : exec (.revivalReady slot) s = execRevivalReady slot s := rfl
@[simp] theorem exec_descRead (sq : Nat) (cid : Nat) (handle : Nat) (dlen : Nat) (s : State) :
    exec (.descRead sq cid handle dlen) s = execDescRead sq cid handle dlen s := rfl
@[simp] theorem exec_getx (acre : Acre) (slot : Nat) (s : State) : exec (.getx acre slot) s = execGetx acre slot s := rfl
@[simp] theorem exec_recall (slot : Nat) (s : State) : exec (.recall slot) s = execRecall slot s := rfl
@[simp] theorem exec_shelfWb (slot : Nat) (s : State) : exec (.shelfWb slot) s = execShelfWb slot s := rfl
@[simp] theorem exec_getxGrant (slot : Nat) (s : State) : exec (.getxGrant slot) s = execGetxGrant slot s := rfl
@[simp] theorem exec_getxRetry (acre : Acre) (s : State) : exec (.getxRetry acre) s = execGetxRetry acre s := rfl
@[simp] theorem exec_shelfEvict (acre : Acre) (slot : Nat) (s : State) : exec (.shelfEvict acre slot) s = execShelfEvict acre slot s := rfl
@[simp] theorem exec_profileUnbind (sq : Nat) (cid : Nat) (profile : Nat) (s : State) :
    exec (.profileUnbind sq cid profile) s = execProfileUnbind sq cid profile s := rfl
@[simp] theorem exec_writeBackRound (obj : Nat) (s : State) : exec (.writeBackRound obj) s = execWriteBackRound obj s := rfl
@[simp] theorem exec_writeBackComplete (obj : Nat) (s : State) : exec (.writeBackComplete obj) s = execWriteBackComplete obj s := rfl
@[simp] theorem exec_nearEvict (acre : Acre) (s : State) : exec (.nearEvict acre) s = execNearEvict acre s := rfl
@[simp] theorem exec_stackFetchForAppend (slot : Nat) (k : Nat) (s : State) :
    exec (.stackFetchForAppend slot k) s = execStackFetchForAppend slot k s := rfl
@[simp] theorem exec_setPolicy (sq : Nat) (cid : Nat) (handle : Nat) (tier : Nat) (target : Nat) (fill : Nat) (s : State) :
    exec (.setPolicy sq cid handle tier target fill) s = execSetPolicy sq cid handle tier target fill s := rfl
@[simp] theorem exec_setHome (sq : Nat) (cid : Nat) (t : DirTarget) (tier : Nat) (target : Nat) (s : State) :
    exec (.setHome sq cid t tier target) s = execSetHome sq cid t tier target s := rfl
@[simp] theorem exec_homeMoveCopyDone (obj : Nat) (s : State) : exec (.homeMoveCopyDone obj) s = execHomeMoveCopyDone obj s := rfl
@[simp] theorem exec_oldRunFree (obj : Nat) (s : State) : exec (.oldRunFree obj) s = execOldRunFree obj s := rfl
@[simp] theorem exec_stage (sq : Nat) (cid : Nat) (t : DirTarget) (s : State) : exec (.stage sq cid t) s = execStage sq cid t s := rfl
@[simp] theorem exec_unstage (sq : Nat) (cid : Nat) (t : DirTarget) (s : State) : exec (.unstage sq cid t) s = execUnstage sq cid t s := rfl
@[simp] theorem exec_prefetch (sq : Nat) (cid : Nat) (t : DirTarget) (lo : Nat) (hi : Nat) (s : State) :
    exec (.prefetch sq cid t lo hi) s = execPrefetch sq cid t lo hi s := rfl
@[simp] theorem exec_evict (sq : Nat) (cid : Nat) (t : DirTarget) (s : State) : exec (.evict sq cid t) s = execEvict sq cid t s := rfl
@[simp] theorem exec_pin (sq : Nat) (cid : Nat) (t : DirTarget) (s : State) : exec (.pin sq cid t) s = execPin sq cid t s := rfl
@[simp] theorem exec_unpin (sq : Nat) (cid : Nat) (t : DirTarget) (s : State) : exec (.unpin sq cid t) s = execUnpin sq cid t s := rfl
@[simp] theorem exec_prefixCreate (sq : Nat) (cid : Nat) (handle : Nat) (len : Nat) (principal : Nat) (s : State) :
    exec (.prefixCreate sq cid handle len principal) s = execPrefixCreate sq cid handle len principal s := rfl
@[simp] theorem exec_prefixRetire (sq : Nat) (cid : Nat) (id : Nat) (s : State) :
    exec (.prefixRetire sq cid id) s = execPrefixRetire sq cid id s := rfl
@[simp] theorem exec_borrowEmpty (borrow : Nat) (s : State) : exec (.borrowEmpty borrow) s = execBorrowEmpty borrow s := rfl
@[simp] theorem exec_chestWrite (obj : Nat) (s : State) : exec (.chestWrite obj) s = execChestWrite obj s := rfl
@[simp] theorem exec_chestWriteDurable (index : Nat) (s : State) : exec (.chestWriteDurable index) s = execChestWriteDurable index s := rfl
@[simp] theorem exec_chestPieceRead (loc : Nat) (drive : Nat) (outcome : Status) (s : State) :
    exec (.chestPieceRead loc drive outcome) s = execChestPieceRead loc drive outcome s := rfl
@[simp] theorem exec_stagingDone (obj : Nat) (s : State) : exec (.stagingDone obj) s = execStagingDone obj s := rfl
@[simp] theorem exec_nvmeCompletion (drive : Nat) (cid : Nat) (media : Bool) (s : State) :
    exec (.nvmeCompletion drive cid media) s = execNvmeCompletion drive cid media s := rfl
@[simp] theorem exec_nvmeCmdTimeout (drive : Nat) (cid : Nat) (abortOk : Bool) (resetOk : Bool) (s : State) :
    exec (.nvmeCmdTimeout drive cid abortOk resetOk) s = execNvmeCmdTimeout drive cid abortOk resetOk s := rfl
@[simp] theorem exec_driveFailed (drive : Nat) (unreachable : Bool) (s : State) :
    exec (.driveFailed drive unreachable) s = execDriveFailed drive unreachable s := rfl
@[simp] theorem exec_driveLinkUp (drive : Nat) (segments : Nat) (vwc : Bool) (same : Bool) (s : State) :
    exec (.driveLinkUp drive segments vwc same) s = execDriveLinkUp drive segments vwc same s := rfl
@[simp] theorem exec_journalGroupClose (s : State) : exec .journalGroupClose s = execJournalGroupClose s := rfl
@[simp] theorem exec_journalGroupDurable (s : State) : exec .journalGroupDurable s = execJournalGroupDurable s := rfl
@[simp] theorem exec_mapCheckpoint (s : State) : exec .mapCheckpoint s = execMapCheckpoint s := rfl
@[simp] theorem exec_harrowCollect (drive : Nat) (s : State) : exec (.harrowCollect drive) s = execHarrowCollect drive s := rfl
@[simp] theorem exec_harrowDeallocate (drive : Nat) (seg : Nat) (s : State) :
    exec (.harrowDeallocate drive seg) s = execHarrowDeallocate drive seg s := rfl
@[simp] theorem exec_chestMount (s : State) : exec .chestMount s = execChestMount s := rfl
@[simp] theorem exec_smartPoll (drive : Nat) (pct : Nat) (crit : Nat) (event : Bool) (s : State) :
    exec (.smartPoll drive pct crit event) s = execSmartPoll drive pct crit event s := rfl
@[simp] theorem exec_chestFormat (sq : Nat) (cid : Nat) (s : State) : exec (.chestFormat sq cid) s = execChestFormat sq cid s := rfl
@[simp] theorem exec_chestAttach (sq : Nat) (cid : Nat) (drive : Nat) (s : State) :
    exec (.chestAttach sq cid drive) s = execChestAttach sq cid drive s := rfl
@[simp] theorem exec_arqBatchTake (arq : Nat) (s : State) : exec (.arqBatchTake arq) s = execArqBatchTake arq s := rfl
@[simp] theorem exec_sampleHoldTimeout (entry : Nat) (s : State) : exec (.sampleHoldTimeout entry) s = execSampleHoldTimeout entry s := rfl
@[simp] theorem exec_itemDispatch (acre : Acre) (s : State) : exec (.itemDispatch acre) s = execItemDispatch acre s := rfl
@[simp] theorem exec_itemComplete (furrow : Nat) (s : State) : exec (.itemComplete furrow) s = execItemComplete furrow s := rfl
@[simp] theorem exec_entryComplete (entry : Nat) (s : State) : exec (.entryComplete entry) s = execEntryComplete entry s := rfl
@[simp] theorem exec_batchResponse (arq : Nat) (serial : Nat) (s : State) :
    exec (.batchResponse arq serial) s = execBatchResponse arq serial s := rfl
@[simp] theorem exec_preemptSave (acre : Acre) (s : State) : exec (.preemptSave acre) s = execPreemptSave acre s := rfl
@[simp] theorem exec_preemptSaveDone (furrow : Nat) (s : State) : exec (.preemptSaveDone furrow) s = execPreemptSaveDone furrow s := rfl
@[simp] theorem exec_prefillRestore (acre : Acre) (s : State) : exec (.prefillRestore acre) s = execPrefillRestore acre s := rfl
@[simp] theorem exec_arqErrorClear (arq : Nat) (s : State) : exec (.arqErrorClear arq) s = execArqErrorClear arq s := rfl
@[simp] theorem exec_tkqRecordApply (tkq : Nat) (s : State) : exec (.tkqRecordApply tkq) s = execTkqRecordApply tkq s := rfl
@[simp] theorem exec_tkqErrorClear (tkq : Nat) (s : State) : exec (.tkqErrorClear tkq) s = execTkqErrorClear tkq s := rfl
@[simp] theorem exec_trim (sq : Nat) (cid : Nat) (handle : Nat) (target : Nat) (s : State) :
    exec (.trim sq cid handle target) s = execTrim sq cid handle target s := rfl
@[simp] theorem exec_setFloor (sq : Nat) (cid : Nat) (handle : Nat) (floor : Nat) (s : State) :
    exec (.setFloor sq cid handle floor) s = execSetFloor sq cid handle floor s := rfl
@[simp] theorem exec_genSet (sq : Nat) (cid : Nat) (handle : Nat) (buf : List Byte) (s : State) :
    exec (.genSet sq cid handle buf) s = execGenSet sq cid handle buf s := rfl
@[simp] theorem exec_srqBatchTake (srq : Nat) (s : State) : exec (.srqBatchTake srq) s = execSrqBatchTake srq s := rfl
@[simp] theorem exec_srqErrorClear (srq : Nat) (s : State) : exec (.srqErrorClear srq) s = execSrqErrorClear srq s := rfl
@[simp] theorem exec_centroidPassDone (gleaner : Nat) (s : State) :
    exec (.centroidPassDone gleaner) s = execCentroidPassDone gleaner s := rfl
@[simp] theorem exec_listVisitDone (gleaner : Nat) (s : State) : exec (.listVisitDone gleaner) s = execListVisitDone gleaner s := rfl
@[simp] theorem exec_searchMerge (serial : Nat) (s : State) : exec (.searchMerge serial) s = execSearchMerge serial s := rfl
@[simp] theorem exec_gleanerSwitch (gleaner : Nat) (s : State) : exec (.gleanerSwitch gleaner) s = execGleanerSwitch gleaner s := rfl
@[simp] theorem exec_idxCreate (sq : Nat) (cid : Nat) (target : Nat) (buf : List Byte) (s : State) :
    exec (.idxCreate sq cid target buf) s = execIdxCreate sq cid target buf s := rfl
@[simp] theorem exec_idxLoad (sq : Nat) (cid : Nat) (handle : Nat) (list : Nat) (buf : List Byte) (s : State) :
    exec (.idxLoad sq cid handle list buf) s = execIdxLoad sq cid handle list buf s := rfl
@[simp] theorem exec_idxPublish (sq : Nat) (cid : Nat) (handle : Nat) (s : State) :
    exec (.idxPublish sq cid handle) s = execIdxPublish sq cid handle s := rfl
@[simp] theorem exec_idxCompact (sq : Nat) (cid : Nat) (handle : Nat) (s : State) :
    exec (.idxCompact sq cid handle) s = execIdxCompact sq cid handle s := rfl
@[simp] theorem exec_compactionBuildDone (gleaner : Nat) (s : State) :
    exec (.compactionBuildDone gleaner) s = execCompactionBuildDone gleaner s := rfl
@[simp] theorem exec_compactionSwitch (slot : Nat) (s : State) : exec (.compactionSwitch slot) s = execCompactionSwitch slot s := rfl
@[simp] theorem exec_idxRetire (sq : Nat) (cid : Nat) (handle : Nat) (s : State) :
    exec (.idxRetire sq cid handle) s = execIdxRetire sq cid handle s := rfl
@[simp] theorem exec_shardDeadline (serial : Nat) (s : State) : exec (.shardDeadline serial) s = execShardDeadline serial s := rfl
@[simp] theorem exec_imageLoad (sq : Nat) (cid : Nat) (b : List Byte) (verifies : Bool) (s : State) :
    exec (.imageLoad sq cid b verifies) s = execImageLoad sq cid b verifies s := rfl
@[simp] theorem exec_imageUnload (sq : Nat) (cid : Nat) (id : Nat) (s : State) :
    exec (.imageUnload sq cid id) s = execImageUnload sq cid id s := rfl
@[simp] theorem exec_routeSet (sq : Nat) (cid : Nat) (principal : Nat) (route : Nat) (conn : Nat) (base : Nat) (len : Nat) (key : Nat) (perm : Nat) (s : State) :
    exec (.routeSet sq cid principal route conn base len key perm) s = execRouteSet sq cid principal route conn base len key perm s := rfl
@[simp] theorem exec_eventDispatch (acre : Acre) (s : State) : exec (.eventDispatch acre) s = execEventDispatch acre s := rfl
@[simp] theorem exec_handlerBudgetExpire (tine : Nat) (s : State) :
    exec (.handlerBudgetExpire tine) s = execHandlerBudgetExpire tine s := rfl
@[simp] theorem exec_programTimer (slot : Nat) (tag : Nat) (s : State) :
    exec (.programTimer slot tag) s = execProgramTimer slot tag s := rfl
@[simp] theorem exec_sqTailDoorbell (sq : Nat) (tail : Nat) (entries : List (List Byte)) (s : State) :
    exec (.sqTailDoorbell sq tail entries) s = execSqTailDoorbell sq tail entries s := rfl
@[simp] theorem exec_cqHeadDoorbell (cq : Nat) (head : Nat) (s : State) :
    exec (.cqHeadDoorbell cq head) s = execCqHeadDoorbell cq head s := rfl
@[simp] theorem exec_streamRingDoorbell (ring : Nat) (count : Nat) (s : State) :
    exec (.streamRingDoorbell ring count) s = execStreamRingDoorbell ring count s := rfl
@[simp] theorem exec_eventRingDoorbell (ring : Nat) (count : Nat) (s : State) :
    exec (.eventRingDoorbell ring count) s = execEventRingDoorbell ring count s := rfl
@[simp] theorem exec_msixCoalesce (kind : Nat) (n : Nat) (s : State) : exec (.msixCoalesce kind n) s = execMsixCoalesce kind n s := rfl
@[simp] theorem exec_yokHqNegotiate (range : BitVec 32) (s : State) : exec (.yokHqNegotiate range) s = execYokHqNegotiate range s := rfl
@[simp] theorem exec_yokHqAqEn (enable : Bool) (s : State) : exec (.yokHqAqEn enable) s = execYokHqAqEn enable s := rfl
@[simp] theorem exec_createQp (sq : Nat) (cid : Nat) (q : Nat) (sqBase : Nat) (cqBase : Nat) (sqLog2 : Nat) (cqLog2 : Nat) (vector : Nat) (s : State) :
    exec (.createQp sq cid q sqBase cqBase sqLog2 cqLog2 vector) s = execCreateQp sq cid q sqBase cqBase sqLog2 cqLog2 vector s := rfl
@[simp] theorem exec_deleteQp (sq : Nat) (cid : Nat) (q : Nat) (s : State) : exec (.deleteQp sq cid q) s = execDeleteQp sq cid q s := rfl
@[simp] theorem exec_streamCreate (sq : Nat) (cid : Nat) (ring : Nat) (base : Nat) (k : Nat) (paddr : Nat) (vector : Nat) (s : State) :
    exec (.streamCreate sq cid ring base k paddr vector) s = execStreamCreate sq cid ring base k paddr vector s := rfl
@[simp] theorem exec_streamDelete (sq : Nat) (cid : Nat) (ring : Nat) (s : State) :
    exec (.streamDelete sq cid ring) s = execStreamDelete sq cid ring s := rfl
@[simp] theorem exec_evringCreate (sq : Nat) (cid : Nat) (ring : Nat) (base : Nat) (k : Nat) (paddr : Nat) (vector : Nat) (s : State) :
    exec (.evringCreate sq cid ring base k paddr vector) s = execEvringCreate sq cid ring base k paddr vector s := rfl
@[simp] theorem exec_evringDelete (sq : Nat) (cid : Nat) (ring : Nat) (s : State) :
    exec (.evringDelete sq cid ring) s = execEvringDelete sq cid ring s := rfl
@[simp] theorem exec_configWrite (sq : Nat) (cid : Nat) (b : List Byte) (s : State) :
    exec (.configWrite sq cid b) s = execConfigWrite sq cid b s := rfl
@[simp] theorem exec_configRead (sq : Nat) (cid : Nat) (b : List Byte) (s : State) :
    exec (.configRead sq cid b) s = execConfigRead sq cid b s := rfl
@[simp] theorem exec_configCommit (sq : Nat) (cid : Nat) (passed : Bool) (gen : Nat) (mask : Nat) (at_ : Nat) (cancel : Bool) (tag : Nat) (silent : List Nat) (s : State) :
    exec (.configCommit sq cid passed gen mask at_ cancel tag silent) s = execConfigCommit sq cid passed gen mask at_ cancel tag silent s := rfl
@[simp] theorem exec_deadlineSet (sq : Nat) (cid : Nat) (handle : Nat) (cMax : Nat) (qMax : Nat) (dReq : Nat) (s : State) :
    exec (.deadlineSet sq cid handle cMax qMax dReq) s = execDeadlineSet sq cid handle cMax qMax dReq s := rfl
@[simp] theorem exec_deadlineClear (sq : Nat) (cid : Nat) (handle : Nat) (s : State) :
    exec (.deadlineClear sq cid handle) s = execDeadlineClear sq cid handle s := rfl
@[simp] theorem exec_abort (sq : Nat) (cid : Nat) (tsq : Nat) (tcid : Nat) (s : State) :
    exec (.abort sq cid tsq tcid) s = execAbort sq cid tsq tcid s := rfl
@[simp] theorem exec_add (tine : Nat) (rd : BitVec 6) (rs1 : BitVec 6) (rs2 : BitVec 6) (s : State) :
    exec (.add tine rd rs1 rs2) s = execAdd tine rd rs1 rs2 s := rfl
@[simp] theorem exec_sub (tine : Nat) (rd : BitVec 6) (rs1 : BitVec 6) (rs2 : BitVec 6) (s : State) :
    exec (.sub tine rd rs1 rs2) s = execSub tine rd rs1 rs2 s := rfl
@[simp] theorem exec_andReg (tine : Nat) (rd : BitVec 6) (rs1 : BitVec 6) (rs2 : BitVec 6) (s : State) :
    exec (.andReg tine rd rs1 rs2) s = execAndReg tine rd rs1 rs2 s := rfl
@[simp] theorem exec_orReg (tine : Nat) (rd : BitVec 6) (rs1 : BitVec 6) (rs2 : BitVec 6) (s : State) :
    exec (.orReg tine rd rs1 rs2) s = execOrReg tine rd rs1 rs2 s := rfl
@[simp] theorem exec_xorReg (tine : Nat) (rd : BitVec 6) (rs1 : BitVec 6) (rs2 : BitVec 6) (s : State) :
    exec (.xorReg tine rd rs1 rs2) s = execXorReg tine rd rs1 rs2 s := rfl
@[simp] theorem exec_sll (tine : Nat) (rd : BitVec 6) (rs1 : BitVec 6) (rs2 : BitVec 6) (s : State) :
    exec (.sll tine rd rs1 rs2) s = execSll tine rd rs1 rs2 s := rfl
@[simp] theorem exec_srl (tine : Nat) (rd : BitVec 6) (rs1 : BitVec 6) (rs2 : BitVec 6) (s : State) :
    exec (.srl tine rd rs1 rs2) s = execSrl tine rd rs1 rs2 s := rfl
@[simp] theorem exec_sra (tine : Nat) (rd : BitVec 6) (rs1 : BitVec 6) (rs2 : BitVec 6) (s : State) :
    exec (.sra tine rd rs1 rs2) s = execSra tine rd rs1 rs2 s := rfl
@[simp] theorem exec_slt (tine : Nat) (rd : BitVec 6) (rs1 : BitVec 6) (rs2 : BitVec 6) (s : State) :
    exec (.slt tine rd rs1 rs2) s = execSlt tine rd rs1 rs2 s := rfl
@[simp] theorem exec_sltu (tine : Nat) (rd : BitVec 6) (rs1 : BitVec 6) (rs2 : BitVec 6) (s : State) :
    exec (.sltu tine rd rs1 rs2) s = execSltu tine rd rs1 rs2 s := rfl
@[simp] theorem exec_min (tine : Nat) (rd : BitVec 6) (rs1 : BitVec 6) (rs2 : BitVec 6) (s : State) :
    exec (.min tine rd rs1 rs2) s = execMin tine rd rs1 rs2 s := rfl
@[simp] theorem exec_max (tine : Nat) (rd : BitVec 6) (rs1 : BitVec 6) (rs2 : BitVec 6) (s : State) :
    exec (.max tine rd rs1 rs2) s = execMax tine rd rs1 rs2 s := rfl
@[simp] theorem exec_minu (tine : Nat) (rd : BitVec 6) (rs1 : BitVec 6) (rs2 : BitVec 6) (s : State) :
    exec (.minu tine rd rs1 rs2) s = execMinu tine rd rs1 rs2 s := rfl
@[simp] theorem exec_maxu (tine : Nat) (rd : BitVec 6) (rs1 : BitVec 6) (rs2 : BitVec 6) (s : State) :
    exec (.maxu tine rd rs1 rs2) s = execMaxu tine rd rs1 rs2 s := rfl
@[simp] theorem exec_mul (tine : Nat) (rd : BitVec 6) (rs1 : BitVec 6) (rs2 : BitVec 6) (s : State) :
    exec (.mul tine rd rs1 rs2) s = execMul tine rd rs1 rs2 s := rfl
@[simp] theorem exec_mulh (tine : Nat) (rd : BitVec 6) (rs1 : BitVec 6) (rs2 : BitVec 6) (s : State) :
    exec (.mulh tine rd rs1 rs2) s = execMulh tine rd rs1 rs2 s := rfl
@[simp] theorem exec_mulhu (tine : Nat) (rd : BitVec 6) (rs1 : BitVec 6) (rs2 : BitVec 6) (s : State) :
    exec (.mulhu tine rd rs1 rs2) s = execMulhu tine rd rs1 rs2 s := rfl
@[simp] theorem exec_div (tine : Nat) (rd : BitVec 6) (rs1 : BitVec 6) (rs2 : BitVec 6) (s : State) :
    exec (.div tine rd rs1 rs2) s = execDiv tine rd rs1 rs2 s := rfl
@[simp] theorem exec_divu (tine : Nat) (rd : BitVec 6) (rs1 : BitVec 6) (rs2 : BitVec 6) (s : State) :
    exec (.divu tine rd rs1 rs2) s = execDivu tine rd rs1 rs2 s := rfl
@[simp] theorem exec_rem (tine : Nat) (rd : BitVec 6) (rs1 : BitVec 6) (rs2 : BitVec 6) (s : State) :
    exec (.rem tine rd rs1 rs2) s = execRem tine rd rs1 rs2 s := rfl
@[simp] theorem exec_remu (tine : Nat) (rd : BitVec 6) (rs1 : BitVec 6) (rs2 : BitVec 6) (s : State) :
    exec (.remu tine rd rs1 rs2) s = execRemu tine rd rs1 rs2 s := rfl
@[simp] theorem exec_addi (tine : Nat) (rd : BitVec 6) (rs1 : BitVec 6) (imm : BitVec 13) (s : State) :
    exec (.addi tine rd rs1 imm) s = execAddi tine rd rs1 imm s := rfl
@[simp] theorem exec_andi (tine : Nat) (rd : BitVec 6) (rs1 : BitVec 6) (imm : BitVec 13) (s : State) :
    exec (.andi tine rd rs1 imm) s = execAndi tine rd rs1 imm s := rfl
@[simp] theorem exec_ori (tine : Nat) (rd : BitVec 6) (rs1 : BitVec 6) (imm : BitVec 13) (s : State) :
    exec (.ori tine rd rs1 imm) s = execOri tine rd rs1 imm s := rfl
@[simp] theorem exec_xori (tine : Nat) (rd : BitVec 6) (rs1 : BitVec 6) (imm : BitVec 13) (s : State) :
    exec (.xori tine rd rs1 imm) s = execXori tine rd rs1 imm s := rfl
@[simp] theorem exec_slti (tine : Nat) (rd : BitVec 6) (rs1 : BitVec 6) (imm : BitVec 13) (s : State) :
    exec (.slti tine rd rs1 imm) s = execSlti tine rd rs1 imm s := rfl
@[simp] theorem exec_sltiu (tine : Nat) (rd : BitVec 6) (rs1 : BitVec 6) (imm : BitVec 13) (s : State) :
    exec (.sltiu tine rd rs1 imm) s = execSltiu tine rd rs1 imm s := rfl
@[simp] theorem exec_slli (tine : Nat) (rd : BitVec 6) (rs1 : BitVec 6) (sh : BitVec 6) (mbz : BitVec 5) (s : State) :
    exec (.slli tine rd rs1 sh mbz) s = execSlli tine rd rs1 sh mbz s := rfl
@[simp] theorem exec_srli (tine : Nat) (rd : BitVec 6) (rs1 : BitVec 6) (sh : BitVec 6) (mbz : BitVec 5) (s : State) :
    exec (.srli tine rd rs1 sh mbz) s = execSrli tine rd rs1 sh mbz s := rfl
@[simp] theorem exec_srai (tine : Nat) (rd : BitVec 6) (rs1 : BitVec 6) (sh : BitVec 6) (mbz : BitVec 5) (s : State) :
    exec (.srai tine rd rs1 sh mbz) s = execSrai tine rd rs1 sh mbz s := rfl
@[simp] theorem exec_liShort (tine : Nat) (rd : BitVec 6) (imm : BitVec 19) (s : State) :
    exec (.liShort tine rd imm) s = execLiShort tine rd imm s := rfl
@[simp] theorem exec_liLong (tine : Nat) (rd : BitVec 6) (imm : BitVec 51) (s : State) :
    exec (.liLong tine rd imm) s = execLiLong tine rd imm s := rfl
@[simp] theorem exec_lpc (tine : Nat) (rd : BitVec 6) (imm : BitVec 19) (s : State) :
    exec (.lpc tine rd imm) s = execLpc tine rd imm s := rfl
@[simp] theorem exec_jal (tine : Nat) (rd : BitVec 6) (imm : BitVec 19) (s : State) :
    exec (.jal tine rd imm) s = execJal tine rd imm s := rfl
@[simp] theorem exec_jalr (tine : Nat) (rd : BitVec 6) (rs1 : BitVec 6) (imm : BitVec 13) (s : State) :
    exec (.jalr tine rd rs1 imm) s = execJalr tine rd rs1 imm s := rfl
@[simp] theorem exec_beq (tine : Nat) (rs1 : BitVec 6) (rs2 : BitVec 6) (off : BitVec 13) (s : State) :
    exec (.beq tine rs1 rs2 off) s = execBeq tine rs1 rs2 off s := rfl
@[simp] theorem exec_bne (tine : Nat) (rs1 : BitVec 6) (rs2 : BitVec 6) (off : BitVec 13) (s : State) :
    exec (.bne tine rs1 rs2 off) s = execBne tine rs1 rs2 off s := rfl
@[simp] theorem exec_blt (tine : Nat) (rs1 : BitVec 6) (rs2 : BitVec 6) (off : BitVec 13) (s : State) :
    exec (.blt tine rs1 rs2 off) s = execBlt tine rs1 rs2 off s := rfl
@[simp] theorem exec_bge (tine : Nat) (rs1 : BitVec 6) (rs2 : BitVec 6) (off : BitVec 13) (s : State) :
    exec (.bge tine rs1 rs2 off) s = execBge tine rs1 rs2 off s := rfl
@[simp] theorem exec_bltu (tine : Nat) (rs1 : BitVec 6) (rs2 : BitVec 6) (off : BitVec 13) (s : State) :
    exec (.bltu tine rs1 rs2 off) s = execBltu tine rs1 rs2 off s := rfl
@[simp] theorem exec_bgeu (tine : Nat) (rs1 : BitVec 6) (rs2 : BitVec 6) (off : BitVec 13) (s : State) :
    exec (.bgeu tine rs1 rs2 off) s = execBgeu tine rs1 rs2 off s := rfl
@[simp] theorem exec_ldB (tine : Nat) (rd : BitVec 6) (rs1 : BitVec 6) (imm : BitVec 13) (s : State) :
    exec (.ldB tine rd rs1 imm) s = execLdB tine rd rs1 imm s := rfl
@[simp] theorem exec_ldH (tine : Nat) (rd : BitVec 6) (rs1 : BitVec 6) (imm : BitVec 13) (s : State) :
    exec (.ldH tine rd rs1 imm) s = execLdH tine rd rs1 imm s := rfl
@[simp] theorem exec_ldW (tine : Nat) (rd : BitVec 6) (rs1 : BitVec 6) (imm : BitVec 13) (s : State) :
    exec (.ldW tine rd rs1 imm) s = execLdW tine rd rs1 imm s := rfl
@[simp] theorem exec_ldD (tine : Nat) (rd : BitVec 6) (rs1 : BitVec 6) (imm : BitVec 13) (s : State) :
    exec (.ldD tine rd rs1 imm) s = execLdD tine rd rs1 imm s := rfl
@[simp] theorem exec_stB (tine : Nat) (rs2 : BitVec 6) (rs1 : BitVec 6) (imm : BitVec 13) (s : State) :
    exec (.stB tine rs2 rs1 imm) s = execStB tine rs2 rs1 imm s := rfl
@[simp] theorem exec_stH (tine : Nat) (rs2 : BitVec 6) (rs1 : BitVec 6) (imm : BitVec 13) (s : State) :
    exec (.stH tine rs2 rs1 imm) s = execStH tine rs2 rs1 imm s := rfl
@[simp] theorem exec_stW (tine : Nat) (rs2 : BitVec 6) (rs1 : BitVec 6) (imm : BitVec 13) (s : State) :
    exec (.stW tine rs2 rs1 imm) s = execStW tine rs2 rs1 imm s := rfl
@[simp] theorem exec_stD (tine : Nat) (rs2 : BitVec 6) (rs1 : BitVec 6) (imm : BitVec 13) (s : State) :
    exec (.stD tine rs2 rs1 imm) s = execStD tine rs2 rs1 imm s := rfl
@[simp] theorem exec_dldB (tine : Nat) (rd : BitVec 6) (rs1 : BitVec 6) (imm : BitVec 13) (s : State) :
    exec (.dldB tine rd rs1 imm) s = execDldB tine rd rs1 imm s := rfl
@[simp] theorem exec_dldH (tine : Nat) (rd : BitVec 6) (rs1 : BitVec 6) (imm : BitVec 13) (s : State) :
    exec (.dldH tine rd rs1 imm) s = execDldH tine rd rs1 imm s := rfl
@[simp] theorem exec_dldW (tine : Nat) (rd : BitVec 6) (rs1 : BitVec 6) (imm : BitVec 13) (s : State) :
    exec (.dldW tine rd rs1 imm) s = execDldW tine rd rs1 imm s := rfl
@[simp] theorem exec_dldD (tine : Nat) (rd : BitVec 6) (rs1 : BitVec 6) (imm : BitVec 13) (s : State) :
    exec (.dldD tine rd rs1 imm) s = execDldD tine rd rs1 imm s := rfl
@[simp] theorem exec_dstB (tine : Nat) (rs2 : BitVec 6) (rs1 : BitVec 6) (imm : BitVec 13) (s : State) :
    exec (.dstB tine rs2 rs1 imm) s = execDstB tine rs2 rs1 imm s := rfl
@[simp] theorem exec_dstH (tine : Nat) (rs2 : BitVec 6) (rs1 : BitVec 6) (imm : BitVec 13) (s : State) :
    exec (.dstH tine rs2 rs1 imm) s = execDstH tine rs2 rs1 imm s := rfl
@[simp] theorem exec_dstW (tine : Nat) (rs2 : BitVec 6) (rs1 : BitVec 6) (imm : BitVec 13) (s : State) :
    exec (.dstW tine rs2 rs1 imm) s = execDstW tine rs2 rs1 imm s := rfl
@[simp] theorem exec_dstD (tine : Nat) (rs2 : BitVec 6) (rs1 : BitVec 6) (imm : BitVec 13) (s : State) :
    exec (.dstD tine rs2 rs1 imm) s = execDstD tine rs2 rs1 imm s := rfl
@[simp] theorem exec_evret (tine : Nat) (rd : BitVec 6) (rs1 : BitVec 6) (rs2 : BitVec 6) (s : State) :
    exec (.evret tine rd rs1 rs2) s = execEvret tine rd rs1 rs2 s := rfl
@[simp] theorem exec_fault (tine : Nat) (code : BitVec 6) (rs1 : BitVec 6) (rs2 : BitVec 6) (s : State) :
    exec (.fault tine code rs1 rs2) s = execFault tine code rs1 rs2 s := rfl
@[simp] theorem exec_ktb (tine : Nat) (rd : BitVec 6) (rs1 : BitVec 6) (rs2 : BitVec 6) (s : State) :
    exec (.ktb tine rd rs1 rs2) s = execKtb tine rd rs1 rs2 s := rfl
@[simp] theorem exec_rreg (tine : Nat) (rd : BitVec 6) (rs1 : BitVec 6) (rs2 : BitVec 6) (s : State) :
    exec (.rreg tine rd rs1 rs2) s = execRreg tine rd rs1 rs2 s := rfl
@[simp] theorem exec_wreg (tine : Nat) (rd : BitVec 6) (rs1 : BitVec 6) (rs2 : BitVec 6) (s : State) :
    exec (.wreg tine rd rs1 rs2) s = execWreg tine rd rs1 rs2 s := rfl
@[simp] theorem exec_ksiPark (tine : Nat) (rd : BitVec 6) (rs1 : BitVec 6) (rs2 : BitVec 6) (rs3 : BitVec 6) (imm : BitVec 25) (s : State) :
    exec (.ksiPark tine rd rs1 rs2 rs3 imm) s = execKsiPark tine rd rs1 rs2 rs3 imm s := rfl
@[simp] theorem exec_parkA (tine : Nat) (rd : BitVec 6) (rs1 : BitVec 6) (rs2 : BitVec 6) (rs3 : BitVec 6) (imm : BitVec 25) (s : State) :
    exec (.parkA tine rd rs1 rs2 rs3 imm) s = execParkA tine rd rs1 rs2 rs3 imm s := rfl
@[simp] theorem exec_ksiRevive (tine : Nat) (rd : BitVec 6) (rs1 : BitVec 6) (rs2 : BitVec 6) (rs3 : BitVec 6) (imm : BitVec 25) (s : State) :
    exec (.ksiRevive tine rd rs1 rs2 rs3 imm) s = execKsiRevive tine rd rs1 rs2 rs3 imm s := rfl
@[simp] theorem exec_ksiTrim (tine : Nat) (rd : BitVec 6) (rs1 : BitVec 6) (rs2 : BitVec 6) (rs3 : BitVec 6) (imm : BitVec 25) (s : State) :
    exec (.ksiTrim tine rd rs1 rs2 rs3 imm) s = execKsiTrim tine rd rs1 rs2 rs3 imm s := rfl
@[simp] theorem exec_rdesc (tine : Nat) (rd : BitVec 6) (rs1 : BitVec 6) (rs2 : BitVec 6) (rs3 : BitVec 6) (imm : BitVec 25) (s : State) :
    exec (.rdesc tine rd rs1 rs2 rs3 imm) s = execRdesc tine rd rs1 rs2 rs3 imm s := rfl
@[simp] theorem exec_post (tine : Nat) (rd : BitVec 6) (rs1 : BitVec 6) (rs2 : BitVec 6) (rs3 : BitVec 6) (imm : BitVec 25) (s : State) :
    exec (.post tine rd rs1 rs2 rs3 imm) s = execPost tine rd rs1 rs2 rs3 imm s := rfl
@[simp] theorem exec_attn (tine : Nat) (rd : BitVec 6) (rs1 : BitVec 6) (rs2 : BitVec 6) (rs3 : BitVec 6) (imm : BitVec 25) (s : State) :
    exec (.attn tine rd rs1 rs2 rs3 imm) s = execAttn tine rd rs1 rs2 rs3 imm s := rfl
@[simp] theorem exec_append (tine : Nat) (rd : BitVec 6) (rs1 : BitVec 6) (rs2 : BitVec 6) (rs3 : BitVec 6) (imm : BitVec 25) (s : State) :
    exec (.append tine rd rs1 rs2 rs3 imm) s = execAppend tine rd rs1 rs2 rs3 imm s := rfl
@[simp] theorem exec_srch (tine : Nat) (rd : BitVec 6) (rs1 : BitVec 6) (rs2 : BitVec 6) (rs3 : BitVec 6) (imm : BitVec 25) (s : State) :
    exec (.srch tine rd rs1 rs2 rs3 imm) s = execSrch tine rd rs1 rs2 rs3 imm s := rfl
@[simp] theorem exec_rwrite (tine : Nat) (rd : BitVec 6) (rs1 : BitVec 6) (rs2 : BitVec 6) (rs3 : BitVec 6) (imm : BitVec 25) (s : State) :
    exec (.rwrite tine rd rs1 rs2 rs3 imm) s = execRwrite tine rd rs1 rs2 rs3 imm s := rfl
@[simp] theorem exec_rread (tine : Nat) (rd : BitVec 6) (rs1 : BitVec 6) (rs2 : BitVec 6) (rs3 : BitVec 6) (imm : BitVec 25) (s : State) :
    exec (.rread tine rd rs1 rs2 rs3 imm) s = execRread tine rd rs1 rs2 rs3 imm s := rfl
@[simp] theorem exec_waitT (tine : Nat) (rd : BitVec 6) (rs1 : BitVec 6) (rs2 : BitVec 6) (rs3 : BitVec 6) (imm : BitVec 25) (s : State) :
    exec (.waitT tine rd rs1 rs2 rs3 imm) s = execWaitT tine rd rs1 rs2 rs3 imm s := rfl
@[simp] theorem exec_waitC (tine : Nat) (rd : BitVec 6) (rs1 : BitVec 6) (rs2 : BitVec 6) (rs3 : BitVec 6) (imm : BitVec 25) (s : State) :
    exec (.waitC tine rd rs1 rs2 rs3 imm) s = execWaitC tine rd rs1 rs2 rs3 imm s := rfl
@[simp] theorem exec_ckpt (tine : Nat) (rd : BitVec 6) (rs1 : BitVec 6) (rs2 : BitVec 6) (rs3 : BitVec 6) (imm : BitVec 25) (s : State) :
    exec (.ckpt tine rd rs1 rs2 rs3 imm) s = execCkpt tine rd rs1 rs2 rs3 imm s := rfl
@[simp] theorem exec_signalRead (tine : Nat) (rd : BitVec 6) (rs1 : BitVec 6) (rs2 : BitVec 6) (rs3 : BitVec 6) (mbz : BitVec 21) (s : State) :
    exec (.signalRead tine rd rs1 rs2 rs3 mbz) s = execSignalRead tine rd rs1 rs2 rs3 mbz s := rfl
@[simp] theorem exec_signalGe (tine : Nat) (rd : BitVec 6) (rs1 : BitVec 6) (rs2 : BitVec 6) (rs3 : BitVec 6) (mbz : BitVec 21) (s : State) :
    exec (.signalGe tine rd rs1 rs2 rs3 mbz) s = execSignalGe tine rd rs1 rs2 rs3 mbz s := rfl
@[simp] theorem exec_signalNe (tine : Nat) (rd : BitVec 6) (rs1 : BitVec 6) (rs2 : BitVec 6) (rs3 : BitVec 6) (mbz : BitVec 21) (s : State) :
    exec (.signalNe tine rd rs1 rs2 rs3 mbz) s = execSignalNe tine rd rs1 rs2 rs3 mbz s := rfl
@[simp] theorem exec_signalPhase (tine : Nat) (rd : BitVec 6) (rs1 : BitVec 6) (rs2 : BitVec 6) (rs3 : BitVec 6) (mbz : BitVec 21) (s : State) :
    exec (.signalPhase tine rd rs1 rs2 rs3 mbz) s = execSignalPhase tine rd rs1 rs2 rs3 mbz s := rfl
@[simp] theorem exec_signalFree (tine : Nat) (rd : BitVec 6) (rs1 : BitVec 6) (rs2 : BitVec 6) (rs3 : BitVec 6) (mbz : BitVec 21) (s : State) :
    exec (.signalFree tine rd rs1 rs2 rs3 mbz) s = execSignalFree tine rd rs1 rs2 rs3 mbz s := rfl
@[simp] theorem exec_armGe (tine : Nat) (rd : BitVec 6) (rs1 : BitVec 6) (rs2 : BitVec 6) (rs3 : BitVec 6) (mbz : BitVec 21) (s : State) :
    exec (.armGe tine rd rs1 rs2 rs3 mbz) s = execArmGe tine rd rs1 rs2 rs3 mbz s := rfl
@[simp] theorem exec_armNe (tine : Nat) (rd : BitVec 6) (rs1 : BitVec 6) (rs2 : BitVec 6) (rs3 : BitVec 6) (mbz : BitVec 21) (s : State) :
    exec (.armNe tine rd rs1 rs2 rs3 mbz) s = execArmNe tine rd rs1 rs2 rs3 mbz s := rfl
@[simp] theorem exec_armPhase (tine : Nat) (rd : BitVec 6) (rs1 : BitVec 6) (rs2 : BitVec 6) (rs3 : BitVec 6) (mbz : BitVec 21) (s : State) :
    exec (.armPhase tine rd rs1 rs2 rs3 mbz) s = execArmPhase tine rd rs1 rs2 rs3 mbz s := rfl
@[simp] theorem exec_armFree (tine : Nat) (rd : BitVec 6) (rs1 : BitVec 6) (rs2 : BitVec 6) (rs3 : BitVec 6) (mbz : BitVec 21) (s : State) :
    exec (.armFree tine rd rs1 rs2 rs3 mbz) s = execArmFree tine rd rs1 rs2 rs3 mbz s := rfl
@[simp] theorem exec_signalLock (tine : Nat) (rd : BitVec 6) (rs1 : BitVec 6) (rs2 : BitVec 6) (rs3 : BitVec 6) (mbz : BitVec 21) (s : State) :
    exec (.signalLock tine rd rs1 rs2 rs3 mbz) s = execSignalLock tine rd rs1 rs2 rs3 mbz s := rfl
@[simp] theorem exec_signalP (tine : Nat) (rd : BitVec 6) (rs1 : BitVec 6) (rs2 : BitVec 6) (rs3 : BitVec 6) (mbz : BitVec 21) (s : State) :
    exec (.signalP tine rd rs1 rs2 rs3 mbz) s = execSignalP tine rd rs1 rs2 rs3 mbz s := rfl
@[simp] theorem exec_signalArrive (tine : Nat) (rd : BitVec 6) (rs1 : BitVec 6) (rs2 : BitVec 6) (rs3 : BitVec 6) (mbz : BitVec 21) (s : State) :
    exec (.signalArrive tine rd rs1 rs2 rs3 mbz) s = execSignalArrive tine rd rs1 rs2 rs3 mbz s := rfl
@[simp] theorem exec_unlock (tine : Nat) (rd : BitVec 6) (rs1 : BitVec 6) (rs2 : BitVec 6) (rs3 : BitVec 6) (mbz : BitVec 21) (s : State) :
    exec (.unlock tine rd rs1 rs2 rs3 mbz) s = execUnlock tine rd rs1 rs2 rs3 mbz s := rfl
@[simp] theorem exec_signalV (tine : Nat) (rd : BitVec 6) (rs1 : BitVec 6) (rs2 : BitVec 6) (rs3 : BitVec 6) (mbz : BitVec 21) (s : State) :
    exec (.signalV tine rd rs1 rs2 rs3 mbz) s = execSignalV tine rd rs1 rs2 rs3 mbz s := rfl
@[simp] theorem exec_signalAdd (tine : Nat) (rd : BitVec 6) (rs1 : BitVec 6) (rs2 : BitVec 6) (rs3 : BitVec 6) (mbz : BitVec 21) (s : State) :
    exec (.signalAdd tine rd rs1 rs2 rs3 mbz) s = execSignalAdd tine rd rs1 rs2 rs3 mbz s := rfl
@[simp] theorem exec_disarm (tine : Nat) (rd : BitVec 6) (rs1 : BitVec 6) (rs2 : BitVec 6) (rs3 : BitVec 6) (mbz : BitVec 21) (s : State) :
    exec (.disarm tine rd rs1 rs2 rs3 mbz) s = execDisarm tine rd rs1 rs2 rs3 mbz s := rfl
@[simp] theorem exec_waitGe (tine : Nat) (rd : BitVec 6) (rs1 : BitVec 6) (rs2 : BitVec 6) (rs3 : BitVec 6) (mbz : BitVec 21) (s : State) :
    exec (.waitGe tine rd rs1 rs2 rs3 mbz) s = execWaitGe tine rd rs1 rs2 rs3 mbz s := rfl
@[simp] theorem exec_waitNe (tine : Nat) (rd : BitVec 6) (rs1 : BitVec 6) (rs2 : BitVec 6) (rs3 : BitVec 6) (mbz : BitVec 21) (s : State) :
    exec (.waitNe tine rd rs1 rs2 rs3 mbz) s = execWaitNe tine rd rs1 rs2 rs3 mbz s := rfl
@[simp] theorem exec_waitPhase (tine : Nat) (rd : BitVec 6) (rs1 : BitVec 6) (rs2 : BitVec 6) (rs3 : BitVec 6) (mbz : BitVec 21) (s : State) :
    exec (.waitPhase tine rd rs1 rs2 rs3 mbz) s = execWaitPhase tine rd rs1 rs2 rs3 mbz s := rfl
@[simp] theorem exec_waitFree (tine : Nat) (rd : BitVec 6) (rs1 : BitVec 6) (rs2 : BitVec 6) (rs3 : BitVec 6) (mbz : BitVec 21) (s : State) :
    exec (.waitFree tine rd rs1 rs2 rs3 mbz) s = execWaitFree tine rd rs1 rs2 rs3 mbz s := rfl
@[simp] theorem exec_waitLock (tine : Nat) (rd : BitVec 6) (rs1 : BitVec 6) (rs2 : BitVec 6) (rs3 : BitVec 6) (mbz : BitVec 21) (s : State) :
    exec (.waitLock tine rd rs1 rs2 rs3 mbz) s = execWaitLock tine rd rs1 rs2 rs3 mbz s := rfl
@[simp] theorem exec_waitP (tine : Nat) (rd : BitVec 6) (rs1 : BitVec 6) (rs2 : BitVec 6) (rs3 : BitVec 6) (mbz : BitVec 21) (s : State) :
    exec (.waitP tine rd rs1 rs2 rs3 mbz) s = execWaitP tine rd rs1 rs2 rs3 mbz s := rfl
@[simp] theorem exec_waitArrive (tine : Nat) (rd : BitVec 6) (rs1 : BitVec 6) (rs2 : BitVec 6) (rs3 : BitVec 6) (mbz : BitVec 21) (s : State) :
    exec (.waitArrive tine rd rs1 rs2 rs3 mbz) s = execWaitArrive tine rd rs1 rs2 rs3 mbz s := rfl
@[simp] theorem exec_waitTimeout (obj : Nat) (slot : Nat) (tag : Nat) (s : State) :
    exec (.waitTimeout obj slot tag) s = execWaitTimeout obj slot tag s := rfl
@[simp] theorem exec_waitForSearch (obj : Nat) (slot : Nat) (tag : Nat) (s : State) :
    exec (.waitForSearch obj slot tag) s = execWaitForSearch obj slot tag s := rfl
@[simp] theorem exec_deadlockFail (obj : Nat) (slot : Nat) (tag : Nat) (s : State) :
    exec (.deadlockFail obj slot tag) s = execDeadlockFail obj slot tag s := rfl
@[simp] theorem exec_synOp (acre : Acre) (index : BitVec 14) (code : BitVec 4) (s : State) :
    exec (.synOp acre index code) s = execSynOp acre index code s := rfl
@[simp] theorem exec_synOpForce (acre : Acre) (index : BitVec 14) (s : State) :
    exec (.synOpForce acre index) s = execSynOpForce acre index s := rfl
@[simp] theorem exec_kltWrite (h : KHdr) (data : List Byte) (s : State) : exec (.kltWrite h data) s = execKltWrite h data s := rfl
@[simp] theorem exec_frameWrite (h : KHdr) (frame : List Byte) (tag : List Byte) (s : State) :
    exec (.frameWrite h frame tag) s = execFrameWrite h frame tag s := rfl
@[simp] theorem exec_readReq (h : KHdr) (s : State) : exec (.readReq h) s = execReadReq h s := rfl
@[simp] theorem exec_frameReadReq (h : KHdr) (s : State) : exec (.frameReadReq h) s = execFrameReadReq h s := rfl
@[simp] theorem exec_readExecute (conn : Nat) (s : State) : exec (.readExecute conn) s = execReadExecute conn s := rfl
@[simp] theorem exec_readRsp (h : KHdr) (data : List Byte) (s : State) : exec (.readRsp h data) s = execReadRsp h data s := rfl
@[simp] theorem exec_frameReadRsp (h : KHdr) (frame : List Byte) (tag : List Byte) (plain : List Byte) (good : Bool) (s : State) :
    exec (.frameReadRsp h frame tag plain good) s = execFrameReadRsp h frame tag plain good s := rfl
@[simp] theorem exec_readUnitTimeout (conn : Nat) (msn : Nat) (unit : Nat) (s : State) :
    exec (.readUnitTimeout conn msn unit) s = execReadUnitTimeout conn msn unit s := rfl
@[simp] theorem exec_ack (a : KAck) (s : State) : exec (.ack a) s = execAck a s := rfl
@[simp] theorem exec_ackDelayExpiry (conn : Nat) (s : State) : exec (.ackDelayExpiry conn) s = execAckDelayExpiry conn s := rfl
@[simp] theorem exec_lossDetect (conn : Nat) (psn : Nat) (s : State) : exec (.lossDetect conn psn) s = execLossDetect conn psn s := rfl
@[simp] theorem exec_ccWindowEnd (conn : Nat) (s : State) : exec (.ccWindowEnd conn) s = execCcWindowEnd conn s := rfl
@[simp] theorem exec_connectReq (r : ConnReq) (s : State) : exec (.connectReq r) s = execConnectReq r s := rfl
@[simp] theorem exec_connectRsp (r : ConnRsp) (s : State) : exec (.connectRsp r) s = execConnectRsp r s := rfl
@[simp] theorem exec_connectResend (conn : Nat) (s : State) : exec (.connectResend conn) s = execConnectResend conn s := rfl
@[simp] theorem exec_close (dconn : Nat) (cgen : Nat) (sep : Nat) (s : State) :
    exec (.close dconn cgen sep) s = execClose dconn cgen sep s := rfl
@[simp] theorem exec_closeAck (dconn : Nat) (cgen : Nat) (sep : Nat) (s : State) :
    exec (.closeAck dconn cgen sep) s = execCloseAck dconn cgen sep s := rfl
@[simp] theorem exec_closeResend (conn : Nat) (s : State) : exec (.closeResend conn) s = execCloseResend conn s := rfl
@[simp] theorem exec_heartbeat (sep : Nat) (b : Beat) (s : State) : exec (.heartbeat sep b) s = execHeartbeat sep b s := rfl
@[simp] theorem exec_heartbeatSend (entry : Nat) (s : State) : exec (.heartbeatSend entry) s = execHeartbeatSend entry s := rfl
@[simp] theorem exec_peerDown (entry : Nat) (s : State) : exec (.peerDown entry) s = execPeerDown entry s := rfl
@[simp] theorem exec_connOpen (y : Yoke) (s : State) : exec (.connOpen y) s = execConnOpen y s := rfl
@[simp] theorem exec_connClose (y : Yoke) (s : State) : exec (.connClose y) s = execConnClose y s := rfl
@[simp] theorem exec_regRegister (y : Yoke) (s : State) : exec (.regRegister y) s = execRegRegister y s := rfl
@[simp] theorem exec_regRevoke (y : Yoke) (s : State) : exec (.regRevoke y) s = execRegRevoke y s := rfl
@[simp] theorem exec_pwqCreate (y : Yoke) (s : State) : exec (.pwqCreate y) s = execPwqCreate y s := rfl
@[simp] theorem exec_pwqDelete (y : Yoke) (s : State) : exec (.pwqDelete y) s = execPwqDelete y s := rfl
@[simp] theorem exec_mclSet (y : Yoke) (s : State) : exec (.mclSet y) s = execMclSet y s := rfl
@[simp] theorem exec_pwqRequestStart (q : Nat) (s : State) : exec (.pwqRequestStart q) s = execPwqRequestStart q s := rfl
@[simp] theorem exec_pwqRequestComplete (q : Nat) (idx : Nat) (s : State) :
    exec (.pwqRequestComplete q idx) s = execPwqRequestComplete q idx s := rfl
@[simp] theorem exec_pwqErrorClear (q : Nat) (s : State) : exec (.pwqErrorClear q) s = execPwqErrorClear q s := rfl
@[simp] theorem exec_egressSelect (port : Nat) (s : State) : exec (.egressSelect port) s = execEgressSelect port s := rfl
@[simp] theorem exec_shaperRefill (port : Nat) (s : State) : exec (.shaperRefill port) s = execShaperRefill port s := rfl
@[simp] theorem exec_queueSample (port : Nat) (s : State) : exec (.queueSample port) s = execQueueSample port s := rfl
@[simp] theorem exec_gateEdge (y : Yoke) (s : State) : exec (.gateEdge y) s = execGateEdge y s := rfl
@[simp] theorem exec_gclTakeover (y : Yoke) (s : State) : exec (.gclTakeover y) s = execGclTakeover y s := rfl
@[simp] theorem exec_ptpSync (port : Nat) (seq : Nat) (t1 : Option Nat) (ts : Nat) (s : State) :
    exec (.ptpSync port seq t1 ts) s = execPtpSync port seq t1 ts s := rfl
@[simp] theorem exec_ptpFollowUp (port : Nat) (seq : Nat) (t1 : Nat) (s : State) :
    exec (.ptpFollowUp port seq t1) s = execPtpFollowUp port seq t1 s := rfl
@[simp] theorem exec_ptpDelayResp (port : Nat) (seq : Nat) (t4 : Nat) (s : State) :
    exec (.ptpDelayResp port seq t4) s = execPtpDelayResp port seq t4 s := rfl
@[simp] theorem exec_ptpDelayReq (port : Nat) (seq : Nat) (ts : Nat) (s : State) :
    exec (.ptpDelayReq port seq ts) s = execPtpDelayReq port seq ts s := rfl
@[simp] theorem exec_ptpAnnounce (port : Nat) (domain : Nat) (c : PtpClock) (s : State) :
    exec (.ptpAnnounce port domain c) s = execPtpAnnounce port domain c s := rfl
@[simp] theorem exec_ptpSendTimer (port : Nat) (s : State) : exec (.ptpSendTimer port) s = execPtpSendTimer port s := rfl
@[simp] theorem exec_ptpSyncLoss (s : State) : exec .ptpSyncLoss s = execPtpSyncLoss s := rfl
@[simp] theorem exec_hello (y : Yoke) (minVer : Nat) (maxVer : Nat) (cred : Nat) (s : State) :
    exec (.hello y minVer maxVer cred) s = execHello y minVer maxVer cred s := rfl
@[simp] theorem exec_auth (y : Yoke) (session : Nat) (verifies : Bool) (s : State) :
    exec (.auth y session verifies) s = execAuth y session verifies s := rfl
@[simp] theorem exec_mgmtIdleTimeout (y : Yoke) (session : Nat) (s : State) :
    exec (.mgmtIdleTimeout y session) s = execMgmtIdleTimeout y session s := rfl
@[simp] theorem exec_mgmtLockoutExpiry (y : Yoke) (s : State) : exec (.mgmtLockoutExpiry y) s = execMgmtLockoutExpiry y s := rfl
@[simp] theorem exec_getInfo (q : MgmtReq) (s : State) : exec (.getInfo q) s = execGetInfo q s := rfl
@[simp] theorem exec_getChain (q : MgmtReq) (slot : Nat) (off : Nat) (more : Bool) (s : State) :
    exec (.getChain q slot off more) s = execGetChain q slot off more s := rfl
@[simp] theorem exec_sessionClose (q : MgmtReq) (s : State) : exec (.sessionClose q) s = execSessionClose q s := rfl
@[simp] theorem exec_regRead (q : MgmtReq) (addr : BitVec 40) (s : State) : exec (.regRead q addr) s = execRegRead q addr s := rfl
@[simp] theorem exec_regWrite (q : MgmtReq) (addr : BitVec 40) (v : Word) (s : State) :
    exec (.regWrite q addr v) s = execRegWrite q addr v s := rfl
@[simp] theorem exec_mgmtConfigCommit (q : MgmtReq) (gen : Nat) (mask : Nat) (at_ : Option Nat) (cancel : Bool) (tag : Nat) (silent : List Nat) (s : State) :
    exec (.mgmtConfigCommit q gen mask at_ cancel tag silent) s = execMgmtConfigCommit q gen mask at_ cancel tag silent s := rfl
@[simp] theorem exec_reset (q : MgmtReq) (kind : Nat) (y : Yoke) (s : State) : exec (.reset q kind y) s = execReset q kind y s := rfl
@[simp] theorem exec_fenceCore (q : MgmtReq) (die : Nat) (kind : Nat) (n : Nat) (hit : List Nat) (s : State) :
    exec (.fenceCore q die kind n hit) s = execFenceCore q die kind n hit s := rfl
@[simp] theorem exec_fwStage (q : MgmtReq) (image : FwImage) (verifies : Bool) (s : State) :
    exec (.fwStage q image verifies) s = execFwStage q image verifies s := rfl
@[simp] theorem exec_fwActivate (q : MgmtReq) (advance : Bool) (s : State) :
    exec (.fwActivate q advance) s = execFwActivate q advance s := rfl
@[simp] theorem exec_bindBegin (q : MgmtReq) (b : BindReq) (s : State) : exec (.bindBegin q b) s = execBindBegin q b s := rfl
@[simp] theorem exec_bindCommit (q : MgmtReq) (s : State) : exec (.bindCommit q) s = execBindCommit q s := rfl
@[simp] theorem exec_bindAbort (q : MgmtReq) (s : State) : exec (.bindAbort q) s = execBindAbort q s := rfl
@[simp] theorem exec_bindTimeout (s : State) : exec .bindTimeout s = execBindTimeout s := rfl
@[simp] theorem exec_release (q : MgmtReq) (s : State) : exec (.release q) s = execRelease q s := rfl
@[simp] theorem exec_releaseScrubDone (s : State) : exec .releaseScrubDone s = execReleaseScrubDone s := rfl
@[simp] theorem exec_zeroise (q : MgmtReq) (s : State) : exec (.zeroise q) s = execZeroise q s := rfl
@[simp] theorem exec_spdmRelay (q : MgmtReq) (r : SpdmReq) (s : State) : exec (.spdmRelay q r) s = execSpdmRelay q r s := rfl
@[simp] theorem exec_credAdd (q : MgmtReq) (key : Nat) (roles : Nat) (s : State) :
    exec (.credAdd q key roles) s = execCredAdd q key roles s := rfl
@[simp] theorem exec_credRemove (q : MgmtReq) (slot : Nat) (s : State) : exec (.credRemove q slot) s = execCredRemove q slot s := rfl
@[simp] theorem exec_deploy (q : MgmtReq) (key : Nat) (s : State) : exec (.deploy q key) s = execDeploy q key s := rfl
@[simp] theorem exec_decommission (q : MgmtReq) (s : State) : exec (.decommission q) s = execDecommission q s := rfl
@[simp] theorem exec_debugChallenge (q : MgmtReq) (s : State) : exec (.debugChallenge q) s = execDebugChallenge q s := rfl
@[simp] theorem exec_debugUnlock (q : MgmtReq) (t : Option Consent) (s : State) : exec (.debugUnlock q t) s = execDebugUnlock q t s := rfl
@[simp] theorem exec_debugLock (q : MgmtReq) (s : State) : exec (.debugLock q) s = execDebugLock q s := rfl
@[simp] theorem exec_debugUnlockExpiry (s : State) : exec .debugUnlockExpiry s = execDebugUnlockExpiry s := rfl
@[simp] theorem exec_eventSubscribe (q : MgmtReq) (s : State) : exec (.eventSubscribe q) s = execEventSubscribe q s := rfl
@[simp] theorem exec_traceTrigger (q : MgmtReq) (s : State) : exec (.traceTrigger q) s = execTraceTrigger q s := rfl
@[simp] theorem exec_halt (q : MgmtReq) (s : State) : exec (.halt q) s = execHalt q s := rfl
@[simp] theorem exec_scanOut (q : MgmtReq) (die : Nat) (chain : Nat) (s : State) :
    exec (.scanOut q die chain) s = execScanOut q die chain s := rfl
@[simp] theorem exec_entropyTestFail (y : Yoke) (s : State) : exec (.entropyTestFail y) s = execEntropyTestFail y s := rfl
@[simp] theorem exec_ckptMark (sq : Nat) (cid : Nat) (passed : Bool) (e : Nat) (at_ : Nat) (full : Bool) (remote : Option (Nat × Nat × Nat)) (s : State) :
    exec (.ckptMark sq cid passed e at_ full remote) s = execCkptMark sq cid passed e at_ full remote s := rfl
@[simp] theorem exec_epochMarker (a : Acre) (s : State) : exec (.epochMarker a) s = execEpochMarker a s := rfl
@[simp] theorem exec_shardCaptured (a : Acre) (s : State) : exec (.shardCaptured a) s = execShardCaptured a s := rfl
@[simp] theorem exec_epochDrained (st : Status) (s : State) : exec (.epochDrained st) s = execEpochDrained st s := rfl
@[simp] theorem exec_ckptPolicy (sq : Nat) (cid : Nat) (passed : Bool) (handle : Nat) (auto : Bool) (s : State) :
    exec (.ckptPolicy sq cid passed handle auto) s = execCkptPolicy sq cid passed handle auto s := rfl
@[simp] theorem exec_ckptDiscard (sq : Nat) (cid : Nat) (passed : Bool) (e : Nat) (s : State) :
    exec (.ckptDiscard sq cid passed e) s = execCkptDiscard sq cid passed e s := rfl
@[simp] theorem exec_restore (sq : Nat) (cid : Nat) (passed : Bool) (src : RestoreSrc) (mode : RestoreMode) (keepLog : Bool) (tier : Nat) (target : Option Nat) (s : State) :
    exec (.restore sq cid passed src mode keepLog tier target) s = execRestore sq cid passed src mode keepLog tier target s := rfl
@[simp] theorem exec_restoreStacksDone (slot : Nat) (s : State) : exec (.restoreStacksDone slot) s = execRestoreStacksDone slot s := rfl
@[simp] theorem exec_restoreObjects (sq : Nat) (cid : Nat) (passed : Bool) (e : Nat) (reachable : Bool) (intact : Bool) (what : ObjSet) (s : State) :
    exec (.restoreObjects sq cid passed e reachable intact what) s = execRestoreObjects sq cid passed e reachable intact what s := rfl
@[simp] theorem exec_exportCmd (sq : Nat) (cid : Nat) (passed : Bool) (handle : Nat) (route : Nat) (locs : List Nat) (outcome : Status) (s : State) :
    exec (.exportCmd sq cid passed handle route locs outcome) s = execExport sq cid passed handle route locs outcome s := rfl
@[simp] theorem exec_importCmd (sq : Nat) (cid : Nat) (passed : Bool) (handle : Nat) (route : Nat) (items : List ImportIn) (s : State) :
    exec (.importCmd sq cid passed handle route items) s = execImport sq cid passed handle route items s := rfl
@[simp] theorem exec_coreFence (die : Nat) (kind : Nat) (n : Nat) (hit : List Nat) (s : State) :
    exec (.coreFence die kind n hit) s = execCoreFence die kind n hit s := rfl
@[simp] theorem exec_itemOverrun (die : Nat) (kind : Nat) (n : Nat) (s : State) :
    exec (.itemOverrun die kind n) s = execItemOverrun die kind n s := rfl
@[simp] theorem exec_leaseRenew (reached : List Nat) (s : State) : exec (.leaseRenew reached) s = execLeaseRenew reached s := rfl
@[simp] theorem exec_leaseExpiry (a : Acre) (s : State) : exec (.leaseExpiry a) s = execLeaseExpiry a s := rfl
@[simp] theorem exec_yokeHeartbeat (y : Yoke) (p : Nat) (s : State) : exec (.yokeHeartbeat y p) s = execYokeHeartbeat y p s := rfl
@[simp] theorem exec_partnerSilence (y : Yoke) (s : State) : exec (.partnerSilence y) s = execPartnerSilence y s := rfl
@[simp] theorem exec_claim (a : Acre) (y : Yoke) (p : Nat) (s : State) : exec (.claim a y p) s = execClaim a y p s := rfl
@[simp] theorem exec_primacyTakeover (y : Yoke) (s : State) : exec (.primacyTakeover y) s = execPrimacyTakeover y s := rfl
@[simp] theorem exec_stalePrimacy (y : Yoke) (s : State) : exec (.stalePrimacy y) s = execStalePrimacy y s := rfl
@[simp] theorem exec_migOffer (conn : Nat) (h : MigHdr) (o : OfferIn) (s : State) :
    exec (.migOffer conn h o) s = execMigOffer conn h o s := rfl
@[simp] theorem exec_migAccept (h : MigHdr) (places : List MigPlace) (s : State) :
    exec (.migAccept h places) s = execMigAccept h places s := rfl
@[simp] theorem exec_migRefuse (h : MigHdr) (st : Nat) (s : State) : exec (.migRefuse h st) s = execMigRefuse h st s := rfl
@[simp] theorem exec_migrationFreeze (slot : Nat) (s : State) : exec (.migrationFreeze slot) s = execMigrationFreeze slot s := rfl
@[simp] theorem exec_migHandover (h : MigHdr) (good : Bool) (x : HandIn) (s : State) :
    exec (.migHandover h good x) s = execMigHandover h good x s := rfl
@[simp] theorem exec_migConfirm (h : MigHdr) (s : State) : exec (.migConfirm h) s = execMigConfirm h s := rfl
@[simp] theorem exec_migRelease (h : MigHdr) (s : State) : exec (.migRelease h) s = execMigRelease h s := rfl
@[simp] theorem exec_migQuery (conn : Nat) (h : MigHdr) (s : State) : exec (.migQuery conn h) s = execMigQuery conn h s := rfl
@[simp] theorem exec_migOutcome (h : MigHdr) (o : Nat) (s : State) : exec (.migOutcome h o) s = execMigOutcome h o s := rfl
@[simp] theorem exec_migResend (slot : Nat) (s : State) : exec (.migResend slot) s = execMigResend slot s := rfl
@[simp] theorem exec_migResolve (sq : Nat) (cid : Nat) (passed : Bool) (handle : Nat) (activate : Bool) (s : State) :
    exec (.migResolve sq cid passed handle activate) s = execMigResolve sq cid passed handle activate s := rfl
@[simp] theorem exec_leave (sq : Nat) (cid : Nat) (passed : Bool) (s : State) :
    exec (.leave sq cid passed) s = execLeave sq cid passed s := rfl
@[simp] theorem exec_left (s : State) : exec .left s = execLeft s := rfl
@[simp] theorem exec_periodBoundary (die : Nat) (s : State) : exec (.periodBoundary die) s = execPeriodBoundary die s := rfl
@[simp] theorem exec_obsSnapTake (die : Nat) (s : State) : exec (.obsSnapTake die) s = execObsSnapTake die s := rfl
@[simp] theorem exec_energyApportion (usage : List (Nat × Nat × Nat)) (s : State) :
    exec (.energyApportion usage) s = execEnergyApportion usage s := rfl
@[simp] theorem exec_traceFlush (acre : Nat) (s : State) : exec (.traceFlush acre) s = execTraceFlush acre s := rfl
@[simp] theorem exec_traceTimeTrigger (acre : Nat) (s : State) : exec (.traceTimeTrigger acre) s = execTraceTimeTrigger acre s := rfl
@[simp] theorem exec_traceStallTrigger (die : Nat) (kind : Nat) (n : Nat) (s : State) :
    exec (.traceStallTrigger die kind n) s = execTraceStallTrigger die kind n s := rfl
@[simp] theorem exec_tracePostDone (acre : Nat) (s : State) : exec (.tracePostDone acre) s = execTracePostDone acre s := rfl
@[simp] theorem exec_obsMark (y : Yoke) (r : Requester) (v : Nat) (s : State) : exec (.obsMark y r v) s = execObsMark y r v s := rfl
@[simp] theorem exec_haltWave (src : Nat) (s : State) : exec (.haltWave src) s = execHaltWave src s := rfl
@[simp] theorem exec_haltInN (low : Bool) (s : State) : exec (.haltInN low) s = execHaltInN low s := rfl
@[simp] theorem exec_trigIn (s : State) : exec .trigIn s = execTrigIn s := rfl
@[simp] theorem exec_pwrgoodRise (primaryPref : Bool) (hostSel : Bool) (s : State) :
    exec (.pwrgoodRise primaryPref hostSel) s = execPwrgoodRise primaryPref hostSel s := rfl
@[simp] theorem exec_stage0 (pw : Bool) (pe : Bool) (ew : Bool) (ee : Bool) (fw : Nat) (fe : Nat) (torn : Bool) (ms : Nat) (s : State) :
    exec (.stage0 pw pe ew ee fw fe torn ms) s = execStage0 pw pe ew ee fw fe torn ms s := rfl
@[simp] theorem exec_stage1 (ok0 : Bool) (ok1 : Bool) (links : List Nat) (lost : Option Yoke) (ms : Nat) (s : State) :
    exec (.stage1 ok0 ok1 links lost ms) s = execStage1 ok0 ok1 links lost ms s := rfl
@[simp] theorem exec_stage2 (failed : List (Nat × Nat × Nat)) (offline : List Nat) (deviceId : Nat) (config : List (Nat × Word)) (ms : Nat) (s : State) :
    exec (.stage2 failed offline deviceId config ms) s = execStage2 failed offline deviceId config ms s := rfl
@[simp] theorem exec_stage3 (s : State) : exec .stage3 s = execStage3 s := rfl
@[simp] theorem exec_pwrgoodFall (s : State) : exec .pwrgoodFall s = execPwrgoodFall s := rfl
@[simp] theorem exec_resetN (s : State) : exec .resetN s = execResetN s := rfl
@[simp] theorem exec_pwrResetSystem (s : State) : exec .pwrResetSystem s = execPwrResetSystem s := rfl
@[simp] theorem exec_pwrResetMgmt (y : Yoke) (s : State) : exec (.pwrResetMgmt y) s = execPwrResetMgmt y s := rfl
@[simp] theorem exec_hostReset (port : Yoke) (s : State) : exec (.hostReset port) s = execHostReset port s := rfl
@[simp] theorem exec_hostPortSelect (linked : Option Yoke) (s : State) :
    exec (.hostPortSelect linked) s = execHostPortSelect linked s := rfl
@[simp] theorem exec_avsStep (s : State) : exec .avsStep s = execAvsStep s := rfl
@[simp] theorem exec_energyUpdate (mv : Nat) (dA : Nat) (s : State) : exec (.energyUpdate mv dA) s = execEnergyUpdate mv dA s := rfl
@[simp] theorem exec_railPoll (rail : Nat) (answer : Option (Nat × Nat)) (s : State) :
    exec (.railPoll rail answer) s = execRailPoll rail answer s := rfl
@[simp] theorem exec_thermalSample (die : Nat) (tj : Nat) (s : State) : exec (.thermalSample die tj) s = execThermalSample die tj s := rfl
@[simp] theorem exec_fallowEnter (s : State) : exec .fallowEnter s = execFallowEnter s := rfl
@[simp] theorem exec_fallowWake (s : State) : exec .fallowWake s = execFallowWake s := rfl
@[simp] theorem exec_fallowCancel (s : State) : exec .fallowCancel s = execFallowCancel s := rfl
@[simp] theorem exec_propose (nb : Nat) (round : Nat) (s : State) : exec (.propose nb round) s = execPropose nb round s := rfl
@[simp] theorem exec_accept (nb : Nat) (round : Nat) (s : State) : exec (.accept nb round) s = execAccept nb round s := rfl
@[simp] theorem exec_refuse (nb : Nat) (round : Nat) (s : State) : exec (.refuse nb round) s = execRefuse nb round s := rfl
@[simp] theorem exec_cancel (nb : Nat) (round : Nat) (s : State) : exec (.cancel nb round) s = execCancel nb round s := rfl
@[simp] theorem exec_committed (nb : Nat) (round : Nat) (s : State) : exec (.committed nb round) s = execCommitted nb round s := rfl
@[simp] theorem exec_wake (nb : Nat) (round : Nat) (s : State) : exec (.wake nb round) s = execWake nb round s := rfl
@[simp] theorem exec_fallowAnswerTimeout (s : State) : exec .fallowAnswerTimeout s = execFallowAnswerTimeout s := rfl
@[simp] theorem exec_consentExpiry (nb : Nat) (s : State) : exec (.consentExpiry nb) s = execConsentExpiry nb s := rfl
@[simp] theorem exec_selfWake (s : State) : exec .selfWake s = execSelfWake s := rfl
@[simp] theorem exec_wakeRequestDeferred (r : WakeReq) (s : State) : exec (.wakeRequestDeferred r) s = execWakeRequestDeferred r s := rfl
@[simp] theorem exec_fallowWakeDone (s : State) : exec .fallowWakeDone s = execFallowWakeDone s := rfl
@[simp] theorem exec_jtagBypass (y : Yoke) (s : State) : exec (.jtagBypass y) s = execJtagBypass y s := rfl
@[simp] theorem exec_jtagIdcode (y : Yoke) (s : State) : exec (.jtagIdcode y) s = execJtagIdcode y s := rfl
@[simp] theorem exec_jtagSamplePreload (y : Yoke) (s : State) : exec (.jtagSamplePreload y) s = execJtagSamplePreload y s := rfl
@[simp] theorem exec_jtagExtest (y : Yoke) (s : State) : exec (.jtagExtest y) s = execJtagExtest y s := rfl
@[simp] theorem exec_jtagClamp (y : Yoke) (s : State) : exec (.jtagClamp y) s = execJtagClamp y s := rfl
@[simp] theorem exec_jtagHighz (y : Yoke) (s : State) : exec (.jtagHighz y) s = execJtagHighz y s := rfl
@[simp] theorem exec_scanout (y : Yoke) (die : Nat) (chain : Nat) (s : State) :
    exec (.scanout y die chain) s = execScanout y die chain s := rfl
@[simp] theorem exec_illegalInstruction (tine : Nat) (w0 : BitVec 32) (w1 : BitVec 32) (s : State) :
    exec (.illegalInstruction tine w0 w1) s = execIllegalInstruction tine w0 w1 s := rfl
@[simp] theorem exec_ethernetLinkChange (port : Nat) (up : Bool) (s : State) :
    exec (.ethernetLinkChange port up) s = execEthernetLinkChange port up s := rfl
@[simp] theorem exec_suspectHoldExpiry (conn : Nat) (port : Nat) (e : Nat) (s : State) :
    exec (.suspectHoldExpiry conn port e) s = execSuspectHoldExpiry conn port e s := rfl
@[simp] theorem exec_kltMalformedPacket (y : Yoke) (s : State) : exec (.kltMalformedPacket y) s = execKltMalformedPacket y s := rfl
@[simp] theorem exec_claimRetry (y : Yoke) (s : State) : exec (.claimRetry y) s = execClaimRetry y s := rfl
@[simp] theorem exec_partnerHeartbeatSend (y : Yoke) (s : State) : exec (.partnerHeartbeatSend y) s = execPartnerHeartbeatSend y s := rfl
@[simp] theorem exec_holdoverExcessRise (s : State) : exec .holdoverExcessRise s = execHoldoverExcessRise s := rfl
@[simp] theorem exec_thermtripComparator (s : State) : exec .thermtripComparator s = execThermtripComparator s := rfl
@[simp] theorem exec_chestQuiesceDone (s : State) : exec .chestQuiesceDone s = execChestQuiesceDone s := rfl
@[simp] theorem exec_shadowCopy (obj : Nat) (s : State) : exec (.shadowCopy obj) s = execShadowCopy obj s := rfl
@[simp] theorem exec_drainWriteComplete (a : Acre) (obj : Option Nat) (st : Status) (s : State) :
    exec (.drainWriteComplete a obj st) s = execDrainWriteComplete a obj st s := rfl
@[simp] theorem exec_provisioning (s : State) : exec .provisioning s = execProvisioning s := rfl

end Sys2Proof.Machine
end

