-- ==== Sys2Proof/Laws/Shared.lean ====
section
/-!
SUPPORT. What the operations every command shares do where nothing turns the command away: one lemma for each, so that no proof unfolds
them.
-/
namespace Sys2Proof.Machine

theorem running_of {s : State} (h : planesRun s = true) (o : Host.Outcome State Fault Refusal) : running s o = o := by
  simp [running, h]

/-- A command of the control or data plane changes nothing while the planes stand still. -/
theorem running_idle {s : State} (h : planesRun s = false) (o : Host.Outcome State Fault Refusal) : running s o = .next s := by
  simp [running, h]

theorem not_deferring {s : State} (h : s.power.fallow.mode = .active) : deferring s = false := by
  simp [deferring, h]

theorem cancelAgreement_active {s : State} (h : s.power.fallow.mode = .active) : cancelAgreement s = s := by
  simp [cancelAgreement, h]

theorem not_halted_of_planesRun {s : State} (h : planesRun s = true) : s.obs.halted = false := by
  simp [planesRun] at h; exact h.1.2

/-- A command of a queue of its kind, with nothing to turn it away, runs. -/
theorem hostCmd_served {s : State} {sq : Nat} (h : Served s sq) (cid : Nat) {kind : QKind} (early : Bool) (f : State → State)
    (hk : match kind with | .admin => sq = 0 | .io => sq ≠ 0 | .any => True) : hostCmd sq cid kind early f s = f s := by
  obtain ⟨hp, hst, hq, hf⟩ := h
  have hh := not_halted_of_planesRun hp
  obtain ⟨q, hq⟩ := Option.isSome_iff_exists.mp hq
  have hb : (!early && s.power.stage != .s3 && s.power.stage != .serving) = false := by
    rcases hst with h | h <;> simp [h]
  cases kind <;> simp_all [hostCmd, not_deferring, cancelAgreement_active]

theorem primCmd_served {s : State} {sq : Nat} (h : Served s sq) (cid : Nat) {kind : QKind} (f : State → State)
    (hk : match kind with | .admin => sq = 0 | .io => sq ≠ 0 | .any => True)
    (hi : (s.ckp.yokes.get s.ckp.primary).issuing = true) : primCmd sq cid kind false f s = f s := by
  rw [primCmd, hostCmd_served h _ _ _ hk]; simp [hi]

theorem MgmtReady.mono {s : State} {q : MgmtReq} {x : MgmtSess} {role more : Nat → Bool} (h : MgmtReady s q x role)
    (hr : ∀ r, role r = true → more r = true) : MgmtReady s q x more :=
  ⟨h.1, h.2.1, h.2.2.1, h.2.2.2.1, h.2.2.2.2.1, h.2.2.2.2.2.1, h.2.2.2.2.2.2.1, hr _ h.2.2.2.2.2.2.2⟩

@[simp] theorem mgmtTake_planesRun (q : MgmtReq) (x : MgmtSess) (s : State) : planesRun (mgmtTake q x s) = planesRun s := rfl
@[simp] theorem mgmtTake_ckp (q : MgmtReq) (x : MgmtSess) (s : State) : (mgmtTake q x s).ckp = s.ckp := rfl

/-- A request that its session takes, with the role, runs on the state in which its SEQ is taken. -/
theorem mgmtCmd_ready {s : State} {q : MgmtReq} {x : MgmtSess} {role : Nat → Bool} (h : MgmtReady s q x role) (early quiet : Bool)
    (f : State → State) : mgmtCmd q early quiet role f s = f (mgmtTake q x s) := by
  obtain ⟨hu, h1, hf, hx, hs, hb, hc, hr⟩ := h
  have e1 : (mgmtTake q x s).power = s.power := rfl
  have h1' : pastStage1 (mgmtTake q x s) = true := by simpa [pastStage1, e1] using h1
  have hd : deferring (mgmtTake q x s) = false := not_deferring (by rw [e1]; exact hf)
  have hca : cancelAgreement (mgmtTake q x s) = mgmtTake q x s := cancelAgreement_active (by rw [e1]; exact hf)
  have hne : (decide (q.seq = x.seqIn) && decide (x.seqIn ≠ 0)) = false := by simp; omega
  have hok : (decide (q.seq ≠ x.seqIn + 1) || (x.cached.isNone && decide (x.seqIn ≠ 0))) = false := by
    rcases hc with h | h
    · simp [h, hs]
    · cases e : x.cached with
      | none => simp [e] at h
      | some r => simp [hs]
  have hlt : ¬2 ^ 32 ≤ q.seq := by omega
  simp only [mgmtCmd, mgmtSession, hu, hx, h1', hd, hca, hr, hne, hok, hlt]
  simp

/-- A session command whose session is ready runs its own part on the state the owning Shelf finds. -/
theorem onSession_ready {s u : State} {sq handle : Nat} {st : SState} (h : SessionReady s sq handle u st) (src : OpSrc)
    (f : Nat → SState → State → State) : onSession handle src f s = f (slotOf handle) st u := by
  obtain ⟨_, _, hc, ho, he⟩ := h
  simp [onSession, hc, ho, he]

theorem sessionCmd_ready {s u : State} {sq handle : Nat} {st : SState} (h : SessionReady s sq handle u st) (cid : Nat) (src : OpSrc)
    (f : Nat → SState → State → State) : hostCmd sq cid .io false (onSession handle src f) s = f (slotOf handle) st u := by
  rw [hostCmd_served h.1 _ _ _ h.2.1, onSession_ready h]

/-- A Tine that is ready runs the instruction's own part. -/
theorem tineExec_ready {s : State} {t : Nat} {c : TineCtx} {n : Nat} (h : TineReady s t c n) (w : Nat) (regs : List (BitVec 6)) (mbz : Bool)
    (f : TineCtx → State → State) (hr : regs.any badReg = false) (hm : mbz = false) : tineExec t w n regs mbz f s = f c s := by
  obtain ⟨_, ht, hb, hf⟩ := h
  simp_all [tineExec]

end Sys2Proof.Machine
end

