-- ==== Sys2Proof/Laws/State.lean ====
section
/-!
SUPPORT. One lemma per field of State for each named update: what it leaves and what it writes, true by rfl, so that no proof unfolds a
record update.
-/
namespace Sys2Proof.Machine

/-! ### asyncDrop -/
@[simp] theorem asyncDrop_freeCtr (slot tag : Nat) (s : State) : (asyncDrop slot tag s).freeCtr = s.freeCtr := rfl
@[simp] theorem asyncDrop_time (slot tag : Nat) (s : State) : (asyncDrop slot tag s).time = s.time := rfl
@[simp] theorem asyncDrop_regs (slot tag : Nat) (s : State) : (asyncDrop slot tag s).regs = s.regs := rfl
@[simp] theorem asyncDrop_cfg (slot tag : Nat) (s : State) : (asyncDrop slot tag s).cfg = s.cfg := rfl
@[simp] theorem asyncDrop_links (slot tag : Nat) (s : State) : (asyncDrop slot tag s).links = s.links := rfl
@[simp] theorem asyncDrop_power (slot tag : Nat) (s : State) : (asyncDrop slot tag s).power = s.power := rfl
@[simp] theorem asyncDrop_bur (slot tag : Nat) (s : State) : (asyncDrop slot tag s).bur = s.bur := rfl
@[simp] theorem asyncDrop_tier (slot tag : Nat) (s : State) : (asyncDrop slot tag s).tier = s.tier := rfl
@[simp] theorem asyncDrop_chest (slot tag : Nat) (s : State) : (asyncDrop slot tag s).chest = s.chest := rfl
@[simp] theorem asyncDrop_fur (slot tag : Nat) (s : State) : (asyncDrop slot tag s).fur = s.fur := rfl
@[simp] theorem asyncDrop_gen (slot tag : Nat) (s : State) : (asyncDrop slot tag s).gen = s.gen := rfl
@[simp] theorem asyncDrop_gln (slot tag : Nat) (s : State) : (asyncDrop slot tag s).gln = s.gln := rfl
@[simp] theorem asyncDrop_sync (slot tag : Nat) (s : State) : (asyncDrop slot tag s).sync = s.sync := rfl
@[simp] theorem asyncDrop_host (slot tag : Nat) (s : State) : (asyncDrop slot tag s).host = s.host := rfl
@[simp] theorem asyncDrop_klt (slot tag : Nat) (s : State) : (asyncDrop slot tag s).klt = s.klt := rfl
@[simp] theorem asyncDrop_tsc (slot tag : Nat) (s : State) : (asyncDrop slot tag s).tsc = s.tsc := rfl
@[simp] theorem asyncDrop_sec (slot tag : Nat) (s : State) : (asyncDrop slot tag s).sec = s.sec := rfl
@[simp] theorem asyncDrop_ckp (slot tag : Nat) (s : State) : (asyncDrop slot tag s).ckp = s.ckp := rfl
@[simp] theorem asyncDrop_obs (slot tag : Nat) (s : State) : (asyncDrop slot tag s).obs = s.obs := rfl
@[simp] theorem asyncDrop_pending (slot tag : Nat) (s : State) : (asyncDrop slot tag s).pending = s.pending := rfl
@[simp] theorem asyncDrop_out (slot tag : Nat) (s : State) : (asyncDrop slot tag s).out = s.out := rfl

/-! ### setDir -/
@[simp] theorem setDir_freeCtr (slot : Nat) (e : DirEntry) (s : State) : (setDir slot e s).freeCtr = s.freeCtr := rfl
@[simp] theorem setDir_time (slot : Nat) (e : DirEntry) (s : State) : (setDir slot e s).time = s.time := rfl
@[simp] theorem setDir_regs (slot : Nat) (e : DirEntry) (s : State) : (setDir slot e s).regs = s.regs := rfl
@[simp] theorem setDir_cfg (slot : Nat) (e : DirEntry) (s : State) : (setDir slot e s).cfg = s.cfg := rfl
@[simp] theorem setDir_links (slot : Nat) (e : DirEntry) (s : State) : (setDir slot e s).links = s.links := rfl
@[simp] theorem setDir_power (slot : Nat) (e : DirEntry) (s : State) : (setDir slot e s).power = s.power := rfl
@[simp] theorem setDir_bur (slot : Nat) (e : DirEntry) (s : State) : (setDir slot e s).bur = { s.bur with dir := NMap.putD .empty s.bur.dir slot e } := rfl
@[simp] theorem setDir_tier (slot : Nat) (e : DirEntry) (s : State) : (setDir slot e s).tier = s.tier := rfl
@[simp] theorem setDir_chest (slot : Nat) (e : DirEntry) (s : State) : (setDir slot e s).chest = s.chest := rfl
@[simp] theorem setDir_fur (slot : Nat) (e : DirEntry) (s : State) : (setDir slot e s).fur = s.fur := rfl
@[simp] theorem setDir_gen (slot : Nat) (e : DirEntry) (s : State) : (setDir slot e s).gen = s.gen := rfl
@[simp] theorem setDir_gln (slot : Nat) (e : DirEntry) (s : State) : (setDir slot e s).gln = s.gln := rfl
@[simp] theorem setDir_tin (slot : Nat) (e : DirEntry) (s : State) : (setDir slot e s).tin = s.tin := rfl
@[simp] theorem setDir_sync (slot : Nat) (e : DirEntry) (s : State) : (setDir slot e s).sync = s.sync := rfl
@[simp] theorem setDir_host (slot : Nat) (e : DirEntry) (s : State) : (setDir slot e s).host = s.host := rfl
@[simp] theorem setDir_klt (slot : Nat) (e : DirEntry) (s : State) : (setDir slot e s).klt = s.klt := rfl
@[simp] theorem setDir_tsc (slot : Nat) (e : DirEntry) (s : State) : (setDir slot e s).tsc = s.tsc := rfl
@[simp] theorem setDir_sec (slot : Nat) (e : DirEntry) (s : State) : (setDir slot e s).sec = s.sec := rfl
@[simp] theorem setDir_ckp (slot : Nat) (e : DirEntry) (s : State) : (setDir slot e s).ckp = s.ckp := rfl
@[simp] theorem setDir_obs (slot : Nat) (e : DirEntry) (s : State) : (setDir slot e s).obs = s.obs := rfl
@[simp] theorem setDir_pending (slot : Nat) (e : DirEntry) (s : State) : (setDir slot e s).pending = s.pending := rfl
@[simp] theorem setDir_out (slot : Nat) (e : DirEntry) (s : State) : (setDir slot e s).out = s.out := rfl

/-! ### setHome -/
@[simp] theorem setHome_freeCtr (slot : Nat) (d : Desc) (s : State) : (setHome slot d s).freeCtr = s.freeCtr := rfl
@[simp] theorem setHome_time (slot : Nat) (d : Desc) (s : State) : (setHome slot d s).time = s.time := rfl
@[simp] theorem setHome_regs (slot : Nat) (d : Desc) (s : State) : (setHome slot d s).regs = s.regs := rfl
@[simp] theorem setHome_cfg (slot : Nat) (d : Desc) (s : State) : (setHome slot d s).cfg = s.cfg := rfl
@[simp] theorem setHome_links (slot : Nat) (d : Desc) (s : State) : (setHome slot d s).links = s.links := rfl
@[simp] theorem setHome_power (slot : Nat) (d : Desc) (s : State) : (setHome slot d s).power = s.power := rfl
@[simp] theorem setHome_bur (slot : Nat) (d : Desc) (s : State) : (setHome slot d s).bur = { s.bur with home := NMap.put s.bur.home slot d } := rfl
@[simp] theorem setHome_tier (slot : Nat) (d : Desc) (s : State) : (setHome slot d s).tier = s.tier := rfl
@[simp] theorem setHome_chest (slot : Nat) (d : Desc) (s : State) : (setHome slot d s).chest = s.chest := rfl
@[simp] theorem setHome_fur (slot : Nat) (d : Desc) (s : State) : (setHome slot d s).fur = s.fur := rfl
@[simp] theorem setHome_gen (slot : Nat) (d : Desc) (s : State) : (setHome slot d s).gen = s.gen := rfl
@[simp] theorem setHome_gln (slot : Nat) (d : Desc) (s : State) : (setHome slot d s).gln = s.gln := rfl
@[simp] theorem setHome_tin (slot : Nat) (d : Desc) (s : State) : (setHome slot d s).tin = s.tin := rfl
@[simp] theorem setHome_sync (slot : Nat) (d : Desc) (s : State) : (setHome slot d s).sync = s.sync := rfl
@[simp] theorem setHome_host (slot : Nat) (d : Desc) (s : State) : (setHome slot d s).host = s.host := rfl
@[simp] theorem setHome_klt (slot : Nat) (d : Desc) (s : State) : (setHome slot d s).klt = s.klt := rfl
@[simp] theorem setHome_tsc (slot : Nat) (d : Desc) (s : State) : (setHome slot d s).tsc = s.tsc := rfl
@[simp] theorem setHome_sec (slot : Nat) (d : Desc) (s : State) : (setHome slot d s).sec = s.sec := rfl
@[simp] theorem setHome_ckp (slot : Nat) (d : Desc) (s : State) : (setHome slot d s).ckp = s.ckp := rfl
@[simp] theorem setHome_obs (slot : Nat) (d : Desc) (s : State) : (setHome slot d s).obs = s.obs := rfl
@[simp] theorem setHome_pending (slot : Nat) (d : Desc) (s : State) : (setHome slot d s).pending = s.pending := rfl
@[simp] theorem setHome_out (slot : Nat) (d : Desc) (s : State) : (setHome slot d s).out = s.out := rfl

/-! ### setLine -/
@[simp] theorem setLine_freeCtr (a : Acre) (slot : Nat) (l : ShelfLine) (s : State) : (setLine a slot l s).freeCtr = s.freeCtr := rfl
@[simp] theorem setLine_time (a : Acre) (slot : Nat) (l : ShelfLine) (s : State) : (setLine a slot l s).time = s.time := rfl
@[simp] theorem setLine_regs (a : Acre) (slot : Nat) (l : ShelfLine) (s : State) : (setLine a slot l s).regs = s.regs := rfl
@[simp] theorem setLine_cfg (a : Acre) (slot : Nat) (l : ShelfLine) (s : State) : (setLine a slot l s).cfg = s.cfg := rfl
@[simp] theorem setLine_links (a : Acre) (slot : Nat) (l : ShelfLine) (s : State) : (setLine a slot l s).links = s.links := rfl
@[simp] theorem setLine_power (a : Acre) (slot : Nat) (l : ShelfLine) (s : State) : (setLine a slot l s).power = s.power := rfl
@[simp] theorem setLine_bur (a : Acre) (slot : Nat) (l : ShelfLine) (s : State) : (setLine a slot l s).bur = { s.bur with shelf := s.bur.shelf.set a (NMap.put (s.bur.shelf.get a) slot l) } := rfl
@[simp] theorem setLine_tier (a : Acre) (slot : Nat) (l : ShelfLine) (s : State) : (setLine a slot l s).tier = s.tier := rfl
@[simp] theorem setLine_chest (a : Acre) (slot : Nat) (l : ShelfLine) (s : State) : (setLine a slot l s).chest = s.chest := rfl
@[simp] theorem setLine_fur (a : Acre) (slot : Nat) (l : ShelfLine) (s : State) : (setLine a slot l s).fur = s.fur := rfl
@[simp] theorem setLine_gen (a : Acre) (slot : Nat) (l : ShelfLine) (s : State) : (setLine a slot l s).gen = s.gen := rfl
@[simp] theorem setLine_gln (a : Acre) (slot : Nat) (l : ShelfLine) (s : State) : (setLine a slot l s).gln = s.gln := rfl
@[simp] theorem setLine_tin (a : Acre) (slot : Nat) (l : ShelfLine) (s : State) : (setLine a slot l s).tin = s.tin := rfl
@[simp] theorem setLine_sync (a : Acre) (slot : Nat) (l : ShelfLine) (s : State) : (setLine a slot l s).sync = s.sync := rfl
@[simp] theorem setLine_host (a : Acre) (slot : Nat) (l : ShelfLine) (s : State) : (setLine a slot l s).host = s.host := rfl
@[simp] theorem setLine_klt (a : Acre) (slot : Nat) (l : ShelfLine) (s : State) : (setLine a slot l s).klt = s.klt := rfl
@[simp] theorem setLine_tsc (a : Acre) (slot : Nat) (l : ShelfLine) (s : State) : (setLine a slot l s).tsc = s.tsc := rfl
@[simp] theorem setLine_sec (a : Acre) (slot : Nat) (l : ShelfLine) (s : State) : (setLine a slot l s).sec = s.sec := rfl
@[simp] theorem setLine_ckp (a : Acre) (slot : Nat) (l : ShelfLine) (s : State) : (setLine a slot l s).ckp = s.ckp := rfl
@[simp] theorem setLine_obs (a : Acre) (slot : Nat) (l : ShelfLine) (s : State) : (setLine a slot l s).obs = s.obs := rfl
@[simp] theorem setLine_pending (a : Acre) (slot : Nat) (l : ShelfLine) (s : State) : (setLine a slot l s).pending = s.pending := rfl
@[simp] theorem setLine_out (a : Acre) (slot : Nat) (l : ShelfLine) (s : State) : (setLine a slot l s).out = s.out := rfl

/-! ### dropLine -/
@[simp] theorem dropLine_freeCtr (a : Acre) (slot : Nat) (s : State) : (dropLine a slot s).freeCtr = s.freeCtr := rfl
@[simp] theorem dropLine_time (a : Acre) (slot : Nat) (s : State) : (dropLine a slot s).time = s.time := rfl
@[simp] theorem dropLine_regs (a : Acre) (slot : Nat) (s : State) : (dropLine a slot s).regs = s.regs := rfl
@[simp] theorem dropLine_cfg (a : Acre) (slot : Nat) (s : State) : (dropLine a slot s).cfg = s.cfg := rfl
@[simp] theorem dropLine_links (a : Acre) (slot : Nat) (s : State) : (dropLine a slot s).links = s.links := rfl
@[simp] theorem dropLine_power (a : Acre) (slot : Nat) (s : State) : (dropLine a slot s).power = s.power := rfl
@[simp] theorem dropLine_bur (a : Acre) (slot : Nat) (s : State) : (dropLine a slot s).bur = { s.bur with shelf := s.bur.shelf.set a (NMap.erase (s.bur.shelf.get a) slot) } := rfl
@[simp] theorem dropLine_tier (a : Acre) (slot : Nat) (s : State) : (dropLine a slot s).tier = s.tier := rfl
@[simp] theorem dropLine_chest (a : Acre) (slot : Nat) (s : State) : (dropLine a slot s).chest = s.chest := rfl
@[simp] theorem dropLine_fur (a : Acre) (slot : Nat) (s : State) : (dropLine a slot s).fur = s.fur := rfl
@[simp] theorem dropLine_gen (a : Acre) (slot : Nat) (s : State) : (dropLine a slot s).gen = s.gen := rfl
@[simp] theorem dropLine_gln (a : Acre) (slot : Nat) (s : State) : (dropLine a slot s).gln = s.gln := rfl
@[simp] theorem dropLine_tin (a : Acre) (slot : Nat) (s : State) : (dropLine a slot s).tin = s.tin := rfl
@[simp] theorem dropLine_sync (a : Acre) (slot : Nat) (s : State) : (dropLine a slot s).sync = s.sync := rfl
@[simp] theorem dropLine_host (a : Acre) (slot : Nat) (s : State) : (dropLine a slot s).host = s.host := rfl
@[simp] theorem dropLine_klt (a : Acre) (slot : Nat) (s : State) : (dropLine a slot s).klt = s.klt := rfl
@[simp] theorem dropLine_tsc (a : Acre) (slot : Nat) (s : State) : (dropLine a slot s).tsc = s.tsc := rfl
@[simp] theorem dropLine_sec (a : Acre) (slot : Nat) (s : State) : (dropLine a slot s).sec = s.sec := rfl
@[simp] theorem dropLine_ckp (a : Acre) (slot : Nat) (s : State) : (dropLine a slot s).ckp = s.ckp := rfl
@[simp] theorem dropLine_obs (a : Acre) (slot : Nat) (s : State) : (dropLine a slot s).obs = s.obs := rfl
@[simp] theorem dropLine_pending (a : Acre) (slot : Nat) (s : State) : (dropLine a slot s).pending = s.pending := rfl
@[simp] theorem dropLine_out (a : Acre) (slot : Nat) (s : State) : (dropLine a slot s).out = s.out := rfl

/-! ### dropFetch -/
@[simp] theorem dropFetch_freeCtr (slot : Nat) (s : State) : (dropFetch slot s).freeCtr = s.freeCtr := rfl
@[simp] theorem dropFetch_time (slot : Nat) (s : State) : (dropFetch slot s).time = s.time := rfl
@[simp] theorem dropFetch_regs (slot : Nat) (s : State) : (dropFetch slot s).regs = s.regs := rfl
@[simp] theorem dropFetch_cfg (slot : Nat) (s : State) : (dropFetch slot s).cfg = s.cfg := rfl
@[simp] theorem dropFetch_links (slot : Nat) (s : State) : (dropFetch slot s).links = s.links := rfl
@[simp] theorem dropFetch_power (slot : Nat) (s : State) : (dropFetch slot s).power = s.power := rfl
@[simp] theorem dropFetch_tier (slot : Nat) (s : State) : (dropFetch slot s).tier = s.tier := rfl
@[simp] theorem dropFetch_chest (slot : Nat) (s : State) : (dropFetch slot s).chest = s.chest := rfl
@[simp] theorem dropFetch_fur (slot : Nat) (s : State) : (dropFetch slot s).fur = s.fur := rfl
@[simp] theorem dropFetch_gen (slot : Nat) (s : State) : (dropFetch slot s).gen = s.gen := rfl
@[simp] theorem dropFetch_gln (slot : Nat) (s : State) : (dropFetch slot s).gln = s.gln := rfl
@[simp] theorem dropFetch_tin (slot : Nat) (s : State) : (dropFetch slot s).tin = s.tin := rfl
@[simp] theorem dropFetch_sync (slot : Nat) (s : State) : (dropFetch slot s).sync = s.sync := rfl
@[simp] theorem dropFetch_host (slot : Nat) (s : State) : (dropFetch slot s).host = s.host := rfl
@[simp] theorem dropFetch_klt (slot : Nat) (s : State) : (dropFetch slot s).klt = s.klt := rfl
@[simp] theorem dropFetch_tsc (slot : Nat) (s : State) : (dropFetch slot s).tsc = s.tsc := rfl
@[simp] theorem dropFetch_sec (slot : Nat) (s : State) : (dropFetch slot s).sec = s.sec := rfl
@[simp] theorem dropFetch_ckp (slot : Nat) (s : State) : (dropFetch slot s).ckp = s.ckp := rfl
@[simp] theorem dropFetch_obs (slot : Nat) (s : State) : (dropFetch slot s).obs = s.obs := rfl
@[simp] theorem dropFetch_pending (slot : Nat) (s : State) : (dropFetch slot s).pending = s.pending := rfl
@[simp] theorem dropFetch_out (slot : Nat) (s : State) : (dropFetch slot s).out = s.out := rfl

/-! ### setChest -/
@[simp] theorem setChest_freeCtr (c : ChestState) (s : State) : (setChest c s).freeCtr = s.freeCtr := rfl
@[simp] theorem setChest_time (c : ChestState) (s : State) : (setChest c s).time = s.time := rfl
@[simp] theorem setChest_regs (c : ChestState) (s : State) : (setChest c s).regs = s.regs := rfl
@[simp] theorem setChest_cfg (c : ChestState) (s : State) : (setChest c s).cfg = s.cfg := rfl
@[simp] theorem setChest_links (c : ChestState) (s : State) : (setChest c s).links = s.links := rfl
@[simp] theorem setChest_power (c : ChestState) (s : State) : (setChest c s).power = s.power := rfl
@[simp] theorem setChest_bur (c : ChestState) (s : State) : (setChest c s).bur = s.bur := rfl
@[simp] theorem setChest_tier (c : ChestState) (s : State) : (setChest c s).tier = s.tier := rfl
@[simp] theorem setChest_chest (c : ChestState) (s : State) : (setChest c s).chest = c := rfl
@[simp] theorem setChest_fur (c : ChestState) (s : State) : (setChest c s).fur = s.fur := rfl
@[simp] theorem setChest_gen (c : ChestState) (s : State) : (setChest c s).gen = s.gen := rfl
@[simp] theorem setChest_gln (c : ChestState) (s : State) : (setChest c s).gln = s.gln := rfl
@[simp] theorem setChest_tin (c : ChestState) (s : State) : (setChest c s).tin = s.tin := rfl
@[simp] theorem setChest_sync (c : ChestState) (s : State) : (setChest c s).sync = s.sync := rfl
@[simp] theorem setChest_host (c : ChestState) (s : State) : (setChest c s).host = s.host := rfl
@[simp] theorem setChest_klt (c : ChestState) (s : State) : (setChest c s).klt = s.klt := rfl
@[simp] theorem setChest_tsc (c : ChestState) (s : State) : (setChest c s).tsc = s.tsc := rfl
@[simp] theorem setChest_sec (c : ChestState) (s : State) : (setChest c s).sec = s.sec := rfl
@[simp] theorem setChest_ckp (c : ChestState) (s : State) : (setChest c s).ckp = s.ckp := rfl
@[simp] theorem setChest_obs (c : ChestState) (s : State) : (setChest c s).obs = s.obs := rfl
@[simp] theorem setChest_pending (c : ChestState) (s : State) : (setChest c s).pending = s.pending := rfl
@[simp] theorem setChest_out (c : ChestState) (s : State) : (setChest c s).out = s.out := rfl

/-! ### putDrive -/
@[simp] theorem putDrive_freeCtr (d : Nat) (v : Drive) (s : State) : (putDrive d v s).freeCtr = s.freeCtr := rfl
@[simp] theorem putDrive_time (d : Nat) (v : Drive) (s : State) : (putDrive d v s).time = s.time := rfl
@[simp] theorem putDrive_regs (d : Nat) (v : Drive) (s : State) : (putDrive d v s).regs = s.regs := rfl
@[simp] theorem putDrive_cfg (d : Nat) (v : Drive) (s : State) : (putDrive d v s).cfg = s.cfg := rfl
@[simp] theorem putDrive_links (d : Nat) (v : Drive) (s : State) : (putDrive d v s).links = s.links := rfl
@[simp] theorem putDrive_power (d : Nat) (v : Drive) (s : State) : (putDrive d v s).power = s.power := rfl
@[simp] theorem putDrive_bur (d : Nat) (v : Drive) (s : State) : (putDrive d v s).bur = s.bur := rfl
@[simp] theorem putDrive_tier (d : Nat) (v : Drive) (s : State) : (putDrive d v s).tier = s.tier := rfl
@[simp] theorem putDrive_chest (d : Nat) (v : Drive) (s : State) : (putDrive d v s).chest = { s.chest with drives := NMap.put s.chest.drives d v } := rfl
@[simp] theorem putDrive_fur (d : Nat) (v : Drive) (s : State) : (putDrive d v s).fur = s.fur := rfl
@[simp] theorem putDrive_gen (d : Nat) (v : Drive) (s : State) : (putDrive d v s).gen = s.gen := rfl
@[simp] theorem putDrive_gln (d : Nat) (v : Drive) (s : State) : (putDrive d v s).gln = s.gln := rfl
@[simp] theorem putDrive_tin (d : Nat) (v : Drive) (s : State) : (putDrive d v s).tin = s.tin := rfl
@[simp] theorem putDrive_sync (d : Nat) (v : Drive) (s : State) : (putDrive d v s).sync = s.sync := rfl
@[simp] theorem putDrive_host (d : Nat) (v : Drive) (s : State) : (putDrive d v s).host = s.host := rfl
@[simp] theorem putDrive_klt (d : Nat) (v : Drive) (s : State) : (putDrive d v s).klt = s.klt := rfl
@[simp] theorem putDrive_tsc (d : Nat) (v : Drive) (s : State) : (putDrive d v s).tsc = s.tsc := rfl
@[simp] theorem putDrive_sec (d : Nat) (v : Drive) (s : State) : (putDrive d v s).sec = s.sec := rfl
@[simp] theorem putDrive_ckp (d : Nat) (v : Drive) (s : State) : (putDrive d v s).ckp = s.ckp := rfl
@[simp] theorem putDrive_obs (d : Nat) (v : Drive) (s : State) : (putDrive d v s).obs = s.obs := rfl
@[simp] theorem putDrive_pending (d : Nat) (v : Drive) (s : State) : (putDrive d v s).pending = s.pending := rfl
@[simp] theorem putDrive_out (d : Nat) (v : Drive) (s : State) : (putDrive d v s).out = s.out := rfl

/-! ### setCkp -/
@[simp] theorem setCkp_freeCtr (f : CkptState → CkptState) (s : State) : (setCkp f s).freeCtr = s.freeCtr := rfl
@[simp] theorem setCkp_time (f : CkptState → CkptState) (s : State) : (setCkp f s).time = s.time := rfl
@[simp] theorem setCkp_regs (f : CkptState → CkptState) (s : State) : (setCkp f s).regs = s.regs := rfl
@[simp] theorem setCkp_cfg (f : CkptState → CkptState) (s : State) : (setCkp f s).cfg = s.cfg := rfl
@[simp] theorem setCkp_links (f : CkptState → CkptState) (s : State) : (setCkp f s).links = s.links := rfl
@[simp] theorem setCkp_power (f : CkptState → CkptState) (s : State) : (setCkp f s).power = s.power := rfl
@[simp] theorem setCkp_bur (f : CkptState → CkptState) (s : State) : (setCkp f s).bur = s.bur := rfl
@[simp] theorem setCkp_tier (f : CkptState → CkptState) (s : State) : (setCkp f s).tier = s.tier := rfl
@[simp] theorem setCkp_chest (f : CkptState → CkptState) (s : State) : (setCkp f s).chest = s.chest := rfl
@[simp] theorem setCkp_fur (f : CkptState → CkptState) (s : State) : (setCkp f s).fur = s.fur := rfl
@[simp] theorem setCkp_gen (f : CkptState → CkptState) (s : State) : (setCkp f s).gen = s.gen := rfl
@[simp] theorem setCkp_gln (f : CkptState → CkptState) (s : State) : (setCkp f s).gln = s.gln := rfl
@[simp] theorem setCkp_tin (f : CkptState → CkptState) (s : State) : (setCkp f s).tin = s.tin := rfl
@[simp] theorem setCkp_sync (f : CkptState → CkptState) (s : State) : (setCkp f s).sync = s.sync := rfl
@[simp] theorem setCkp_host (f : CkptState → CkptState) (s : State) : (setCkp f s).host = s.host := rfl
@[simp] theorem setCkp_klt (f : CkptState → CkptState) (s : State) : (setCkp f s).klt = s.klt := rfl
@[simp] theorem setCkp_tsc (f : CkptState → CkptState) (s : State) : (setCkp f s).tsc = s.tsc := rfl
@[simp] theorem setCkp_sec (f : CkptState → CkptState) (s : State) : (setCkp f s).sec = s.sec := rfl
@[simp] theorem setCkp_ckp (f : CkptState → CkptState) (s : State) : (setCkp f s).ckp = f s.ckp := rfl
@[simp] theorem setCkp_obs (f : CkptState → CkptState) (s : State) : (setCkp f s).obs = s.obs := rfl
@[simp] theorem setCkp_pending (f : CkptState → CkptState) (s : State) : (setCkp f s).pending = s.pending := rfl
@[simp] theorem setCkp_out (f : CkptState → CkptState) (s : State) : (setCkp f s).out = s.out := rfl

/-! ### putRing -/
@[simp] theorem putRing_freeCtr (r : Nat) (x : RspRing) (s : State) : (putRing r x s).freeCtr = s.freeCtr := rfl
@[simp] theorem putRing_time (r : Nat) (x : RspRing) (s : State) : (putRing r x s).time = s.time := rfl
@[simp] theorem putRing_regs (r : Nat) (x : RspRing) (s : State) : (putRing r x s).regs = s.regs := rfl
@[simp] theorem putRing_cfg (r : Nat) (x : RspRing) (s : State) : (putRing r x s).cfg = s.cfg := rfl
@[simp] theorem putRing_links (r : Nat) (x : RspRing) (s : State) : (putRing r x s).links = s.links := rfl
@[simp] theorem putRing_power (r : Nat) (x : RspRing) (s : State) : (putRing r x s).power = s.power := rfl
@[simp] theorem putRing_bur (r : Nat) (x : RspRing) (s : State) : (putRing r x s).bur = s.bur := rfl
@[simp] theorem putRing_tier (r : Nat) (x : RspRing) (s : State) : (putRing r x s).tier = s.tier := rfl
@[simp] theorem putRing_chest (r : Nat) (x : RspRing) (s : State) : (putRing r x s).chest = s.chest := rfl
@[simp] theorem putRing_fur (r : Nat) (x : RspRing) (s : State) : (putRing r x s).fur = { s.fur with rings := NMap.put s.fur.rings r x } := rfl
@[simp] theorem putRing_gen (r : Nat) (x : RspRing) (s : State) : (putRing r x s).gen = s.gen := rfl
@[simp] theorem putRing_gln (r : Nat) (x : RspRing) (s : State) : (putRing r x s).gln = s.gln := rfl
@[simp] theorem putRing_tin (r : Nat) (x : RspRing) (s : State) : (putRing r x s).tin = s.tin := rfl
@[simp] theorem putRing_sync (r : Nat) (x : RspRing) (s : State) : (putRing r x s).sync = s.sync := rfl
@[simp] theorem putRing_host (r : Nat) (x : RspRing) (s : State) : (putRing r x s).host = s.host := rfl
@[simp] theorem putRing_klt (r : Nat) (x : RspRing) (s : State) : (putRing r x s).klt = s.klt := rfl
@[simp] theorem putRing_tsc (r : Nat) (x : RspRing) (s : State) : (putRing r x s).tsc = s.tsc := rfl
@[simp] theorem putRing_sec (r : Nat) (x : RspRing) (s : State) : (putRing r x s).sec = s.sec := rfl
@[simp] theorem putRing_ckp (r : Nat) (x : RspRing) (s : State) : (putRing r x s).ckp = s.ckp := rfl
@[simp] theorem putRing_obs (r : Nat) (x : RspRing) (s : State) : (putRing r x s).obs = s.obs := rfl
@[simp] theorem putRing_pending (r : Nat) (x : RspRing) (s : State) : (putRing r x s).pending = s.pending := rfl
@[simp] theorem putRing_out (r : Nat) (x : RspRing) (s : State) : (putRing r x s).out = s.out := rfl

/-! ### kltPost -/
@[simp] theorem kltPost_freeCtr (r : KltReq) (s : State) : (kltPost r s).freeCtr = s.freeCtr := rfl
@[simp] theorem kltPost_time (r : KltReq) (s : State) : (kltPost r s).time = s.time := rfl
@[simp] theorem kltPost_regs (r : KltReq) (s : State) : (kltPost r s).regs = s.regs := rfl
@[simp] theorem kltPost_cfg (r : KltReq) (s : State) : (kltPost r s).cfg = s.cfg := rfl
@[simp] theorem kltPost_links (r : KltReq) (s : State) : (kltPost r s).links = s.links := rfl
@[simp] theorem kltPost_power (r : KltReq) (s : State) : (kltPost r s).power = s.power := rfl
@[simp] theorem kltPost_bur (r : KltReq) (s : State) : (kltPost r s).bur = s.bur := rfl
@[simp] theorem kltPost_tier (r : KltReq) (s : State) : (kltPost r s).tier = s.tier := rfl
@[simp] theorem kltPost_chest (r : KltReq) (s : State) : (kltPost r s).chest = s.chest := rfl
@[simp] theorem kltPost_fur (r : KltReq) (s : State) : (kltPost r s).fur = s.fur := rfl
@[simp] theorem kltPost_gen (r : KltReq) (s : State) : (kltPost r s).gen = s.gen := rfl
@[simp] theorem kltPost_gln (r : KltReq) (s : State) : (kltPost r s).gln = s.gln := rfl
@[simp] theorem kltPost_tin (r : KltReq) (s : State) : (kltPost r s).tin = s.tin := rfl
@[simp] theorem kltPost_sync (r : KltReq) (s : State) : (kltPost r s).sync = s.sync := rfl
@[simp] theorem kltPost_host (r : KltReq) (s : State) : (kltPost r s).host = s.host := rfl
@[simp] theorem kltPost_klt (r : KltReq) (s : State) : (kltPost r s).klt = { s.klt with reqs := s.klt.reqs ++ [r] } := rfl
@[simp] theorem kltPost_tsc (r : KltReq) (s : State) : (kltPost r s).tsc = s.tsc := rfl
@[simp] theorem kltPost_sec (r : KltReq) (s : State) : (kltPost r s).sec = s.sec := rfl
@[simp] theorem kltPost_ckp (r : KltReq) (s : State) : (kltPost r s).ckp = s.ckp := rfl
@[simp] theorem kltPost_obs (r : KltReq) (s : State) : (kltPost r s).obs = s.obs := rfl
@[simp] theorem kltPost_pending (r : KltReq) (s : State) : (kltPost r s).pending = s.pending := rfl
@[simp] theorem kltPost_out (r : KltReq) (s : State) : (kltPost r s).out = s.out := rfl

/-! ### nearWrite -/
@[simp] theorem nearWrite_freeCtr (a : Acre) (addr : Nat) (bs : List Byte) (s : State) : (nearWrite a addr bs s).freeCtr = s.freeCtr := rfl
@[simp] theorem nearWrite_time (a : Acre) (addr : Nat) (bs : List Byte) (s : State) : (nearWrite a addr bs s).time = s.time := rfl
@[simp] theorem nearWrite_regs (a : Acre) (addr : Nat) (bs : List Byte) (s : State) : (nearWrite a addr bs s).regs = s.regs := rfl
@[simp] theorem nearWrite_cfg (a : Acre) (addr : Nat) (bs : List Byte) (s : State) : (nearWrite a addr bs s).cfg = s.cfg := rfl
@[simp] theorem nearWrite_links (a : Acre) (addr : Nat) (bs : List Byte) (s : State) : (nearWrite a addr bs s).links = s.links := rfl
@[simp] theorem nearWrite_power (a : Acre) (addr : Nat) (bs : List Byte) (s : State) : (nearWrite a addr bs s).power = s.power := rfl
@[simp] theorem nearWrite_bur (a : Acre) (addr : Nat) (bs : List Byte) (s : State) : (nearWrite a addr bs s).bur = s.bur := rfl
@[simp] theorem nearWrite_tier (a : Acre) (addr : Nat) (bs : List Byte) (s : State) : (nearWrite a addr bs s).tier = { s.tier with near := s.tier.near.set a (Cells.writeN (s.tier.near.get a) (addr % 2 ^ 46) bs) } := rfl
@[simp] theorem nearWrite_chest (a : Acre) (addr : Nat) (bs : List Byte) (s : State) : (nearWrite a addr bs s).chest = s.chest := rfl
@[simp] theorem nearWrite_fur (a : Acre) (addr : Nat) (bs : List Byte) (s : State) : (nearWrite a addr bs s).fur = s.fur := rfl
@[simp] theorem nearWrite_gen (a : Acre) (addr : Nat) (bs : List Byte) (s : State) : (nearWrite a addr bs s).gen = s.gen := rfl
@[simp] theorem nearWrite_gln (a : Acre) (addr : Nat) (bs : List Byte) (s : State) : (nearWrite a addr bs s).gln = s.gln := rfl
@[simp] theorem nearWrite_tin (a : Acre) (addr : Nat) (bs : List Byte) (s : State) : (nearWrite a addr bs s).tin = s.tin := rfl
@[simp] theorem nearWrite_sync (a : Acre) (addr : Nat) (bs : List Byte) (s : State) : (nearWrite a addr bs s).sync = s.sync := rfl
@[simp] theorem nearWrite_host (a : Acre) (addr : Nat) (bs : List Byte) (s : State) : (nearWrite a addr bs s).host = s.host := rfl
@[simp] theorem nearWrite_klt (a : Acre) (addr : Nat) (bs : List Byte) (s : State) : (nearWrite a addr bs s).klt = s.klt := rfl
@[simp] theorem nearWrite_tsc (a : Acre) (addr : Nat) (bs : List Byte) (s : State) : (nearWrite a addr bs s).tsc = s.tsc := rfl
@[simp] theorem nearWrite_sec (a : Acre) (addr : Nat) (bs : List Byte) (s : State) : (nearWrite a addr bs s).sec = s.sec := rfl
@[simp] theorem nearWrite_ckp (a : Acre) (addr : Nat) (bs : List Byte) (s : State) : (nearWrite a addr bs s).ckp = s.ckp := rfl
@[simp] theorem nearWrite_obs (a : Acre) (addr : Nat) (bs : List Byte) (s : State) : (nearWrite a addr bs s).obs = s.obs := rfl
@[simp] theorem nearWrite_pending (a : Acre) (addr : Nat) (bs : List Byte) (s : State) : (nearWrite a addr bs s).pending = s.pending := rfl
@[simp] theorem nearWrite_out (a : Acre) (addr : Nat) (bs : List Byte) (s : State) : (nearWrite a addr bs s).out = s.out := rfl

/-! ### putArq -/
@[simp] theorem putArq_freeCtr (n : Nat) (q : Arq) (s : State) : (putArq n q s).freeCtr = s.freeCtr := rfl
@[simp] theorem putArq_time (n : Nat) (q : Arq) (s : State) : (putArq n q s).time = s.time := rfl
@[simp] theorem putArq_regs (n : Nat) (q : Arq) (s : State) : (putArq n q s).regs = s.regs := rfl
@[simp] theorem putArq_cfg (n : Nat) (q : Arq) (s : State) : (putArq n q s).cfg = s.cfg := rfl
@[simp] theorem putArq_links (n : Nat) (q : Arq) (s : State) : (putArq n q s).links = s.links := rfl
@[simp] theorem putArq_power (n : Nat) (q : Arq) (s : State) : (putArq n q s).power = s.power := rfl
@[simp] theorem putArq_bur (n : Nat) (q : Arq) (s : State) : (putArq n q s).bur = s.bur := rfl
@[simp] theorem putArq_tier (n : Nat) (q : Arq) (s : State) : (putArq n q s).tier = s.tier := rfl
@[simp] theorem putArq_chest (n : Nat) (q : Arq) (s : State) : (putArq n q s).chest = s.chest := rfl
@[simp] theorem putArq_fur (n : Nat) (q : Arq) (s : State) : (putArq n q s).fur = { s.fur with arqs := NMap.put s.fur.arqs n q } := rfl
@[simp] theorem putArq_gen (n : Nat) (q : Arq) (s : State) : (putArq n q s).gen = s.gen := rfl
@[simp] theorem putArq_gln (n : Nat) (q : Arq) (s : State) : (putArq n q s).gln = s.gln := rfl
@[simp] theorem putArq_tin (n : Nat) (q : Arq) (s : State) : (putArq n q s).tin = s.tin := rfl
@[simp] theorem putArq_sync (n : Nat) (q : Arq) (s : State) : (putArq n q s).sync = s.sync := rfl
@[simp] theorem putArq_host (n : Nat) (q : Arq) (s : State) : (putArq n q s).host = s.host := rfl
@[simp] theorem putArq_klt (n : Nat) (q : Arq) (s : State) : (putArq n q s).klt = s.klt := rfl
@[simp] theorem putArq_tsc (n : Nat) (q : Arq) (s : State) : (putArq n q s).tsc = s.tsc := rfl
@[simp] theorem putArq_sec (n : Nat) (q : Arq) (s : State) : (putArq n q s).sec = s.sec := rfl
@[simp] theorem putArq_ckp (n : Nat) (q : Arq) (s : State) : (putArq n q s).ckp = s.ckp := rfl
@[simp] theorem putArq_obs (n : Nat) (q : Arq) (s : State) : (putArq n q s).obs = s.obs := rfl
@[simp] theorem putArq_pending (n : Nat) (q : Arq) (s : State) : (putArq n q s).pending = s.pending := rfl
@[simp] theorem putArq_out (n : Nat) (q : Arq) (s : State) : (putArq n q s).out = s.out := rfl

/-! ### putTkq -/
@[simp] theorem putTkq_freeCtr (n : Nat) (q : Tkq) (s : State) : (putTkq n q s).freeCtr = s.freeCtr := rfl
@[simp] theorem putTkq_time (n : Nat) (q : Tkq) (s : State) : (putTkq n q s).time = s.time := rfl
@[simp] theorem putTkq_regs (n : Nat) (q : Tkq) (s : State) : (putTkq n q s).regs = s.regs := rfl
@[simp] theorem putTkq_cfg (n : Nat) (q : Tkq) (s : State) : (putTkq n q s).cfg = s.cfg := rfl
@[simp] theorem putTkq_links (n : Nat) (q : Tkq) (s : State) : (putTkq n q s).links = s.links := rfl
@[simp] theorem putTkq_power (n : Nat) (q : Tkq) (s : State) : (putTkq n q s).power = s.power := rfl
@[simp] theorem putTkq_bur (n : Nat) (q : Tkq) (s : State) : (putTkq n q s).bur = s.bur := rfl
@[simp] theorem putTkq_tier (n : Nat) (q : Tkq) (s : State) : (putTkq n q s).tier = s.tier := rfl
@[simp] theorem putTkq_chest (n : Nat) (q : Tkq) (s : State) : (putTkq n q s).chest = s.chest := rfl
@[simp] theorem putTkq_fur (n : Nat) (q : Tkq) (s : State) : (putTkq n q s).fur = s.fur := rfl
@[simp] theorem putTkq_gen (n : Nat) (q : Tkq) (s : State) : (putTkq n q s).gen = { s.gen with tkqs := NMap.put s.gen.tkqs n q } := rfl
@[simp] theorem putTkq_gln (n : Nat) (q : Tkq) (s : State) : (putTkq n q s).gln = s.gln := rfl
@[simp] theorem putTkq_tin (n : Nat) (q : Tkq) (s : State) : (putTkq n q s).tin = s.tin := rfl
@[simp] theorem putTkq_sync (n : Nat) (q : Tkq) (s : State) : (putTkq n q s).sync = s.sync := rfl
@[simp] theorem putTkq_host (n : Nat) (q : Tkq) (s : State) : (putTkq n q s).host = s.host := rfl
@[simp] theorem putTkq_klt (n : Nat) (q : Tkq) (s : State) : (putTkq n q s).klt = s.klt := rfl
@[simp] theorem putTkq_tsc (n : Nat) (q : Tkq) (s : State) : (putTkq n q s).tsc = s.tsc := rfl
@[simp] theorem putTkq_sec (n : Nat) (q : Tkq) (s : State) : (putTkq n q s).sec = s.sec := rfl
@[simp] theorem putTkq_ckp (n : Nat) (q : Tkq) (s : State) : (putTkq n q s).ckp = s.ckp := rfl
@[simp] theorem putTkq_obs (n : Nat) (q : Tkq) (s : State) : (putTkq n q s).obs = s.obs := rfl
@[simp] theorem putTkq_pending (n : Nat) (q : Tkq) (s : State) : (putTkq n q s).pending = s.pending := rfl
@[simp] theorem putTkq_out (n : Nat) (q : Tkq) (s : State) : (putTkq n q s).out = s.out := rfl

/-! ### putFur -/
@[simp] theorem putFur_freeCtr (f : Nat) (u : FurrowUse) (s : State) : (putFur f u s).freeCtr = s.freeCtr := rfl
@[simp] theorem putFur_time (f : Nat) (u : FurrowUse) (s : State) : (putFur f u s).time = s.time := rfl
@[simp] theorem putFur_regs (f : Nat) (u : FurrowUse) (s : State) : (putFur f u s).regs = s.regs := rfl
@[simp] theorem putFur_cfg (f : Nat) (u : FurrowUse) (s : State) : (putFur f u s).cfg = s.cfg := rfl
@[simp] theorem putFur_links (f : Nat) (u : FurrowUse) (s : State) : (putFur f u s).links = s.links := rfl
@[simp] theorem putFur_power (f : Nat) (u : FurrowUse) (s : State) : (putFur f u s).power = s.power := rfl
@[simp] theorem putFur_bur (f : Nat) (u : FurrowUse) (s : State) : (putFur f u s).bur = s.bur := rfl
@[simp] theorem putFur_tier (f : Nat) (u : FurrowUse) (s : State) : (putFur f u s).tier = s.tier := rfl
@[simp] theorem putFur_chest (f : Nat) (u : FurrowUse) (s : State) : (putFur f u s).chest = s.chest := rfl
@[simp] theorem putFur_fur (f : Nat) (u : FurrowUse) (s : State) : (putFur f u s).fur = { s.fur with units := NMap.putD .idle s.fur.units f u } := rfl
@[simp] theorem putFur_gen (f : Nat) (u : FurrowUse) (s : State) : (putFur f u s).gen = s.gen := rfl
@[simp] theorem putFur_gln (f : Nat) (u : FurrowUse) (s : State) : (putFur f u s).gln = s.gln := rfl
@[simp] theorem putFur_tin (f : Nat) (u : FurrowUse) (s : State) : (putFur f u s).tin = s.tin := rfl
@[simp] theorem putFur_sync (f : Nat) (u : FurrowUse) (s : State) : (putFur f u s).sync = s.sync := rfl
@[simp] theorem putFur_host (f : Nat) (u : FurrowUse) (s : State) : (putFur f u s).host = s.host := rfl
@[simp] theorem putFur_klt (f : Nat) (u : FurrowUse) (s : State) : (putFur f u s).klt = s.klt := rfl
@[simp] theorem putFur_tsc (f : Nat) (u : FurrowUse) (s : State) : (putFur f u s).tsc = s.tsc := rfl
@[simp] theorem putFur_sec (f : Nat) (u : FurrowUse) (s : State) : (putFur f u s).sec = s.sec := rfl
@[simp] theorem putFur_ckp (f : Nat) (u : FurrowUse) (s : State) : (putFur f u s).ckp = s.ckp := rfl
@[simp] theorem putFur_obs (f : Nat) (u : FurrowUse) (s : State) : (putFur f u s).obs = s.obs := rfl
@[simp] theorem putFur_pending (f : Nat) (u : FurrowUse) (s : State) : (putFur f u s).pending = s.pending := rfl
@[simp] theorem putFur_out (f : Nat) (u : FurrowUse) (s : State) : (putFur f u s).out = s.out := rfl

/-! ### setEntryF -/
@[simp] theorem setEntryF_freeCtr (id : Nat) (f : AttnEntry → AttnEntry) (s : State) : (setEntryF id f s).freeCtr = s.freeCtr := rfl
@[simp] theorem setEntryF_time (id : Nat) (f : AttnEntry → AttnEntry) (s : State) : (setEntryF id f s).time = s.time := rfl
@[simp] theorem setEntryF_regs (id : Nat) (f : AttnEntry → AttnEntry) (s : State) : (setEntryF id f s).regs = s.regs := rfl
@[simp] theorem setEntryF_cfg (id : Nat) (f : AttnEntry → AttnEntry) (s : State) : (setEntryF id f s).cfg = s.cfg := rfl
@[simp] theorem setEntryF_links (id : Nat) (f : AttnEntry → AttnEntry) (s : State) : (setEntryF id f s).links = s.links := rfl
@[simp] theorem setEntryF_power (id : Nat) (f : AttnEntry → AttnEntry) (s : State) : (setEntryF id f s).power = s.power := rfl
@[simp] theorem setEntryF_bur (id : Nat) (f : AttnEntry → AttnEntry) (s : State) : (setEntryF id f s).bur = s.bur := rfl
@[simp] theorem setEntryF_tier (id : Nat) (f : AttnEntry → AttnEntry) (s : State) : (setEntryF id f s).tier = s.tier := rfl
@[simp] theorem setEntryF_chest (id : Nat) (f : AttnEntry → AttnEntry) (s : State) : (setEntryF id f s).chest = s.chest := rfl
@[simp] theorem setEntryF_fur (id : Nat) (f : AttnEntry → AttnEntry) (s : State) : (setEntryF id f s).fur = { s.fur with entries := NMap.modify s.fur.entries id f } := rfl
@[simp] theorem setEntryF_gen (id : Nat) (f : AttnEntry → AttnEntry) (s : State) : (setEntryF id f s).gen = s.gen := rfl
@[simp] theorem setEntryF_gln (id : Nat) (f : AttnEntry → AttnEntry) (s : State) : (setEntryF id f s).gln = s.gln := rfl
@[simp] theorem setEntryF_tin (id : Nat) (f : AttnEntry → AttnEntry) (s : State) : (setEntryF id f s).tin = s.tin := rfl
@[simp] theorem setEntryF_sync (id : Nat) (f : AttnEntry → AttnEntry) (s : State) : (setEntryF id f s).sync = s.sync := rfl
@[simp] theorem setEntryF_host (id : Nat) (f : AttnEntry → AttnEntry) (s : State) : (setEntryF id f s).host = s.host := rfl
@[simp] theorem setEntryF_klt (id : Nat) (f : AttnEntry → AttnEntry) (s : State) : (setEntryF id f s).klt = s.klt := rfl
@[simp] theorem setEntryF_tsc (id : Nat) (f : AttnEntry → AttnEntry) (s : State) : (setEntryF id f s).tsc = s.tsc := rfl
@[simp] theorem setEntryF_sec (id : Nat) (f : AttnEntry → AttnEntry) (s : State) : (setEntryF id f s).sec = s.sec := rfl
@[simp] theorem setEntryF_ckp (id : Nat) (f : AttnEntry → AttnEntry) (s : State) : (setEntryF id f s).ckp = s.ckp := rfl
@[simp] theorem setEntryF_obs (id : Nat) (f : AttnEntry → AttnEntry) (s : State) : (setEntryF id f s).obs = s.obs := rfl
@[simp] theorem setEntryF_pending (id : Nat) (f : AttnEntry → AttnEntry) (s : State) : (setEntryF id f s).pending = s.pending := rfl
@[simp] theorem setEntryF_out (id : Nat) (f : AttnEntry → AttnEntry) (s : State) : (setEntryF id f s).out = s.out := rfl

/-! ### dropItems -/
@[simp] theorem dropItems_freeCtr (id : Nat) (s : State) : (dropItems id s).freeCtr = s.freeCtr := rfl
@[simp] theorem dropItems_time (id : Nat) (s : State) : (dropItems id s).time = s.time := rfl
@[simp] theorem dropItems_regs (id : Nat) (s : State) : (dropItems id s).regs = s.regs := rfl
@[simp] theorem dropItems_cfg (id : Nat) (s : State) : (dropItems id s).cfg = s.cfg := rfl
@[simp] theorem dropItems_links (id : Nat) (s : State) : (dropItems id s).links = s.links := rfl
@[simp] theorem dropItems_power (id : Nat) (s : State) : (dropItems id s).power = s.power := rfl
@[simp] theorem dropItems_bur (id : Nat) (s : State) : (dropItems id s).bur = s.bur := rfl
@[simp] theorem dropItems_tier (id : Nat) (s : State) : (dropItems id s).tier = s.tier := rfl
@[simp] theorem dropItems_chest (id : Nat) (s : State) : (dropItems id s).chest = s.chest := rfl
@[simp] theorem dropItems_gen (id : Nat) (s : State) : (dropItems id s).gen = s.gen := rfl
@[simp] theorem dropItems_gln (id : Nat) (s : State) : (dropItems id s).gln = s.gln := rfl
@[simp] theorem dropItems_tin (id : Nat) (s : State) : (dropItems id s).tin = s.tin := rfl
@[simp] theorem dropItems_sync (id : Nat) (s : State) : (dropItems id s).sync = s.sync := rfl
@[simp] theorem dropItems_host (id : Nat) (s : State) : (dropItems id s).host = s.host := rfl
@[simp] theorem dropItems_klt (id : Nat) (s : State) : (dropItems id s).klt = s.klt := rfl
@[simp] theorem dropItems_tsc (id : Nat) (s : State) : (dropItems id s).tsc = s.tsc := rfl
@[simp] theorem dropItems_sec (id : Nat) (s : State) : (dropItems id s).sec = s.sec := rfl
@[simp] theorem dropItems_ckp (id : Nat) (s : State) : (dropItems id s).ckp = s.ckp := rfl
@[simp] theorem dropItems_obs (id : Nat) (s : State) : (dropItems id s).obs = s.obs := rfl
@[simp] theorem dropItems_pending (id : Nat) (s : State) : (dropItems id s).pending = s.pending := rfl
@[simp] theorem dropItems_out (id : Nat) (s : State) : (dropItems id s).out = s.out := rfl

/-! ### putIdx -/
@[simp] theorem putIdx_freeCtr (slot : Nat) (x : Index) (s : State) : (putIdx slot x s).freeCtr = s.freeCtr := rfl
@[simp] theorem putIdx_time (slot : Nat) (x : Index) (s : State) : (putIdx slot x s).time = s.time := rfl
@[simp] theorem putIdx_regs (slot : Nat) (x : Index) (s : State) : (putIdx slot x s).regs = s.regs := rfl
@[simp] theorem putIdx_cfg (slot : Nat) (x : Index) (s : State) : (putIdx slot x s).cfg = s.cfg := rfl
@[simp] theorem putIdx_links (slot : Nat) (x : Index) (s : State) : (putIdx slot x s).links = s.links := rfl
@[simp] theorem putIdx_power (slot : Nat) (x : Index) (s : State) : (putIdx slot x s).power = s.power := rfl
@[simp] theorem putIdx_bur (slot : Nat) (x : Index) (s : State) : (putIdx slot x s).bur = s.bur := rfl
@[simp] theorem putIdx_tier (slot : Nat) (x : Index) (s : State) : (putIdx slot x s).tier = s.tier := rfl
@[simp] theorem putIdx_chest (slot : Nat) (x : Index) (s : State) : (putIdx slot x s).chest = s.chest := rfl
@[simp] theorem putIdx_fur (slot : Nat) (x : Index) (s : State) : (putIdx slot x s).fur = s.fur := rfl
@[simp] theorem putIdx_gen (slot : Nat) (x : Index) (s : State) : (putIdx slot x s).gen = s.gen := rfl
@[simp] theorem putIdx_gln (slot : Nat) (x : Index) (s : State) : (putIdx slot x s).gln = { s.gln with indexes := NMap.put s.gln.indexes slot x } := rfl
@[simp] theorem putIdx_tin (slot : Nat) (x : Index) (s : State) : (putIdx slot x s).tin = s.tin := rfl
@[simp] theorem putIdx_sync (slot : Nat) (x : Index) (s : State) : (putIdx slot x s).sync = s.sync := rfl
@[simp] theorem putIdx_host (slot : Nat) (x : Index) (s : State) : (putIdx slot x s).host = s.host := rfl
@[simp] theorem putIdx_klt (slot : Nat) (x : Index) (s : State) : (putIdx slot x s).klt = s.klt := rfl
@[simp] theorem putIdx_tsc (slot : Nat) (x : Index) (s : State) : (putIdx slot x s).tsc = s.tsc := rfl
@[simp] theorem putIdx_sec (slot : Nat) (x : Index) (s : State) : (putIdx slot x s).sec = s.sec := rfl
@[simp] theorem putIdx_ckp (slot : Nat) (x : Index) (s : State) : (putIdx slot x s).ckp = s.ckp := rfl
@[simp] theorem putIdx_obs (slot : Nat) (x : Index) (s : State) : (putIdx slot x s).obs = s.obs := rfl
@[simp] theorem putIdx_pending (slot : Nat) (x : Index) (s : State) : (putIdx slot x s).pending = s.pending := rfl
@[simp] theorem putIdx_out (slot : Nat) (x : Index) (s : State) : (putIdx slot x s).out = s.out := rfl

/-! ### modIdx -/
@[simp] theorem modIdx_freeCtr (slot : Nat) (f : Index → Index) (s : State) : (modIdx slot f s).freeCtr = s.freeCtr := rfl
@[simp] theorem modIdx_time (slot : Nat) (f : Index → Index) (s : State) : (modIdx slot f s).time = s.time := rfl
@[simp] theorem modIdx_regs (slot : Nat) (f : Index → Index) (s : State) : (modIdx slot f s).regs = s.regs := rfl
@[simp] theorem modIdx_cfg (slot : Nat) (f : Index → Index) (s : State) : (modIdx slot f s).cfg = s.cfg := rfl
@[simp] theorem modIdx_links (slot : Nat) (f : Index → Index) (s : State) : (modIdx slot f s).links = s.links := rfl
@[simp] theorem modIdx_power (slot : Nat) (f : Index → Index) (s : State) : (modIdx slot f s).power = s.power := rfl
@[simp] theorem modIdx_bur (slot : Nat) (f : Index → Index) (s : State) : (modIdx slot f s).bur = s.bur := rfl
@[simp] theorem modIdx_tier (slot : Nat) (f : Index → Index) (s : State) : (modIdx slot f s).tier = s.tier := rfl
@[simp] theorem modIdx_chest (slot : Nat) (f : Index → Index) (s : State) : (modIdx slot f s).chest = s.chest := rfl
@[simp] theorem modIdx_fur (slot : Nat) (f : Index → Index) (s : State) : (modIdx slot f s).fur = s.fur := rfl
@[simp] theorem modIdx_gen (slot : Nat) (f : Index → Index) (s : State) : (modIdx slot f s).gen = s.gen := rfl
@[simp] theorem modIdx_gln (slot : Nat) (f : Index → Index) (s : State) : (modIdx slot f s).gln = { s.gln with indexes := NMap.modify s.gln.indexes slot f } := rfl
@[simp] theorem modIdx_tin (slot : Nat) (f : Index → Index) (s : State) : (modIdx slot f s).tin = s.tin := rfl
@[simp] theorem modIdx_sync (slot : Nat) (f : Index → Index) (s : State) : (modIdx slot f s).sync = s.sync := rfl
@[simp] theorem modIdx_host (slot : Nat) (f : Index → Index) (s : State) : (modIdx slot f s).host = s.host := rfl
@[simp] theorem modIdx_klt (slot : Nat) (f : Index → Index) (s : State) : (modIdx slot f s).klt = s.klt := rfl
@[simp] theorem modIdx_tsc (slot : Nat) (f : Index → Index) (s : State) : (modIdx slot f s).tsc = s.tsc := rfl
@[simp] theorem modIdx_sec (slot : Nat) (f : Index → Index) (s : State) : (modIdx slot f s).sec = s.sec := rfl
@[simp] theorem modIdx_ckp (slot : Nat) (f : Index → Index) (s : State) : (modIdx slot f s).ckp = s.ckp := rfl
@[simp] theorem modIdx_obs (slot : Nat) (f : Index → Index) (s : State) : (modIdx slot f s).obs = s.obs := rfl
@[simp] theorem modIdx_pending (slot : Nat) (f : Index → Index) (s : State) : (modIdx slot f s).pending = s.pending := rfl
@[simp] theorem modIdx_out (slot : Nat) (f : Index → Index) (s : State) : (modIdx slot f s).out = s.out := rfl

/-! ### setBatch -/
@[simp] theorem setBatch_freeCtr (serial : Nat) (f : SBatch → SBatch) (s : State) : (setBatch serial f s).freeCtr = s.freeCtr := rfl
@[simp] theorem setBatch_time (serial : Nat) (f : SBatch → SBatch) (s : State) : (setBatch serial f s).time = s.time := rfl
@[simp] theorem setBatch_regs (serial : Nat) (f : SBatch → SBatch) (s : State) : (setBatch serial f s).regs = s.regs := rfl
@[simp] theorem setBatch_cfg (serial : Nat) (f : SBatch → SBatch) (s : State) : (setBatch serial f s).cfg = s.cfg := rfl
@[simp] theorem setBatch_links (serial : Nat) (f : SBatch → SBatch) (s : State) : (setBatch serial f s).links = s.links := rfl
@[simp] theorem setBatch_power (serial : Nat) (f : SBatch → SBatch) (s : State) : (setBatch serial f s).power = s.power := rfl
@[simp] theorem setBatch_bur (serial : Nat) (f : SBatch → SBatch) (s : State) : (setBatch serial f s).bur = s.bur := rfl
@[simp] theorem setBatch_tier (serial : Nat) (f : SBatch → SBatch) (s : State) : (setBatch serial f s).tier = s.tier := rfl
@[simp] theorem setBatch_chest (serial : Nat) (f : SBatch → SBatch) (s : State) : (setBatch serial f s).chest = s.chest := rfl
@[simp] theorem setBatch_fur (serial : Nat) (f : SBatch → SBatch) (s : State) : (setBatch serial f s).fur = s.fur := rfl
@[simp] theorem setBatch_gen (serial : Nat) (f : SBatch → SBatch) (s : State) : (setBatch serial f s).gen = s.gen := rfl
@[simp] theorem setBatch_gln (serial : Nat) (f : SBatch → SBatch) (s : State) : (setBatch serial f s).gln = { s.gln with batches := NMap.modify s.gln.batches serial f } := rfl
@[simp] theorem setBatch_tin (serial : Nat) (f : SBatch → SBatch) (s : State) : (setBatch serial f s).tin = s.tin := rfl
@[simp] theorem setBatch_sync (serial : Nat) (f : SBatch → SBatch) (s : State) : (setBatch serial f s).sync = s.sync := rfl
@[simp] theorem setBatch_host (serial : Nat) (f : SBatch → SBatch) (s : State) : (setBatch serial f s).host = s.host := rfl
@[simp] theorem setBatch_klt (serial : Nat) (f : SBatch → SBatch) (s : State) : (setBatch serial f s).klt = s.klt := rfl
@[simp] theorem setBatch_tsc (serial : Nat) (f : SBatch → SBatch) (s : State) : (setBatch serial f s).tsc = s.tsc := rfl
@[simp] theorem setBatch_sec (serial : Nat) (f : SBatch → SBatch) (s : State) : (setBatch serial f s).sec = s.sec := rfl
@[simp] theorem setBatch_ckp (serial : Nat) (f : SBatch → SBatch) (s : State) : (setBatch serial f s).ckp = s.ckp := rfl
@[simp] theorem setBatch_obs (serial : Nat) (f : SBatch → SBatch) (s : State) : (setBatch serial f s).obs = s.obs := rfl
@[simp] theorem setBatch_pending (serial : Nat) (f : SBatch → SBatch) (s : State) : (setBatch serial f s).pending = s.pending := rfl
@[simp] theorem setBatch_out (serial : Nat) (f : SBatch → SBatch) (s : State) : (setBatch serial f s).out = s.out := rfl

/-! ### queuePass -/
@[simp] theorem queuePass_freeCtr (a : Acre) (p : GlnRun) (s : State) : (queuePass a p s).freeCtr = s.freeCtr := rfl
@[simp] theorem queuePass_time (a : Acre) (p : GlnRun) (s : State) : (queuePass a p s).time = s.time := rfl
@[simp] theorem queuePass_regs (a : Acre) (p : GlnRun) (s : State) : (queuePass a p s).regs = s.regs := rfl
@[simp] theorem queuePass_cfg (a : Acre) (p : GlnRun) (s : State) : (queuePass a p s).cfg = s.cfg := rfl
@[simp] theorem queuePass_links (a : Acre) (p : GlnRun) (s : State) : (queuePass a p s).links = s.links := rfl
@[simp] theorem queuePass_power (a : Acre) (p : GlnRun) (s : State) : (queuePass a p s).power = s.power := rfl
@[simp] theorem queuePass_bur (a : Acre) (p : GlnRun) (s : State) : (queuePass a p s).bur = s.bur := rfl
@[simp] theorem queuePass_tier (a : Acre) (p : GlnRun) (s : State) : (queuePass a p s).tier = s.tier := rfl
@[simp] theorem queuePass_chest (a : Acre) (p : GlnRun) (s : State) : (queuePass a p s).chest = s.chest := rfl
@[simp] theorem queuePass_fur (a : Acre) (p : GlnRun) (s : State) : (queuePass a p s).fur = s.fur := rfl
@[simp] theorem queuePass_gen (a : Acre) (p : GlnRun) (s : State) : (queuePass a p s).gen = s.gen := rfl
@[simp] theorem queuePass_gln (a : Acre) (p : GlnRun) (s : State) : (queuePass a p s).gln = { s.gln with passQ := s.gln.passQ.set a (s.gln.passQ.get a ++ [p]) } := rfl
@[simp] theorem queuePass_tin (a : Acre) (p : GlnRun) (s : State) : (queuePass a p s).tin = s.tin := rfl
@[simp] theorem queuePass_sync (a : Acre) (p : GlnRun) (s : State) : (queuePass a p s).sync = s.sync := rfl
@[simp] theorem queuePass_host (a : Acre) (p : GlnRun) (s : State) : (queuePass a p s).host = s.host := rfl
@[simp] theorem queuePass_klt (a : Acre) (p : GlnRun) (s : State) : (queuePass a p s).klt = s.klt := rfl
@[simp] theorem queuePass_tsc (a : Acre) (p : GlnRun) (s : State) : (queuePass a p s).tsc = s.tsc := rfl
@[simp] theorem queuePass_sec (a : Acre) (p : GlnRun) (s : State) : (queuePass a p s).sec = s.sec := rfl
@[simp] theorem queuePass_ckp (a : Acre) (p : GlnRun) (s : State) : (queuePass a p s).ckp = s.ckp := rfl
@[simp] theorem queuePass_obs (a : Acre) (p : GlnRun) (s : State) : (queuePass a p s).obs = s.obs := rfl
@[simp] theorem queuePass_pending (a : Acre) (p : GlnRun) (s : State) : (queuePass a p s).pending = s.pending := rfl
@[simp] theorem queuePass_out (a : Acre) (p : GlnRun) (s : State) : (queuePass a p s).out = s.out := rfl

/-! ### freeGln -/
@[simp] theorem freeGln_freeCtr (g : Nat) (s : State) : (freeGln g s).freeCtr = s.freeCtr := rfl
@[simp] theorem freeGln_time (g : Nat) (s : State) : (freeGln g s).time = s.time := rfl
@[simp] theorem freeGln_regs (g : Nat) (s : State) : (freeGln g s).regs = s.regs := rfl
@[simp] theorem freeGln_cfg (g : Nat) (s : State) : (freeGln g s).cfg = s.cfg := rfl
@[simp] theorem freeGln_links (g : Nat) (s : State) : (freeGln g s).links = s.links := rfl
@[simp] theorem freeGln_power (g : Nat) (s : State) : (freeGln g s).power = s.power := rfl
@[simp] theorem freeGln_bur (g : Nat) (s : State) : (freeGln g s).bur = s.bur := rfl
@[simp] theorem freeGln_tier (g : Nat) (s : State) : (freeGln g s).tier = s.tier := rfl
@[simp] theorem freeGln_chest (g : Nat) (s : State) : (freeGln g s).chest = s.chest := rfl
@[simp] theorem freeGln_fur (g : Nat) (s : State) : (freeGln g s).fur = s.fur := rfl
@[simp] theorem freeGln_gen (g : Nat) (s : State) : (freeGln g s).gen = s.gen := rfl
@[simp] theorem freeGln_gln (g : Nat) (s : State) : (freeGln g s).gln = { s.gln with units := NMap.erase s.gln.units g } := rfl
@[simp] theorem freeGln_tin (g : Nat) (s : State) : (freeGln g s).tin = s.tin := rfl
@[simp] theorem freeGln_sync (g : Nat) (s : State) : (freeGln g s).sync = s.sync := rfl
@[simp] theorem freeGln_host (g : Nat) (s : State) : (freeGln g s).host = s.host := rfl
@[simp] theorem freeGln_klt (g : Nat) (s : State) : (freeGln g s).klt = s.klt := rfl
@[simp] theorem freeGln_tsc (g : Nat) (s : State) : (freeGln g s).tsc = s.tsc := rfl
@[simp] theorem freeGln_sec (g : Nat) (s : State) : (freeGln g s).sec = s.sec := rfl
@[simp] theorem freeGln_ckp (g : Nat) (s : State) : (freeGln g s).ckp = s.ckp := rfl
@[simp] theorem freeGln_obs (g : Nat) (s : State) : (freeGln g s).obs = s.obs := rfl
@[simp] theorem freeGln_pending (g : Nat) (s : State) : (freeGln g s).pending = s.pending := rfl
@[simp] theorem freeGln_out (g : Nat) (s : State) : (freeGln g s).out = s.out := rfl

/-! ### putSrq -/
@[simp] theorem putSrq_freeCtr (n : Nat) (q : Srq) (s : State) : (putSrq n q s).freeCtr = s.freeCtr := rfl
@[simp] theorem putSrq_time (n : Nat) (q : Srq) (s : State) : (putSrq n q s).time = s.time := rfl
@[simp] theorem putSrq_regs (n : Nat) (q : Srq) (s : State) : (putSrq n q s).regs = s.regs := rfl
@[simp] theorem putSrq_cfg (n : Nat) (q : Srq) (s : State) : (putSrq n q s).cfg = s.cfg := rfl
@[simp] theorem putSrq_links (n : Nat) (q : Srq) (s : State) : (putSrq n q s).links = s.links := rfl
@[simp] theorem putSrq_power (n : Nat) (q : Srq) (s : State) : (putSrq n q s).power = s.power := rfl
@[simp] theorem putSrq_bur (n : Nat) (q : Srq) (s : State) : (putSrq n q s).bur = s.bur := rfl
@[simp] theorem putSrq_tier (n : Nat) (q : Srq) (s : State) : (putSrq n q s).tier = s.tier := rfl
@[simp] theorem putSrq_chest (n : Nat) (q : Srq) (s : State) : (putSrq n q s).chest = s.chest := rfl
@[simp] theorem putSrq_fur (n : Nat) (q : Srq) (s : State) : (putSrq n q s).fur = s.fur := rfl
@[simp] theorem putSrq_gen (n : Nat) (q : Srq) (s : State) : (putSrq n q s).gen = s.gen := rfl
@[simp] theorem putSrq_gln (n : Nat) (q : Srq) (s : State) : (putSrq n q s).gln = { s.gln with srqs := NMap.put s.gln.srqs n q } := rfl
@[simp] theorem putSrq_tin (n : Nat) (q : Srq) (s : State) : (putSrq n q s).tin = s.tin := rfl
@[simp] theorem putSrq_sync (n : Nat) (q : Srq) (s : State) : (putSrq n q s).sync = s.sync := rfl
@[simp] theorem putSrq_host (n : Nat) (q : Srq) (s : State) : (putSrq n q s).host = s.host := rfl
@[simp] theorem putSrq_klt (n : Nat) (q : Srq) (s : State) : (putSrq n q s).klt = s.klt := rfl
@[simp] theorem putSrq_tsc (n : Nat) (q : Srq) (s : State) : (putSrq n q s).tsc = s.tsc := rfl
@[simp] theorem putSrq_sec (n : Nat) (q : Srq) (s : State) : (putSrq n q s).sec = s.sec := rfl
@[simp] theorem putSrq_ckp (n : Nat) (q : Srq) (s : State) : (putSrq n q s).ckp = s.ckp := rfl
@[simp] theorem putSrq_obs (n : Nat) (q : Srq) (s : State) : (putSrq n q s).obs = s.obs := rfl
@[simp] theorem putSrq_pending (n : Nat) (q : Srq) (s : State) : (putSrq n q s).pending = s.pending := rfl
@[simp] theorem putSrq_out (n : Nat) (q : Srq) (s : State) : (putSrq n q s).out = s.out := rfl

/-! ### setFallow -/
@[simp] theorem setFallow_freeCtr (f : FallowState) (s : State) : (setFallow f s).freeCtr = s.freeCtr := rfl
@[simp] theorem setFallow_time (f : FallowState) (s : State) : (setFallow f s).time = s.time := rfl
@[simp] theorem setFallow_regs (f : FallowState) (s : State) : (setFallow f s).regs = s.regs := rfl
@[simp] theorem setFallow_cfg (f : FallowState) (s : State) : (setFallow f s).cfg = s.cfg := rfl
@[simp] theorem setFallow_links (f : FallowState) (s : State) : (setFallow f s).links = s.links := rfl
@[simp] theorem setFallow_power (f : FallowState) (s : State) : (setFallow f s).power = { s.power with fallow := f } := rfl
@[simp] theorem setFallow_bur (f : FallowState) (s : State) : (setFallow f s).bur = s.bur := rfl
@[simp] theorem setFallow_tier (f : FallowState) (s : State) : (setFallow f s).tier = s.tier := rfl
@[simp] theorem setFallow_chest (f : FallowState) (s : State) : (setFallow f s).chest = s.chest := rfl
@[simp] theorem setFallow_fur (f : FallowState) (s : State) : (setFallow f s).fur = s.fur := rfl
@[simp] theorem setFallow_gen (f : FallowState) (s : State) : (setFallow f s).gen = s.gen := rfl
@[simp] theorem setFallow_gln (f : FallowState) (s : State) : (setFallow f s).gln = s.gln := rfl
@[simp] theorem setFallow_tin (f : FallowState) (s : State) : (setFallow f s).tin = s.tin := rfl
@[simp] theorem setFallow_sync (f : FallowState) (s : State) : (setFallow f s).sync = s.sync := rfl
@[simp] theorem setFallow_host (f : FallowState) (s : State) : (setFallow f s).host = s.host := rfl
@[simp] theorem setFallow_klt (f : FallowState) (s : State) : (setFallow f s).klt = s.klt := rfl
@[simp] theorem setFallow_tsc (f : FallowState) (s : State) : (setFallow f s).tsc = s.tsc := rfl
@[simp] theorem setFallow_sec (f : FallowState) (s : State) : (setFallow f s).sec = s.sec := rfl
@[simp] theorem setFallow_ckp (f : FallowState) (s : State) : (setFallow f s).ckp = s.ckp := rfl
@[simp] theorem setFallow_obs (f : FallowState) (s : State) : (setFallow f s).obs = s.obs := rfl
@[simp] theorem setFallow_pending (f : FallowState) (s : State) : (setFallow f s).pending = s.pending := rfl
@[simp] theorem setFallow_out (f : FallowState) (s : State) : (setFallow f s).out = s.out := rfl

/-! ### putQp -/
@[simp] theorem putQp_freeCtr (q : Nat) (x : QPair) (s : State) : (putQp q x s).freeCtr = s.freeCtr := rfl
@[simp] theorem putQp_time (q : Nat) (x : QPair) (s : State) : (putQp q x s).time = s.time := rfl
@[simp] theorem putQp_regs (q : Nat) (x : QPair) (s : State) : (putQp q x s).regs = s.regs := rfl
@[simp] theorem putQp_cfg (q : Nat) (x : QPair) (s : State) : (putQp q x s).cfg = s.cfg := rfl
@[simp] theorem putQp_links (q : Nat) (x : QPair) (s : State) : (putQp q x s).links = s.links := rfl
@[simp] theorem putQp_power (q : Nat) (x : QPair) (s : State) : (putQp q x s).power = s.power := rfl
@[simp] theorem putQp_bur (q : Nat) (x : QPair) (s : State) : (putQp q x s).bur = s.bur := rfl
@[simp] theorem putQp_tier (q : Nat) (x : QPair) (s : State) : (putQp q x s).tier = s.tier := rfl
@[simp] theorem putQp_chest (q : Nat) (x : QPair) (s : State) : (putQp q x s).chest = s.chest := rfl
@[simp] theorem putQp_fur (q : Nat) (x : QPair) (s : State) : (putQp q x s).fur = s.fur := rfl
@[simp] theorem putQp_gen (q : Nat) (x : QPair) (s : State) : (putQp q x s).gen = s.gen := rfl
@[simp] theorem putQp_gln (q : Nat) (x : QPair) (s : State) : (putQp q x s).gln = s.gln := rfl
@[simp] theorem putQp_tin (q : Nat) (x : QPair) (s : State) : (putQp q x s).tin = s.tin := rfl
@[simp] theorem putQp_sync (q : Nat) (x : QPair) (s : State) : (putQp q x s).sync = s.sync := rfl
@[simp] theorem putQp_host (q : Nat) (x : QPair) (s : State) : (putQp q x s).host = { s.host with qps := NMap.put s.host.qps q x } := rfl
@[simp] theorem putQp_klt (q : Nat) (x : QPair) (s : State) : (putQp q x s).klt = s.klt := rfl
@[simp] theorem putQp_tsc (q : Nat) (x : QPair) (s : State) : (putQp q x s).tsc = s.tsc := rfl
@[simp] theorem putQp_sec (q : Nat) (x : QPair) (s : State) : (putQp q x s).sec = s.sec := rfl
@[simp] theorem putQp_ckp (q : Nat) (x : QPair) (s : State) : (putQp q x s).ckp = s.ckp := rfl
@[simp] theorem putQp_obs (q : Nat) (x : QPair) (s : State) : (putQp q x s).obs = s.obs := rfl
@[simp] theorem putQp_pending (q : Nat) (x : QPair) (s : State) : (putQp q x s).pending = s.pending := rfl
@[simp] theorem putQp_out (q : Nat) (x : QPair) (s : State) : (putQp q x s).out = s.out := rfl

/-! ### badDoorbell -/
@[simp] theorem badDoorbell_freeCtr (s : State) : (badDoorbell s).freeCtr = s.freeCtr := rfl
@[simp] theorem badDoorbell_time (s : State) : (badDoorbell s).time = s.time := rfl
@[simp] theorem badDoorbell_regs (s : State) : (badDoorbell s).regs = s.regs := rfl
@[simp] theorem badDoorbell_cfg (s : State) : (badDoorbell s).cfg = s.cfg := rfl
@[simp] theorem badDoorbell_links (s : State) : (badDoorbell s).links = s.links := rfl
@[simp] theorem badDoorbell_power (s : State) : (badDoorbell s).power = s.power := rfl
@[simp] theorem badDoorbell_bur (s : State) : (badDoorbell s).bur = s.bur := rfl
@[simp] theorem badDoorbell_tier (s : State) : (badDoorbell s).tier = s.tier := rfl
@[simp] theorem badDoorbell_chest (s : State) : (badDoorbell s).chest = s.chest := rfl
@[simp] theorem badDoorbell_fur (s : State) : (badDoorbell s).fur = s.fur := rfl
@[simp] theorem badDoorbell_gen (s : State) : (badDoorbell s).gen = s.gen := rfl
@[simp] theorem badDoorbell_gln (s : State) : (badDoorbell s).gln = s.gln := rfl
@[simp] theorem badDoorbell_tin (s : State) : (badDoorbell s).tin = s.tin := rfl
@[simp] theorem badDoorbell_sync (s : State) : (badDoorbell s).sync = s.sync := rfl
@[simp] theorem badDoorbell_host (s : State) : (badDoorbell s).host = { s.host with badDb := min (s.host.badDb + 1) (2 ^ 24 - 1) } := rfl
@[simp] theorem badDoorbell_klt (s : State) : (badDoorbell s).klt = s.klt := rfl
@[simp] theorem badDoorbell_tsc (s : State) : (badDoorbell s).tsc = s.tsc := rfl
@[simp] theorem badDoorbell_sec (s : State) : (badDoorbell s).sec = s.sec := rfl
@[simp] theorem badDoorbell_ckp (s : State) : (badDoorbell s).ckp = s.ckp := rfl
@[simp] theorem badDoorbell_obs (s : State) : (badDoorbell s).obs = s.obs := rfl
@[simp] theorem badDoorbell_pending (s : State) : (badDoorbell s).pending = s.pending := rfl
@[simp] theorem badDoorbell_out (s : State) : (badDoorbell s).out = s.out := rfl

/-! ### putStream -/
@[simp] theorem putStream_freeCtr (ring : Nat) (r : Ring) (s : State) : (putStream ring r s).freeCtr = s.freeCtr := rfl
@[simp] theorem putStream_time (ring : Nat) (r : Ring) (s : State) : (putStream ring r s).time = s.time := rfl
@[simp] theorem putStream_regs (ring : Nat) (r : Ring) (s : State) : (putStream ring r s).regs = s.regs := rfl
@[simp] theorem putStream_cfg (ring : Nat) (r : Ring) (s : State) : (putStream ring r s).cfg = s.cfg := rfl
@[simp] theorem putStream_links (ring : Nat) (r : Ring) (s : State) : (putStream ring r s).links = s.links := rfl
@[simp] theorem putStream_power (ring : Nat) (r : Ring) (s : State) : (putStream ring r s).power = s.power := rfl
@[simp] theorem putStream_bur (ring : Nat) (r : Ring) (s : State) : (putStream ring r s).bur = s.bur := rfl
@[simp] theorem putStream_tier (ring : Nat) (r : Ring) (s : State) : (putStream ring r s).tier = s.tier := rfl
@[simp] theorem putStream_chest (ring : Nat) (r : Ring) (s : State) : (putStream ring r s).chest = s.chest := rfl
@[simp] theorem putStream_fur (ring : Nat) (r : Ring) (s : State) : (putStream ring r s).fur = s.fur := rfl
@[simp] theorem putStream_gen (ring : Nat) (r : Ring) (s : State) : (putStream ring r s).gen = s.gen := rfl
@[simp] theorem putStream_gln (ring : Nat) (r : Ring) (s : State) : (putStream ring r s).gln = s.gln := rfl
@[simp] theorem putStream_tin (ring : Nat) (r : Ring) (s : State) : (putStream ring r s).tin = s.tin := rfl
@[simp] theorem putStream_sync (ring : Nat) (r : Ring) (s : State) : (putStream ring r s).sync = s.sync := rfl
@[simp] theorem putStream_host (ring : Nat) (r : Ring) (s : State) : (putStream ring r s).host = { s.host with streams := NMap.put s.host.streams ring r } := rfl
@[simp] theorem putStream_klt (ring : Nat) (r : Ring) (s : State) : (putStream ring r s).klt = s.klt := rfl
@[simp] theorem putStream_tsc (ring : Nat) (r : Ring) (s : State) : (putStream ring r s).tsc = s.tsc := rfl
@[simp] theorem putStream_sec (ring : Nat) (r : Ring) (s : State) : (putStream ring r s).sec = s.sec := rfl
@[simp] theorem putStream_ckp (ring : Nat) (r : Ring) (s : State) : (putStream ring r s).ckp = s.ckp := rfl
@[simp] theorem putStream_obs (ring : Nat) (r : Ring) (s : State) : (putStream ring r s).obs = s.obs := rfl
@[simp] theorem putStream_pending (ring : Nat) (r : Ring) (s : State) : (putStream ring r s).pending = s.pending := rfl
@[simp] theorem putStream_out (ring : Nat) (r : Ring) (s : State) : (putStream ring r s).out = s.out := rfl

/-! ### putEvRing -/
@[simp] theorem putEvRing_freeCtr (ring : Nat) (r : Ring) (s : State) : (putEvRing ring r s).freeCtr = s.freeCtr := rfl
@[simp] theorem putEvRing_time (ring : Nat) (r : Ring) (s : State) : (putEvRing ring r s).time = s.time := rfl
@[simp] theorem putEvRing_regs (ring : Nat) (r : Ring) (s : State) : (putEvRing ring r s).regs = s.regs := rfl
@[simp] theorem putEvRing_cfg (ring : Nat) (r : Ring) (s : State) : (putEvRing ring r s).cfg = s.cfg := rfl
@[simp] theorem putEvRing_links (ring : Nat) (r : Ring) (s : State) : (putEvRing ring r s).links = s.links := rfl
@[simp] theorem putEvRing_power (ring : Nat) (r : Ring) (s : State) : (putEvRing ring r s).power = s.power := rfl
@[simp] theorem putEvRing_bur (ring : Nat) (r : Ring) (s : State) : (putEvRing ring r s).bur = s.bur := rfl
@[simp] theorem putEvRing_tier (ring : Nat) (r : Ring) (s : State) : (putEvRing ring r s).tier = s.tier := rfl
@[simp] theorem putEvRing_chest (ring : Nat) (r : Ring) (s : State) : (putEvRing ring r s).chest = s.chest := rfl
@[simp] theorem putEvRing_fur (ring : Nat) (r : Ring) (s : State) : (putEvRing ring r s).fur = s.fur := rfl
@[simp] theorem putEvRing_gen (ring : Nat) (r : Ring) (s : State) : (putEvRing ring r s).gen = s.gen := rfl
@[simp] theorem putEvRing_gln (ring : Nat) (r : Ring) (s : State) : (putEvRing ring r s).gln = s.gln := rfl
@[simp] theorem putEvRing_tin (ring : Nat) (r : Ring) (s : State) : (putEvRing ring r s).tin = s.tin := rfl
@[simp] theorem putEvRing_sync (ring : Nat) (r : Ring) (s : State) : (putEvRing ring r s).sync = s.sync := rfl
@[simp] theorem putEvRing_host (ring : Nat) (r : Ring) (s : State) : (putEvRing ring r s).host = { s.host with events := NMap.put s.host.events ring r } := rfl
@[simp] theorem putEvRing_klt (ring : Nat) (r : Ring) (s : State) : (putEvRing ring r s).klt = s.klt := rfl
@[simp] theorem putEvRing_tsc (ring : Nat) (r : Ring) (s : State) : (putEvRing ring r s).tsc = s.tsc := rfl
@[simp] theorem putEvRing_sec (ring : Nat) (r : Ring) (s : State) : (putEvRing ring r s).sec = s.sec := rfl
@[simp] theorem putEvRing_ckp (ring : Nat) (r : Ring) (s : State) : (putEvRing ring r s).ckp = s.ckp := rfl
@[simp] theorem putEvRing_obs (ring : Nat) (r : Ring) (s : State) : (putEvRing ring r s).obs = s.obs := rfl
@[simp] theorem putEvRing_pending (ring : Nat) (r : Ring) (s : State) : (putEvRing ring r s).pending = s.pending := rfl
@[simp] theorem putEvRing_out (ring : Nat) (r : Ring) (s : State) : (putEvRing ring r s).out = s.out := rfl

/-! ### setRoute -/
@[simp] theorem setRoute_freeCtr (i : Nat) (r : Route) (s : State) : (setRoute i r s).freeCtr = s.freeCtr := rfl
@[simp] theorem setRoute_time (i : Nat) (r : Route) (s : State) : (setRoute i r s).time = s.time := rfl
@[simp] theorem setRoute_regs (i : Nat) (r : Route) (s : State) : (setRoute i r s).regs = s.regs := rfl
@[simp] theorem setRoute_cfg (i : Nat) (r : Route) (s : State) : (setRoute i r s).cfg = s.cfg := rfl
@[simp] theorem setRoute_links (i : Nat) (r : Route) (s : State) : (setRoute i r s).links = s.links := rfl
@[simp] theorem setRoute_power (i : Nat) (r : Route) (s : State) : (setRoute i r s).power = s.power := rfl
@[simp] theorem setRoute_bur (i : Nat) (r : Route) (s : State) : (setRoute i r s).bur = s.bur := rfl
@[simp] theorem setRoute_tier (i : Nat) (r : Route) (s : State) : (setRoute i r s).tier = s.tier := rfl
@[simp] theorem setRoute_chest (i : Nat) (r : Route) (s : State) : (setRoute i r s).chest = s.chest := rfl
@[simp] theorem setRoute_fur (i : Nat) (r : Route) (s : State) : (setRoute i r s).fur = s.fur := rfl
@[simp] theorem setRoute_gen (i : Nat) (r : Route) (s : State) : (setRoute i r s).gen = s.gen := rfl
@[simp] theorem setRoute_gln (i : Nat) (r : Route) (s : State) : (setRoute i r s).gln = s.gln := rfl
@[simp] theorem setRoute_tin (i : Nat) (r : Route) (s : State) : (setRoute i r s).tin = { s.tin with routes := if r.len = 0 then NMap.erase s.tin.routes i else NMap.put s.tin.routes i r } := rfl
@[simp] theorem setRoute_sync (i : Nat) (r : Route) (s : State) : (setRoute i r s).sync = s.sync := rfl
@[simp] theorem setRoute_host (i : Nat) (r : Route) (s : State) : (setRoute i r s).host = s.host := rfl
@[simp] theorem setRoute_klt (i : Nat) (r : Route) (s : State) : (setRoute i r s).klt = s.klt := rfl
@[simp] theorem setRoute_tsc (i : Nat) (r : Route) (s : State) : (setRoute i r s).tsc = s.tsc := rfl
@[simp] theorem setRoute_sec (i : Nat) (r : Route) (s : State) : (setRoute i r s).sec = s.sec := rfl
@[simp] theorem setRoute_ckp (i : Nat) (r : Route) (s : State) : (setRoute i r s).ckp = s.ckp := rfl
@[simp] theorem setRoute_obs (i : Nat) (r : Route) (s : State) : (setRoute i r s).obs = s.obs := rfl
@[simp] theorem setRoute_pending (i : Nat) (r : Route) (s : State) : (setRoute i r s).pending = s.pending := rfl
@[simp] theorem setRoute_out (i : Nat) (r : Route) (s : State) : (setRoute i r s).out = s.out := rfl

/-! ### setContracts -/
@[simp] theorem setContracts_freeCtr (a : Acre) (l : List Contract) (s : State) : (setContracts a l s).freeCtr = s.freeCtr := rfl
@[simp] theorem setContracts_time (a : Acre) (l : List Contract) (s : State) : (setContracts a l s).time = s.time := rfl
@[simp] theorem setContracts_regs (a : Acre) (l : List Contract) (s : State) : (setContracts a l s).regs = s.regs := rfl
@[simp] theorem setContracts_cfg (a : Acre) (l : List Contract) (s : State) : (setContracts a l s).cfg = s.cfg := rfl
@[simp] theorem setContracts_links (a : Acre) (l : List Contract) (s : State) : (setContracts a l s).links = s.links := rfl
@[simp] theorem setContracts_power (a : Acre) (l : List Contract) (s : State) : (setContracts a l s).power = s.power := rfl
@[simp] theorem setContracts_bur (a : Acre) (l : List Contract) (s : State) : (setContracts a l s).bur = s.bur := rfl
@[simp] theorem setContracts_tier (a : Acre) (l : List Contract) (s : State) : (setContracts a l s).tier = s.tier := rfl
@[simp] theorem setContracts_chest (a : Acre) (l : List Contract) (s : State) : (setContracts a l s).chest = s.chest := rfl
@[simp] theorem setContracts_fur (a : Acre) (l : List Contract) (s : State) : (setContracts a l s).fur = s.fur := rfl
@[simp] theorem setContracts_gen (a : Acre) (l : List Contract) (s : State) : (setContracts a l s).gen = s.gen := rfl
@[simp] theorem setContracts_gln (a : Acre) (l : List Contract) (s : State) : (setContracts a l s).gln = s.gln := rfl
@[simp] theorem setContracts_tin (a : Acre) (l : List Contract) (s : State) : (setContracts a l s).tin = { s.tin with contracts := s.tin.contracts.set a l } := rfl
@[simp] theorem setContracts_sync (a : Acre) (l : List Contract) (s : State) : (setContracts a l s).sync = s.sync := rfl
@[simp] theorem setContracts_host (a : Acre) (l : List Contract) (s : State) : (setContracts a l s).host = s.host := rfl
@[simp] theorem setContracts_klt (a : Acre) (l : List Contract) (s : State) : (setContracts a l s).klt = s.klt := rfl
@[simp] theorem setContracts_tsc (a : Acre) (l : List Contract) (s : State) : (setContracts a l s).tsc = s.tsc := rfl
@[simp] theorem setContracts_sec (a : Acre) (l : List Contract) (s : State) : (setContracts a l s).sec = s.sec := rfl
@[simp] theorem setContracts_ckp (a : Acre) (l : List Contract) (s : State) : (setContracts a l s).ckp = s.ckp := rfl
@[simp] theorem setContracts_obs (a : Acre) (l : List Contract) (s : State) : (setContracts a l s).obs = s.obs := rfl
@[simp] theorem setContracts_pending (a : Acre) (l : List Contract) (s : State) : (setContracts a l s).pending = s.pending := rfl
@[simp] theorem setContracts_out (a : Acre) (l : List Contract) (s : State) : (setContracts a l s).out = s.out := rfl

/-! ### dropGate -/
@[simp] theorem dropGate_freeCtr (q : Nat) (s : State) : (dropGate q s).freeCtr = s.freeCtr := rfl
@[simp] theorem dropGate_time (q : Nat) (s : State) : (dropGate q s).time = s.time := rfl
@[simp] theorem dropGate_regs (q : Nat) (s : State) : (dropGate q s).regs = s.regs := rfl
@[simp] theorem dropGate_cfg (q : Nat) (s : State) : (dropGate q s).cfg = s.cfg := rfl
@[simp] theorem dropGate_links (q : Nat) (s : State) : (dropGate q s).links = s.links := rfl
@[simp] theorem dropGate_power (q : Nat) (s : State) : (dropGate q s).power = s.power := rfl
@[simp] theorem dropGate_bur (q : Nat) (s : State) : (dropGate q s).bur = s.bur := rfl
@[simp] theorem dropGate_tier (q : Nat) (s : State) : (dropGate q s).tier = s.tier := rfl
@[simp] theorem dropGate_chest (q : Nat) (s : State) : (dropGate q s).chest = s.chest := rfl
@[simp] theorem dropGate_fur (q : Nat) (s : State) : (dropGate q s).fur = s.fur := rfl
@[simp] theorem dropGate_gen (q : Nat) (s : State) : (dropGate q s).gen = s.gen := rfl
@[simp] theorem dropGate_gln (q : Nat) (s : State) : (dropGate q s).gln = s.gln := rfl
@[simp] theorem dropGate_tin (q : Nat) (s : State) : (dropGate q s).tin = s.tin := rfl
@[simp] theorem dropGate_host (q : Nat) (s : State) : (dropGate q s).host = s.host := rfl
@[simp] theorem dropGate_klt (q : Nat) (s : State) : (dropGate q s).klt = s.klt := rfl
@[simp] theorem dropGate_tsc (q : Nat) (s : State) : (dropGate q s).tsc = s.tsc := rfl
@[simp] theorem dropGate_sec (q : Nat) (s : State) : (dropGate q s).sec = s.sec := rfl
@[simp] theorem dropGate_ckp (q : Nat) (s : State) : (dropGate q s).ckp = s.ckp := rfl
@[simp] theorem dropGate_obs (q : Nat) (s : State) : (dropGate q s).obs = s.obs := rfl
@[simp] theorem dropGate_pending (q : Nat) (s : State) : (dropGate q s).pending = s.pending := rfl
@[simp] theorem dropGate_out (q : Nat) (s : State) : (dropGate q s).out = s.out := rfl

/-! ### setKlt -/
@[simp] theorem setKlt_freeCtr (f : KltState → KltState) (s : State) : (setKlt f s).freeCtr = s.freeCtr := rfl
@[simp] theorem setKlt_time (f : KltState → KltState) (s : State) : (setKlt f s).time = s.time := rfl
@[simp] theorem setKlt_regs (f : KltState → KltState) (s : State) : (setKlt f s).regs = s.regs := rfl
@[simp] theorem setKlt_cfg (f : KltState → KltState) (s : State) : (setKlt f s).cfg = s.cfg := rfl
@[simp] theorem setKlt_links (f : KltState → KltState) (s : State) : (setKlt f s).links = s.links := rfl
@[simp] theorem setKlt_power (f : KltState → KltState) (s : State) : (setKlt f s).power = s.power := rfl
@[simp] theorem setKlt_bur (f : KltState → KltState) (s : State) : (setKlt f s).bur = s.bur := rfl
@[simp] theorem setKlt_tier (f : KltState → KltState) (s : State) : (setKlt f s).tier = s.tier := rfl
@[simp] theorem setKlt_chest (f : KltState → KltState) (s : State) : (setKlt f s).chest = s.chest := rfl
@[simp] theorem setKlt_fur (f : KltState → KltState) (s : State) : (setKlt f s).fur = s.fur := rfl
@[simp] theorem setKlt_gen (f : KltState → KltState) (s : State) : (setKlt f s).gen = s.gen := rfl
@[simp] theorem setKlt_gln (f : KltState → KltState) (s : State) : (setKlt f s).gln = s.gln := rfl
@[simp] theorem setKlt_tin (f : KltState → KltState) (s : State) : (setKlt f s).tin = s.tin := rfl
@[simp] theorem setKlt_sync (f : KltState → KltState) (s : State) : (setKlt f s).sync = s.sync := rfl
@[simp] theorem setKlt_host (f : KltState → KltState) (s : State) : (setKlt f s).host = s.host := rfl
@[simp] theorem setKlt_klt (f : KltState → KltState) (s : State) : (setKlt f s).klt = f s.klt := rfl
@[simp] theorem setKlt_tsc (f : KltState → KltState) (s : State) : (setKlt f s).tsc = s.tsc := rfl
@[simp] theorem setKlt_sec (f : KltState → KltState) (s : State) : (setKlt f s).sec = s.sec := rfl
@[simp] theorem setKlt_ckp (f : KltState → KltState) (s : State) : (setKlt f s).ckp = s.ckp := rfl
@[simp] theorem setKlt_obs (f : KltState → KltState) (s : State) : (setKlt f s).obs = s.obs := rfl
@[simp] theorem setKlt_pending (f : KltState → KltState) (s : State) : (setKlt f s).pending = s.pending := rfl
@[simp] theorem setKlt_out (f : KltState → KltState) (s : State) : (setKlt f s).out = s.out := rfl

/-! ### setTsc -/
@[simp] theorem setTsc_freeCtr (f : TscState → TscState) (s : State) : (setTsc f s).freeCtr = s.freeCtr := rfl
@[simp] theorem setTsc_time (f : TscState → TscState) (s : State) : (setTsc f s).time = s.time := rfl
@[simp] theorem setTsc_regs (f : TscState → TscState) (s : State) : (setTsc f s).regs = s.regs := rfl
@[simp] theorem setTsc_cfg (f : TscState → TscState) (s : State) : (setTsc f s).cfg = s.cfg := rfl
@[simp] theorem setTsc_links (f : TscState → TscState) (s : State) : (setTsc f s).links = s.links := rfl
@[simp] theorem setTsc_power (f : TscState → TscState) (s : State) : (setTsc f s).power = s.power := rfl
@[simp] theorem setTsc_bur (f : TscState → TscState) (s : State) : (setTsc f s).bur = s.bur := rfl
@[simp] theorem setTsc_tier (f : TscState → TscState) (s : State) : (setTsc f s).tier = s.tier := rfl
@[simp] theorem setTsc_chest (f : TscState → TscState) (s : State) : (setTsc f s).chest = s.chest := rfl
@[simp] theorem setTsc_fur (f : TscState → TscState) (s : State) : (setTsc f s).fur = s.fur := rfl
@[simp] theorem setTsc_gen (f : TscState → TscState) (s : State) : (setTsc f s).gen = s.gen := rfl
@[simp] theorem setTsc_gln (f : TscState → TscState) (s : State) : (setTsc f s).gln = s.gln := rfl
@[simp] theorem setTsc_tin (f : TscState → TscState) (s : State) : (setTsc f s).tin = s.tin := rfl
@[simp] theorem setTsc_sync (f : TscState → TscState) (s : State) : (setTsc f s).sync = s.sync := rfl
@[simp] theorem setTsc_host (f : TscState → TscState) (s : State) : (setTsc f s).host = s.host := rfl
@[simp] theorem setTsc_klt (f : TscState → TscState) (s : State) : (setTsc f s).klt = s.klt := rfl
@[simp] theorem setTsc_tsc (f : TscState → TscState) (s : State) : (setTsc f s).tsc = f s.tsc := rfl
@[simp] theorem setTsc_sec (f : TscState → TscState) (s : State) : (setTsc f s).sec = s.sec := rfl
@[simp] theorem setTsc_ckp (f : TscState → TscState) (s : State) : (setTsc f s).ckp = s.ckp := rfl
@[simp] theorem setTsc_obs (f : TscState → TscState) (s : State) : (setTsc f s).obs = s.obs := rfl
@[simp] theorem setTsc_pending (f : TscState → TscState) (s : State) : (setTsc f s).pending = s.pending := rfl
@[simp] theorem setTsc_out (f : TscState → TscState) (s : State) : (setTsc f s).out = s.out := rfl

/-! ### filterTouch -/
@[simp] theorem filterTouch_freeCtr (a : Acre) (addr : Nat) (bs : List Byte) (s : State) : (filterTouch a addr bs s).freeCtr = s.freeCtr := rfl
@[simp] theorem filterTouch_time (a : Acre) (addr : Nat) (bs : List Byte) (s : State) : (filterTouch a addr bs s).time = s.time := rfl
@[simp] theorem filterTouch_regs (a : Acre) (addr : Nat) (bs : List Byte) (s : State) : (filterTouch a addr bs s).regs = s.regs := rfl
@[simp] theorem filterTouch_cfg (a : Acre) (addr : Nat) (bs : List Byte) (s : State) : (filterTouch a addr bs s).cfg = s.cfg := rfl
@[simp] theorem filterTouch_links (a : Acre) (addr : Nat) (bs : List Byte) (s : State) : (filterTouch a addr bs s).links = s.links := rfl
@[simp] theorem filterTouch_power (a : Acre) (addr : Nat) (bs : List Byte) (s : State) : (filterTouch a addr bs s).power = s.power := rfl
@[simp] theorem filterTouch_bur (a : Acre) (addr : Nat) (bs : List Byte) (s : State) : (filterTouch a addr bs s).bur = s.bur := rfl
@[simp] theorem filterTouch_tier (a : Acre) (addr : Nat) (bs : List Byte) (s : State) : (filterTouch a addr bs s).tier = s.tier := rfl
@[simp] theorem filterTouch_chest (a : Acre) (addr : Nat) (bs : List Byte) (s : State) : (filterTouch a addr bs s).chest = s.chest := rfl
@[simp] theorem filterTouch_fur (a : Acre) (addr : Nat) (bs : List Byte) (s : State) : (filterTouch a addr bs s).fur = s.fur := rfl
@[simp] theorem filterTouch_gen (a : Acre) (addr : Nat) (bs : List Byte) (s : State) : (filterTouch a addr bs s).gen = s.gen := rfl
@[simp] theorem filterTouch_tin (a : Acre) (addr : Nat) (bs : List Byte) (s : State) : (filterTouch a addr bs s).tin = s.tin := rfl
@[simp] theorem filterTouch_sync (a : Acre) (addr : Nat) (bs : List Byte) (s : State) : (filterTouch a addr bs s).sync = s.sync := rfl
@[simp] theorem filterTouch_host (a : Acre) (addr : Nat) (bs : List Byte) (s : State) : (filterTouch a addr bs s).host = s.host := rfl
@[simp] theorem filterTouch_klt (a : Acre) (addr : Nat) (bs : List Byte) (s : State) : (filterTouch a addr bs s).klt = s.klt := rfl
@[simp] theorem filterTouch_tsc (a : Acre) (addr : Nat) (bs : List Byte) (s : State) : (filterTouch a addr bs s).tsc = s.tsc := rfl
@[simp] theorem filterTouch_sec (a : Acre) (addr : Nat) (bs : List Byte) (s : State) : (filterTouch a addr bs s).sec = s.sec := rfl
@[simp] theorem filterTouch_ckp (a : Acre) (addr : Nat) (bs : List Byte) (s : State) : (filterTouch a addr bs s).ckp = s.ckp := rfl
@[simp] theorem filterTouch_obs (a : Acre) (addr : Nat) (bs : List Byte) (s : State) : (filterTouch a addr bs s).obs = s.obs := rfl
@[simp] theorem filterTouch_pending (a : Acre) (addr : Nat) (bs : List Byte) (s : State) : (filterTouch a addr bs s).pending = s.pending := rfl
@[simp] theorem filterTouch_out (a : Acre) (addr : Nat) (bs : List Byte) (s : State) : (filterTouch a addr bs s).out = s.out := rfl

/-! ### noteAreas -/
@[simp] theorem noteAreas_freeCtr (slot tag : Nat) (ins outs : List (Nat × Nat)) (s : State) : (noteAreas slot tag ins outs s).freeCtr = s.freeCtr := rfl
@[simp] theorem noteAreas_time (slot tag : Nat) (ins outs : List (Nat × Nat)) (s : State) : (noteAreas slot tag ins outs s).time = s.time := rfl
@[simp] theorem noteAreas_regs (slot tag : Nat) (ins outs : List (Nat × Nat)) (s : State) : (noteAreas slot tag ins outs s).regs = s.regs := rfl
@[simp] theorem noteAreas_cfg (slot tag : Nat) (ins outs : List (Nat × Nat)) (s : State) : (noteAreas slot tag ins outs s).cfg = s.cfg := rfl
@[simp] theorem noteAreas_links (slot tag : Nat) (ins outs : List (Nat × Nat)) (s : State) : (noteAreas slot tag ins outs s).links = s.links := rfl
@[simp] theorem noteAreas_power (slot tag : Nat) (ins outs : List (Nat × Nat)) (s : State) : (noteAreas slot tag ins outs s).power = s.power := rfl
@[simp] theorem noteAreas_bur (slot tag : Nat) (ins outs : List (Nat × Nat)) (s : State) : (noteAreas slot tag ins outs s).bur = s.bur := rfl
@[simp] theorem noteAreas_tier (slot tag : Nat) (ins outs : List (Nat × Nat)) (s : State) : (noteAreas slot tag ins outs s).tier = s.tier := rfl
@[simp] theorem noteAreas_chest (slot tag : Nat) (ins outs : List (Nat × Nat)) (s : State) : (noteAreas slot tag ins outs s).chest = s.chest := rfl
@[simp] theorem noteAreas_fur (slot tag : Nat) (ins outs : List (Nat × Nat)) (s : State) : (noteAreas slot tag ins outs s).fur = s.fur := rfl
@[simp] theorem noteAreas_gen (slot tag : Nat) (ins outs : List (Nat × Nat)) (s : State) : (noteAreas slot tag ins outs s).gen = s.gen := rfl
@[simp] theorem noteAreas_gln (slot tag : Nat) (ins outs : List (Nat × Nat)) (s : State) : (noteAreas slot tag ins outs s).gln = s.gln := rfl
@[simp] theorem noteAreas_sync (slot tag : Nat) (ins outs : List (Nat × Nat)) (s : State) : (noteAreas slot tag ins outs s).sync = s.sync := rfl
@[simp] theorem noteAreas_host (slot tag : Nat) (ins outs : List (Nat × Nat)) (s : State) : (noteAreas slot tag ins outs s).host = s.host := rfl
@[simp] theorem noteAreas_klt (slot tag : Nat) (ins outs : List (Nat × Nat)) (s : State) : (noteAreas slot tag ins outs s).klt = s.klt := rfl
@[simp] theorem noteAreas_tsc (slot tag : Nat) (ins outs : List (Nat × Nat)) (s : State) : (noteAreas slot tag ins outs s).tsc = s.tsc := rfl
@[simp] theorem noteAreas_sec (slot tag : Nat) (ins outs : List (Nat × Nat)) (s : State) : (noteAreas slot tag ins outs s).sec = s.sec := rfl
@[simp] theorem noteAreas_ckp (slot tag : Nat) (ins outs : List (Nat × Nat)) (s : State) : (noteAreas slot tag ins outs s).ckp = s.ckp := rfl
@[simp] theorem noteAreas_obs (slot tag : Nat) (ins outs : List (Nat × Nat)) (s : State) : (noteAreas slot tag ins outs s).obs = s.obs := rfl
@[simp] theorem noteAreas_pending (slot tag : Nat) (ins outs : List (Nat × Nat)) (s : State) : (noteAreas slot tag ins outs s).pending = s.pending := rfl
@[simp] theorem noteAreas_out (slot tag : Nat) (ins outs : List (Nat × Nat)) (s : State) : (noteAreas slot tag ins outs s).out = s.out := rfl

/-! ### takeEvent -/
@[simp] theorem takeEvent_freeCtr (a : Acre) (e : TEvent) (s : State) : (takeEvent a e s).freeCtr = s.freeCtr := rfl
@[simp] theorem takeEvent_time (a : Acre) (e : TEvent) (s : State) : (takeEvent a e s).time = s.time := rfl
@[simp] theorem takeEvent_regs (a : Acre) (e : TEvent) (s : State) : (takeEvent a e s).regs = s.regs := rfl
@[simp] theorem takeEvent_cfg (a : Acre) (e : TEvent) (s : State) : (takeEvent a e s).cfg = s.cfg := rfl
@[simp] theorem takeEvent_links (a : Acre) (e : TEvent) (s : State) : (takeEvent a e s).links = s.links := rfl
@[simp] theorem takeEvent_power (a : Acre) (e : TEvent) (s : State) : (takeEvent a e s).power = s.power := rfl
@[simp] theorem takeEvent_bur (a : Acre) (e : TEvent) (s : State) : (takeEvent a e s).bur = s.bur := rfl
@[simp] theorem takeEvent_tier (a : Acre) (e : TEvent) (s : State) : (takeEvent a e s).tier = s.tier := rfl
@[simp] theorem takeEvent_chest (a : Acre) (e : TEvent) (s : State) : (takeEvent a e s).chest = s.chest := rfl
@[simp] theorem takeEvent_fur (a : Acre) (e : TEvent) (s : State) : (takeEvent a e s).fur = s.fur := rfl
@[simp] theorem takeEvent_gen (a : Acre) (e : TEvent) (s : State) : (takeEvent a e s).gen = s.gen := rfl
@[simp] theorem takeEvent_gln (a : Acre) (e : TEvent) (s : State) : (takeEvent a e s).gln = s.gln := rfl
@[simp] theorem takeEvent_sync (a : Acre) (e : TEvent) (s : State) : (takeEvent a e s).sync = s.sync := rfl
@[simp] theorem takeEvent_host (a : Acre) (e : TEvent) (s : State) : (takeEvent a e s).host = s.host := rfl
@[simp] theorem takeEvent_klt (a : Acre) (e : TEvent) (s : State) : (takeEvent a e s).klt = s.klt := rfl
@[simp] theorem takeEvent_tsc (a : Acre) (e : TEvent) (s : State) : (takeEvent a e s).tsc = s.tsc := rfl
@[simp] theorem takeEvent_sec (a : Acre) (e : TEvent) (s : State) : (takeEvent a e s).sec = s.sec := rfl
@[simp] theorem takeEvent_ckp (a : Acre) (e : TEvent) (s : State) : (takeEvent a e s).ckp = s.ckp := rfl
@[simp] theorem takeEvent_obs (a : Acre) (e : TEvent) (s : State) : (takeEvent a e s).obs = s.obs := rfl
@[simp] theorem takeEvent_pending (a : Acre) (e : TEvent) (s : State) : (takeEvent a e s).pending = s.pending := rfl
@[simp] theorem takeEvent_out (a : Acre) (e : TEvent) (s : State) : (takeEvent a e s).out = s.out := rfl

/-! ### imageRemove -/
@[simp] theorem imageRemove_freeCtr (i : Nat) (img : Image) (s : State) : (imageRemove i img s).freeCtr = s.freeCtr := rfl
@[simp] theorem imageRemove_time (i : Nat) (img : Image) (s : State) : (imageRemove i img s).time = s.time := rfl
@[simp] theorem imageRemove_regs (i : Nat) (img : Image) (s : State) : (imageRemove i img s).regs = s.regs := rfl
@[simp] theorem imageRemove_cfg (i : Nat) (img : Image) (s : State) : (imageRemove i img s).cfg = s.cfg := rfl
@[simp] theorem imageRemove_links (i : Nat) (img : Image) (s : State) : (imageRemove i img s).links = s.links := rfl
@[simp] theorem imageRemove_power (i : Nat) (img : Image) (s : State) : (imageRemove i img s).power = s.power := rfl
@[simp] theorem imageRemove_bur (i : Nat) (img : Image) (s : State) : (imageRemove i img s).bur = s.bur := rfl
@[simp] theorem imageRemove_tier (i : Nat) (img : Image) (s : State) : (imageRemove i img s).tier = s.tier := rfl
@[simp] theorem imageRemove_chest (i : Nat) (img : Image) (s : State) : (imageRemove i img s).chest = s.chest := rfl
@[simp] theorem imageRemove_fur (i : Nat) (img : Image) (s : State) : (imageRemove i img s).fur = s.fur := rfl
@[simp] theorem imageRemove_gen (i : Nat) (img : Image) (s : State) : (imageRemove i img s).gen = s.gen := rfl
@[simp] theorem imageRemove_gln (i : Nat) (img : Image) (s : State) : (imageRemove i img s).gln = s.gln := rfl
@[simp] theorem imageRemove_tin (i : Nat) (img : Image) (s : State) : (imageRemove i img s).tin = { s.tin with images := NMap.erase s.tin.images i, area := Cells.clear s.tin.area img.base (img.code + img.rodata) } := rfl
@[simp] theorem imageRemove_sync (i : Nat) (img : Image) (s : State) : (imageRemove i img s).sync = s.sync := rfl
@[simp] theorem imageRemove_host (i : Nat) (img : Image) (s : State) : (imageRemove i img s).host = s.host := rfl
@[simp] theorem imageRemove_klt (i : Nat) (img : Image) (s : State) : (imageRemove i img s).klt = s.klt := rfl
@[simp] theorem imageRemove_tsc (i : Nat) (img : Image) (s : State) : (imageRemove i img s).tsc = s.tsc := rfl
@[simp] theorem imageRemove_sec (i : Nat) (img : Image) (s : State) : (imageRemove i img s).sec = { s.sec with meas11 := extendDigest s.sec.meas11 (leBytes 4 img.id) } := rfl
@[simp] theorem imageRemove_ckp (i : Nat) (img : Image) (s : State) : (imageRemove i img s).ckp = s.ckp := rfl
@[simp] theorem imageRemove_obs (i : Nat) (img : Image) (s : State) : (imageRemove i img s).obs = s.obs := rfl
@[simp] theorem imageRemove_pending (i : Nat) (img : Image) (s : State) : (imageRemove i img s).pending = s.pending := rfl
@[simp] theorem imageRemove_out (i : Nat) (img : Image) (s : State) : (imageRemove i img s).out = s.out := rfl

/-! ### setSec -/
@[simp] theorem setSec_freeCtr (f : SecState → SecState) (s : State) : (setSec f s).freeCtr = s.freeCtr := rfl
@[simp] theorem setSec_time (f : SecState → SecState) (s : State) : (setSec f s).time = s.time := rfl
@[simp] theorem setSec_regs (f : SecState → SecState) (s : State) : (setSec f s).regs = s.regs := rfl
@[simp] theorem setSec_cfg (f : SecState → SecState) (s : State) : (setSec f s).cfg = s.cfg := rfl
@[simp] theorem setSec_links (f : SecState → SecState) (s : State) : (setSec f s).links = s.links := rfl
@[simp] theorem setSec_power (f : SecState → SecState) (s : State) : (setSec f s).power = s.power := rfl
@[simp] theorem setSec_bur (f : SecState → SecState) (s : State) : (setSec f s).bur = s.bur := rfl
@[simp] theorem setSec_tier (f : SecState → SecState) (s : State) : (setSec f s).tier = s.tier := rfl
@[simp] theorem setSec_chest (f : SecState → SecState) (s : State) : (setSec f s).chest = s.chest := rfl
@[simp] theorem setSec_fur (f : SecState → SecState) (s : State) : (setSec f s).fur = s.fur := rfl
@[simp] theorem setSec_gen (f : SecState → SecState) (s : State) : (setSec f s).gen = s.gen := rfl
@[simp] theorem setSec_gln (f : SecState → SecState) (s : State) : (setSec f s).gln = s.gln := rfl
@[simp] theorem setSec_tin (f : SecState → SecState) (s : State) : (setSec f s).tin = s.tin := rfl
@[simp] theorem setSec_sync (f : SecState → SecState) (s : State) : (setSec f s).sync = s.sync := rfl
@[simp] theorem setSec_host (f : SecState → SecState) (s : State) : (setSec f s).host = s.host := rfl
@[simp] theorem setSec_klt (f : SecState → SecState) (s : State) : (setSec f s).klt = s.klt := rfl
@[simp] theorem setSec_tsc (f : SecState → SecState) (s : State) : (setSec f s).tsc = s.tsc := rfl
@[simp] theorem setSec_sec (f : SecState → SecState) (s : State) : (setSec f s).sec = f s.sec := rfl
@[simp] theorem setSec_ckp (f : SecState → SecState) (s : State) : (setSec f s).ckp = s.ckp := rfl
@[simp] theorem setSec_obs (f : SecState → SecState) (s : State) : (setSec f s).obs = s.obs := rfl
@[simp] theorem setSec_pending (f : SecState → SecState) (s : State) : (setSec f s).pending = s.pending := rfl
@[simp] theorem setSec_out (f : SecState → SecState) (s : State) : (setSec f s).out = s.out := rfl

/-! ### setObs -/
@[simp] theorem setObs_freeCtr (f : ObsState → ObsState) (s : State) : (setObs f s).freeCtr = s.freeCtr := rfl
@[simp] theorem setObs_time (f : ObsState → ObsState) (s : State) : (setObs f s).time = s.time := rfl
@[simp] theorem setObs_regs (f : ObsState → ObsState) (s : State) : (setObs f s).regs = s.regs := rfl
@[simp] theorem setObs_cfg (f : ObsState → ObsState) (s : State) : (setObs f s).cfg = s.cfg := rfl
@[simp] theorem setObs_links (f : ObsState → ObsState) (s : State) : (setObs f s).links = s.links := rfl
@[simp] theorem setObs_power (f : ObsState → ObsState) (s : State) : (setObs f s).power = s.power := rfl
@[simp] theorem setObs_bur (f : ObsState → ObsState) (s : State) : (setObs f s).bur = s.bur := rfl
@[simp] theorem setObs_tier (f : ObsState → ObsState) (s : State) : (setObs f s).tier = s.tier := rfl
@[simp] theorem setObs_chest (f : ObsState → ObsState) (s : State) : (setObs f s).chest = s.chest := rfl
@[simp] theorem setObs_fur (f : ObsState → ObsState) (s : State) : (setObs f s).fur = s.fur := rfl
@[simp] theorem setObs_gen (f : ObsState → ObsState) (s : State) : (setObs f s).gen = s.gen := rfl
@[simp] theorem setObs_gln (f : ObsState → ObsState) (s : State) : (setObs f s).gln = s.gln := rfl
@[simp] theorem setObs_tin (f : ObsState → ObsState) (s : State) : (setObs f s).tin = s.tin := rfl
@[simp] theorem setObs_sync (f : ObsState → ObsState) (s : State) : (setObs f s).sync = s.sync := rfl
@[simp] theorem setObs_host (f : ObsState → ObsState) (s : State) : (setObs f s).host = s.host := rfl
@[simp] theorem setObs_klt (f : ObsState → ObsState) (s : State) : (setObs f s).klt = s.klt := rfl
@[simp] theorem setObs_tsc (f : ObsState → ObsState) (s : State) : (setObs f s).tsc = s.tsc := rfl
@[simp] theorem setObs_sec (f : ObsState → ObsState) (s : State) : (setObs f s).sec = s.sec := rfl
@[simp] theorem setObs_ckp (f : ObsState → ObsState) (s : State) : (setObs f s).ckp = s.ckp := rfl
@[simp] theorem setObs_obs (f : ObsState → ObsState) (s : State) : (setObs f s).obs = f s.obs := rfl
@[simp] theorem setObs_pending (f : ObsState → ObsState) (s : State) : (setObs f s).pending = s.pending := rfl
@[simp] theorem setObs_out (f : ObsState → ObsState) (s : State) : (setObs f s).out = s.out := rfl

/-! ### emit -/
@[simp] theorem emit_freeCtr (e : Emission) (s : State) : (emit e s).freeCtr = s.freeCtr := rfl
@[simp] theorem emit_time (e : Emission) (s : State) : (emit e s).time = s.time := rfl
@[simp] theorem emit_regs (e : Emission) (s : State) : (emit e s).regs = s.regs := rfl
@[simp] theorem emit_cfg (e : Emission) (s : State) : (emit e s).cfg = s.cfg := rfl
@[simp] theorem emit_links (e : Emission) (s : State) : (emit e s).links = s.links := rfl
@[simp] theorem emit_power (e : Emission) (s : State) : (emit e s).power = s.power := rfl
@[simp] theorem emit_bur (e : Emission) (s : State) : (emit e s).bur = s.bur := rfl
@[simp] theorem emit_tier (e : Emission) (s : State) : (emit e s).tier = s.tier := rfl
@[simp] theorem emit_chest (e : Emission) (s : State) : (emit e s).chest = s.chest := rfl
@[simp] theorem emit_fur (e : Emission) (s : State) : (emit e s).fur = s.fur := rfl
@[simp] theorem emit_gen (e : Emission) (s : State) : (emit e s).gen = s.gen := rfl
@[simp] theorem emit_gln (e : Emission) (s : State) : (emit e s).gln = s.gln := rfl
@[simp] theorem emit_tin (e : Emission) (s : State) : (emit e s).tin = s.tin := rfl
@[simp] theorem emit_sync (e : Emission) (s : State) : (emit e s).sync = s.sync := rfl
@[simp] theorem emit_host (e : Emission) (s : State) : (emit e s).host = s.host := rfl
@[simp] theorem emit_klt (e : Emission) (s : State) : (emit e s).klt = s.klt := rfl
@[simp] theorem emit_tsc (e : Emission) (s : State) : (emit e s).tsc = s.tsc := rfl
@[simp] theorem emit_sec (e : Emission) (s : State) : (emit e s).sec = s.sec := rfl
@[simp] theorem emit_ckp (e : Emission) (s : State) : (emit e s).ckp = s.ckp := rfl
@[simp] theorem emit_obs (e : Emission) (s : State) : (emit e s).obs = s.obs := rfl
@[simp] theorem emit_pending (e : Emission) (s : State) : (emit e s).pending = s.pending := rfl
@[simp] theorem emit_out (e : Emission) (s : State) : (emit e s).out = e :: s.out := rfl

/-! ### drew -/
@[simp] theorem drew_freeCtr (s : State) : (drew s).freeCtr = s.freeCtr + 1 := rfl
@[simp] theorem drew_time (s : State) : (drew s).time = s.time := rfl
@[simp] theorem drew_regs (s : State) : (drew s).regs = s.regs := rfl
@[simp] theorem drew_cfg (s : State) : (drew s).cfg = s.cfg := rfl
@[simp] theorem drew_links (s : State) : (drew s).links = s.links := rfl
@[simp] theorem drew_power (s : State) : (drew s).power = s.power := rfl
@[simp] theorem drew_bur (s : State) : (drew s).bur = s.bur := rfl
@[simp] theorem drew_tier (s : State) : (drew s).tier = s.tier := rfl
@[simp] theorem drew_chest (s : State) : (drew s).chest = s.chest := rfl
@[simp] theorem drew_fur (s : State) : (drew s).fur = s.fur := rfl
@[simp] theorem drew_gen (s : State) : (drew s).gen = s.gen := rfl
@[simp] theorem drew_gln (s : State) : (drew s).gln = s.gln := rfl
@[simp] theorem drew_tin (s : State) : (drew s).tin = s.tin := rfl
@[simp] theorem drew_sync (s : State) : (drew s).sync = s.sync := rfl
@[simp] theorem drew_host (s : State) : (drew s).host = s.host := rfl
@[simp] theorem drew_klt (s : State) : (drew s).klt = s.klt := rfl
@[simp] theorem drew_tsc (s : State) : (drew s).tsc = s.tsc := rfl
@[simp] theorem drew_sec (s : State) : (drew s).sec = s.sec := rfl
@[simp] theorem drew_ckp (s : State) : (drew s).ckp = s.ckp := rfl
@[simp] theorem drew_obs (s : State) : (drew s).obs = s.obs := rfl
@[simp] theorem drew_pending (s : State) : (drew s).pending = s.pending := rfl
@[simp] theorem drew_out (s : State) : (drew s).out = s.out := rfl

/-! ### setLive -/
@[simp] theorem setLive_freeCtr (r : Reg) (d : Die) (i : Nat) (v : Word) (s : State) : (setLive r d i v s).freeCtr = s.freeCtr := rfl
@[simp] theorem setLive_time (r : Reg) (d : Die) (i : Nat) (v : Word) (s : State) : (setLive r d i v s).time = s.time := rfl
@[simp] theorem setLive_regs (r : Reg) (d : Die) (i : Nat) (v : Word) (s : State) : (setLive r d i v s).regs = { s.regs with live := NMap.putD (regReset r i) s.regs.live (regKey r d i) v } := rfl
@[simp] theorem setLive_cfg (r : Reg) (d : Die) (i : Nat) (v : Word) (s : State) : (setLive r d i v s).cfg = s.cfg := rfl
@[simp] theorem setLive_links (r : Reg) (d : Die) (i : Nat) (v : Word) (s : State) : (setLive r d i v s).links = s.links := rfl
@[simp] theorem setLive_power (r : Reg) (d : Die) (i : Nat) (v : Word) (s : State) : (setLive r d i v s).power = s.power := rfl
@[simp] theorem setLive_bur (r : Reg) (d : Die) (i : Nat) (v : Word) (s : State) : (setLive r d i v s).bur = s.bur := rfl
@[simp] theorem setLive_tier (r : Reg) (d : Die) (i : Nat) (v : Word) (s : State) : (setLive r d i v s).tier = s.tier := rfl
@[simp] theorem setLive_chest (r : Reg) (d : Die) (i : Nat) (v : Word) (s : State) : (setLive r d i v s).chest = s.chest := rfl
@[simp] theorem setLive_fur (r : Reg) (d : Die) (i : Nat) (v : Word) (s : State) : (setLive r d i v s).fur = s.fur := rfl
@[simp] theorem setLive_gen (r : Reg) (d : Die) (i : Nat) (v : Word) (s : State) : (setLive r d i v s).gen = s.gen := rfl
@[simp] theorem setLive_gln (r : Reg) (d : Die) (i : Nat) (v : Word) (s : State) : (setLive r d i v s).gln = s.gln := rfl
@[simp] theorem setLive_tin (r : Reg) (d : Die) (i : Nat) (v : Word) (s : State) : (setLive r d i v s).tin = s.tin := rfl
@[simp] theorem setLive_sync (r : Reg) (d : Die) (i : Nat) (v : Word) (s : State) : (setLive r d i v s).sync = s.sync := rfl
@[simp] theorem setLive_host (r : Reg) (d : Die) (i : Nat) (v : Word) (s : State) : (setLive r d i v s).host = s.host := rfl
@[simp] theorem setLive_klt (r : Reg) (d : Die) (i : Nat) (v : Word) (s : State) : (setLive r d i v s).klt = s.klt := rfl
@[simp] theorem setLive_tsc (r : Reg) (d : Die) (i : Nat) (v : Word) (s : State) : (setLive r d i v s).tsc = s.tsc := rfl
@[simp] theorem setLive_sec (r : Reg) (d : Die) (i : Nat) (v : Word) (s : State) : (setLive r d i v s).sec = s.sec := rfl
@[simp] theorem setLive_ckp (r : Reg) (d : Die) (i : Nat) (v : Word) (s : State) : (setLive r d i v s).ckp = s.ckp := rfl
@[simp] theorem setLive_obs (r : Reg) (d : Die) (i : Nat) (v : Word) (s : State) : (setLive r d i v s).obs = s.obs := rfl
@[simp] theorem setLive_pending (r : Reg) (d : Die) (i : Nat) (v : Word) (s : State) : (setLive r d i v s).pending = s.pending := rfl
@[simp] theorem setLive_out (r : Reg) (d : Die) (i : Nat) (v : Word) (s : State) : (setLive r d i v s).out = s.out := rfl

/-! ### setShadow -/
@[simp] theorem setShadow_freeCtr (r : Reg) (d : Die) (i : Nat) (v : Word) (s : State) : (setShadow r d i v s).freeCtr = s.freeCtr := rfl
@[simp] theorem setShadow_time (r : Reg) (d : Die) (i : Nat) (v : Word) (s : State) : (setShadow r d i v s).time = s.time := rfl
@[simp] theorem setShadow_regs (r : Reg) (d : Die) (i : Nat) (v : Word) (s : State) : (setShadow r d i v s).regs = { s.regs with shadow := NMap.putD (regReset r i) s.regs.shadow (regKey r d i) v } := rfl
@[simp] theorem setShadow_cfg (r : Reg) (d : Die) (i : Nat) (v : Word) (s : State) : (setShadow r d i v s).cfg = s.cfg := rfl
@[simp] theorem setShadow_links (r : Reg) (d : Die) (i : Nat) (v : Word) (s : State) : (setShadow r d i v s).links = s.links := rfl
@[simp] theorem setShadow_power (r : Reg) (d : Die) (i : Nat) (v : Word) (s : State) : (setShadow r d i v s).power = s.power := rfl
@[simp] theorem setShadow_bur (r : Reg) (d : Die) (i : Nat) (v : Word) (s : State) : (setShadow r d i v s).bur = s.bur := rfl
@[simp] theorem setShadow_tier (r : Reg) (d : Die) (i : Nat) (v : Word) (s : State) : (setShadow r d i v s).tier = s.tier := rfl
@[simp] theorem setShadow_chest (r : Reg) (d : Die) (i : Nat) (v : Word) (s : State) : (setShadow r d i v s).chest = s.chest := rfl
@[simp] theorem setShadow_fur (r : Reg) (d : Die) (i : Nat) (v : Word) (s : State) : (setShadow r d i v s).fur = s.fur := rfl
@[simp] theorem setShadow_gen (r : Reg) (d : Die) (i : Nat) (v : Word) (s : State) : (setShadow r d i v s).gen = s.gen := rfl
@[simp] theorem setShadow_gln (r : Reg) (d : Die) (i : Nat) (v : Word) (s : State) : (setShadow r d i v s).gln = s.gln := rfl
@[simp] theorem setShadow_tin (r : Reg) (d : Die) (i : Nat) (v : Word) (s : State) : (setShadow r d i v s).tin = s.tin := rfl
@[simp] theorem setShadow_sync (r : Reg) (d : Die) (i : Nat) (v : Word) (s : State) : (setShadow r d i v s).sync = s.sync := rfl
@[simp] theorem setShadow_host (r : Reg) (d : Die) (i : Nat) (v : Word) (s : State) : (setShadow r d i v s).host = s.host := rfl
@[simp] theorem setShadow_klt (r : Reg) (d : Die) (i : Nat) (v : Word) (s : State) : (setShadow r d i v s).klt = s.klt := rfl
@[simp] theorem setShadow_tsc (r : Reg) (d : Die) (i : Nat) (v : Word) (s : State) : (setShadow r d i v s).tsc = s.tsc := rfl
@[simp] theorem setShadow_sec (r : Reg) (d : Die) (i : Nat) (v : Word) (s : State) : (setShadow r d i v s).sec = s.sec := rfl
@[simp] theorem setShadow_ckp (r : Reg) (d : Die) (i : Nat) (v : Word) (s : State) : (setShadow r d i v s).ckp = s.ckp := rfl
@[simp] theorem setShadow_obs (r : Reg) (d : Die) (i : Nat) (v : Word) (s : State) : (setShadow r d i v s).obs = s.obs := rfl
@[simp] theorem setShadow_pending (r : Reg) (d : Die) (i : Nat) (v : Word) (s : State) : (setShadow r d i v s).pending = s.pending := rfl
@[simp] theorem setShadow_out (r : Reg) (d : Die) (i : Nat) (v : Word) (s : State) : (setShadow r d i v s).out = s.out := rfl

/-! ### putTrace -/
@[simp] theorem putTrace_freeCtr (a : Acre) (t : Trace) (s : State) : (putTrace a t s).freeCtr = s.freeCtr := rfl
@[simp] theorem putTrace_time (a : Acre) (t : Trace) (s : State) : (putTrace a t s).time = s.time := rfl
@[simp] theorem putTrace_regs (a : Acre) (t : Trace) (s : State) : (putTrace a t s).regs = s.regs := rfl
@[simp] theorem putTrace_cfg (a : Acre) (t : Trace) (s : State) : (putTrace a t s).cfg = s.cfg := rfl
@[simp] theorem putTrace_links (a : Acre) (t : Trace) (s : State) : (putTrace a t s).links = s.links := rfl
@[simp] theorem putTrace_power (a : Acre) (t : Trace) (s : State) : (putTrace a t s).power = s.power := rfl
@[simp] theorem putTrace_bur (a : Acre) (t : Trace) (s : State) : (putTrace a t s).bur = s.bur := rfl
@[simp] theorem putTrace_tier (a : Acre) (t : Trace) (s : State) : (putTrace a t s).tier = s.tier := rfl
@[simp] theorem putTrace_chest (a : Acre) (t : Trace) (s : State) : (putTrace a t s).chest = s.chest := rfl
@[simp] theorem putTrace_fur (a : Acre) (t : Trace) (s : State) : (putTrace a t s).fur = s.fur := rfl
@[simp] theorem putTrace_gen (a : Acre) (t : Trace) (s : State) : (putTrace a t s).gen = s.gen := rfl
@[simp] theorem putTrace_gln (a : Acre) (t : Trace) (s : State) : (putTrace a t s).gln = s.gln := rfl
@[simp] theorem putTrace_tin (a : Acre) (t : Trace) (s : State) : (putTrace a t s).tin = s.tin := rfl
@[simp] theorem putTrace_sync (a : Acre) (t : Trace) (s : State) : (putTrace a t s).sync = s.sync := rfl
@[simp] theorem putTrace_host (a : Acre) (t : Trace) (s : State) : (putTrace a t s).host = s.host := rfl
@[simp] theorem putTrace_klt (a : Acre) (t : Trace) (s : State) : (putTrace a t s).klt = s.klt := rfl
@[simp] theorem putTrace_tsc (a : Acre) (t : Trace) (s : State) : (putTrace a t s).tsc = s.tsc := rfl
@[simp] theorem putTrace_sec (a : Acre) (t : Trace) (s : State) : (putTrace a t s).sec = s.sec := rfl
@[simp] theorem putTrace_ckp (a : Acre) (t : Trace) (s : State) : (putTrace a t s).ckp = s.ckp := rfl
@[simp] theorem putTrace_obs (a : Acre) (t : Trace) (s : State) : (putTrace a t s).obs = { s.obs with trace := s.obs.trace.set a t } := rfl
@[simp] theorem putTrace_pending (a : Acre) (t : Trace) (s : State) : (putTrace a t s).pending = s.pending := rfl
@[simp] theorem putTrace_out (a : Acre) (t : Trace) (s : State) : (putTrace a t s).out = s.out := rfl

/-! ### streamReserve -/
@[simp] theorem streamReserve_freeCtr (ring n : Nat) (s : State) : (streamReserve ring n s).freeCtr = s.freeCtr := rfl
@[simp] theorem streamReserve_time (ring n : Nat) (s : State) : (streamReserve ring n s).time = s.time := rfl
@[simp] theorem streamReserve_regs (ring n : Nat) (s : State) : (streamReserve ring n s).regs = s.regs := rfl
@[simp] theorem streamReserve_cfg (ring n : Nat) (s : State) : (streamReserve ring n s).cfg = s.cfg := rfl
@[simp] theorem streamReserve_links (ring n : Nat) (s : State) : (streamReserve ring n s).links = s.links := rfl
@[simp] theorem streamReserve_power (ring n : Nat) (s : State) : (streamReserve ring n s).power = s.power := rfl
@[simp] theorem streamReserve_bur (ring n : Nat) (s : State) : (streamReserve ring n s).bur = s.bur := rfl
@[simp] theorem streamReserve_tier (ring n : Nat) (s : State) : (streamReserve ring n s).tier = s.tier := rfl
@[simp] theorem streamReserve_chest (ring n : Nat) (s : State) : (streamReserve ring n s).chest = s.chest := rfl
@[simp] theorem streamReserve_fur (ring n : Nat) (s : State) : (streamReserve ring n s).fur = s.fur := rfl
@[simp] theorem streamReserve_gen (ring n : Nat) (s : State) : (streamReserve ring n s).gen = s.gen := rfl
@[simp] theorem streamReserve_gln (ring n : Nat) (s : State) : (streamReserve ring n s).gln = s.gln := rfl
@[simp] theorem streamReserve_tin (ring n : Nat) (s : State) : (streamReserve ring n s).tin = s.tin := rfl
@[simp] theorem streamReserve_sync (ring n : Nat) (s : State) : (streamReserve ring n s).sync = s.sync := rfl
@[simp] theorem streamReserve_klt (ring n : Nat) (s : State) : (streamReserve ring n s).klt = s.klt := rfl
@[simp] theorem streamReserve_tsc (ring n : Nat) (s : State) : (streamReserve ring n s).tsc = s.tsc := rfl
@[simp] theorem streamReserve_sec (ring n : Nat) (s : State) : (streamReserve ring n s).sec = s.sec := rfl
@[simp] theorem streamReserve_ckp (ring n : Nat) (s : State) : (streamReserve ring n s).ckp = s.ckp := rfl
@[simp] theorem streamReserve_obs (ring n : Nat) (s : State) : (streamReserve ring n s).obs = s.obs := rfl
@[simp] theorem streamReserve_pending (ring n : Nat) (s : State) : (streamReserve ring n s).pending = s.pending := rfl
@[simp] theorem streamReserve_out (ring n : Nat) (s : State) : (streamReserve ring n s).out = s.out := rfl

/-! ### streamRelease -/
@[simp] theorem streamRelease_freeCtr (ring n : Nat) (s : State) : (streamRelease ring n s).freeCtr = s.freeCtr := rfl
@[simp] theorem streamRelease_time (ring n : Nat) (s : State) : (streamRelease ring n s).time = s.time := rfl
@[simp] theorem streamRelease_regs (ring n : Nat) (s : State) : (streamRelease ring n s).regs = s.regs := rfl
@[simp] theorem streamRelease_cfg (ring n : Nat) (s : State) : (streamRelease ring n s).cfg = s.cfg := rfl
@[simp] theorem streamRelease_links (ring n : Nat) (s : State) : (streamRelease ring n s).links = s.links := rfl
@[simp] theorem streamRelease_power (ring n : Nat) (s : State) : (streamRelease ring n s).power = s.power := rfl
@[simp] theorem streamRelease_bur (ring n : Nat) (s : State) : (streamRelease ring n s).bur = s.bur := rfl
@[simp] theorem streamRelease_tier (ring n : Nat) (s : State) : (streamRelease ring n s).tier = s.tier := rfl
@[simp] theorem streamRelease_chest (ring n : Nat) (s : State) : (streamRelease ring n s).chest = s.chest := rfl
@[simp] theorem streamRelease_fur (ring n : Nat) (s : State) : (streamRelease ring n s).fur = s.fur := rfl
@[simp] theorem streamRelease_gen (ring n : Nat) (s : State) : (streamRelease ring n s).gen = s.gen := rfl
@[simp] theorem streamRelease_gln (ring n : Nat) (s : State) : (streamRelease ring n s).gln = s.gln := rfl
@[simp] theorem streamRelease_tin (ring n : Nat) (s : State) : (streamRelease ring n s).tin = s.tin := rfl
@[simp] theorem streamRelease_sync (ring n : Nat) (s : State) : (streamRelease ring n s).sync = s.sync := rfl
@[simp] theorem streamRelease_klt (ring n : Nat) (s : State) : (streamRelease ring n s).klt = s.klt := rfl
@[simp] theorem streamRelease_tsc (ring n : Nat) (s : State) : (streamRelease ring n s).tsc = s.tsc := rfl
@[simp] theorem streamRelease_sec (ring n : Nat) (s : State) : (streamRelease ring n s).sec = s.sec := rfl
@[simp] theorem streamRelease_ckp (ring n : Nat) (s : State) : (streamRelease ring n s).ckp = s.ckp := rfl
@[simp] theorem streamRelease_obs (ring n : Nat) (s : State) : (streamRelease ring n s).obs = s.obs := rfl
@[simp] theorem streamRelease_pending (ring n : Nat) (s : State) : (streamRelease ring n s).pending = s.pending := rfl
@[simp] theorem streamRelease_out (ring n : Nat) (s : State) : (streamRelease ring n s).out = s.out := rfl

/-! ### setAux -/
@[simp] theorem setAux_freeCtr (slot : Nat) (x : SessAux) (s : State) : (setAux slot x s).freeCtr = s.freeCtr := rfl
@[simp] theorem setAux_time (slot : Nat) (x : SessAux) (s : State) : (setAux slot x s).time = s.time := rfl
@[simp] theorem setAux_regs (slot : Nat) (x : SessAux) (s : State) : (setAux slot x s).regs = s.regs := rfl
@[simp] theorem setAux_cfg (slot : Nat) (x : SessAux) (s : State) : (setAux slot x s).cfg = s.cfg := rfl
@[simp] theorem setAux_links (slot : Nat) (x : SessAux) (s : State) : (setAux slot x s).links = s.links := rfl
@[simp] theorem setAux_power (slot : Nat) (x : SessAux) (s : State) : (setAux slot x s).power = s.power := rfl
@[simp] theorem setAux_bur (slot : Nat) (x : SessAux) (s : State) : (setAux slot x s).bur = { s.bur with aux := NMap.putD .dflt s.bur.aux slot x } := rfl
@[simp] theorem setAux_tier (slot : Nat) (x : SessAux) (s : State) : (setAux slot x s).tier = s.tier := rfl
@[simp] theorem setAux_chest (slot : Nat) (x : SessAux) (s : State) : (setAux slot x s).chest = s.chest := rfl
@[simp] theorem setAux_fur (slot : Nat) (x : SessAux) (s : State) : (setAux slot x s).fur = s.fur := rfl
@[simp] theorem setAux_gen (slot : Nat) (x : SessAux) (s : State) : (setAux slot x s).gen = s.gen := rfl
@[simp] theorem setAux_gln (slot : Nat) (x : SessAux) (s : State) : (setAux slot x s).gln = s.gln := rfl
@[simp] theorem setAux_tin (slot : Nat) (x : SessAux) (s : State) : (setAux slot x s).tin = s.tin := rfl
@[simp] theorem setAux_sync (slot : Nat) (x : SessAux) (s : State) : (setAux slot x s).sync = s.sync := rfl
@[simp] theorem setAux_host (slot : Nat) (x : SessAux) (s : State) : (setAux slot x s).host = s.host := rfl
@[simp] theorem setAux_klt (slot : Nat) (x : SessAux) (s : State) : (setAux slot x s).klt = s.klt := rfl
@[simp] theorem setAux_tsc (slot : Nat) (x : SessAux) (s : State) : (setAux slot x s).tsc = s.tsc := rfl
@[simp] theorem setAux_sec (slot : Nat) (x : SessAux) (s : State) : (setAux slot x s).sec = s.sec := rfl
@[simp] theorem setAux_ckp (slot : Nat) (x : SessAux) (s : State) : (setAux slot x s).ckp = s.ckp := rfl
@[simp] theorem setAux_obs (slot : Nat) (x : SessAux) (s : State) : (setAux slot x s).obs = s.obs := rfl
@[simp] theorem setAux_pending (slot : Nat) (x : SessAux) (s : State) : (setAux slot x s).pending = s.pending := rfl
@[simp] theorem setAux_out (slot : Nat) (x : SessAux) (s : State) : (setAux slot x s).out = s.out := rfl

/-! ### setCkptRow -/
@[simp] theorem setCkptRow_freeCtr (slot : Nat) (r : CkptRow) (s : State) : (setCkptRow slot r s).freeCtr = s.freeCtr := rfl
@[simp] theorem setCkptRow_time (slot : Nat) (r : CkptRow) (s : State) : (setCkptRow slot r s).time = s.time := rfl
@[simp] theorem setCkptRow_regs (slot : Nat) (r : CkptRow) (s : State) : (setCkptRow slot r s).regs = s.regs := rfl
@[simp] theorem setCkptRow_cfg (slot : Nat) (r : CkptRow) (s : State) : (setCkptRow slot r s).cfg = s.cfg := rfl
@[simp] theorem setCkptRow_links (slot : Nat) (r : CkptRow) (s : State) : (setCkptRow slot r s).links = s.links := rfl
@[simp] theorem setCkptRow_power (slot : Nat) (r : CkptRow) (s : State) : (setCkptRow slot r s).power = s.power := rfl
@[simp] theorem setCkptRow_bur (slot : Nat) (r : CkptRow) (s : State) : (setCkptRow slot r s).bur = s.bur := rfl
@[simp] theorem setCkptRow_tier (slot : Nat) (r : CkptRow) (s : State) : (setCkptRow slot r s).tier = s.tier := rfl
@[simp] theorem setCkptRow_chest (slot : Nat) (r : CkptRow) (s : State) : (setCkptRow slot r s).chest = s.chest := rfl
@[simp] theorem setCkptRow_fur (slot : Nat) (r : CkptRow) (s : State) : (setCkptRow slot r s).fur = s.fur := rfl
@[simp] theorem setCkptRow_gen (slot : Nat) (r : CkptRow) (s : State) : (setCkptRow slot r s).gen = s.gen := rfl
@[simp] theorem setCkptRow_gln (slot : Nat) (r : CkptRow) (s : State) : (setCkptRow slot r s).gln = s.gln := rfl
@[simp] theorem setCkptRow_tin (slot : Nat) (r : CkptRow) (s : State) : (setCkptRow slot r s).tin = s.tin := rfl
@[simp] theorem setCkptRow_sync (slot : Nat) (r : CkptRow) (s : State) : (setCkptRow slot r s).sync = s.sync := rfl
@[simp] theorem setCkptRow_host (slot : Nat) (r : CkptRow) (s : State) : (setCkptRow slot r s).host = s.host := rfl
@[simp] theorem setCkptRow_klt (slot : Nat) (r : CkptRow) (s : State) : (setCkptRow slot r s).klt = s.klt := rfl
@[simp] theorem setCkptRow_tsc (slot : Nat) (r : CkptRow) (s : State) : (setCkptRow slot r s).tsc = s.tsc := rfl
@[simp] theorem setCkptRow_sec (slot : Nat) (r : CkptRow) (s : State) : (setCkptRow slot r s).sec = s.sec := rfl
@[simp] theorem setCkptRow_ckp (slot : Nat) (r : CkptRow) (s : State) : (setCkptRow slot r s).ckp = { s.ckp with table := NMap.putD .empty s.ckp.table slot r } := rfl
@[simp] theorem setCkptRow_obs (slot : Nat) (r : CkptRow) (s : State) : (setCkptRow slot r s).obs = s.obs := rfl
@[simp] theorem setCkptRow_pending (slot : Nat) (r : CkptRow) (s : State) : (setCkptRow slot r s).pending = s.pending := rfl
@[simp] theorem setCkptRow_out (slot : Nat) (r : CkptRow) (s : State) : (setCkptRow slot r s).out = s.out := rfl

/-! ### setShard -/
@[simp] theorem setShard_freeCtr (a : Acre) (f : Shard → Shard) (s : State) : (setShard a f s).freeCtr = s.freeCtr := rfl
@[simp] theorem setShard_time (a : Acre) (f : Shard → Shard) (s : State) : (setShard a f s).time = s.time := rfl
@[simp] theorem setShard_regs (a : Acre) (f : Shard → Shard) (s : State) : (setShard a f s).regs = s.regs := rfl
@[simp] theorem setShard_cfg (a : Acre) (f : Shard → Shard) (s : State) : (setShard a f s).cfg = s.cfg := rfl
@[simp] theorem setShard_links (a : Acre) (f : Shard → Shard) (s : State) : (setShard a f s).links = s.links := rfl
@[simp] theorem setShard_power (a : Acre) (f : Shard → Shard) (s : State) : (setShard a f s).power = s.power := rfl
@[simp] theorem setShard_bur (a : Acre) (f : Shard → Shard) (s : State) : (setShard a f s).bur = s.bur := rfl
@[simp] theorem setShard_tier (a : Acre) (f : Shard → Shard) (s : State) : (setShard a f s).tier = s.tier := rfl
@[simp] theorem setShard_chest (a : Acre) (f : Shard → Shard) (s : State) : (setShard a f s).chest = s.chest := rfl
@[simp] theorem setShard_fur (a : Acre) (f : Shard → Shard) (s : State) : (setShard a f s).fur = s.fur := rfl
@[simp] theorem setShard_gen (a : Acre) (f : Shard → Shard) (s : State) : (setShard a f s).gen = s.gen := rfl
@[simp] theorem setShard_gln (a : Acre) (f : Shard → Shard) (s : State) : (setShard a f s).gln = s.gln := rfl
@[simp] theorem setShard_tin (a : Acre) (f : Shard → Shard) (s : State) : (setShard a f s).tin = s.tin := rfl
@[simp] theorem setShard_sync (a : Acre) (f : Shard → Shard) (s : State) : (setShard a f s).sync = s.sync := rfl
@[simp] theorem setShard_host (a : Acre) (f : Shard → Shard) (s : State) : (setShard a f s).host = s.host := rfl
@[simp] theorem setShard_klt (a : Acre) (f : Shard → Shard) (s : State) : (setShard a f s).klt = s.klt := rfl
@[simp] theorem setShard_tsc (a : Acre) (f : Shard → Shard) (s : State) : (setShard a f s).tsc = s.tsc := rfl
@[simp] theorem setShard_sec (a : Acre) (f : Shard → Shard) (s : State) : (setShard a f s).sec = s.sec := rfl
@[simp] theorem setShard_obs (a : Acre) (f : Shard → Shard) (s : State) : (setShard a f s).obs = s.obs := rfl
@[simp] theorem setShard_pending (a : Acre) (f : Shard → Shard) (s : State) : (setShard a f s).pending = s.pending := rfl
@[simp] theorem setShard_out (a : Acre) (f : Shard → Shard) (s : State) : (setShard a f s).out = s.out := rfl

/-! ### putTine -/
@[simp] theorem putTine_freeCtr (t : Nat) (c : TineCtx) (s : State) : (putTine t c s).freeCtr = s.freeCtr := rfl
@[simp] theorem putTine_time (t : Nat) (c : TineCtx) (s : State) : (putTine t c s).time = s.time := rfl
@[simp] theorem putTine_regs (t : Nat) (c : TineCtx) (s : State) : (putTine t c s).regs = s.regs := rfl
@[simp] theorem putTine_cfg (t : Nat) (c : TineCtx) (s : State) : (putTine t c s).cfg = s.cfg := rfl
@[simp] theorem putTine_links (t : Nat) (c : TineCtx) (s : State) : (putTine t c s).links = s.links := rfl
@[simp] theorem putTine_power (t : Nat) (c : TineCtx) (s : State) : (putTine t c s).power = s.power := rfl
@[simp] theorem putTine_bur (t : Nat) (c : TineCtx) (s : State) : (putTine t c s).bur = s.bur := rfl
@[simp] theorem putTine_tier (t : Nat) (c : TineCtx) (s : State) : (putTine t c s).tier = s.tier := rfl
@[simp] theorem putTine_chest (t : Nat) (c : TineCtx) (s : State) : (putTine t c s).chest = s.chest := rfl
@[simp] theorem putTine_fur (t : Nat) (c : TineCtx) (s : State) : (putTine t c s).fur = s.fur := rfl
@[simp] theorem putTine_gen (t : Nat) (c : TineCtx) (s : State) : (putTine t c s).gen = s.gen := rfl
@[simp] theorem putTine_gln (t : Nat) (c : TineCtx) (s : State) : (putTine t c s).gln = s.gln := rfl
@[simp] theorem putTine_tin (t : Nat) (c : TineCtx) (s : State) : (putTine t c s).tin = { s.tin with tines := NMap.put s.tin.tines t c } := rfl
@[simp] theorem putTine_sync (t : Nat) (c : TineCtx) (s : State) : (putTine t c s).sync = s.sync := rfl
@[simp] theorem putTine_host (t : Nat) (c : TineCtx) (s : State) : (putTine t c s).host = s.host := rfl
@[simp] theorem putTine_klt (t : Nat) (c : TineCtx) (s : State) : (putTine t c s).klt = s.klt := rfl
@[simp] theorem putTine_tsc (t : Nat) (c : TineCtx) (s : State) : (putTine t c s).tsc = s.tsc := rfl
@[simp] theorem putTine_sec (t : Nat) (c : TineCtx) (s : State) : (putTine t c s).sec = s.sec := rfl
@[simp] theorem putTine_ckp (t : Nat) (c : TineCtx) (s : State) : (putTine t c s).ckp = s.ckp := rfl
@[simp] theorem putTine_obs (t : Nat) (c : TineCtx) (s : State) : (putTine t c s).obs = s.obs := rfl
@[simp] theorem putTine_pending (t : Nat) (c : TineCtx) (s : State) : (putTine t c s).pending = s.pending := rfl
@[simp] theorem putTine_out (t : Nat) (c : TineCtx) (s : State) : (putTine t c s).out = s.out := rfl

/-! ### freeTine -/
@[simp] theorem freeTine_freeCtr (t : Nat) (s : State) : (freeTine t s).freeCtr = s.freeCtr := rfl
@[simp] theorem freeTine_time (t : Nat) (s : State) : (freeTine t s).time = s.time := rfl
@[simp] theorem freeTine_regs (t : Nat) (s : State) : (freeTine t s).regs = s.regs := rfl
@[simp] theorem freeTine_cfg (t : Nat) (s : State) : (freeTine t s).cfg = s.cfg := rfl
@[simp] theorem freeTine_links (t : Nat) (s : State) : (freeTine t s).links = s.links := rfl
@[simp] theorem freeTine_power (t : Nat) (s : State) : (freeTine t s).power = s.power := rfl
@[simp] theorem freeTine_bur (t : Nat) (s : State) : (freeTine t s).bur = s.bur := rfl
@[simp] theorem freeTine_tier (t : Nat) (s : State) : (freeTine t s).tier = s.tier := rfl
@[simp] theorem freeTine_chest (t : Nat) (s : State) : (freeTine t s).chest = s.chest := rfl
@[simp] theorem freeTine_fur (t : Nat) (s : State) : (freeTine t s).fur = s.fur := rfl
@[simp] theorem freeTine_gen (t : Nat) (s : State) : (freeTine t s).gen = s.gen := rfl
@[simp] theorem freeTine_gln (t : Nat) (s : State) : (freeTine t s).gln = s.gln := rfl
@[simp] theorem freeTine_tin (t : Nat) (s : State) : (freeTine t s).tin = { s.tin with tines := NMap.erase s.tin.tines t } := rfl
@[simp] theorem freeTine_sync (t : Nat) (s : State) : (freeTine t s).sync = s.sync := rfl
@[simp] theorem freeTine_host (t : Nat) (s : State) : (freeTine t s).host = s.host := rfl
@[simp] theorem freeTine_klt (t : Nat) (s : State) : (freeTine t s).klt = s.klt := rfl
@[simp] theorem freeTine_tsc (t : Nat) (s : State) : (freeTine t s).tsc = s.tsc := rfl
@[simp] theorem freeTine_sec (t : Nat) (s : State) : (freeTine t s).sec = s.sec := rfl
@[simp] theorem freeTine_ckp (t : Nat) (s : State) : (freeTine t s).ckp = s.ckp := rfl
@[simp] theorem freeTine_obs (t : Nat) (s : State) : (freeTine t s).obs = s.obs := rfl
@[simp] theorem freeTine_pending (t : Nat) (s : State) : (freeTine t s).pending = s.pending := rfl
@[simp] theorem freeTine_out (t : Nat) (s : State) : (freeTine t s).out = s.out := rfl

/-! ### setPower -/
@[simp] theorem setPower_freeCtr (f : PowerState → PowerState) (s : State) : (setPower f s).freeCtr = s.freeCtr := rfl
@[simp] theorem setPower_time (f : PowerState → PowerState) (s : State) : (setPower f s).time = s.time := rfl
@[simp] theorem setPower_regs (f : PowerState → PowerState) (s : State) : (setPower f s).regs = s.regs := rfl
@[simp] theorem setPower_cfg (f : PowerState → PowerState) (s : State) : (setPower f s).cfg = s.cfg := rfl
@[simp] theorem setPower_links (f : PowerState → PowerState) (s : State) : (setPower f s).links = s.links := rfl
@[simp] theorem setPower_power (f : PowerState → PowerState) (s : State) : (setPower f s).power = f s.power := rfl
@[simp] theorem setPower_bur (f : PowerState → PowerState) (s : State) : (setPower f s).bur = s.bur := rfl
@[simp] theorem setPower_tier (f : PowerState → PowerState) (s : State) : (setPower f s).tier = s.tier := rfl
@[simp] theorem setPower_chest (f : PowerState → PowerState) (s : State) : (setPower f s).chest = s.chest := rfl
@[simp] theorem setPower_fur (f : PowerState → PowerState) (s : State) : (setPower f s).fur = s.fur := rfl
@[simp] theorem setPower_gen (f : PowerState → PowerState) (s : State) : (setPower f s).gen = s.gen := rfl
@[simp] theorem setPower_gln (f : PowerState → PowerState) (s : State) : (setPower f s).gln = s.gln := rfl
@[simp] theorem setPower_tin (f : PowerState → PowerState) (s : State) : (setPower f s).tin = s.tin := rfl
@[simp] theorem setPower_sync (f : PowerState → PowerState) (s : State) : (setPower f s).sync = s.sync := rfl
@[simp] theorem setPower_host (f : PowerState → PowerState) (s : State) : (setPower f s).host = s.host := rfl
@[simp] theorem setPower_klt (f : PowerState → PowerState) (s : State) : (setPower f s).klt = s.klt := rfl
@[simp] theorem setPower_tsc (f : PowerState → PowerState) (s : State) : (setPower f s).tsc = s.tsc := rfl
@[simp] theorem setPower_sec (f : PowerState → PowerState) (s : State) : (setPower f s).sec = s.sec := rfl
@[simp] theorem setPower_ckp (f : PowerState → PowerState) (s : State) : (setPower f s).ckp = s.ckp := rfl
@[simp] theorem setPower_obs (f : PowerState → PowerState) (s : State) : (setPower f s).obs = s.obs := rfl
@[simp] theorem setPower_pending (f : PowerState → PowerState) (s : State) : (setPower f s).pending = s.pending := rfl
@[simp] theorem setPower_out (f : PowerState → PowerState) (s : State) : (setPower f s).out = s.out := rfl

/-! ### powerLost -/
@[simp] theorem powerLost_freeCtr (s : State) : (powerLost s).freeCtr = s.freeCtr := rfl
@[simp] theorem powerLost_time (s : State) : (powerLost s).time = { s.time with running := false } := rfl
@[simp] theorem powerLost_regs (s : State) : (powerLost s).regs = s.regs := rfl
@[simp] theorem powerLost_cfg (s : State) : (powerLost s).cfg = s.cfg := rfl
@[simp] theorem powerLost_links (s : State) : (powerLost s).links = s.links := rfl
@[simp] theorem powerLost_power (s : State) : (powerLost s).power = { s.power with pwrgood := false, thermtrip := false } := rfl
@[simp] theorem powerLost_bur (s : State) : (powerLost s).bur = s.bur := rfl
@[simp] theorem powerLost_tier (s : State) : (powerLost s).tier = s.tier := rfl
@[simp] theorem powerLost_chest (s : State) : (powerLost s).chest = s.chest := rfl
@[simp] theorem powerLost_fur (s : State) : (powerLost s).fur = s.fur := rfl
@[simp] theorem powerLost_gen (s : State) : (powerLost s).gen = s.gen := rfl
@[simp] theorem powerLost_gln (s : State) : (powerLost s).gln = s.gln := rfl
@[simp] theorem powerLost_tin (s : State) : (powerLost s).tin = s.tin := rfl
@[simp] theorem powerLost_sync (s : State) : (powerLost s).sync = s.sync := rfl
@[simp] theorem powerLost_host (s : State) : (powerLost s).host = s.host := rfl
@[simp] theorem powerLost_klt (s : State) : (powerLost s).klt = s.klt := rfl
@[simp] theorem powerLost_tsc (s : State) : (powerLost s).tsc = s.tsc := rfl
@[simp] theorem powerLost_sec (s : State) : (powerLost s).sec = s.sec := rfl
@[simp] theorem powerLost_ckp (s : State) : (powerLost s).ckp = s.ckp := rfl
@[simp] theorem powerLost_obs (s : State) : (powerLost s).obs = s.obs := rfl
@[simp] theorem powerLost_pending (s : State) : (powerLost s).pending = s.pending := rfl
@[simp] theorem powerLost_out (s : State) : (powerLost s).out = s.out := rfl

/-! ### setSynWord -/
@[simp] theorem setSynWord_freeCtr (obj : Nat) (w : Word) (s : State) : (setSynWord obj w s).freeCtr = s.freeCtr := rfl
@[simp] theorem setSynWord_time (obj : Nat) (w : Word) (s : State) : (setSynWord obj w s).time = s.time := rfl
@[simp] theorem setSynWord_regs (obj : Nat) (w : Word) (s : State) : (setSynWord obj w s).regs = s.regs := rfl
@[simp] theorem setSynWord_cfg (obj : Nat) (w : Word) (s : State) : (setSynWord obj w s).cfg = s.cfg := rfl
@[simp] theorem setSynWord_links (obj : Nat) (w : Word) (s : State) : (setSynWord obj w s).links = s.links := rfl
@[simp] theorem setSynWord_power (obj : Nat) (w : Word) (s : State) : (setSynWord obj w s).power = s.power := rfl
@[simp] theorem setSynWord_bur (obj : Nat) (w : Word) (s : State) : (setSynWord obj w s).bur = s.bur := rfl
@[simp] theorem setSynWord_tier (obj : Nat) (w : Word) (s : State) : (setSynWord obj w s).tier = s.tier := rfl
@[simp] theorem setSynWord_chest (obj : Nat) (w : Word) (s : State) : (setSynWord obj w s).chest = s.chest := rfl
@[simp] theorem setSynWord_fur (obj : Nat) (w : Word) (s : State) : (setSynWord obj w s).fur = s.fur := rfl
@[simp] theorem setSynWord_gen (obj : Nat) (w : Word) (s : State) : (setSynWord obj w s).gen = s.gen := rfl
@[simp] theorem setSynWord_gln (obj : Nat) (w : Word) (s : State) : (setSynWord obj w s).gln = s.gln := rfl
@[simp] theorem setSynWord_tin (obj : Nat) (w : Word) (s : State) : (setSynWord obj w s).tin = s.tin := rfl
@[simp] theorem setSynWord_sync (obj : Nat) (w : Word) (s : State) : (setSynWord obj w s).sync = { s.sync with words := NMap.putD 0 s.sync.words obj w } := rfl
@[simp] theorem setSynWord_host (obj : Nat) (w : Word) (s : State) : (setSynWord obj w s).host = s.host := rfl
@[simp] theorem setSynWord_klt (obj : Nat) (w : Word) (s : State) : (setSynWord obj w s).klt = s.klt := rfl
@[simp] theorem setSynWord_tsc (obj : Nat) (w : Word) (s : State) : (setSynWord obj w s).tsc = s.tsc := rfl
@[simp] theorem setSynWord_sec (obj : Nat) (w : Word) (s : State) : (setSynWord obj w s).sec = s.sec := rfl
@[simp] theorem setSynWord_ckp (obj : Nat) (w : Word) (s : State) : (setSynWord obj w s).ckp = s.ckp := rfl
@[simp] theorem setSynWord_obs (obj : Nat) (w : Word) (s : State) : (setSynWord obj w s).obs = s.obs := rfl
@[simp] theorem setSynWord_pending (obj : Nat) (w : Word) (s : State) : (setSynWord obj w s).pending = s.pending := rfl
@[simp] theorem setSynWord_out (obj : Nat) (w : Word) (s : State) : (setSynWord obj w s).out = s.out := rfl

/-! ### removeWatch -/
@[simp] theorem removeWatch_freeCtr (slot : Nat) (s : State) : (removeWatch slot s).freeCtr = s.freeCtr := rfl
@[simp] theorem removeWatch_time (slot : Nat) (s : State) : (removeWatch slot s).time = s.time := rfl
@[simp] theorem removeWatch_regs (slot : Nat) (s : State) : (removeWatch slot s).regs = s.regs := rfl
@[simp] theorem removeWatch_cfg (slot : Nat) (s : State) : (removeWatch slot s).cfg = s.cfg := rfl
@[simp] theorem removeWatch_links (slot : Nat) (s : State) : (removeWatch slot s).links = s.links := rfl
@[simp] theorem removeWatch_power (slot : Nat) (s : State) : (removeWatch slot s).power = s.power := rfl
@[simp] theorem removeWatch_bur (slot : Nat) (s : State) : (removeWatch slot s).bur = s.bur := rfl
@[simp] theorem removeWatch_tier (slot : Nat) (s : State) : (removeWatch slot s).tier = s.tier := rfl
@[simp] theorem removeWatch_chest (slot : Nat) (s : State) : (removeWatch slot s).chest = s.chest := rfl
@[simp] theorem removeWatch_fur (slot : Nat) (s : State) : (removeWatch slot s).fur = s.fur := rfl
@[simp] theorem removeWatch_gen (slot : Nat) (s : State) : (removeWatch slot s).gen = s.gen := rfl
@[simp] theorem removeWatch_gln (slot : Nat) (s : State) : (removeWatch slot s).gln = s.gln := rfl
@[simp] theorem removeWatch_tin (slot : Nat) (s : State) : (removeWatch slot s).tin = s.tin := rfl
@[simp] theorem removeWatch_host (slot : Nat) (s : State) : (removeWatch slot s).host = s.host := rfl
@[simp] theorem removeWatch_klt (slot : Nat) (s : State) : (removeWatch slot s).klt = s.klt := rfl
@[simp] theorem removeWatch_tsc (slot : Nat) (s : State) : (removeWatch slot s).tsc = s.tsc := rfl
@[simp] theorem removeWatch_sec (slot : Nat) (s : State) : (removeWatch slot s).sec = s.sec := rfl
@[simp] theorem removeWatch_ckp (slot : Nat) (s : State) : (removeWatch slot s).ckp = s.ckp := rfl
@[simp] theorem removeWatch_obs (slot : Nat) (s : State) : (removeWatch slot s).obs = s.obs := rfl
@[simp] theorem removeWatch_pending (slot : Nat) (s : State) : (removeWatch slot s).pending = s.pending := rfl
@[simp] theorem removeWatch_out (slot : Nat) (s : State) : (removeWatch slot s).out = s.out := rfl

/-! ### dropWait -/
@[simp] theorem dropWait_freeCtr (w : SyncWait) (s : State) : (dropWait w s).freeCtr = s.freeCtr := rfl
@[simp] theorem dropWait_time (w : SyncWait) (s : State) : (dropWait w s).time = s.time := rfl
@[simp] theorem dropWait_regs (w : SyncWait) (s : State) : (dropWait w s).regs = s.regs := rfl
@[simp] theorem dropWait_cfg (w : SyncWait) (s : State) : (dropWait w s).cfg = s.cfg := rfl
@[simp] theorem dropWait_links (w : SyncWait) (s : State) : (dropWait w s).links = s.links := rfl
@[simp] theorem dropWait_power (w : SyncWait) (s : State) : (dropWait w s).power = s.power := rfl
@[simp] theorem dropWait_bur (w : SyncWait) (s : State) : (dropWait w s).bur = s.bur := rfl
@[simp] theorem dropWait_tier (w : SyncWait) (s : State) : (dropWait w s).tier = s.tier := rfl
@[simp] theorem dropWait_chest (w : SyncWait) (s : State) : (dropWait w s).chest = s.chest := rfl
@[simp] theorem dropWait_fur (w : SyncWait) (s : State) : (dropWait w s).fur = s.fur := rfl
@[simp] theorem dropWait_gen (w : SyncWait) (s : State) : (dropWait w s).gen = s.gen := rfl
@[simp] theorem dropWait_gln (w : SyncWait) (s : State) : (dropWait w s).gln = s.gln := rfl
@[simp] theorem dropWait_tin (w : SyncWait) (s : State) : (dropWait w s).tin = s.tin := rfl
@[simp] theorem dropWait_sync (w : SyncWait) (s : State) : (dropWait w s).sync = { s.sync with waits := s.sync.waits.filter (· ≠ w) } := rfl
@[simp] theorem dropWait_host (w : SyncWait) (s : State) : (dropWait w s).host = s.host := rfl
@[simp] theorem dropWait_klt (w : SyncWait) (s : State) : (dropWait w s).klt = s.klt := rfl
@[simp] theorem dropWait_tsc (w : SyncWait) (s : State) : (dropWait w s).tsc = s.tsc := rfl
@[simp] theorem dropWait_sec (w : SyncWait) (s : State) : (dropWait w s).sec = s.sec := rfl
@[simp] theorem dropWait_ckp (w : SyncWait) (s : State) : (dropWait w s).ckp = s.ckp := rfl
@[simp] theorem dropWait_obs (w : SyncWait) (s : State) : (dropWait w s).obs = s.obs := rfl
@[simp] theorem dropWait_pending (w : SyncWait) (s : State) : (dropWait w s).pending = s.pending := rfl
@[simp] theorem dropWait_out (w : SyncWait) (s : State) : (dropWait w s).out = s.out := rfl

/-! ### queueWait -/
@[simp] theorem queueWait_freeCtr (w : SyncWait) (s : State) : (queueWait w s).freeCtr = s.freeCtr := rfl
@[simp] theorem queueWait_time (w : SyncWait) (s : State) : (queueWait w s).time = s.time := rfl
@[simp] theorem queueWait_regs (w : SyncWait) (s : State) : (queueWait w s).regs = s.regs := rfl
@[simp] theorem queueWait_cfg (w : SyncWait) (s : State) : (queueWait w s).cfg = s.cfg := rfl
@[simp] theorem queueWait_links (w : SyncWait) (s : State) : (queueWait w s).links = s.links := rfl
@[simp] theorem queueWait_power (w : SyncWait) (s : State) : (queueWait w s).power = s.power := rfl
@[simp] theorem queueWait_bur (w : SyncWait) (s : State) : (queueWait w s).bur = s.bur := rfl
@[simp] theorem queueWait_tier (w : SyncWait) (s : State) : (queueWait w s).tier = s.tier := rfl
@[simp] theorem queueWait_chest (w : SyncWait) (s : State) : (queueWait w s).chest = s.chest := rfl
@[simp] theorem queueWait_fur (w : SyncWait) (s : State) : (queueWait w s).fur = s.fur := rfl
@[simp] theorem queueWait_gen (w : SyncWait) (s : State) : (queueWait w s).gen = s.gen := rfl
@[simp] theorem queueWait_gln (w : SyncWait) (s : State) : (queueWait w s).gln = s.gln := rfl
@[simp] theorem queueWait_tin (w : SyncWait) (s : State) : (queueWait w s).tin = s.tin := rfl
@[simp] theorem queueWait_host (w : SyncWait) (s : State) : (queueWait w s).host = s.host := rfl
@[simp] theorem queueWait_klt (w : SyncWait) (s : State) : (queueWait w s).klt = s.klt := rfl
@[simp] theorem queueWait_tsc (w : SyncWait) (s : State) : (queueWait w s).tsc = s.tsc := rfl
@[simp] theorem queueWait_sec (w : SyncWait) (s : State) : (queueWait w s).sec = s.sec := rfl
@[simp] theorem queueWait_ckp (w : SyncWait) (s : State) : (queueWait w s).ckp = s.ckp := rfl
@[simp] theorem queueWait_obs (w : SyncWait) (s : State) : (queueWait w s).obs = s.obs := rfl
@[simp] theorem queueWait_pending (w : SyncWait) (s : State) : (queueWait w s).pending = s.pending := rfl
@[simp] theorem queueWait_out (w : SyncWait) (s : State) : (queueWait w s).out = s.out := rfl

/-! ### advanceKtb -/
@[simp] theorem advanceKtb_freeCtr (n : Nat) (s : State) : (advanceKtb n s).freeCtr = s.freeCtr := rfl
@[simp] theorem advanceKtb_regs (n : Nat) (s : State) : (advanceKtb n s).regs = s.regs := rfl
@[simp] theorem advanceKtb_cfg (n : Nat) (s : State) : (advanceKtb n s).cfg = s.cfg := rfl
@[simp] theorem advanceKtb_links (n : Nat) (s : State) : (advanceKtb n s).links = s.links := rfl
@[simp] theorem advanceKtb_power (n : Nat) (s : State) : (advanceKtb n s).power = s.power := rfl
@[simp] theorem advanceKtb_bur (n : Nat) (s : State) : (advanceKtb n s).bur = s.bur := rfl
@[simp] theorem advanceKtb_tier (n : Nat) (s : State) : (advanceKtb n s).tier = s.tier := rfl
@[simp] theorem advanceKtb_chest (n : Nat) (s : State) : (advanceKtb n s).chest = s.chest := rfl
@[simp] theorem advanceKtb_fur (n : Nat) (s : State) : (advanceKtb n s).fur = s.fur := rfl
@[simp] theorem advanceKtb_gen (n : Nat) (s : State) : (advanceKtb n s).gen = s.gen := rfl
@[simp] theorem advanceKtb_gln (n : Nat) (s : State) : (advanceKtb n s).gln = s.gln := rfl
@[simp] theorem advanceKtb_tin (n : Nat) (s : State) : (advanceKtb n s).tin = s.tin := rfl
@[simp] theorem advanceKtb_sync (n : Nat) (s : State) : (advanceKtb n s).sync = s.sync := rfl
@[simp] theorem advanceKtb_host (n : Nat) (s : State) : (advanceKtb n s).host = s.host := rfl
@[simp] theorem advanceKtb_klt (n : Nat) (s : State) : (advanceKtb n s).klt = s.klt := rfl
@[simp] theorem advanceKtb_tsc (n : Nat) (s : State) : (advanceKtb n s).tsc = s.tsc := rfl
@[simp] theorem advanceKtb_sec (n : Nat) (s : State) : (advanceKtb n s).sec = s.sec := rfl
@[simp] theorem advanceKtb_ckp (n : Nat) (s : State) : (advanceKtb n s).ckp = s.ckp := rfl
@[simp] theorem advanceKtb_obs (n : Nat) (s : State) : (advanceKtb n s).obs = s.obs := rfl
@[simp] theorem advanceKtb_pending (n : Nat) (s : State) : (advanceKtb n s).pending = s.pending := rfl
@[simp] theorem advanceKtb_out (n : Nat) (s : State) : (advanceKtb n s).out = s.out := rfl

/-! ### putObj -/
@[simp] theorem putObj_freeCtr (i : Nat) (o : ObjRec) (s : State) : (putObj i o s).freeCtr = s.freeCtr := rfl
@[simp] theorem putObj_time (i : Nat) (o : ObjRec) (s : State) : (putObj i o s).time = s.time := rfl
@[simp] theorem putObj_regs (i : Nat) (o : ObjRec) (s : State) : (putObj i o s).regs = s.regs := rfl
@[simp] theorem putObj_cfg (i : Nat) (o : ObjRec) (s : State) : (putObj i o s).cfg = s.cfg := rfl
@[simp] theorem putObj_links (i : Nat) (o : ObjRec) (s : State) : (putObj i o s).links = s.links := rfl
@[simp] theorem putObj_power (i : Nat) (o : ObjRec) (s : State) : (putObj i o s).power = s.power := rfl
@[simp] theorem putObj_bur (i : Nat) (o : ObjRec) (s : State) : (putObj i o s).bur = s.bur := rfl
@[simp] theorem putObj_tier (i : Nat) (o : ObjRec) (s : State) : (putObj i o s).tier = { s.tier with objs := NMap.putD (ObjRec.freeOf i (eraCtr s)) s.tier.objs i o } := rfl
@[simp] theorem putObj_chest (i : Nat) (o : ObjRec) (s : State) : (putObj i o s).chest = s.chest := rfl
@[simp] theorem putObj_fur (i : Nat) (o : ObjRec) (s : State) : (putObj i o s).fur = s.fur := rfl
@[simp] theorem putObj_gen (i : Nat) (o : ObjRec) (s : State) : (putObj i o s).gen = s.gen := rfl
@[simp] theorem putObj_gln (i : Nat) (o : ObjRec) (s : State) : (putObj i o s).gln = s.gln := rfl
@[simp] theorem putObj_tin (i : Nat) (o : ObjRec) (s : State) : (putObj i o s).tin = s.tin := rfl
@[simp] theorem putObj_sync (i : Nat) (o : ObjRec) (s : State) : (putObj i o s).sync = s.sync := rfl
@[simp] theorem putObj_host (i : Nat) (o : ObjRec) (s : State) : (putObj i o s).host = s.host := rfl
@[simp] theorem putObj_klt (i : Nat) (o : ObjRec) (s : State) : (putObj i o s).klt = s.klt := rfl
@[simp] theorem putObj_tsc (i : Nat) (o : ObjRec) (s : State) : (putObj i o s).tsc = s.tsc := rfl
@[simp] theorem putObj_sec (i : Nat) (o : ObjRec) (s : State) : (putObj i o s).sec = s.sec := rfl
@[simp] theorem putObj_ckp (i : Nat) (o : ObjRec) (s : State) : (putObj i o s).ckp = s.ckp := rfl
@[simp] theorem putObj_obs (i : Nat) (o : ObjRec) (s : State) : (putObj i o s).obs = s.obs := rfl
@[simp] theorem putObj_pending (i : Nat) (o : ObjRec) (s : State) : (putObj i o s).pending = s.pending := rfl
@[simp] theorem putObj_out (i : Nat) (o : ObjRec) (s : State) : (putObj i o s).out = s.out := rfl

/-! ### liveBit -/
@[simp] theorem liveBit_freeCtr (i : Nat) (s : State) : (liveBit i s).freeCtr = s.freeCtr := rfl
@[simp] theorem liveBit_time (i : Nat) (s : State) : (liveBit i s).time = s.time := rfl
@[simp] theorem liveBit_regs (i : Nat) (s : State) : (liveBit i s).regs = s.regs := rfl
@[simp] theorem liveBit_cfg (i : Nat) (s : State) : (liveBit i s).cfg = s.cfg := rfl
@[simp] theorem liveBit_links (i : Nat) (s : State) : (liveBit i s).links = s.links := rfl
@[simp] theorem liveBit_power (i : Nat) (s : State) : (liveBit i s).power = s.power := rfl
@[simp] theorem liveBit_bur (i : Nat) (s : State) : (liveBit i s).bur = s.bur := rfl
@[simp] theorem liveBit_tier (i : Nat) (s : State) : (liveBit i s).tier = s.tier := rfl
@[simp] theorem liveBit_chest (i : Nat) (s : State) : (liveBit i s).chest = s.chest := rfl
@[simp] theorem liveBit_fur (i : Nat) (s : State) : (liveBit i s).fur = s.fur := rfl
@[simp] theorem liveBit_gen (i : Nat) (s : State) : (liveBit i s).gen = s.gen := rfl
@[simp] theorem liveBit_gln (i : Nat) (s : State) : (liveBit i s).gln = s.gln := rfl
@[simp] theorem liveBit_tin (i : Nat) (s : State) : (liveBit i s).tin = s.tin := rfl
@[simp] theorem liveBit_sync (i : Nat) (s : State) : (liveBit i s).sync = s.sync := rfl
@[simp] theorem liveBit_host (i : Nat) (s : State) : (liveBit i s).host = s.host := rfl
@[simp] theorem liveBit_klt (i : Nat) (s : State) : (liveBit i s).klt = s.klt := rfl
@[simp] theorem liveBit_tsc (i : Nat) (s : State) : (liveBit i s).tsc = s.tsc := rfl
@[simp] theorem liveBit_sec (i : Nat) (s : State) : (liveBit i s).sec = s.sec := rfl
@[simp] theorem liveBit_ckp (i : Nat) (s : State) : (liveBit i s).ckp = { s.ckp with live := NMap.put s.ckp.live i () } := rfl
@[simp] theorem liveBit_obs (i : Nat) (s : State) : (liveBit i s).obs = s.obs := rfl
@[simp] theorem liveBit_pending (i : Nat) (s : State) : (liveBit i s).pending = s.pending := rfl
@[simp] theorem liveBit_out (i : Nat) (s : State) : (liveBit i s).out = s.out := rfl

/-! ### dirStart -/
@[simp] theorem dirStart_freeCtr (sq cid opc : Nat) (slot : Option Nat) (objs : List Nat) (s : State) : (dirStart sq cid opc slot objs s).freeCtr = s.freeCtr := rfl
@[simp] theorem dirStart_time (sq cid opc : Nat) (slot : Option Nat) (objs : List Nat) (s : State) : (dirStart sq cid opc slot objs s).time = s.time := rfl
@[simp] theorem dirStart_regs (sq cid opc : Nat) (slot : Option Nat) (objs : List Nat) (s : State) : (dirStart sq cid opc slot objs s).regs = s.regs := rfl
@[simp] theorem dirStart_cfg (sq cid opc : Nat) (slot : Option Nat) (objs : List Nat) (s : State) : (dirStart sq cid opc slot objs s).cfg = s.cfg := rfl
@[simp] theorem dirStart_links (sq cid opc : Nat) (slot : Option Nat) (objs : List Nat) (s : State) : (dirStart sq cid opc slot objs s).links = s.links := rfl
@[simp] theorem dirStart_power (sq cid opc : Nat) (slot : Option Nat) (objs : List Nat) (s : State) : (dirStart sq cid opc slot objs s).power = s.power := rfl
@[simp] theorem dirStart_bur (sq cid opc : Nat) (slot : Option Nat) (objs : List Nat) (s : State) : (dirStart sq cid opc slot objs s).bur = s.bur := rfl
@[simp] theorem dirStart_chest (sq cid opc : Nat) (slot : Option Nat) (objs : List Nat) (s : State) : (dirStart sq cid opc slot objs s).chest = s.chest := rfl
@[simp] theorem dirStart_fur (sq cid opc : Nat) (slot : Option Nat) (objs : List Nat) (s : State) : (dirStart sq cid opc slot objs s).fur = s.fur := rfl
@[simp] theorem dirStart_gen (sq cid opc : Nat) (slot : Option Nat) (objs : List Nat) (s : State) : (dirStart sq cid opc slot objs s).gen = s.gen := rfl
@[simp] theorem dirStart_gln (sq cid opc : Nat) (slot : Option Nat) (objs : List Nat) (s : State) : (dirStart sq cid opc slot objs s).gln = s.gln := rfl
@[simp] theorem dirStart_tin (sq cid opc : Nat) (slot : Option Nat) (objs : List Nat) (s : State) : (dirStart sq cid opc slot objs s).tin = s.tin := rfl
@[simp] theorem dirStart_sync (sq cid opc : Nat) (slot : Option Nat) (objs : List Nat) (s : State) : (dirStart sq cid opc slot objs s).sync = s.sync := rfl
@[simp] theorem dirStart_host (sq cid opc : Nat) (slot : Option Nat) (objs : List Nat) (s : State) : (dirStart sq cid opc slot objs s).host = s.host := rfl
@[simp] theorem dirStart_klt (sq cid opc : Nat) (slot : Option Nat) (objs : List Nat) (s : State) : (dirStart sq cid opc slot objs s).klt = s.klt := rfl
@[simp] theorem dirStart_tsc (sq cid opc : Nat) (slot : Option Nat) (objs : List Nat) (s : State) : (dirStart sq cid opc slot objs s).tsc = s.tsc := rfl
@[simp] theorem dirStart_sec (sq cid opc : Nat) (slot : Option Nat) (objs : List Nat) (s : State) : (dirStart sq cid opc slot objs s).sec = s.sec := rfl
@[simp] theorem dirStart_ckp (sq cid opc : Nat) (slot : Option Nat) (objs : List Nat) (s : State) : (dirStart sq cid opc slot objs s).ckp = s.ckp := rfl
@[simp] theorem dirStart_obs (sq cid opc : Nat) (slot : Option Nat) (objs : List Nat) (s : State) : (dirStart sq cid opc slot objs s).obs = s.obs := rfl
@[simp] theorem dirStart_pending (sq cid opc : Nat) (slot : Option Nat) (objs : List Nat) (s : State) : (dirStart sq cid opc slot objs s).pending = s.pending := rfl
@[simp] theorem dirStart_out (sq cid opc : Nat) (slot : Option Nat) (objs : List Nat) (s : State) : (dirStart sq cid opc slot objs s).out = s.out := rfl

/-! ### setList -/
@[simp] theorem setList_freeCtr (slot l : Nat) (r : MapRef) (s : State) : (setList slot l r s).freeCtr = s.freeCtr := rfl
@[simp] theorem setList_time (slot l : Nat) (r : MapRef) (s : State) : (setList slot l r s).time = s.time := rfl
@[simp] theorem setList_regs (slot l : Nat) (r : MapRef) (s : State) : (setList slot l r s).regs = s.regs := rfl
@[simp] theorem setList_cfg (slot l : Nat) (r : MapRef) (s : State) : (setList slot l r s).cfg = s.cfg := rfl
@[simp] theorem setList_links (slot l : Nat) (r : MapRef) (s : State) : (setList slot l r s).links = s.links := rfl
@[simp] theorem setList_power (slot l : Nat) (r : MapRef) (s : State) : (setList slot l r s).power = s.power := rfl
@[simp] theorem setList_bur (slot l : Nat) (r : MapRef) (s : State) : (setList slot l r s).bur = s.bur := rfl
@[simp] theorem setList_tier (slot l : Nat) (r : MapRef) (s : State) : (setList slot l r s).tier = s.tier := rfl
@[simp] theorem setList_chest (slot l : Nat) (r : MapRef) (s : State) : (setList slot l r s).chest = s.chest := rfl
@[simp] theorem setList_fur (slot l : Nat) (r : MapRef) (s : State) : (setList slot l r s).fur = s.fur := rfl
@[simp] theorem setList_gen (slot l : Nat) (r : MapRef) (s : State) : (setList slot l r s).gen = s.gen := rfl
@[simp] theorem setList_tin (slot l : Nat) (r : MapRef) (s : State) : (setList slot l r s).tin = s.tin := rfl
@[simp] theorem setList_sync (slot l : Nat) (r : MapRef) (s : State) : (setList slot l r s).sync = s.sync := rfl
@[simp] theorem setList_host (slot l : Nat) (r : MapRef) (s : State) : (setList slot l r s).host = s.host := rfl
@[simp] theorem setList_klt (slot l : Nat) (r : MapRef) (s : State) : (setList slot l r s).klt = s.klt := rfl
@[simp] theorem setList_tsc (slot l : Nat) (r : MapRef) (s : State) : (setList slot l r s).tsc = s.tsc := rfl
@[simp] theorem setList_sec (slot l : Nat) (r : MapRef) (s : State) : (setList slot l r s).sec = s.sec := rfl
@[simp] theorem setList_ckp (slot l : Nat) (r : MapRef) (s : State) : (setList slot l r s).ckp = s.ckp := rfl
@[simp] theorem setList_obs (slot l : Nat) (r : MapRef) (s : State) : (setList slot l r s).obs = s.obs := rfl
@[simp] theorem setList_pending (slot l : Nat) (r : MapRef) (s : State) : (setList slot l r s).pending = s.pending := rfl
@[simp] theorem setList_out (slot l : Nat) (r : MapRef) (s : State) : (setList slot l r s).out = s.out := rfl

/-! ### slewWrite -/
@[simp] theorem slewWrite_freeCtr (y : Yoke) (ns : Int) (s : State) : (slewWrite y ns s).freeCtr = s.freeCtr := rfl
@[simp] theorem slewWrite_time (y : Yoke) (ns : Int) (s : State) : (slewWrite y ns s).time = { s.time with slew := s.time.slew.set y (ns * 2 ^ 32) } := rfl
@[simp] theorem slewWrite_regs (y : Yoke) (ns : Int) (s : State) : (slewWrite y ns s).regs = s.regs := rfl
@[simp] theorem slewWrite_cfg (y : Yoke) (ns : Int) (s : State) : (slewWrite y ns s).cfg = s.cfg := rfl
@[simp] theorem slewWrite_links (y : Yoke) (ns : Int) (s : State) : (slewWrite y ns s).links = s.links := rfl
@[simp] theorem slewWrite_power (y : Yoke) (ns : Int) (s : State) : (slewWrite y ns s).power = s.power := rfl
@[simp] theorem slewWrite_bur (y : Yoke) (ns : Int) (s : State) : (slewWrite y ns s).bur = s.bur := rfl
@[simp] theorem slewWrite_tier (y : Yoke) (ns : Int) (s : State) : (slewWrite y ns s).tier = s.tier := rfl
@[simp] theorem slewWrite_chest (y : Yoke) (ns : Int) (s : State) : (slewWrite y ns s).chest = s.chest := rfl
@[simp] theorem slewWrite_fur (y : Yoke) (ns : Int) (s : State) : (slewWrite y ns s).fur = s.fur := rfl
@[simp] theorem slewWrite_gen (y : Yoke) (ns : Int) (s : State) : (slewWrite y ns s).gen = s.gen := rfl
@[simp] theorem slewWrite_gln (y : Yoke) (ns : Int) (s : State) : (slewWrite y ns s).gln = s.gln := rfl
@[simp] theorem slewWrite_tin (y : Yoke) (ns : Int) (s : State) : (slewWrite y ns s).tin = s.tin := rfl
@[simp] theorem slewWrite_sync (y : Yoke) (ns : Int) (s : State) : (slewWrite y ns s).sync = s.sync := rfl
@[simp] theorem slewWrite_host (y : Yoke) (ns : Int) (s : State) : (slewWrite y ns s).host = s.host := rfl
@[simp] theorem slewWrite_klt (y : Yoke) (ns : Int) (s : State) : (slewWrite y ns s).klt = s.klt := rfl
@[simp] theorem slewWrite_tsc (y : Yoke) (ns : Int) (s : State) : (slewWrite y ns s).tsc = s.tsc := rfl
@[simp] theorem slewWrite_sec (y : Yoke) (ns : Int) (s : State) : (slewWrite y ns s).sec = s.sec := rfl
@[simp] theorem slewWrite_ckp (y : Yoke) (ns : Int) (s : State) : (slewWrite y ns s).ckp = s.ckp := rfl
@[simp] theorem slewWrite_obs (y : Yoke) (ns : Int) (s : State) : (slewWrite y ns s).obs = s.obs := rfl
@[simp] theorem slewWrite_pending (y : Yoke) (ns : Int) (s : State) : (slewWrite y ns s).pending = s.pending := rfl
@[simp] theorem slewWrite_out (y : Yoke) (ns : Int) (s : State) : (slewWrite y ns s).out = s.out := rfl

end Sys2Proof.Machine
end

