-- ==== Sys2Proof/Laws/Store.lean ====
section
/-!
SUPPORT. The laws of sparse tables and byte stores: a read after a write, what a write leaves alone, and that every operation keeps the
canonical form.
-/
namespace Sys2Proof.NMap

variable {α : Type}

theorem get?_put (m : NMap α) (k j : Nat) (v : α) : get? (put m k v) j = if j = k then some v else get? m j := by
  induction m with
  | nil => simp [put, get?]
  | cons e m ih =>
    obtain ⟨i, u⟩ := e
    simp only [put]
    split
    · simp only [get?]
    · split
      · subst_vars; simp only [get?]; split <;> rfl
      · simp only [get?, ih]; split
        · subst_vars; rw [if_neg]; omega
        · rfl

@[simp] theorem get?_put_self (m : NMap α) (k : Nat) (v : α) : get? (put m k v) k = some v := by simp [get?_put]

theorem get?_put_of_ne (m : NMap α) {k j : Nat} (h : j ≠ k) (v : α) : get? (put m k v) j = get? m j := by simp [get?_put, h]

theorem get?_erase (m : NMap α) (k j : Nat) : get? (erase m k) j = if j = k then none else get? m j := by
  induction m with
  | nil => simp [erase, get?]
  | cons e m ih =>
    obtain ⟨i, u⟩ := e
    simp only [erase]
    split
    · subst_vars; rw [ih]; simp only [get?]; split <;> rfl
    · simp only [get?, ih]; split
      · subst_vars; rw [if_neg]; omega
      · rfl

theorem get_putD [DecidableEq α] (d : α) (m : NMap α) (k j : Nat) (v : α) : get d (putD d m k v) j = if j = k then v else get d m j := by
  unfold putD
  split
  · subst_vars; simp only [get, get?_erase]; split <;> simp
  · simp only [get, get?_put]; split <;> simp

@[simp] theorem get_putD_self [DecidableEq α] (d : α) (m : NMap α) (k : Nat) (v : α) : get d (putD d m k v) k = v := by simp [get_putD]

theorem get_putD_of_ne [DecidableEq α] (d : α) (m : NMap α) {k j : Nat} (h : j ≠ k) (v : α) : get d (putD d m k v) j = get d m j := by
  simp [get_putD, h]

theorem above_mono {m : NMap α} {a b : Nat} (h : above b m = true) (hab : a ≤ b) : above a m = true := by
  cases m with
  | nil => rfl
  | cons e m => simp only [above, Bool.and_eq_true, decide_eq_true_eq] at h ⊢; exact ⟨by omega, h.2⟩

theorem above_put {m : NMap α} {b k : Nat} (h : above b m = true) (hk : b < k) (v : α) : above b (put m k v) = true := by
  induction m generalizing b with
  | nil => simp [put, above, hk]
  | cons e m ih =>
    obtain ⟨i, u⟩ := e
    simp only [above, Bool.and_eq_true, decide_eq_true_eq] at h
    simp only [put]
    split
    · simp only [above, Bool.and_eq_true, decide_eq_true_eq]; exact ⟨hk, by omega, h.2⟩
    · split
      · subst_vars; simp only [above, Bool.and_eq_true, decide_eq_true_eq]; exact ⟨hk, h.2⟩
      · simp only [above, Bool.and_eq_true, decide_eq_true_eq]; exact ⟨h.1, ih h.2 (by omega)⟩

/-- A write keeps the keys rising. -/
theorem sorted_put {m : NMap α} (h : sorted m = true) (k : Nat) (v : α) : sorted (put m k v) = true := by
  cases m with
  | nil => rfl
  | cons e m =>
    obtain ⟨i, u⟩ := e
    simp only [sorted] at h
    simp only [put]
    split
    · simp only [sorted, above, Bool.and_eq_true, decide_eq_true_eq]; exact ⟨‹_›, h⟩
    · split
      · subst_vars; exact h
      · exact above_put h (by omega) v

theorem above_erase {m : NMap α} {b : Nat} (h : above b m = true) (k : Nat) : above b (erase m k) = true := by
  induction m generalizing b with
  | nil => rfl
  | cons e m ih =>
    obtain ⟨i, u⟩ := e
    simp only [above, Bool.and_eq_true, decide_eq_true_eq] at h
    simp only [erase]
    split
    · exact ih (above_mono h.2 (by omega))
    · simp only [above, Bool.and_eq_true, decide_eq_true_eq]; exact ⟨h.1, ih h.2⟩

theorem sorted_of_above {m : NMap α} {b : Nat} (h : above b m = true) : sorted m = true := by
  cases m with
  | nil => rfl
  | cons e m => simp only [above, Bool.and_eq_true] at h; exact h.2

/-- A removal keeps the keys rising. -/
theorem sorted_erase {m : NMap α} (h : sorted m = true) (k : Nat) : sorted (erase m k) = true := by
  cases m with
  | nil => rfl
  | cons e m =>
    obtain ⟨i, u⟩ := e
    simp only [sorted] at h
    simp only [erase]
    split
    · exact sorted_of_above (above_erase h k)
    · exact above_erase h k

theorem mem_put {m : NMap α} {k : Nat} {v : α} {e : Nat × α} (h : e ∈ put m k v) : e = (k, v) ∨ e ∈ m := by
  induction m with
  | nil => simp [put] at h; exact .inl h
  | cons c m ih =>
    obtain ⟨i, u⟩ := c
    simp only [put] at h
    split at h
    · rcases List.mem_cons.mp h with h | h
      · exact .inl h
      · exact .inr h
    · split at h
      · rcases List.mem_cons.mp h with h | h
        · exact .inl h
        · exact .inr (List.mem_cons_of_mem _ h)
      · rcases List.mem_cons.mp h with h | h
        · exact .inr (h ▸ List.mem_cons_self)
        · rcases ih h with h | h
          · exact .inl h
          · exact .inr (List.mem_cons_of_mem _ h)

theorem mem_erase {m : NMap α} {k : Nat} {e : Nat × α} (h : e ∈ erase m k) : e ∈ m := by
  induction m with
  | nil => simp [erase] at h
  | cons c m ih =>
    obtain ⟨i, u⟩ := c
    simp only [erase] at h
    split at h
    · exact List.mem_cons_of_mem _ (ih h)
    · rcases List.mem_cons.mp h with h | h
      · exact h ▸ List.mem_cons_self
      · exact List.mem_cons_of_mem _ (ih h)

/-- Writing keeps the canonical form. -/
theorem wf_putD [DecidableEq α] {d : α} {m : NMap α} (h : wf d m = true) (k : Nat) (v : α) : wf d (putD d m k v) = true := by
  simp only [wf, Bool.and_eq_true, List.all_eq_true, decide_eq_true_eq] at h ⊢
  unfold putD
  split
  · exact ⟨sorted_erase h.1 k, fun e he => h.2 e (mem_erase he)⟩
  · refine ⟨sorted_put h.1 k v, fun e he => ?_⟩
    rcases mem_put he with he | he
    · subst he; assumption
    · exact h.2 e he

theorem above_filter {m : NMap α} {b : Nat} (h : above b m = true) (p : Nat × α → Bool) : above b (m.filter p) = true := by
  induction m generalizing b with
  | nil => rfl
  | cons e m ih =>
    simp only [above, Bool.and_eq_true, decide_eq_true_eq] at h
    simp only [List.filter]
    split
    · simp only [above, Bool.and_eq_true, decide_eq_true_eq]; exact ⟨h.1, ih h.2⟩
    · exact ih (above_mono h.2 (by omega))

theorem sorted_filter {m : NMap α} (h : sorted m = true) (p : Nat × α → Bool) : sorted (m.filter p) = true := by
  cases m with
  | nil => rfl
  | cons e m =>
    simp only [sorted] at h
    simp only [List.filter]
    split
    · exact above_filter h p
    · exact sorted_of_above (above_filter h p)

end Sys2Proof.NMap

namespace Sys2Proof.Cells

theorem read_write (m : Cells) (a b : Nat) (v : Byte) : read (write m a v) b = if b = a then v else read m b :=
  NMap.get_putD 0 m a b v

@[simp] theorem read_write_self (m : Cells) (a : Nat) (v : Byte) : read (write m a v) a = v := NMap.get_putD_self 0 m a v

theorem wf_write {m : Cells} (h : wf m = true) (a : Nat) (v : Byte) : wf (write m a v) = true := NMap.wf_putD h a v

/-- Writing a run of bytes leaves every byte outside the run as it was. -/
theorem read_writeN_outside (m : Cells) (a b : Nat) (bs : List Byte) (h : b < a ∨ a + bs.length ≤ b) :
    read (writeN m a bs) b = read m b := by
  induction bs generalizing m a with
  | nil => rfl
  | cons v bs ih =>
    simp only [List.length_cons] at h
    rw [writeN, ih _ _ (by omega), read_write, if_neg (by omega)]

/-- A byte of a run just written is the byte written there. -/
theorem read_writeN (m : Cells) (a i : Nat) (bs : List Byte) (h : i < bs.length) : read (writeN m a bs) (a + i) = bs[i] := by
  induction bs generalizing m a i with
  | nil => simp at h
  | cons v bs ih =>
    rw [writeN]
    cases i with
    | zero => rw [read_writeN_outside _ _ _ _ (by omega)]; simp
    | succ i =>
      have := ih (write m a v) (a + 1) i (by simpa using h)
      rw [show a + (i + 1) = a + 1 + i by omega, this]; rfl

theorem wf_writeN {m : Cells} (h : wf m = true) (a : Nat) (bs : List Byte) : wf (writeN m a bs) = true := by
  induction bs generalizing m a with
  | nil => exact h
  | cons v bs ih => exact ih (wf_write h a v) (a + 1)

theorem wf_clear {m : Cells} (h : wf m = true) (a n : Nat) : wf (clear m a n) = true := by
  simp only [wf, NMap.wf, Bool.and_eq_true, List.all_eq_true, decide_eq_true_eq] at h ⊢
  exact ⟨NMap.sorted_filter h.1 _, fun e he => h.2 e (List.mem_filter.mp he).1⟩

end Sys2Proof.Cells
end

