-- ==== Sys2Proof/Laws/Tine.lean ====
section
/-!
SUPPORT. What each shape of KSI instruction does on a Tine that is ready: one lemma for each shape.
-/
namespace Sys2Proof.Machine

variable {s : State} {t : Nat} {c : TineCtx}

theorem tineAlu_ready (h : TineReady s t c 1) {rd rs1 rs2 : BitVec 6} (hd : badReg rd = false) (h1 : badReg rs1 = false)
    (h2 : badReg rs2 = false) (fn : Nat) (f : Word → Word → Word) :
    tineAlu t rd rs1 rs2 fn f s = tineWrite t 1 rd (f (tineReg c rs1) (tineReg c rs2)) c s := by
  rw [tineAlu, tineExec_ready h _ _ _ _ (by simp [*]) rfl]

theorem tineAluImm_ready (h : TineReady s t c 1) {rd rs1 : BitVec 6} (hd : badReg rd = false) (h1 : badReg rs1 = false) (op : Nat)
    (imm : BitVec 13) (f : Word → Word → Word) :
    tineAluImm t op rd rs1 imm f s = tineWrite t 1 rd (f (tineReg c rs1) (imm.signExtend 64)) c s := by
  rw [tineAluImm, tineExec_ready h _ _ _ _ (by simp [*]) rfl]; rfl

theorem tineShift_ready (h : TineReady s t c 1) {rd rs1 : BitVec 6} (hd : badReg rd = false) (h1 : badReg rs1 = false) (kind : Nat)
    (sh : BitVec 6) (f : Word → Nat → Word) :
    tineShift t kind rd rs1 sh 0 f s = tineWrite t 1 rd (f (tineReg c rs1) sh.toNat) c s := by
  rw [tineShift, tineExec_ready h _ _ _ _ (by simp [*]) (by simp)]

theorem tineBranch_ready (h : TineReady s t c 1) {rs1 rs2 : BitVec 6} (h1 : badReg rs1 = false) (h2 : badReg rs2 = false) (op : Nat)
    (off : BitVec 13) (f : Word → Word → Bool) :
    tineBranch t op rs1 rs2 off f s = tineJump t (if f (tineReg c rs1) (tineReg c rs2) then
      BitVec.ofNat 64 c.pc + off.signExtend 64 * 4 else BitVec.ofNat 64 (c.pc + 4)) c s := by
  rw [tineBranch, tineExec_ready h _ _ _ _ (by simp [*]) rfl]; rfl

theorem tineLoad_ready (h : TineReady s t c 1) {rd rs1 : BitVec 6} (hd : badReg rd = false) (h1 : badReg rs1 = false) (op : Nat) {n : Nat}
    {imm : BitVec 13} (ha : (tineReg c rs1 + imm.signExtend 64).toNat % n = 0) (hl : loadOk c (tineReg c rs1 + imm.signExtend 64).toNat n = true) :
    tineLoad t op n rd rs1 imm s =
      tineWrite t 1 rd (BitVec.ofNat 64 (leNat (localRead s c (tineReg c rs1 + imm.signExtend 64).toNat n))) c s := by
  rw [tineLoad, tineExec_ready h _ _ _ _ (by simp [*]) rfl]
  show (if _ then _ else _) = _
  rw [if_neg (by simpa [sext13] using ha), if_neg (by simpa [sext13] using hl)]; rfl

theorem tineStore_ready (h : TineReady s t c 1) {rs2 rs1 : BitVec 6} (hd : badReg rs2 = false) (h1 : badReg rs1 = false) (op : Nat) {n : Nat}
    {imm : BitVec 13} (ha : (tineReg c rs1 + imm.signExtend 64).toNat % n = 0) (hl : storeOk c (tineReg c rs1 + imm.signExtend 64).toNat n = true) :
    tineStore t op n rs2 rs1 imm s = putTine t { localWrite c (tineReg c rs1 + imm.signExtend 64).toNat
      (leBytes n (tineReg c rs2).toNat) with pc := c.pc + 4 } s := by
  rw [tineStore, tineExec_ready h _ _ _ _ (by simp [*]) rfl]
  show (if _ then _ else _) = _
  rw [if_neg (by simpa [sext13] using ha), if_neg (by simpa [sext13] using hl)]; rfl

/-- An engine instruction of a session handler that is ready runs its own part. -/
theorem tineEngine_ready (h : TineReady s t c 2) (hm : c.system = false) (eop : Nat) (rd rs1 rs2 : BitVec 6) (regs : List (BitVec 6))
    (mbz : Bool) (f : TineCtx → State → State) (hr : regs.any badReg = false) (hz : mbz = false) :
    tineEngine t eop rd rs1 rs2 regs mbz f s = f c s := by
  rw [tineEngine, tineExec_ready h _ _ _ _ hr hz]; simp [hm]

end Sys2Proof.Machine
end

