-- ==== Sys2Proof/WellFormed.lean ====
section
/-!
DEFINITION. Commands whose operands lie within the fields the spec gives them: queue and command numbers (R296, R297), handles (R62),
Tine and core numbers (R23, R24), packet and message headers (R370, R373, R376, R385, R452, R490), and the lengths of frames.
-/
namespace Sys2Proof

/-- A number fits a field of `k` bits. -/
def fit (k n : Nat) : Bool := decide (n < 2 ^ k)

/-- The header of R370: 48 bytes, PLEN at most 4,112. -/
def KHdr.fits (h : KHdr) : Bool :=
  fit 8 h.ver && fit 8 h.opc && fit 3 h.tc && fit 24 h.dconn && fit 8 h.cgen && fit 32 h.psn && fit 32 h.msn && fit 64 h.addr &&
    fit 32 h.key && decide (h.plen ≤ 4112) && fit 15 h.sep && fit 32 h.tsTx && fit 32 h.moff && fit 32 h.mlen

/-- The acknowledgement header of R385. -/
def KAck.fits (a : KAck) : Bool :=
  fit 3 a.tc && fit 24 a.dconn && fit 8 a.cgen && fit 32 a.frontier && a.nak.all (fun n => fit 32 n.1 && fit 8 n.2) && fit 24 a.ceCount &&
    fit 32 a.tsEcho && fit 32 a.ackDelay && fit 15 a.sep && fit 256 a.sack

/-- CONNECT_REQ and CONNECT_RSP of R373. -/
def ConnReq.fits (r : ConnReq) : Bool :=
  fit 15 r.sep && fit 8 r.minVer && fit 8 r.maxVer && fit 8 r.tc && decide (1 ≤ r.entropy ∧ r.entropy ≤ 256) && fit 24 r.sconn &&
    fit 8 r.scgen && fit 16 r.rwin && fit 16 r.domain && fit 64 r.reqId

def ConnRsp.fits (r : ConnRsp) : Bool :=
  fit 15 r.sep && fit 8 r.ver && fit 8 r.tc && decide (1 ≤ r.entropy ∧ r.entropy ≤ 256) && fit 24 r.rconn && fit 8 r.rcgen &&
    fit 16 r.rwin && fit 64 r.reqId

/-- HEARTBEAT of R376. -/
def Beat.fits (b : Beat) : Bool := fit 16 b.domain && fit 16 b.liveGen && fit 8 b.role && fit 64 b.commitAt && fit 64 b.ktb

/-- The header of a migration message (R490). -/
def MigHdr.fits (h : MigHdr) : Bool := fit 32 h.migId && fit 32 h.seq && fit 16 h.src && fit 16 h.dst && fit 32 h.srcHandle && fit 32 h.dstHandle

/-- Requesters: the system Tines are 256 to 287 (R23, R573). -/
def Requester.fits : Requester → Bool
  | .mgmt _ => true
  | .sysTine n => decide (256 ≤ n ∧ n < 288)
  | .host => true

/-- The fields of a management request (R452). -/
def MgmtReq.fits (q : MgmtReq) : Bool := fit 32 q.session && fit 64 q.seq && fit 32 q.reqId

/-- What a placement directive names (R62, R101, R116, R252). -/
def DirTarget.fits : DirTarget → Bool
  | .session h => fit 32 h
  | .stack h k => fit 32 h && fit 24 k
  | .prefixOf id => fit 12 id
  | .searchList x l => fit 16 x && fit 16 l

/-- The operands of a command fit the widths the spec gives them. -/
def Instr.WellFormed (i : Instr) : Bool :=
  match i with
  | .registerWrite r _ _ => r.fits
  | .cfgCommit _ r gen mask tag silent => r.fits && fit 16 gen && fit 32 mask && fit 16 tag && silent.all (fun d => fit 4 d)
  | .scheduledCommit _ r gen mask tag silent => r.fits && fit 16 gen && fit 32 mask && fit 16 tag && silent.all (fun d => fit 4 d)
  | .commitCancel r gen tag => r.fits && fit 16 gen && fit 16 tag
  | .commitAnswerTimeout => true
  | .commitApplyAt => true
  | .configFingerprint => true
  | .divergenceGraceExpiry entry => fit 13 entry
  | .yokKtbFreqWrite _ _ => true
  | .yokKtbSlewWrite _ _ => true
  | .yokKtbStepWrite _ _ => true
  | .ppsInEdge _ => true
  | .ppsOutPulse => true
  | .acreTimeTransfer _ => true
  | .pwrSpeedSample die speed source => fit 4 die && fit 10 speed && fit 6 source
  | .linkFence link => decide (link < 9)
  | .openSession sq cid _ => decide (sq < 256) && fit 16 cid
  | .park sq cid handle => decide (sq < 256) && fit 16 cid && fit 32 handle
  | .revive sq cid handle => decide (sq < 256) && fit 16 cid && fit 32 handle
  | .dormant sq cid handle => decide (sq < 256) && fit 16 cid && fit 32 handle
  | .migrate sq cid handle device tier _ conn => decide (sq < 256) && fit 16 cid && fit 32 handle && fit 15 device && fit 8 tier && fit 18 conn
  | .retire sq cid handle => decide (sq < 256) && fit 16 cid && fit 32 handle
  | .retireComplete slot => fit 22 slot
  | .wakeSet sq cid handle en deadline => decide (sq < 256) && fit 16 cid && fit 32 handle && fit 8 en && fit 64 deadline
  | .deadlineWake slot => fit 22 slot
  | .queuedWakeAdmit principal => fit 12 principal
  | .revivalFetchStart _ => true
  | .revivalReady slot => fit 22 slot
  | .descRead sq cid handle dlen => decide (sq < 256) && fit 16 cid && fit 32 handle && fit 32 dlen
  | .getx _ slot => fit 22 slot
  | .recall slot => fit 22 slot
  | .shelfWb slot => fit 22 slot
  | .getxGrant slot => fit 22 slot
  | .getxRetry _ => true
  | .shelfEvict _ slot => fit 22 slot
  | .profileUnbind sq cid profile => decide (sq < 256) && fit 16 cid && fit 16 profile
  | .writeBackRound obj => decide (obj < 0x2000000)
  | .writeBackComplete obj => decide (obj < 0x2000000)
  | .nearEvict _ => true
  | .stackFetchForAppend slot k => fit 22 slot && fit 24 k
  | .setPolicy sq cid handle tier target fill => decide (sq < 256) && fit 16 cid && fit 32 handle && fit 8 tier && fit 32 target && fit 8 fill
  | .setHome sq cid t tier target => decide (sq < 256) && fit 16 cid && t.fits && fit 8 tier && fit 32 target
  | .homeMoveCopyDone obj => decide (obj < 0x2000000)
  | .oldRunFree obj => decide (obj < 0x2000000)
  | .stage sq cid t => decide (sq < 256) && fit 16 cid && t.fits
  | .unstage sq cid t => decide (sq < 256) && fit 16 cid && t.fits
  | .prefetch sq cid t lo hi => decide (sq < 256) && fit 16 cid && t.fits && fit 32 lo && fit 32 hi
  | .evict sq cid t => decide (sq < 256) && fit 16 cid && t.fits
  | .pin sq cid t => decide (sq < 256) && fit 16 cid && t.fits
  | .unpin sq cid t => decide (sq < 256) && fit 16 cid && t.fits
  | .prefixCreate sq cid handle len principal => decide (sq < 256) && fit 16 cid && fit 32 handle && fit 32 len && fit 12 principal
  | .prefixRetire sq cid id => decide (sq < 256) && fit 16 cid && fit 12 id
  | .borrowEmpty borrow => decide (borrow < 64)
  | .chestWrite obj => decide (obj < 0x2000000)
  | .chestWriteDurable _ => true
  | .chestPieceRead loc drive _ => fit 48 loc && decide (drive < 4)
  | .stagingDone obj => decide (obj < 0x2000000)
  | .nvmeCompletion drive cid _ => decide (drive < 4) && fit 16 cid
  | .nvmeCmdTimeout drive cid _ _ => decide (drive < 4) && fit 16 cid
  | .driveFailed drive _ => decide (drive < 4)
  | .driveLinkUp drive _ _ _ => decide (drive < 4)
  | .journalGroupClose => true
  | .journalGroupDurable => true
  | .mapCheckpoint => true
  | .harrowCollect drive => decide (drive < 4)
  | .harrowDeallocate drive seg => decide (drive < 4) && fit 20 seg
  | .chestMount => true
  | .smartPoll drive _ _ _ => decide (drive < 4)
  | .chestFormat sq cid => decide (sq < 256) && fit 16 cid
  | .chestAttach sq cid drive => decide (sq < 256) && fit 16 cid && decide (drive < 4)
  | .arqBatchTake arq => decide (arq < 256)
  | .sampleHoldTimeout _ => true
  | .itemDispatch _ => true
  | .itemComplete furrow => decide (furrow < 48)
  | .entryComplete _ => true
  | .batchResponse arq _ => decide (arq < 256)
  | .preemptSave _ => true
  | .preemptSaveDone furrow => decide (furrow < 48)
  | .prefillRestore _ => true
  | .arqErrorClear arq => decide (arq < 256)
  | .tkqRecordApply tkq => decide (tkq < 256)
  | .tkqErrorClear tkq => decide (tkq < 256)
  | .trim sq cid handle target => decide (sq < 256) && fit 16 cid && fit 32 handle && fit 32 target
  | .setFloor sq cid handle floor => decide (sq < 256) && fit 16 cid && fit 32 handle && fit 32 floor
  | .genSet sq cid handle _ => decide (sq < 256) && fit 16 cid && fit 32 handle
  | .srqBatchTake srq => decide (srq < 64)
  | .srqErrorClear srq => decide (srq < 64)
  | .centroidPassDone gleaner => decide (gleaner < 16)
  | .listVisitDone gleaner => decide (gleaner < 16)
  | .searchMerge _ => true
  | .gleanerSwitch gleaner => decide (gleaner < 16)
  | .idxCreate sq cid target _ => decide (sq < 256) && fit 16 cid && fit 32 target
  | .idxLoad sq cid handle list _ => decide (sq < 256) && fit 16 cid && fit 16 handle && fit 16 list
  | .idxPublish sq cid handle => decide (sq < 256) && fit 16 cid && fit 16 handle
  | .idxCompact sq cid handle => decide (sq < 256) && fit 16 cid && fit 16 handle
  | .compactionBuildDone gleaner => decide (gleaner < 16)
  | .compactionSwitch slot => fit 12 slot
  | .idxRetire sq cid handle => decide (sq < 256) && fit 16 cid && fit 16 handle
  | .shardDeadline _ => true
  | .imageLoad sq cid _ _ => decide (sq < 256) && fit 16 cid
  | .imageUnload sq cid id => decide (sq < 256) && fit 16 cid && fit 16 id
  | .routeSet sq cid principal route conn base len key perm => decide (sq < 256) && fit 16 cid && fit 12 principal && decide (route < 64) && fit 18 conn && fit 64 base && fit 64 len && fit 32 key && fit 3 perm
  | .eventDispatch _ => true
  | .handlerBudgetExpire tine => decide (tine < 288)
  | .programTimer slot tag => fit 22 slot && fit 16 tag
  | .sqTailDoorbell sq tail entries => decide (sq < 256) && fit 32 tail && entries.all (fun b => b.length == 64)
  | .cqHeadDoorbell cq head => decide (cq < 256) && fit 32 head
  | .streamRingDoorbell ring count => decide (ring < 4096) && fit 64 count
  | .eventRingDoorbell ring count => decide (ring < 256) && fit 64 count
  | .msixCoalesce kind _ => decide (kind < 3)
  | .yokHqNegotiate _ => true
  | .yokHqAqEn _ => true
  | .createQp sq cid q sqBase cqBase _ _ vector => decide (sq < 256) && fit 16 cid && fit 16 q && fit 64 sqBase && fit 64 cqBase && fit 16 vector
  | .deleteQp sq cid q => decide (sq < 256) && fit 16 cid && fit 16 q
  | .streamCreate sq cid ring base k paddr vector => decide (sq < 256) && fit 16 cid && fit 16 ring && fit 64 base && fit 24 k && fit 64 paddr && fit 16 vector
  | .streamDelete sq cid ring => decide (sq < 256) && fit 16 cid && fit 16 ring
  | .evringCreate sq cid ring base k paddr vector => decide (sq < 256) && fit 16 cid && fit 16 ring && fit 64 base && fit 24 k && fit 64 paddr && fit 16 vector
  | .evringDelete sq cid ring => decide (sq < 256) && fit 16 cid && fit 16 ring
  | .configWrite sq cid _ => decide (sq < 256) && fit 16 cid
  | .configRead sq cid _ => decide (sq < 256) && fit 16 cid
  | .configCommit sq cid _ gen mask at_ _ tag silent => decide (sq < 256) && fit 16 cid && fit 16 gen && fit 32 mask && fit 64 at_ && fit 16 tag && silent.all (fun d => fit 4 d)
  | .deadlineSet sq cid handle cMax qMax dReq => decide (sq < 256) && fit 16 cid && fit 32 handle && fit 32 cMax && fit 8 qMax && fit 64 dReq
  | .deadlineClear sq cid handle => decide (sq < 256) && fit 16 cid && fit 32 handle
  | .abort sq cid tsq tcid => decide (sq < 256) && fit 16 cid && decide (tsq < 256) && fit 16 tcid
  | .add tine _ _ _ => decide (tine < 288)
  | .sub tine _ _ _ => decide (tine < 288)
  | .andReg tine _ _ _ => decide (tine < 288)
  | .orReg tine _ _ _ => decide (tine < 288)
  | .xorReg tine _ _ _ => decide (tine < 288)
  | .sll tine _ _ _ => decide (tine < 288)
  | .srl tine _ _ _ => decide (tine < 288)
  | .sra tine _ _ _ => decide (tine < 288)
  | .slt tine _ _ _ => decide (tine < 288)
  | .sltu tine _ _ _ => decide (tine < 288)
  | .min tine _ _ _ => decide (tine < 288)
  | .max tine _ _ _ => decide (tine < 288)
  | .minu tine _ _ _ => decide (tine < 288)
  | .maxu tine _ _ _ => decide (tine < 288)
  | .mul tine _ _ _ => decide (tine < 288)
  | .mulh tine _ _ _ => decide (tine < 288)
  | .mulhu tine _ _ _ => decide (tine < 288)
  | .div tine _ _ _ => decide (tine < 288)
  | .divu tine _ _ _ => decide (tine < 288)
  | .rem tine _ _ _ => decide (tine < 288)
  | .remu tine _ _ _ => decide (tine < 288)
  | .addi tine _ _ _ => decide (tine < 288)
  | .andi tine _ _ _ => decide (tine < 288)
  | .ori tine _ _ _ => decide (tine < 288)
  | .xori tine _ _ _ => decide (tine < 288)
  | .slti tine _ _ _ => decide (tine < 288)
  | .sltiu tine _ _ _ => decide (tine < 288)
  | .slli tine _ _ _ _ => decide (tine < 288)
  | .srli tine _ _ _ _ => decide (tine < 288)
  | .srai tine _ _ _ _ => decide (tine < 288)
  | .liShort tine _ _ => decide (tine < 288)
  | .liLong tine _ _ => decide (tine < 288)
  | .lpc tine _ _ => decide (tine < 288)
  | .jal tine _ _ => decide (tine < 288)
  | .jalr tine _ _ _ => decide (tine < 288)
  | .beq tine _ _ _ => decide (tine < 288)
  | .bne tine _ _ _ => decide (tine < 288)
  | .blt tine _ _ _ => decide (tine < 288)
  | .bge tine _ _ _ => decide (tine < 288)
  | .bltu tine _ _ _ => decide (tine < 288)
  | .bgeu tine _ _ _ => decide (tine < 288)
  | .ldB tine _ _ _ => decide (tine < 288)
  | .ldH tine _ _ _ => decide (tine < 288)
  | .ldW tine _ _ _ => decide (tine < 288)
  | .ldD tine _ _ _ => decide (tine < 288)
  | .stB tine _ _ _ => decide (tine < 288)
  | .stH tine _ _ _ => decide (tine < 288)
  | .stW tine _ _ _ => decide (tine < 288)
  | .stD tine _ _ _ => decide (tine < 288)
  | .dldB tine _ _ _ => decide (tine < 288)
  | .dldH tine _ _ _ => decide (tine < 288)
  | .dldW tine _ _ _ => decide (tine < 288)
  | .dldD tine _ _ _ => decide (tine < 288)
  | .dstB tine _ _ _ => decide (tine < 288)
  | .dstH tine _ _ _ => decide (tine < 288)
  | .dstW tine _ _ _ => decide (tine < 288)
  | .dstD tine _ _ _ => decide (tine < 288)
  | .evret tine _ _ _ => decide (tine < 288)
  | .fault tine _ _ _ => decide (tine < 288)
  | .ktb tine _ _ _ => decide (tine < 288)
  | .rreg tine _ _ _ => decide (tine < 288)
  | .wreg tine _ _ _ => decide (tine < 288)
  | .ksiPark tine _ _ _ _ _ => decide (tine < 288)
  | .parkA tine _ _ _ _ _ => decide (tine < 288)
  | .ksiRevive tine _ _ _ _ _ => decide (tine < 288)
  | .ksiTrim tine _ _ _ _ _ => decide (tine < 288)
  | .rdesc tine _ _ _ _ _ => decide (tine < 288)
  | .post tine _ _ _ _ _ => decide (tine < 288)
  | .attn tine _ _ _ _ _ => decide (tine < 288)
  | .append tine _ _ _ _ _ => decide (tine < 288)
  | .srch tine _ _ _ _ _ => decide (tine < 288)
  | .rwrite tine _ _ _ _ _ => decide (tine < 288)
  | .rread tine _ _ _ _ _ => decide (tine < 288)
  | .waitT tine _ _ _ _ _ => decide (tine < 288)
  | .waitC tine _ _ _ _ _ => decide (tine < 288)
  | .ckpt tine _ _ _ _ _ => decide (tine < 288)
  | .signalRead tine _ _ _ _ _ => decide (tine < 288)
  | .signalGe tine _ _ _ _ _ => decide (tine < 288)
  | .signalNe tine _ _ _ _ _ => decide (tine < 288)
  | .signalPhase tine _ _ _ _ _ => decide (tine < 288)
  | .signalFree tine _ _ _ _ _ => decide (tine < 288)
  | .armGe tine _ _ _ _ _ => decide (tine < 288)
  | .armNe tine _ _ _ _ _ => decide (tine < 288)
  | .armPhase tine _ _ _ _ _ => decide (tine < 288)
  | .armFree tine _ _ _ _ _ => decide (tine < 288)
  | .signalLock tine _ _ _ _ _ => decide (tine < 288)
  | .signalP tine _ _ _ _ _ => decide (tine < 288)
  | .signalArrive tine _ _ _ _ _ => decide (tine < 288)
  | .unlock tine _ _ _ _ _ => decide (tine < 288)
  | .signalV tine _ _ _ _ _ => decide (tine < 288)
  | .signalAdd tine _ _ _ _ _ => decide (tine < 288)
  | .disarm tine _ _ _ _ _ => decide (tine < 288)
  | .waitGe tine _ _ _ _ _ => decide (tine < 288)
  | .waitNe tine _ _ _ _ _ => decide (tine < 288)
  | .waitPhase tine _ _ _ _ _ => decide (tine < 288)
  | .waitFree tine _ _ _ _ _ => decide (tine < 288)
  | .waitLock tine _ _ _ _ _ => decide (tine < 288)
  | .waitP tine _ _ _ _ _ => decide (tine < 288)
  | .waitArrive tine _ _ _ _ _ => decide (tine < 288)
  | .waitTimeout obj slot tag => fit 16 obj && fit 22 slot && fit 16 tag
  | .waitForSearch obj slot tag => fit 16 obj && fit 22 slot && fit 16 tag
  | .deadlockFail obj slot tag => fit 16 obj && fit 22 slot && fit 16 tag
  | .synOp _ _ _ => true
  | .synOpForce _ _ => true
  | .kltWrite h data => h.fits && data.length == h.plen
  | .frameWrite h frame tag => h.fits && frame.length == 4096 && tag.length == 16
  | .readReq h => h.fits
  | .frameReadReq h => h.fits
  | .readExecute conn => fit 18 conn
  | .readRsp h data => h.fits && data.length == h.plen
  | .frameReadRsp h frame tag _ _ => h.fits && frame.length == 4096 && tag.length == 16
  | .readUnitTimeout conn msn _ => fit 18 conn && fit 32 msn
  | .ack a => a.fits
  | .ackDelayExpiry conn => fit 18 conn
  | .lossDetect conn psn => fit 18 conn && fit 32 psn
  | .ccWindowEnd conn => fit 18 conn
  | .connectReq r => r.fits
  | .connectRsp r => r.fits
  | .connectResend conn => fit 18 conn
  | .close dconn cgen sep => fit 24 dconn && fit 8 cgen && fit 15 sep
  | .closeAck dconn cgen sep => fit 24 dconn && fit 8 cgen && fit 15 sep
  | .closeResend conn => fit 18 conn
  | .heartbeat sep b => fit 15 sep && b.fits
  | .heartbeatSend entry => fit 13 entry
  | .peerDown entry => fit 13 entry
  | .connOpen _ => true
  | .connClose _ => true
  | .regRegister _ => true
  | .regRevoke _ => true
  | .pwqCreate _ => true
  | .pwqDelete _ => true
  | .mclSet _ => true
  | .pwqRequestStart q => decide (q < 1024)
  | .pwqRequestComplete q _ => decide (q < 1024)
  | .pwqErrorClear q => decide (q < 1024)
  | .egressSelect port => decide (port < 8)
  | .shaperRefill port => decide (port < 8)
  | .queueSample port => decide (port < 8)
  | .gateEdge _ => true
  | .gclTakeover _ => true
  | .ptpSync port seq _ _ => decide (port < 8) && fit 16 seq
  | .ptpFollowUp port seq _ => decide (port < 8) && fit 16 seq
  | .ptpDelayResp port seq _ => decide (port < 8) && fit 16 seq
  | .ptpDelayReq port seq _ => decide (port < 8) && fit 16 seq
  | .ptpAnnounce port domain _ => decide (port < 8) && fit 8 domain
  | .ptpSendTimer port => decide (port < 8)
  | .ptpSyncLoss => true
  | .hello _ minVer maxVer cred => fit 8 minVer && fit 8 maxVer && fit 8 cred
  | .auth _ session _ => fit 32 session
  | .mgmtIdleTimeout _ session => fit 32 session
  | .mgmtLockoutExpiry _ => true
  | .getInfo q => q.fits
  | .getChain q slot _ _ => q.fits && fit 8 slot
  | .sessionClose q => q.fits
  | .regRead q _ => q.fits
  | .regWrite q _ _ => q.fits
  | .mgmtConfigCommit q gen mask _ _ tag silent => q.fits && fit 16 gen && fit 32 mask && fit 16 tag && silent.all (fun d => fit 4 d)
  | .reset q kind _ => q.fits && fit 8 kind
  | .fenceCore q die kind _ _ => q.fits && fit 4 die && fit 8 kind
  | .fwStage q _ _ => q.fits
  | .fwActivate q _ => q.fits
  | .bindBegin q _ => q.fits
  | .bindCommit q => q.fits
  | .bindAbort q => q.fits
  | .bindTimeout => true
  | .release q => q.fits
  | .releaseScrubDone => true
  | .zeroise q => q.fits
  | .spdmRelay q _ => q.fits
  | .credAdd q _ roles => q.fits && fit 6 roles
  | .credRemove q slot => q.fits && fit 4 slot
  | .deploy q _ => q.fits
  | .decommission q => q.fits
  | .debugChallenge q => q.fits
  | .debugUnlock q _ => q.fits
  | .debugLock q => q.fits
  | .debugUnlockExpiry => true
  | .eventSubscribe q => q.fits
  | .traceTrigger q => q.fits
  | .halt q => q.fits
  | .scanOut q die chain => q.fits && fit 4 die && fit 32 chain
  | .entropyTestFail _ => true
  | .ckptMark sq cid _ e at_ _ _ => decide (sq < 256) && fit 16 cid && fit 32 e && fit 64 at_
  | .epochMarker _ => true
  | .shardCaptured _ => true
  | .epochDrained _ => true
  | .ckptPolicy sq cid _ handle _ => decide (sq < 256) && fit 16 cid && fit 32 handle
  | .ckptDiscard sq cid _ e => decide (sq < 256) && fit 16 cid && fit 32 e
  | .restore sq cid _ _ _ _ tier _ => decide (sq < 256) && fit 16 cid && fit 8 tier
  | .restoreStacksDone slot => fit 22 slot
  | .restoreObjects sq cid _ e _ _ _ => decide (sq < 256) && fit 16 cid && fit 32 e
  | .exportCmd sq cid _ handle route _ _ => decide (sq < 256) && fit 16 cid && fit 32 handle && decide (route < 64)
  | .importCmd sq cid _ handle route _ => decide (sq < 256) && fit 16 cid && fit 32 handle && decide (route < 64)
  | .coreFence die kind _ _ => fit 4 die && fit 8 kind
  | .itemOverrun die kind _ => fit 4 die && fit 8 kind
  | .leaseRenew _ => true
  | .leaseExpiry _ => true
  | .yokeHeartbeat _ p => fit 32 p
  | .partnerSilence _ => true
  | .claim _ _ p => fit 32 p
  | .primacyTakeover _ => true
  | .stalePrimacy _ => true
  | .migOffer conn h _ => fit 18 conn && h.fits
  | .migAccept h _ => h.fits
  | .migRefuse h st => h.fits && fit 8 st
  | .migrationFreeze slot => fit 22 slot
  | .migHandover h _ _ => h.fits
  | .migConfirm h => h.fits
  | .migRelease h => h.fits
  | .migQuery conn h => fit 18 conn && h.fits
  | .migOutcome h o => h.fits && fit 8 o
  | .migResend slot => fit 22 slot
  | .migResolve sq cid _ handle _ => decide (sq < 256) && fit 16 cid && fit 32 handle
  | .leave sq cid _ => decide (sq < 256) && fit 16 cid
  | .left => true
  | .periodBoundary die => fit 4 die
  | .obsSnapTake die => fit 4 die
  | .energyApportion _ => true
  | .traceFlush acre => decide (acre < 4)
  | .traceTimeTrigger acre => decide (acre < 4)
  | .traceStallTrigger die kind _ => fit 4 die && fit 8 kind
  | .tracePostDone acre => decide (acre < 4)
  | .obsMark _ r _ => r.fits
  | .haltWave src => fit 4 src
  | .haltInN _ => true
  | .trigIn => true
  | .pwrgoodRise _ _ => true
  | .stage0 _ _ _ _ _ _ _ _ => true
  | .stage1 _ _ _ _ _ => true
  | .stage2 _ _ _ _ _ => true
  | .stage3 => true
  | .pwrgoodFall => true
  | .resetN => true
  | .pwrResetSystem => true
  | .pwrResetMgmt _ => true
  | .hostReset _ => true
  | .hostPortSelect _ => true
  | .avsStep => true
  | .energyUpdate _ _ => true
  | .railPoll rail _ => fit 3 rail
  | .thermalSample die tj => fit 4 die && fit 8 tj
  | .fallowEnter => true
  | .fallowWake => true
  | .fallowCancel => true
  | .propose nb round => decide (nb < 32) && fit 32 round
  | .accept nb round => decide (nb < 32) && fit 32 round
  | .refuse nb round => decide (nb < 32) && fit 32 round
  | .cancel nb round => decide (nb < 32) && fit 32 round
  | .committed nb round => decide (nb < 32) && fit 32 round
  | .wake nb round => decide (nb < 32) && fit 32 round
  | .fallowAnswerTimeout => true
  | .consentExpiry nb => decide (nb < 32)
  | .selfWake => true
  | .wakeRequestDeferred _ => true
  | .fallowWakeDone => true
  | .jtagBypass _ => true
  | .jtagIdcode _ => true
  | .jtagSamplePreload _ => true
  | .jtagExtest _ => true
  | .jtagClamp _ => true
  | .jtagHighz _ => true
  | .scanout _ die chain => fit 4 die && fit 32 chain
  | .illegalInstruction tine _ _ => decide (tine < 288)
  | .ethernetLinkChange port _ => decide (port < 8)
  | .suspectHoldExpiry conn port e => fit 18 conn && decide (port < 8) && decide (e < 256)
  | .kltMalformedPacket _ => true
  | .claimRetry _ => true
  | .partnerHeartbeatSend _ => true
  | .holdoverExcessRise => true
  | .thermtripComparator => true
  | .chestQuiesceDone => true
  | .shadowCopy obj => decide (obj < 0x2000000)
  | .drainWriteComplete _ _ _ => true
  | .provisioning => true

end Sys2Proof
end

