-- ==== Sys2Proof/Tests/Slice0.lean ====
section
/-!
SUPPORT. The model's own tests: states small enough for the kernel, the witnesses of the statements' hypotheses, ill-formed commands,
and one step of a few commands against values the spec gives.
-/
set_option linter.unusedVariables false
set_option Elab.async false

namespace Sys2Proof.Tests
open Sys2Proof Sys2Proof.Machine

/-- A device in service with nothing bound: the planes run, queue pairs 0 and 1 exist. -/
def up : State :=
  let s := State.reset
  let s := { s with power := { s.power with pwrgood := true, stage := .serving, hostActive := some .yw } }
  let s := { s with power := { s.power with fallow := { s.power.fallow with mode := .active } } }
  { s with host := { s.host with qps := [(0, newQp 0 0 64 64 0xFFFF), (1, newQp 0 0 64 64 0xFFFF)] },
           time := { s.time with running := true, ktb := .mk1 1000000 } }

/-- A system Tine 256 at local address 0. -/
def sysCtx : TineCtx :=
  { system := true, slot := 0, handle := 0, image := 0, evCode := 0, dispatchAt := 0, budget := 0, pc := 0, g := [(5, 7), (6, 0)], c := [],
    data := [], stall := none, trapped := none }

/-- A session handler on Tine 0, in an image of 64 bytes of code at local address 0. -/
def handlerCtx : TineCtx :=
  { system := false, slot := 3, handle := 0x400003, image := 1, evCode := 5, dispatchAt := 1000000, budget := 100000, pc := 0, g := [(5, 0x30000)],
    c := [(0, 9)], data := [], stall := none, trapped := none }

def handlerUp : State :=
  let s := putTine 0 handlerCtx up
  { s with tin := { s.tin with images := [(0, { id := 1, base := 0, code := 64, rodata := 0, entry := [], budget := [] })] } }

def tineUp : State := putTine 256 sysCtx up

/-- A management session with every role, and its first request. -/
def mgmtSess : MgmtSess := { cred := 1, seqIn := 0, cached := none, seqOut := 0, lastReq := 0, subscribed := false }

def mgmtAsk : MgmtReq := { port := .yw, session := 1, seq := 1, reqId := 9 }

def mgmtUpState : State :=
  { up with sec := { up.sec with creds := [(1, { key := 7, roles := 63 })],
                                 mgmt := up.sec.mgmt.set .yw { MgmtPort.reset with sessions := [(1, mgmtSess)], next := 2 } } }

/-- A commit of generation 1 sent at KTB 0, whose dies `silent` have not answered. -/
def waitingCommit (silent : List Die) : PendingCommit :=
  { gen := 1, mask := 1, applyAt := 20000, plane := .control, tag := 3, scheduled := true, sentAt := 0, silent := silent, failed := none,
    cmd := none, req := none }

/-- A pending wait of session slot 3 on object 3. -/
def waitOn3 : SyncWait := { obj := 3, who := .session 3 1, code := 8, operand := 0, seq := 4, phase := 0, timeout := some 5 }

/-- Object 3 is a semaphore of 5 permits. -/
def synUp : State := setSynWord 3 0x4000000000000005 up

/-- The Shelf of Acre 0 holds the line of the handler's session. -/
def handlerOwned : State :=
  { handlerUp with bur := { handlerUp.bur with dir := [(3, { DirEntry.empty with st := .owned .a0 })] } }

/-- A bound device with one session, slot 3 of generation 1, in state `st`, its line in the Shelf of Acre 0. -/
def sessIn (st : SState) : State :=
  let d := { Desc.freeOf 1 up.sec.epoch with state := st, wakeDeadline := true, deadline := 5, len := 9, specHead := 12, logCount := 12 }
  { up with
    sec := { up.sec with tenancy := .bound },
    bur := { up.bur with home := [(3, d)], dir := [(3, { DirEntry.empty with st := .owned .a0 })],
                         shelf := up.bur.shelf.set .a0 [(3, { own := true, copy := d })] } }

/-- The session's wake is queued, its principal has room. -/
def wakeWaits : State :=
  let s := putDesc 3 { desc (sessIn .idleWait) 3 with wakeQueued := true } (sessIn .idleWait)
  { s with bur := { s.bur with wakeQ := [(0, [3])] } }

/-- A revival fetch of the session is queued on the Field of Acre 0. -/
def fetchWaits : State :=
  let s := sessIn .reviving
  { s with bur := { s.bur with revQ := s.bur.revQ.set .a0 [⟨3, 0⟩] } }

/-- The home holds the descriptor, and Acre 1 asks for it. -/
def grantWaits : State :=
  { up with bur := { up.bur with dir := [(3, { DirEntry.empty with waiting := [.a1] })] } }

/-- An OPEN block: principal 0, profile 0, home 0, one Drawer plot, one frame each of log, inbox and scratch, stream ring 0, no event
ring, WAKE_EN 8. -/
def openBytes : List Byte :=
  [0, 0, 0, 0, 0, 0, 0, 0, 0, 0, 0, 0, 0, 0, 0xFF, 0xFF, 8, 1, 0, 0, 1, 0, 0, 0, 1, 0, 0, 0, 1] ++ List.replicate 35 0

/-- A bound device with a profile, a stream ring, and free Field and Near on Acre 0. -/
def openUp : State :=
  let s := { up with
    sec := { up.sec with tenancy := .bound }, host := { up.host with streams := [(0, newRing 0 12 0 0)] },
    tier := { up.tier with fldFree := up.tier.fldFree.set .a0 [(0, 4096)], nearSize := up.tier.nearSize.set .a0 (2 ^ 36) } }
  setLive .TIER_PROF_GEOM (.acre .a0) 0 (BitVec.ofNat 64 (2 ^ 38)) s

/-- A private stack of the session, homed in the Field of Acre 0. -/
def stackRec (k : Nat) : ObjRec :=
  { ObjRec.freeOf (0x800003 + k) 0 with
    stackId := 0x800003 + k, home := .fld .a0 (16 + 16 * k), sstate := .priv, ctr := 5, nextCtr := 6, refcnt := 1, owner := some 3,
    frames := 16 }

/-- The session's map names two private stacks, of object slots 0x800003 and 0x800004. -/
def stackUp : State :=
  let s := sessIn .idleWait
  let m := { ObjRec.freeOf 3 0 with
    home := .fld .a0 0, kind := .map, sstate := .priv, refcnt := 1, owner := some 3, frames := 1,
    data := ⟨[], [(0, ⟨false, .record 0x800003⟩), (1, ⟨false, .record 0x800004⟩)]⟩ }
  { s with tier := { s.tier with objs := [(3, m), (0x800003, stackRec 0), (0x800004, stackRec 1)],
                                 fldFree := s.tier.fldFree.set .a1 [(0, 4096)] } }

/-- A home move of the session's first stack to Acre 1 copies. -/
def moveUp : State :=
  { stackUp with tier := { stackUp.tier with
    moves := [{ obj := 0x800003, dest := .fld .a1 0, ctr0 := 5, redirect := false, cause := .directive 1 7 }] } }

/-- A drive of 40 segments with an OPEN segment 33 and the set's superblock. -/
def drive0 : Drive :=
  let sb : Superblock := { mseq := 4, setId := 5, mask := 1, slot := 0, base := 0, clean := true, finalJseq := 0 }
  { Drive.absent with
    st := .online, segments := 40, segs := [(33, ⟨.open_, 1, 0, 0, false, 3⟩)], free := ⟨34, 40, []⟩, sb0 := some sb,
    slot0 := some ⟨0, [], []⟩, cmds := [⟨2, 1, 0, false⟩] }

/-- A mounted Chest of one drive, on a bound device whose session has two stacks. -/
def chestUpState : State :=
  { stackUp with chest := { ChestState.reset with
    mount := .mounted, setId := 5, drives := [(0, drive0)], free := ⟨0, 2 ^ 25, []⟩, jseq := 1,
    anchor := some ⟨5, 0, 4, true, 0⟩ } }

def sealed0 : Sealed := { stackId := 0x800003, ctr := 5, keySel := 0, kind := 0, data := .empty, corrupt := false }

def chestMove : HomeMove := { obj := 0x800003, dest := .chest 4, ctr0 := 5, redirect := false, cause := .directive 1 7 }

/-- The session's first stack moves into the Chest. -/
def chestMoveUp : State :=
  modObj 0x800003 (fun o => { o with sealed := some sealed0 })
    { chestUpState with tier := { chestUpState.tier with moves := [chestMove] } }

def stagingOf (left : List Nat) : Staging :=
  { loc := 2 ^ 25, obj := 0x800003, owner := 3, cause := .gather 3, left := left, segs := [(0, 33)] }

/-- Chest object 0, of incarnation 1, is being staged. -/
def stagingUp (left : List Nat) : State :=
  { chestUpState with chest := { chestUpState.chest with
    map := [(0, { ChestRec.empty with incarn := 1, driveMask := 1, valid := true, frames := 1, pieces := [(0, (33, 1))] })],
    content := [(0, sealed0)], stagings := [stagingOf left] } }

/-- A journal record waits in the open group, or is in flight. -/
def jrec0 : JRec := ⟨1, .segOpen, 34, .empty, 0⟩

/-- A DECODE batch of one entry for the session, to response ring 0. -/
def arqBatch : List Byte :=
  [128, 0, 0, 0, 1, 0, 1, 0, 9] ++ List.replicate 55 0 ++ [3, 0, 0x40, 0, 0, 0, 1, 0, 0, 0, 0, 0, 64, 0, 0, 0] ++ List.replicate 48 0

/-- ARQ 0 and response ring 0 enabled; one batch notified at KTB 5. -/
def arqUp (batch : List Byte) : State :=
  let s := setLive .FUR_ARQ_CFG (.acre .a0) 0 (BitVec.ofNat 64 (2 ^ 53 + 16 * 2 ^ 48)) (sessIn .decode)
  let s := setLive .FUR_RSP_CFG (.yoke .yw) 0 (BitVec.ofNat 64 (2 ^ 29 + 12 * 2 ^ 24)) s
  putArq 0 { Arq.empty with pi := batch.length, marks := [(batch.length, 5)] } (nearWrite .a0 4096 batch s)

/-- A DECODE entry of the session, admitted, with `left` items to go. -/
def entryOf (left : Nat) (cls : AttnClass) (status : Option Status) : AttnEntry :=
  { src := .arq 0 0 0, acre := .a0, slot := 3, handle := 0x400003, cls := cls, layer := 0, q := 1, pos := 8, append := false, ctxLo := 0,
    ctxHi := 0, exporting := false, fast := false, fp32Out := false, deadline := 0, qvec := [], rows := [], badData := false,
    credit := false, infSeen := false, admitted := true, started := true, kv := [], left := left, parts := [], aborted := false,
    abortLate := false, failed := none, status := status, spoilt := false, outBlk := [], lseBlk := [], descSeq := 0 }

def itemOf (pf saved : Bool) : WorkItem :=
  { id := 0, entry := 0, pf := pf, head := 0, heads := 1, tok := 0, toks := 1, lo := 0, hi := 32, lead := true, preempts := 0, saved := saved }

def batch0 : Batch :=
  { serial := 0, tag := 9, cls := .decode, count := 1, ring := 0, exporting := false, fastUsed := false, fp32Out := false, endAt := 128,
    tAdmit := 5, reserved := 128, entries := [0], answered := false }

/-- Entry 0 of the session is open, with one item waiting in the DECODE queue or the PREFILL queue. -/
def attnUp (left : Nat) (cls : AttnClass) (saved : Bool) : State :=
  let s := sessIn .decode
  let i := itemOf (cls = .prefill) saved
  { s with fur := { s.fur with
    entries := [(0, entryOf left cls none)], arqs := [(0, { Arq.empty with batches := [batch0], take := 128, pi := 128 })],
    dvQ := s.fur.dvQ.set .a0 (if cls = .prefill then [] else [i]), pfQ := s.fur.pfQ.set .a0 (if cls = .prefill then [i] else []) } }

/-- Furrow 11 runs the item of entry 0. -/
def furrowRuns (cls : AttnClass) (u : FurrowUse) : State :=
  let s := sessIn .decode
  { s with fur := { s.fur with entries := [(0, entryOf 1 cls none)], units := [(11, u)], latch := s.fur.latch.set .a0 (some 11) } }

/-- The two Drawer writes of a GEN_SET with an empty stop set. -/
def genFirst : State :=
  match drawerWrite 3 0x100 ((genBlock (List.replicate 1312 0)).stopSeq ++ (genBlock (List.replicate 1312 0)).stopLen) (sessIn .idleWait) with
  | .ok s => s
  | .error _ => up

def genSecond : State :=
  match drawerWrite 3 0x600 (genBlock (List.replicate 1312 0)).eosSet genFirst with
  | .ok s => s
  | .error _ => up

/-- An index of dimension 16 with one list, none of its objects written. -/
def idx0 (st : IdxSt) (waiting : List IdxWait) : Index :=
  { st := st, d := 16, metric := 0, idBits := 16, nlist := 1, sideCap := 64, principal := 0, tier := .fld, target := none, centroid := 5,
    side := 6, lists := [], sideUsed := 0, freeze := 0, shadow := [], newShadow := [], sideLive := [], damagedLists := [], damaged := false,
    built := some [], compactBy := none, waiting := waiting }

/-- A batch of no entry at index slot 0. -/
def sbatch0 (cls : Nat) (phase : SPhase) : SBatch :=
  { serial := 0, src := .srq 0, acre := .a0, cls := cls, tag := 9, slot := 0, index := 0x1000, ring := 0, bulk := false, deadline := 0,
    endAt := 128, tAdmit := 5, reserved := 128, phase := phase, queries := [], updates := [], visits := [], answers := [], memberTag := 0 }

/-- A bound device with index slot 0, batch 0 and, on Gleaner 0, a pass. -/
def glnHas (x : Index) (b : SBatch) (u : NMap GlnRun) : State :=
  let s := { up with sec := { up.sec with tenancy := .bound } }
  { s with gln := { s.gln with indexes := [(0, x)], batches := [(0, b)], units := u } }

/-- Gleaners 0 to 3 run low-priority passes, and a pass of high priority waits. -/
def glnFull : State :=
  let r : GlnRun := { pass := .compact 0, low := true, at_ := 0 }
  let s := glnHas (idx0 .active []) (sbatch0 0 .visits) [(0, r), (1, r), (2, r), (3, r)]
  { s with gln := { s.gln with passQ := s.gln.passQ.set .a0 [{ pass := .centroid 0, low := false, at_ := 0 }] } }

/-- A QUERY batch of one entry to index slot 0, to response ring 0. -/
def srqBatch0 : List Byte :=
  [128, 0, 0, 0, 1, 0, 1, 0, 9] ++ List.replicate 9 0 ++ [0, 0x10] ++ List.replicate 44 0 ++ [128, 0, 0, 0, 1, 0, 0, 0, 1] ++ List.replicate 55 0

/-- SRQ 0 and response ring 0 enabled; one batch notified at KTB 5. -/
def srqUp (batch : List Byte) : State :=
  let s := setLive .GLN_SRQ_CFG (.acre .a0) 0 (BitVec.ofNat 64 (2 ^ 53 + 16 * 2 ^ 48)) (glnHas (idx0 .active []) (sbatch0 0 .visits) [])
  let s := setLive .FUR_RSP_CFG (.yoke .yw) 0 (BitVec.ofNat 64 (2 ^ 29 + 12 * 2 ^ 24)) s
  putSrq 0 { Srq.empty with pi := batch.length, marks := [(batch.length, 5)] } (nearWrite .a0 4096 batch s)

/-- An IDX_CREATE block: D 16, L2, 16 ID bits, one list, 64 side records, principal 0, in Field. -/
def idxBytes : List Byte :=
  [16, 0, 0, 16, 1, 0, 0, 0, 64, 0, 0, 0, 0, 0, 1, 0, 0xFF, 0xFF, 0xFF, 0xFF] ++ List.replicate 108 0

/-- A handler with g5 = 4096 and g6 = 4160, offsets in its Drawer, g7 = 8 and g8 = 1. -/
def drawCtx : TineCtx := { handlerCtx with g := [(5, 4096), (6, 4160), (7, 8), (8, 1), (9, 0x30000)] }

/-- The handler's session has a Drawer of one plot whose scratch region is frames 1 and 2, with `bs` at offset 4096. -/
def drawerUp (bs : List Byte) : State :=
  let s := sessIn .toolWait
  let d := { desc s 3 with drawerPlots := 1, imageId := 1, eventRing := 0 }
  let o := { ObjRec.freeOf (drawerObj 3) 0 with
    home := .fld .a0 0, kind := .drawer, sstate := .priv, refcnt := 1, owner := some 3, frames := 16,
    data := ⟨Cells.writeN (Cells.writeN [] 0x14 [1, 0, 0, 0, 2, 0, 0, 0]) 4096 bs, []⟩ }
  putTine 0 drawCtx
    { s with
      bur := { s.bur with home := [(3, d)], shelf := s.bur.shelf.set .a0 [(3, { own := true, copy := d })] },
      tier := { s.tier with objs := [(drawerObj 3, o)], nearSize := s.tier.nearSize.set .a0 (2 ^ 36) },
      tin := { s.tin with images := [(0, { id := 1, base := 0, code := 64, rodata := 0, entry := List.replicate 16 0, budget := [] })] } }

/-- The Drawer after a store of one byte. -/
def drawerStored : State :=
  match drawerWrite 3 4096 (leBytes 1 4096) (drawerUp []) with
  | .ok s => s
  | .error _ => up

/-- A request block of `attn` or `append`. -/
def attnReq (kv : Byte) : List Byte := (arqBatch.take 80) ++ [kv] ++ List.replicate 47 0

def route0 : Route := { conn := 1, base := 0, len := 4096, key := 7, canRead := true, canWrite := true, canDb := true }

def routeUp : State := { drawerUp [] with tin := { (drawerUp []).tin with routes := [(0, route0)] } }

/-- The session's event 7 is queued; its timer has tag 1 and fires at 5. -/
def timerEvent : TEvent := { slot := 3, code := 7, a := 1, b := 0 }

def eventUp : State :=
  let s := drawerUp []
  let o : AsyncOp := { slot := 3, tag := 1, kind := .timer 5, ended := false, ins := [], outs := [] }
  { s with tin := { s.tin with tines := [], evq := s.tin.evq.set .a0 [timerEvent], asyncs := [o] } }

/-- Contracts are enabled on Acre 0; the session is pinned with nothing stored, and holds a contract. -/
def contractUp (cs : List Contract) : State :=
  let s := sessIn .toolWait
  let s := setLiveF .BUR_GUAR_CTRL (.acre .a0) 0 0 0 1 (setLiveF .FUR_CTRL (.acre .a0) 0 3 0 4 s)
  setContracts .a0 cs (putDesc 3 { desc s 3 with pinned := true, specHead := 0, len := 0 } s)

/-- Stream ring 0 and event ring 0 exist; each has two records that were not signalled, the first at KTB 5. -/
def ringsUp : State :=
  let r := { newRing 0 12 0 3 with producer := 128, coal := ⟨2, 5⟩ }
  putStream 0 r (putEvRing 0 r (putQp 1 { newQp 0 0 64 64 3 with coal := ⟨2, 5⟩ } up))

/-- Peer entry 0 is endpoint 9, in the rack; region 1 with TAG 1 is the first 64 KiB of Near of Acre 0, region 2 a plot of its Field. -/
def kltBase : State :=
  let s := { up with sec := { up.sec with tenancy := .bound } }
  let s := setLive .KLT_PEER_CFG (.yoke .yw) 0 (BitVec.ofNat 64 (9 + 2 ^ 15 + 2 ^ 16)) s
  let r : Region := { base := 0, len := 65536, kind := .plain, dbk := 0, dbArg := 0, canWrite := true, canRead := true, canDb := false,
                      isLocal := true, peer := none, principal := 0, st := .valid, tag := 1, revTag := none }
  { s with klt := { s.klt with regions := [(1, r), (2, { r with base := 2 ^ 48, kind := .frame })], cgens := [(1, 0)] } }

/-- A connection to endpoint 9 in TC4, with no packet yet. -/
def conn0 (st : ConnSt) : Conn := { (newConn 1 st 9 0 4 1 64 0 kltBase).1 with peerNum := 3 }

def kltWith (c : Conn) : State := putConn 1 c kltBase

/-- A header on that connection, of PSN 0. -/
def khdr (addr key mlen : Nat) : KHdr :=
  { ver := 1, opc := 1, first := true, last := true, db := false, retx := false, ackNow := false, tc := 4, dconn := 1, cgen := 0, psn := 0, msn := 0,
    addr := addr, key := key, plen := 4, sep := 9, tsTx := 0, moff := 0, mlen := mlen, ce := false }

/-- A packet sent and not acknowledged, and a read of one unit that it asked for. -/
def sentPkt : SndPkt := { msn := 0, idx := 0, again := false, path := ⟨0, 0⟩, sentAt := some 5, sends := 1, sacked := false, lost := false }

def readOp : SndOp :=
  { msn := 0, op := .read 0 65537 8 4096, src := .device, first := 0, count := 1, sent := 1, cut := false, nak := none, reading := true,
    units := [], lastRsp := 5, bad := none, done := false }

/-- The connection with a read under way. -/
def connReads (infl : NMap SndPkt) (acked : Nat) : Conn := { conn0 .open_ with ops := [readOp], inflight := infl, nextPsn := 1, acked := acked, srtt := some 100 }

/-- The connection with a validated read at FRONTIER. -/
def connServes : Conn := { conn0 .open_ with got := [(0, { readPkt (khdr 0 65537 8) false with validated := some 1 })] }

/-- KLT_CMD arguments on the west Yoke. -/
def kltArgs (a0 a1 a2 a3 : Nat) (s : State) : State :=
  let d := Die.yoke .yw
  setLive .KLT_CMD_ARG3 d 0 (BitVec.ofNat 64 a3) (setLive .KLT_CMD_ARG2 d 0 (BitVec.ofNat 64 a2)
    (setLive .KLT_CMD_ARG1 d 0 (BitVec.ofNat 64 a1) (setLive .KLT_CMD_ARG0 d 0 (BitVec.ofNat 64 a0) s)))

/-- A posted work queue with one request of zeros notified, and its first request ended. -/
def pwq0 (infl : NMap PwqReq) (start : Nat) : Pwq :=
  { acre := 0, base := 4096, size := 4096, principal := 0, srcCctr := none, gateCctr := none, pi := 64, start := start, ci := 0, err := none,
    inflight := infl, gated := false }

def pwqUp (infl : NMap PwqReq) (start : Nat) (req : List Byte) : State := putPwq 5 (pwq0 infl start) (nearWrite .a0 8192 req (kltWith (conn0 .open_)))

/-- A WRITE of 8 bytes from Near address 0 on connection 1; a gated one. -/
def workBytes (flags : Byte) : List Byte := [1, flags, 0, 0, 1] ++ List.replicate 23 0 ++ [8] ++ List.replicate 35 0

/-- PTP is on; port 2's master has the PTP state `st`. -/
def ptpUp (st : PtpSt) : State :=
  setPtp (fun u => { u with st := st, port := 2, half := some (2, 7, 40), delayReq := some (8, 50), tSync := some 3 })
    (setLiveF .TSC_PTP_CTRL (.yoke .yw) 0 0 0 1 up)

/-- Port 0 is up, with one packet in the queue of a class. -/
def portUp (c : Nat) : State :=
  putPort 0 { EgressPort.empty with up := true, queues := [(c, [{ pkt := .heartbeat 0 (ownBeat up), conn := 0, psn := none, wire := 214, at_ := 5, e := 0, peer := 0 }])] }
    (setLiveF .TSC_SHP (.yoke .yw) 7 31 0 0 up)

/-- A gate list of two entries; it closes TC3 in the second. -/
def gcl0 : Gcl := { base := 0, phase := 0, cycle := 40000, entries := [(0xFF, 9600), (0xF7, 30400)] }

/-- A DEPLOYED device at the end of Stage 2, UNASSIGNED, its self-tests passed, with a management session of every role. -/
def deployed : State :=
  { mgmtUpState with
    sec := { mgmtUpState.sec with lcA := 3, lcB := 3, selfPass := .mk1 true, entropyOk := .mk1 true },
    power := { mgmtUpState.power with stage := .s3 } }

/-- The same in a tenancy state. -/
def tenIn (t : Tenancy) : State := setSec (fun x => { x with tenancy := t }) deployed

/-- Port YW is locked until KTB 5. -/
def lockedPort : State := putPortM .yw { portM deployed .yw with lockUntil := some 5 } deployed

/-- A HELLO with session number 2 waits for its AUTH. -/
def helloUp : State := putPortM .yw { portM deployed .yw with hellos := [(2, ⟨1, true⟩)], next := 3 } deployed

/-- KTB 10^15 ns. -/
def later : State := { deployed with time := { deployed.time with ktb := .mk1 1000000000000000 } }

def bindReq0 : BindReq := { tenantId := 1, tenantRoot := 2, localMode := true, imageKey := none, consentKey := none, certified := false }

def image0 : FwImage := ⟨0, 0, 0, 0, []⟩

/-- A captured object of the map of session slot 3, still untaken, and its shard. -/
def cap0 : CapObj := capRecord { ObjRec.freeOf 3 0 with kind := .map, sstate := .priv, frames := 1, home := .fld .a0 0 }

def shard0 : Shard := { Shard.empty with marked := true, objs := [(3, cap0)] }

/-- Epoch 5 of the Chest; every shard but that of Acre 0 is empty. -/
def epoch0 (h : Shard) : Epoch := { e := 5, at_ := 20, full := false, target := .chest, shards := (PerAcre.mk1 h) }

def epochUp (st : EpochSt) (h : Shard) : State := setCkp (fun c => { c with epoch := some (epoch0 h), epochSt := st, lastMarked := 5 }) stackUp

/-- Epoch 1 is anchored. -/
def manifestUp : State :=
  setCkp (fun c => { c with anchor := 1, manifests := [manifestOf (sessIn .idleWait) { epoch0 .empty with e := 1 }] }) (sessIn .idleWait)

/-- Yoke YE claims P = 2 with the votes of Acres 0 to 2. -/
def claimUp : State := modYoke .ye (fun x => { x with claim := some ⟨2, [.a0, .a1, .a2], 5⟩ }) up

def migHdr0 : MigHdr := { migId := 0, seq := 0, src := 0, dst := 5, srcHandle := 0x400003, dstHandle := 9 }

def offer0 : OfferIn := { principal := 0, profile := 0, geom := 0, var := 0, scale := 0, tier := 1, target := none, frames := [16], keyMask := 0 }

def hand0 : HandIn := { sess := { device := 5, desc := [], objs := [] }, auto := false, events := [], timers := [], waits := [] }

/-- A migration of session slot 3 with device 5, as source. -/
def migSource (st : MigSt) : Migration :=
  { id := 0, source := true, peer := 5, conn := 1, handle := 0x400003, peerHandle := 9, st := st, seq := 1, hseq := 0, objs := [], places := [],
    unsent := [], left := [], runs := [], policyTier := 1, policyTarget := none, hand := none, last := none, sentAt := 5, cmd := none }

def migUp (m : Migration) : State :=
  putMig 3 m (putDesc 3 { desc (sessIn .migrating) 3 with prevState := .idleWait } (sessIn .migrating))

/-- Tine 1 of Acre 0 has stalled since KTB 5, and a stall of 1 ms triggers there. -/
def stallUp : State :=
  let s := setObs (fun o => { o with stallAt := [(4 * 8192 + engKey 2 1, 5)] }) (setLive .OBS_TRACE_TRIG (.acre .a0) 0 0x3E800000400 up)
  { s with time := { s.time with ktb := .mk1 2000000 } }

/-- Powered, in a stage of start-up. -/
def inStage (g : Stage) : State := { up with power := { up.power with stage := g } }

/-- In a mode of Fallow; no Chest is mounted. -/
def fallowIn (m : PwrMode) : State := setFallow { up.power.fallow with mode := m } up

theorem witness_registerAccessCommands_1 : ∃ (r : Requester) (addr : BitVec 40) (v : Word) (s : State), requesterUp r s = true :=
  ⟨.mgmt .yw, 0x20000000, 5, up, by decide⟩

theorem witness_registerAccessCommands_2 : ∃ (t : Nat) (rd rs1 rs2 : BitVec 6) (c : TineCtx) (s : State), TineReady s t c 1 ∧ c.system = true ∧ badReg rs1 = false ∧ (tineReg c rs1).toNat < 2 ^ 40 ∧ addrName (tineReg c rs1).toNat ≠ .bad ∧ badReg rd = false ∧ badReg rs2 = false :=
  ⟨256, 7, 6, 5, sysCtx, tineUp, by unfold TineReady; decide⟩

theorem witness_registerAccessCommands_3 : ∃ (q : MgmtReq) (x : MgmtSess) (addr : BitVec 40) (s : State), MgmtReady s q x rObserve :=
  ⟨mgmtAsk, mgmtSess, 0x20, mgmtUpState, by unfold MgmtReady; decide⟩

theorem witness_registerAccessCommands_4 : ∃ (q : MgmtReq) (x : MgmtSess) (addr : BitVec 40) (v : Word) (r : Reg) (d : Die) (s : State), MgmtReady s q x rConfigure ∧ addrName addr.toNat = .reg r d ∧ mgmtMayWrite addr.toNat = true :=
  ⟨mgmtAsk, mgmtSess, 0x20000018, 5, .PWR_CAP, .yoke .yw, mgmtUpState, by unfold MgmtReady; set_option maxRecDepth 20000 in decide⟩

theorem witness_commitCommands_1 : ∃ (y : Yoke) (r : Requester) (gen mask tag : Nat) (silent : List Nat) (s : State), planesRun s = true ∧ requesterUp r s = true :=
  ⟨.yw, .sysTine 256, 1, 1, 3, [], up, by decide⟩

theorem witness_commitCommands_2 : ∃ (s : State) (p : PendingCommit) (d : Die) (l : List Die), planesRun s = true ∧ s.cfg.pendingC = some p ∧ p.silent = d :: l ∧ p.failed = none ∧ p.sentAt + 3000 ≤ ktb s :=
  ⟨{ up with cfg := { up.cfg with pendingC := some (waitingCommit [.acre .a0]) } }, waitingCommit [.acre .a0], .acre .a0, [], by decide⟩

theorem witness_commitCommands_3 : ∃ (s : State) (p : PendingCommit), planesRun s = true ∧ s.cfg.pendingC = some p ∧ p.scheduled = true ∧ p.silent = [] ∧ p.failed = none ∧ p.applyAt ≤ ktb s :=
  ⟨{ up with cfg := { up.cfg with pendingC := some (waitingCommit []) } }, waitingCommit [], by decide⟩

theorem witness_commitCommands_4 : ∃ (sq cid : Nat) (b : List Byte) (t : State) (s : State), Served s sq ∧ sq = 0 ∧ configLenOk b = true ∧ configWrites ((List.range (b.length / 16)).map (configEntry b)) 0 s = (none, t) :=
  ⟨0, 7, [0, 0, 0x7F, 0, 0, 0, 0, 0, 0, 0, 0, 0, 0, 0, 0, 0], up, up, by unfold Served; decide⟩

theorem witness_commitCommands_5 : ∃ (sq cid : Nat) (b bs : List Byte) (t : State) (s : State), Served s sq ∧ sq = 0 ∧ configLenOk b = true ∧ configReads (firmwareTine s) ((List.range (b.length / 16)).map (configEntry b)) 0 s = (bs, none, t) :=
  ⟨0, 7, List.replicate 16 0, List.replicate 16 0, up, up, by unfold Served; decide⟩

theorem witness_commitCommands_6 : ∃ (sq cid gen mask tag : Nat) (silent : List Nat) (s : State), Served s sq ∧ sq = 0 ∧ (s.ckp.yokes.get s.ckp.primary).issuing = true :=
  ⟨0, 7, 1, 1, 3, [], up, by unfold Served; decide⟩

theorem witness_commitCommands_7 : ∃ (q : MgmtReq) (x : MgmtSess) (gen mask tag : Nat) (at_ : Option Nat) (silent : List Nat) (s : State), MgmtReady s q x rConfigure ∧ planesRun s = true :=
  ⟨mgmtAsk, mgmtSess, 1, 4, 3, none, [], mgmtUpState, by unfold MgmtReady; decide⟩

theorem witness_commitCommands_8 : ∃ (q : MgmtReq) (x : MgmtSess) (y : Yoke) (s : State), MgmtReady s q x rConfigure :=
  ⟨mgmtAsk, mgmtSess, .yw, mgmtUpState, by unfold MgmtReady; decide⟩

theorem witness_timebaseCommands_1 : ∃ (y : Yoke) (v : Word) (s : State), planesRun s = true :=
  ⟨.yw, 5, up, by decide⟩

theorem witness_timebaseCommands_2 : ∃ (y : Yoke) (s : State), s.time.running = true :=
  ⟨.yw, up, by decide⟩

theorem witness_timebaseCommands_3 : ∃ (s : State), s.time.running = true ∧ 1000000000 ≤ ktb s ∧ s.time.ppsRise ≠ some (ktb s / 1000000000 * 1000000000) :=
  ⟨{ up with time := { up.time with ktb := .mk1 1000000000 } }, by decide⟩

theorem witness_timebaseCommands_4 : ∃ (a : Acre) (s : State), s.time.running = true ∧ pastStage1 s = true :=
  ⟨.a0, up, by decide⟩

theorem witness_timebaseCommands_5 : ∃ (s : State), planesRun s = true ∧ s.cfg.fpValid = false :=
  ⟨up, by decide⟩

theorem witness_timebaseCommands_6 : ∃ (entry : Nat) (e : Divergence) (s : State), planesRun s = true ∧ NMap.get? s.cfg.divergent entry = some e ∧ e.counted = false ∧ e.since + max 1 (primF s .CFG_DOMAIN 0 23 16) * 1000000 < ktb s :=
  ⟨4, { since := 0, counted := false }, { up with cfg := { up.cfg with divergent := [(4, { since := 0, counted := false })] }, time := { up.time with ktb := .mk1 20000000 } }, by decide⟩

theorem witness_timebaseCommands_7 : ∃ (die speed : Nat) (d : Die) (s : State), s.power.pwrgood = true ∧ Die.ofCode die = some d ∧ speed < 1024 :=
  ⟨4, 900, .acre .a0, up, by decide⟩

theorem witness_timebaseCommands_8 : ∃ (n : Nat) (l : Link) (s : State), Link.ofNum n = some l ∧ s.links.contains l = false ∧ s.power.pwrgood = true :=
  ⟨0, .ywA0, up, by decide⟩

theorem witness_sessionCommandResults_1 : ∃ (sq cid handle : Nat) (u s : State), SessionReady s sq handle u .decode ∧ streamRoom (desc u (slotOf handle)).streamRing 256 u = true :=
  ⟨1, 7, 0x400003, sessIn .decode, sessIn .decode, by unfold SessionReady Served; decide⟩

theorem witness_sessionCommandResults_2 : ∃ (sq cid handle : Nat) (u s : State), SessionReady s sq handle u .reviving :=
  ⟨1, 7, 0x400003, sessIn .reviving, sessIn .reviving, by unfold SessionReady Served; decide⟩

theorem witness_sessionCommandResults_3 : ∃ (sq cid handle : Nat) (st : SState) (u s : State), SessionReady s sq handle u st ∧ (st = .idleWait ∨ st = .toolWait) ∧ attnInflight u (slotOf handle) = 0 ∧ (auxOf u (slotOf handle)).held = [] :=
  ⟨1, 7, 0x400003, .idleWait, sessIn .idleWait, sessIn .idleWait, by unfold SessionReady Served; decide⟩

theorem witness_sessionCommandResults_4 : ∃ (sq cid handle en deadline : Nat) (st : SState) (u s : State), SessionReady s sq handle u st ∧ (st = .idleWait ∨ st = .toolWait ∨ st = .dormant) ∧ (desc (commitDesc (slotOf handle) (fun d => { d with wakeDoorbell := en.testBit 0, wakeDeadline := en.testBit 2, deadline := deadline % 2 ^ 64 }) u) (slotOf handle)).wakeQueued = false :=
  ⟨1, 7, 0x400003, 5, 77, .idleWait, sessIn .idleWait, sessIn .idleWait, by unfold SessionReady Served; decide⟩

theorem witness_sessionCommandResults_5 : ∃ (sq cid handle : Nat) (u s : State), SessionReady s sq handle u .migrating :=
  ⟨1, 7, 0x400003, sessIn .migrating, sessIn .migrating, by unfold SessionReady Served; decide⟩

theorem witness_sessionCommandResults_6 : ∃ (sq cid handle : Nat) (u s : State), SessionReady s sq handle u .fenced :=
  ⟨1, 7, 0x400003, sessIn .fenced, sessIn .fenced, by unfold SessionReady Served; decide⟩

theorem witness_sessionLifeEvents_1 : ∃ (sq cid : Nat) (buf : List Byte) (u s : State), Served s sq ∧ sq ≠ 0 ∧ openCheck (openBlock buf) (if 1376 ≤ buf.length then genBlock (buf.drop 64) else GenBlock.none) (decide (buf.length < 64)) s = .ok u :=
  ⟨1, 7, openBytes, openUp, openUp, by unfold Served; decide⟩

theorem witness_sessionLifeEvents_2 : ∃ (slot : Nat) (s : State), planesRun s = true ∧ s.power.fallow.mode = .active ∧ (desc s slot).state = .idleWait ∧ (desc s slot).wakeQueued = false ∧ (desc s slot).wakeDeadline = true ∧ (desc s slot).deadline ≠ 0 ∧ (desc s slot).deadline ≤ ktbOf s (.acre (homeAcre slot)) :=
  ⟨3, sessIn .idleWait, by decide⟩

theorem witness_sessionLifeEvents_3 : ∃ (p slot : Nat) (s : State), planesRun s = true ∧ oldestWake s p = some slot ∧ reviveRoom s slot = true :=
  ⟨0, 3, wakeWaits, by decide⟩

theorem witness_sessionLifeEvents_4 : ∃ (a : Acre) (e : Acre × Nat) (s : State), planesRun s = true ∧ s.bur.getxRetry.find? (fun e => e.1 = a) = some e ∧ oldestWake s (desc s e.2).principal = some e.2 ∧ reviveRoom s e.2 = true :=
  ⟨.a0, (.a0, 3), { wakeWaits with bur := { wakeWaits.bur with getxRetry := [(.a0, 3)] } }, by decide⟩

theorem witness_sessionLifeEvents_5 : ∃ (a : Acre) (f : RevFetch) (r : List RevFetch) (u s : State), planesRun s = true ∧ fieldFree s a = true ∧ s.bur.revQ.get a = f :: r ∧ fetchObjs (homeAcre f.slot) (fetchFrom s f.slot a) (fetchBegun a f r s) = .ok u :=
  ⟨.a0, ⟨3, 0⟩, [], fetchBegun .a0 ⟨3, 0⟩ [] fetchWaits, fetchWaits, by decide, by decide, by decide, rfl⟩

theorem witness_sessionLifeEvents_6 : ∃ (slot : Nat) (u s : State), planesRun s = true ∧ (desc s slot).state = .reviving ∧ (auxOf s slot).fencing = false ∧ windowReady s slot = true ∧ own slot s = some u :=
  ⟨3, sessIn .reviving, sessIn .reviving, by decide⟩

theorem witness_sessionLifeEvents_7 : ∃ (slot : Nat) (u s : State), planesRun s = true ∧ retireDone s slot = true ∧ own slot s = some u :=
  ⟨3, sessIn .retiring, sessIn .retiring, by decide⟩

theorem witness_sessionLifeEvents_8 : ∃ (sq cid handle dlen : Nat) (s : State), Served s sq ∧ sq ≠ 0 ∧ handleCheck s handle = none ∧ 512 ≤ dlen :=
  ⟨1, 7, 0x400003, 512, sessIn .idleWait, by unfold Served; decide⟩

theorem witness_shelfCommands_1 : ∃ (a : Acre) (slot : Nat) (s : State), planesRun s = true ∧ slot < 2 ^ 22 ∧ (dirOf s slot).waiting.contains a = false ∧ (dirOf s slot).st ≠ .owned a ∧ (dirOf s slot).waiting.length < 3 :=
  ⟨.a1, 3, sessIn .idleWait, by decide⟩

theorem witness_shelfCommands_2 : ∃ (slot : Nat) (a : Acre) (l : ShelfLine) (s : State), planesRun s = true ∧ (dirOf s slot).st = .owned a ∧ (dirOf s slot).wb = none ∧ (dirOf s slot).recalled = true ∧ NMap.get? (s.bur.shelf.get a) slot = some l :=
  ⟨3, .a0, { own := true, copy := desc (sessIn .idleWait) 3 }, setDir 3 { dirOf (sessIn .idleWait) 3 with recalled := true } (sessIn .idleWait), by decide⟩

theorem witness_shelfCommands_3 : ∃ (slot : Nat) (d : Desc) (s : State), planesRun s = true ∧ (dirOf s slot).wb = some d :=
  ⟨3, desc (sessIn .idleWait) 3, setDir 3 { dirOf (sessIn .idleWait) 3 with wb := some (desc (sessIn .idleWait) 3) } (sessIn .idleWait), by decide⟩

theorem witness_shelfCommands_4 : ∃ (slot : Nat) (a : Acre) (r : List Acre) (u s : State), planesRun s = true ∧ (dirOf s slot).st = .home ∧ (dirOf s slot).waiting = a :: r ∧ shelfRoom a (setDir slot { dirOf s slot with waiting := r } s) = some u :=
  ⟨3, .a1, [], setDir 3 { dirOf grantWaits 3 with waiting := [] } grantWaits, grantWaits, by decide⟩

theorem witness_shelfCommands_5 : ∃ (a : Acre) (slot : Nat) (l : ShelfLine) (s : State), planesRun s = true ∧ NMap.get? (s.bur.shelf.get a) slot = some l ∧ lineEvictable s slot = true ∧ l.own = true :=
  ⟨.a0, 3, { own := true, copy := desc (sessIn .idleWait) 3 }, sessIn .idleWait, by decide⟩

theorem witness_placementDirectives_1 : ∃ (sq cid handle tier target fill slot : Nat) (t : Tier) (n : Option Nat) (s : State), Served s sq ∧ sq ≠ 0 ∧ sessionDir s handle = .ok slot ∧ (tier = 1 ∧ t = .fld ∨ tier = 2 ∧ t = .headland) ∧ placeTarget t target = some n ∧ fill ≤ 2 :=
  ⟨1, 7, 0x400003, 1, 2, 1, 3, .fld, some 2, sessIn .idleWait, by unfold Served; decide⟩

theorem witness_placementDirectives_2 : ∃ (sq cid tier target : Nat) (t : DirTarget) (tr : Tier) (g : Option Nat) (n : Named) (staged : List Nat) (s u : State), Served s sq ∧ sq ≠ 0 ∧ named s t = .ok n ∧ (tier = 1 ∧ tr = .fld ∨ tier = 2 ∧ tr = .headland) ∧ placeTarget tr target = some g ∧ (n.records.any fun i => (getObj s i).moveActive) = false ∧ stageAll t sq cid n.entries s = (staged, true, u) ∧ (n.records ++ staged).isEmpty = false :=
  ⟨1, 7, 1, 1, .session 0x400003, .fld, some 1, ⟨some 3, false, [(0, ⟨false, .record 0x800003⟩), (1, ⟨false, .record 0x800004⟩)]⟩, [], stackUp, stackUp, by unfold Served; decide⟩

theorem witness_placementDirectives_3 : ∃ (sq cid h : Nat) (n : Named) (objs : List Nat) (s u : State), Served s sq ∧ sq ≠ 0 ∧ named s (.session h) = .ok n ∧ stageAll (.session h) sq cid n.entries s = (objs, true, u) :=
  ⟨1, 7, 0x400003, ⟨some 3, false, [(0, ⟨false, .record 0x800003⟩), (1, ⟨false, .record 0x800004⟩)]⟩, [], stackUp, stackUp, by unfold Served; decide⟩

theorem witness_placementDirectives_4 : ∃ (sq cid h : Nat) (n : Named) (s : State), Served s sq ∧ sq ≠ 0 ∧ named s (.session h) = .ok n ∧ ((n.records.filter fun i => (getObj s i).home.tier = .chest).any fun i => anyReader s i) = false :=
  ⟨1, 7, 0x400003, ⟨some 3, false, [(0, ⟨false, .record 0x800003⟩), (1, ⟨false, .record 0x800004⟩)]⟩, stackUp, by unfold Served; decide⟩

theorem witness_placementDirectives_5 : ∃ (sq cid h lo hi slot c : Nat) (n : Named) (s u : State), Served s sq ∧ sq ≠ 0 ∧ named s (.session h) = .ok n ∧ n.slot = some slot ∧ (∀ e ∈ n.entries, ∃ i, e.2.ref = .record i ∧ (getObj s i).home.tier ≠ .chest) ∧ prefetchRun (homeAcre slot) ({ n with entries := n.entries.filter (fun e => overlaps e.1 (lo, hi)) } : Named).records s = (c, none, u) :=
  ⟨1, 7, 0x400003, 0, 64, 3, 1, ⟨some 3, false, [(0, ⟨false, .record 0x800003⟩), (1, ⟨false, .record 0x800004⟩)]⟩, stackUp, stackUp, by unfold Served; decide, by decide, by decide, by decide, by
    intro e he
    fin_cases he
    · exact ⟨0x800003, rfl, by decide⟩
    · exact ⟨0x800004, rfl, by decide⟩, by decide⟩

theorem witness_placementDirectives_6 : ∃ (sq cid h k i slot : Nat) (sh : Bool) (s : State), Served s sq ∧ sq ≠ 0 ∧ named s (.stack h k) = .ok ⟨some slot, true, [(k, ⟨sh, .record i⟩)]⟩ ∧ (desc s slot).state.live = false ∧ isPinned s (getObj s i) = false ∧ (getObj (writeBackNow i s) i).dirty = false :=
  ⟨1, 7, 0x400003, 1, 0x800004, 3, false, stackUp, by unfold Served; decide⟩

theorem witness_placementDirectives_7 : ∃ (sq cid h k i slot : Nat) (sh : Bool) (s : State), Served s sq ∧ sq ≠ 0 ∧ named s (.stack h k) = .ok ⟨some slot, true, [(k, ⟨sh, .record i⟩)]⟩ ∧ isPinned s (getObj s i) = false ∧ (∀ a ∈ Acre.all, pinnedUse s a (getObj s i).principal + objNear s a (getObj s i) ≤ prinResv s a (getObj s i).principal) :=
  ⟨1, 7, 0x400003, 0, 0x800003, 3, false, stackUp, by unfold Served; decide⟩

theorem witness_tierEvents_1 : ∃ (obj : Nat) (s : State), planesRun s = true :=
  ⟨0x800003, stackUp, by decide⟩

theorem witness_tierEvents_2 : ∃ (a : Acre) (s : State), planesRun s = true ∧ nearFree s a < liveF s .TIER_NEAR_CTRL (.acre a) 0 15 0 * 2 ^ 20 :=
  ⟨.a0, setLiveF .TIER_NEAR_CTRL (.acre .a0) 0 15 0 64 stackUp, by decide⟩

theorem witness_tierEvents_3 : ∃ (slot k i : Nat) (s u : State), planesRun s = true ∧ mapEntry s slot k = some ⟨false, .record i⟩ ∧ (getObj s i).sstate ≠ .free ∧ fetchUnits i (homeAcre slot) true true (missing s i (homeAcre slot)) s = .ok u :=
  ⟨3, 1, 0x800004, stackUp, stackUp, by decide⟩

theorem witness_tierEvents_4 : ∃ (obj : Nat) (m : HomeMove) (s : State), planesRun s = true ∧ s.tier.moves.find? (fun m => m.obj = obj) = some m ∧ m.redirect = false ∧ m.dest.tier ≠ .chest ∧ (getObj s obj).home.tier ≠ .chest ∧ (getObj s obj).lost = false :=
  ⟨0x800003, { obj := 0x800003, dest := .fld .a1 0, ctr0 := 5, redirect := false, cause := .directive 1 7 }, moveUp, by decide⟩

theorem witness_tierEvents_5 : ∃ (obj : Nat) (r : OldRun) (s : State), planesRun s = true ∧ s.tier.oldRuns.find? (fun r => r.obj = obj) = some r ∧ oldRunBusy s r = false :=
  ⟨5, ⟨5, .fld .a0 64, 16, [], []⟩, { stackUp with tier := { stackUp.tier with oldRuns := [⟨5, .fld .a0 64, 16, [], []⟩] } }, by decide⟩

theorem witness_tierEvents_6 : ∃ (b : Nat) (e : BorrowEntry) (s : State), planesRun s = true ∧ NMap.get? s.tier.borrow b = some e ∧ e.st = .draining ∧ windowHomes s b = [] ∧ (∀ m ∈ s.tier.moves, ∀ p, m.dest ≠ .headland b p) :=
  ⟨2, ⟨.draining, 4, 0, 16, [], false⟩, { moveUp with tier := { moveUp.tier with borrow := [(2, ⟨.draining, 4, 0, 16, [], false⟩)] } }, by decide, by decide, by decide, by decide, by intro m hm; fin_cases hm; simp⟩

theorem witness_tierEvents_7 : ∃ (cid profile : Nat) (s : State), Served s 0 ∧ profile ≤ 15 ∧ (geom s profile).valid = true ∧ profileUsed s profile = false :=
  ⟨7, 0, openUp, by unfold Served; decide⟩

theorem witness_sharedPrefixCommands_1 : ∃ (sq cid handle len principal : Nat) (u s : State), SessionReady s sq handle u .idleWait ∧ admitNew u [1] = none ∧ 1 ≤ len ∧ len ≤ (desc u (slotOf handle)).len ∧ principal ≤ 4095 ∧ prefixHomed u (slotOf handle) len = true :=
  ⟨1, 7, 0x400003, 9, 0, setLiveF .CKP_ROLE (.yoke .yw) 0 1 0 1 stackUp, setLiveF .CKP_ROLE (.yoke .yw) 0 1 0 1 stackUp, by unfold SessionReady Served; decide⟩

theorem witness_sharedPrefixCommands_2 : ∃ (sq cid handle len principal : Nat) (st : SState) (u s : State), SessionReady s sq handle u st ∧ admitNew u [1] = none ∧ st ≠ .idleWait ∧ st ≠ .fenced :=
  ⟨1, 7, 0x400003, 9, 0, .decode, setLiveF .CKP_ROLE (.yoke .yw) 0 1 0 1 (sessIn .decode), setLiveF .CKP_ROLE (.yoke .yw) 0 1 0 1 (sessIn .decode), by unfold SessionReady Served; decide⟩

theorem witness_sharedPrefixCommands_3 : ∃ (sq cid id : Nat) (p : PrefixEntry) (s : State), Served s sq ∧ sq ≠ 0 ∧ s.sec.tenancy = .bound ∧ NMap.get? s.tier.prefixes id = some p :=
  ⟨1, 7, 5, ⟨0, 9, 0x800005, 0x800006, 0, 1, false, false⟩, { stackUp with tier := { stackUp.tier with prefixes := [(5, ⟨0, 9, 0x800005, 0x800006, 0, 1, false, false⟩)] } }, by unfold Served; decide⟩

theorem witness_chestObjectCommands_1 : ∃ (obj d : Nat) (m : HomeMove) (f : Sealed) (s : State), planesRun s = true ∧ s.tier.moves.find? (fun m => m.obj = obj) = some m ∧ m.dest = .chest d ∧ (getObj s obj).sealed = some f ∧ (getObj s obj).dirty = false ∧ (getObj s obj).wbActive = false ∧ (getObj s obj).home.tier ≠ .chest ∧ (s.chest.writes.any fun w => w.cause = .move obj) = false ∧ chestUp s = true ∧ readFault (getObj s obj) = none :=
  ⟨0x800003, 4, chestMove, sealed0, chestMoveUp, by decide⟩

theorem witness_chestObjectCommands_2 : ∃ (index obj : Nat) (w : ChestWrite) (m : HomeMove) (s : State), planesRun s = true ∧ s.chest.writes.find? (fun w => w.index = index) = some w ∧ w.cause = .move obj ∧ s.tier.moves.find? (fun m => m.obj = obj) = some m ∧ writeDurable s w = true ∧ anyReader s obj = false :=
  ⟨0, 0x800003, ⟨0, 1, 0, .move 0x800003⟩, chestMove, { chestMoveUp with chest := { chestMoveUp.chest with writes := [⟨0, 1, 0, .move 0x800003⟩] } }, by decide⟩

theorem witness_chestObjectCommands_3 : ∃ (loc drive : Nat) (g : Staging) (c : Sealed) (s : State), planesRun s = true ∧ s.chest.stagings.find? (fun g => g.loc = loc && g.left.contains drive) = some g ∧ chestUp s = true ∧ (driveOf s drive).st = .online ∧ locValid s loc = true ∧ NMap.get? s.chest.content (locIndex loc) = some c ∧ c.corrupt = false :=
  ⟨2 ^ 25, 0, stagingOf [0], sealed0, stagingUp [0], by decide⟩

theorem witness_chestObjectCommands_4 : ∃ (obj slot : Nat) (g : Staging) (s : State), planesRun s = true ∧ s.chest.stagings.find? (fun g => g.obj = obj) = some g ∧ g.left = [] ∧ (g.cause = .gather slot ∨ g.cause = .background slot) :=
  ⟨0x800003, 3, stagingOf [], stagingUp [], by decide⟩

theorem witness_chestDriveEvents_1 : ∃ (d cid : Nat) (c : NvmeCmd) (s : State), planesRun s = true ∧ (driveOf s d).cmds.find? (fun c => c.cid = cid) = some c :=
  ⟨0, 2, ⟨2, 1, 0, false⟩, chestUpState, by decide⟩

theorem witness_chestDriveEvents_2 : ∃ (d : Nat) (far : Bool) (s : State), planesRun s = true ∧ d < 4 :=
  ⟨0, false, chestUpState, by decide⟩

theorem witness_chestDriveEvents_3 : ∃ (d segments : Nat) (vwc : Bool) (s : State), planesRun s = true ∧ d < 4 ∧ (driveOf s d).st ≠ .online ∧ 34 ≤ segments :=
  ⟨1, 40, true, chestUpState, by decide⟩

theorem witness_chestDriveEvents_4 : ∃ (d pct crit : Nat) (s : State), planesRun s = true ∧ (driveOf s d).st = .online ∧ min pct 255 < chsF s 31 24 ∧ crit = 0 :=
  ⟨0, 12, 0, chestUpState, by decide⟩

theorem witness_chestJournalAndHarrow_1 : ∃ (r : JRec) (l : List JRec) (s : State), planesRun s = true ∧ s.chest.group = r :: l ∧ s.chest.inFlight = [] ∧ (50 ≤ (r :: l).length ∨ r.joined + 250000 ≤ ktb s) :=
  ⟨jrec0, [], { chestUpState with chest := { chestUpState.chest with group := [jrec0] } }, by decide⟩

theorem witness_chestJournalAndHarrow_2 : ∃ (l : JRec) (s : State), planesRun s = true ∧ s.chest.inFlight.getLast? = some l ∧ ((onlineDrives s).any fun d => (driveOf s d).cmds.any fun c => c.opc = 1) = false :=
  ⟨jrec0, { chestUpState with chest := { chestUpState.chest with inFlight := [jrec0], drives := [(0, { drive0 with cmds := [] })] } }, by decide⟩

theorem witness_chestJournalAndHarrow_3 : ∃ (s : State), planesRun s = true ∧ chestUp s = true ∧ s.chest.ckpt = none ∧ (65536 ≤ s.chest.blocks ∨ s.chest.baseAt + chsF s 55 48 * 1000000000 ≤ ktb s) :=
  ⟨{ chestUpState with chest := { chestUpState.chest with blocks := 65536 } }, by decide⟩

theorem witness_chestJournalAndHarrow_4 : ∃ (d g : Nat) (s : State), planesRun s = true ∧ chestUp s = true ∧ (driveOf s d).st = .online ∧ NMap.get? s.chest.harrow d = none ∧ freeU s (driveOf s d) < pctOf (chsF s 15 8) (dataSegs (driveOf s d)) ∧ harrowVictim (driveOf s d) = some g :=
  ⟨0, 33, { chestUpState with chest := { chestUpState.chest with drives := [(0, { drive0 with free := ⟨40, 40, []⟩, segs := [(33, ⟨.full, 1, 0, 0, false, 3⟩)] })] } }, by decide⟩

theorem witness_chestJournalAndHarrow_5 : ∃ (d seg : Nat) (g : Seg) (h : Collect) (s : State), planesRun s = true ∧ chestUp s = true ∧ (driveOf s d).st = .online ∧ NMap.get? (driveOf s d).segs seg = some g ∧ g.st = .collecting ∧ g.live = 0 ∧ NMap.get? s.chest.harrow d = some h ∧ h.victim = seg ∧ h.lastPut ≤ s.chest.durable ∧ s.chest.stagings = [] ∧ s.chest.group = [] ∧ s.chest.inFlight = [] ∧ s.chest.stalled = [] :=
  ⟨0, 33, ⟨.collecting, 1, 0, 0, false, 3⟩, ⟨33, 0⟩, { chestUpState with chest := { chestUpState.chest with harrow := [(0, ⟨33, 0⟩)], drives := [(0, { drive0 with segs := [(33, ⟨.collecting, 1, 0, 0, false, 3⟩)] })] } }, by decide⟩

theorem witness_chestSetCommands_1 : ∃ (sb : Superblock) (an : Anchor) (m : MapCkpt) (s : State), planesRun s = true ∧ s.sec.tenancy = .bound ∧ (s.chest.mount = .unmounted ∨ s.chest.mount = .mounting) ∧ mountSuper s = some sb ∧ s.chest.anchor = some an ∧ sb.setId = an.setId ∧ an.base ≤ sb.base ∧ mountCopy s sb = some m ∧ (an.clean = true → (mountLoad an.setId sb.base m s).1 = an.finalJseq) :=
  ⟨{ mseq := 4, setId := 5, mask := 1, slot := 0, base := 0, clean := true, finalJseq := 0 }, ⟨5, 0, 4, true, 0⟩, ⟨0, [], []⟩, { chestUpState with chest := { chestUpState.chest with mount := .unmounted } }, by decide⟩

theorem witness_chestSetCommands_2 : ∃ (sb : Superblock) (an : Anchor) (s : State), planesRun s = true ∧ s.sec.tenancy = .bound ∧ s.chest.mount = .unmounted ∧ mountSuper s = some sb ∧ s.chest.anchor = some an ∧ sb.setId ≠ an.setId :=
  ⟨{ mseq := 4, setId := 5, mask := 1, slot := 0, base := 0, clean := true, finalJseq := 0 }, ⟨6, 0, 4, true, 0⟩, { chestUpState with chest := { chestUpState.chest with mount := .unmounted, anchor := some ⟨6, 0, 4, true, 0⟩ } }, by decide⟩

theorem witness_chestSetCommands_3 : ∃ (cid d : Nat) (s : State), Served s 0 ∧ s.sec.tenancy = .bound :=
  ⟨7, 1, { chestUpState with chest := { chestUpState.chest with drives := [(0, drive0), (1, { Drive.absent with st := .unformatted, segments := 40 })] } }, by unfold Served; decide⟩

theorem witness_attentionQueueCommands_1 : ∃ (arq : Nat) (s : State), planesRun s = true ∧ arqReady s arq = true ∧ hdrOk s arq (arqHdr s arq) = false :=
  ⟨0, arqUp (List.replicate 64 0), by decide⟩

theorem witness_attentionQueueCommands_2 : ∃ (arq : Nat) (s : State), planesRun s = true ∧ arqReady s arq = true ∧ hdrOk s arq (arqHdr s arq) = true ∧ (arqOf s arq).take + (arqHdr s arq).len ≤ (arqOf s arq).pi ∧ hdrPad s arq (arqHdr s arq) = false :=
  ⟨0, arqUp arqBatch, by set_option maxRecDepth 20000 in decide⟩

theorem witness_attentionQueueCommands_3 : ∃ (arq serial : Nat) (b : Batch) (s : State), planesRun s = true ∧ (arqOf s arq).batches.find? (fun b => b.serial = serial && !b.answered) = some b ∧ (b.entries.filterMap fun i => NMap.get? s.fur.entries i).any (fun e => e.status.isNone) = false :=
  ⟨0, 0, batch0, { attnUp 0 .decode false with fur := { (attnUp 0 .decode false).fur with entries := [(0, entryOf 0 .decode (some .ok))] } }, by decide⟩

theorem witness_attentionQueueCommands_4 : ∃ (arq : Nat) (st : Status) (s : State), planesRun s = true ∧ (arqOf s arq).err = some st :=
  ⟨0, .noSpace, stopArq 0 .noSpace (arqUp arqBatch), by decide⟩

theorem witness_attentionQueueCommands_5 : ∃ (id at_ : Nat) (e : AttnEntry) (s : State), planesRun s = true ∧ NMap.get? s.fur.entries id = some e ∧ (auxOf s e.slot).sampleHold.find? (fun h => h.1 = id) = some (id, at_) ∧ at_ ≤ ktb s :=
  ⟨0, 7, entryOf 1 .decode none, setAux 3 { auxOf (attnUp 1 .decode false) 3 with sampleHold := [(0, 7)] } (attnUp 1 .decode false), by decide⟩

theorem witness_furrowItemCommands_1 : ∃ (a : Acre) (f : Nat) (i : WorkItem) (r : List WorkItem) (s : State), planesRun s = true ∧ s.fur.dvQ.get a = i :: r ∧ freeFurrow s (acreFurrows a) = some f :=
  ⟨.a0, 0, itemOf false false, [], attnUp 1 .decode false, by decide⟩

theorem witness_furrowItemCommands_2 : ∃ (a : Acre) (f : Nat) (i : WorkItem) (r : List WorkItem) (s : State), planesRun s = true ∧ s.fur.dvQ.get a = [] ∧ s.fur.pfQ.get a = i :: r ∧ freeFurrow s (nonReserve s a) = some f ∧ i.saved = true :=
  ⟨.a0, 4, itemOf true true, [], setLiveF .FUR_CTRL (.acre .a0) 0 3 0 4 (attnUp 1 .prefill true), by decide⟩

theorem witness_furrowItemCommands_3 : ∃ (f : Nat) (i : WorkItem) (e : AttnEntry) (s : State), planesRun s = true ∧ itemOn (furUse s f) = some i ∧ furrowUp s f = true ∧ NMap.get? s.fur.entries i.entry = some e ∧ gatherCheck s e (itemSheaves s e i) = (none, none) :=
  ⟨11, itemOf false false, entryOf 1 .decode none, furrowRuns .decode (.running (itemOf false false) 5), by decide⟩

theorem witness_furrowItemCommands_4 : ∃ (a : Acre) (f at_ : Nat) (i : WorkItem) (s : State), planesRun s = true ∧ s.fur.latch.get a = some f ∧ furUse s f = .running i at_ :=
  ⟨.a0, 11, 5, itemOf true false, furrowRuns .prefill (.running (itemOf true false) 5), by decide⟩

theorem witness_furrowItemCommands_5 : ∃ (f : Nat) (i : WorkItem) (s : State), planesRun s = true ∧ furUse s f = .saving i :=
  ⟨11, itemOf true false, furrowRuns .prefill (.saving (itemOf true false)), by decide⟩

theorem witness_furrowItemCommands_6 : ∃ (id : Nat) (e : AttnEntry) (u s : State), planesRun s = true ∧ NMap.get? s.fur.entries id = some e ∧ e.open_ = true ∧ e.left = 0 ∧ earlierOpen s id e = false ∧ own e.slot s = some u :=
  ⟨0, entryOf 0 .decode none, attnUp 0 .decode false, attnUp 0 .decode false, by decide⟩

theorem witness_generationCommands_1 : ∃ (tkq : Nat) (s : State), planesRun s = true ∧ tkq < 256 ∧ (tkqOf s tkq).err = none ∧ (tkqOf s tkq).holding = false ∧ (tkqOf s tkq).take + 128 ≤ (tkqOf s tkq).pi :=
  ⟨0, putTkq 0 { Tkq.empty with pi := 128 } (sessIn .decode), by decide⟩

theorem witness_generationCommands_2 : ∃ (tkq : Nat) (st : Status) (s : State), planesRun s = true ∧ (tkqOf s tkq).err = some st :=
  ⟨0, .noSpace, stopTkq 0 .noSpace (sessIn .decode), by decide⟩

theorem witness_generationCommands_3 : ∃ (sq cid handle n : Nat) (st : SState) (u s : State), SessionReady s sq handle u st ∧ (st = .prefill ∨ st = .decode ∨ st = .idleWait ∨ st = .toolWait) ∧ attnInflight u (slotOf handle) = 0 ∧ (auxOf u (slotOf handle)).held = [] :=
  ⟨1, 7, 0x400003, 4, .idleWait, sessIn .idleWait, sessIn .idleWait, by unfold SessionReady Served; decide⟩

theorem witness_generationCommands_4 : ∃ (sq cid handle : Nat) (buf : List Byte) (st : SState) (u v w s : State), SessionReady s sq handle u st ∧ (st = .idleWait ∨ st = .toolWait ∨ st = .dormant) ∧ 1312 ≤ buf.length ∧ (genBlock buf).ok = true ∧ drawerWrite (slotOf handle) 0x100 ((genBlock buf).stopSeq ++ (genBlock buf).stopLen) u = .ok v ∧ drawerWrite (slotOf handle) 0x600 (genBlock buf).eosSet v = .ok w :=
  ⟨1, 7, 0x400003, List.replicate 1312 0, .idleWait, sessIn .idleWait, genFirst, genSecond, sessIn .idleWait, by unfold SessionReady Served; decide, by decide, by rw [List.length_replicate], by decide +kernel, by decide +kernel, by decide +kernel⟩

theorem witness_searchQueueCommands_1 : ∃ (srq : Nat) (s : State), planesRun s = true ∧ srqReady s srq = true ∧ srqHdrOk s srq (srqHdr s srq) = false :=
  ⟨0, srqUp (List.replicate 64 0), by decide⟩

theorem witness_searchQueueCommands_2 : ∃ (srq : Nat) (s : State), planesRun s = true ∧ srqReady s srq = true ∧ srqHdrOk s srq (srqHdr s srq) = true ∧ (srqOf s srq).take + (srqHdr s srq).len ≤ (srqOf s srq).pi ∧ srqPad s srq (srqHdr s srq) = false :=
  ⟨0, srqUp srqBatch0, by set_option maxRecDepth 20000 in decide⟩

theorem witness_searchQueueCommands_3 : ∃ (srq : Nat) (st : Status) (s : State), planesRun s = true ∧ (srqOf s srq).err = some st :=
  ⟨0, .noSpace, stopSrq 0 .noSpace (srqUp srqBatch0), by decide⟩

theorem witness_searchQueueCommands_4 : ∃ (g serial at_ : Nat) (low : Bool) (b : SBatch) (x : Index) (s : State), planesRun s = true ∧ NMap.get? s.gln.units g = some { pass := .centroid serial, low := low, at_ := at_ } ∧ glnUp s g = true ∧ NMap.get? s.gln.batches serial = some b ∧ NMap.get? s.gln.indexes b.slot = some x :=
  ⟨0, 0, 0, false, sbatch0 0 .centroid, idx0 .active [], glnHas (idx0 .active []) (sbatch0 0 .centroid) [(0, { pass := .centroid 0, low := false, at_ := 0 })], by decide⟩

theorem witness_searchQueueCommands_5 : ∃ (g serial l at_ : Nat) (low : Bool) (b : SBatch) (x : Index) (s : State), planesRun s = true ∧ NMap.get? s.gln.units g = some { pass := .visit serial l, low := low, at_ := at_ } ∧ glnUp s g = true ∧ NMap.get? s.gln.batches serial = some b ∧ NMap.get? s.gln.indexes b.slot = some x :=
  ⟨0, 0, 1, 0, false, sbatch0 0 .visits, idx0 .active [], glnHas (idx0 .active []) (sbatch0 0 .visits) [(0, { pass := .visit 0 1, low := false, at_ := 0 })], by decide⟩

theorem witness_searchQueueCommands_6 : ∃ (serial : Nat) (b : SBatch) (s : State), planesRun s = true ∧ NMap.get? s.gln.batches serial = some b ∧ b.phase = .visits ∧ b.visits = [] :=
  ⟨0, sbatch0 0 .visits, glnHas (idx0 .active []) (sbatch0 0 .visits) [], by decide⟩

theorem witness_searchQueueCommands_7 : ∃ (g : Nat) (r p : GlnRun) (s : State), planesRun s = true ∧ NMap.get? s.gln.units g = some r ∧ (s.gln.passQ.get (Acre.ofNum (g / 4))).find? (fun p => !p.low) = some p ∧ maySwitch s g r = true :=
  ⟨0, { pass := .compact 0, low := true, at_ := 0 }, { pass := .centroid 0, low := false, at_ := 0 }, glnFull, by decide⟩

theorem witness_searchQueueCommands_8 : ∃ (serial : Nat) (b : SBatch) (s : State), planesRun s = true ∧ NMap.get? s.gln.batches serial = some b ∧ b.phase = .members ∧ shardWaits s b = false :=
  ⟨0, sbatch0 2 .members, glnHas (idx0 .active []) (sbatch0 2 .members) [], by decide⟩

theorem witness_indexCommands_1 : ∃ (sq cid target : Nat) (buf : List Byte) (x : Index) (s : State), Served s sq ∧ sq ≠ 0 ∧ admitNew s [1, 3] = none ∧ (target ≤ 3 ∨ target = 0xFF) ∧ idxBlock buf = some x :=
  ⟨1, 7, 0, idxBytes, { idx0 .building [] with built := none, centroid := 0, side := 0 }, glnHas (idx0 .active []) (sbatch0 0 .visits) [], by unfold Served; decide, by decide, by decide, by decide, by set_option maxRecDepth 20000 in decide⟩

theorem witness_indexCommands_2 : ∃ (sq cid handle list slot : Nat) (buf : List Byte) (x : Index) (items : List (Nat × List F32)) (s : State), Served s sq ∧ sq ≠ 0 ∧ idxCheck s handle = .ok (slot, x) ∧ s.ckp.leaving = false ∧ x.st = .building ∧ NMap.get? x.lists list = none ∧ list < x.nlist ∧ 64 ≤ buf.length ∧ listFrames x.d (bufN buf 0 4) ≤ 65536 ∧ listBlock x buf = some items :=
  ⟨1, 7, 0x1000, 0, 0, List.replicate 64 0, idx0 .building [], [], glnHas (idx0 .building []) (sbatch0 0 .visits) [], by unfold Served; decide⟩

theorem witness_indexCommands_3 : ∃ (sq cid handle slot : Nat) (x : Index) (s : State), Served s sq ∧ sq ≠ 0 ∧ idxCheck s handle = .ok (slot, x) :=
  ⟨1, 7, 0x1000, 0, idx0 .building [], glnHas (idx0 .building []) (sbatch0 0 .visits) [], by unfold Served; decide⟩

theorem witness_indexCommands_4 : ∃ (g slot at_ : Nat) (low : Bool) (x : Index) (s : State), planesRun s = true ∧ NMap.get? s.gln.units g = some { pass := .compact slot, low := low, at_ := at_ } ∧ glnUp s g = true ∧ NMap.get? s.gln.indexes slot = some x ∧ compactBlocked s x (idxAcre slot) = false :=
  ⟨0, 0, 0, true, idx0 .compacting [], glnHas (idx0 .compacting []) (sbatch0 0 .visits) [(0, { pass := .compact 0, low := true, at_ := 0 })], by decide, by decide, by decide, by decide, by decide +kernel⟩

theorem witness_indexCommands_5 : ∃ (slot : Nat) (x : Index) (m : NMap (Option ListEnt)) (w : List IdxWait) (s : State), planesRun s = true ∧ NMap.get? s.gln.indexes slot = some x ∧ x.built = some m ∧ x.waiting = .switch :: w ∧ idxQueries s slot = 0 :=
  ⟨0, idx0 .compacting [.switch], [], [], glnHas (idx0 .compacting [.switch]) (sbatch0 1 .held) [], by decide⟩

theorem witness_hostRingCommands_1 : ∃ (sq tail head : Nat) (entries : List (List Byte)) (qp : QPair) (s : State), planesRun s = true ∧ NMap.get? s.host.qps sq = some qp :=
  ⟨1, 3, 4, [], newQp 0 0 64 64 0xFFFF, up, by decide⟩

theorem witness_hostRingCommands_2 : ∃ (sq ring count : Nat) (es : List (List Byte)) (s : State), planesRun s = true ∧ NMap.get? s.host.qps sq = none ∧ NMap.get? s.host.streams ring = none ∧ NMap.get? s.host.events ring = none :=
  ⟨9, 9, 1, [], ringsUp, by decide⟩

theorem witness_hostRingCommands_3 : ∃ (ring count : Nat) (r q : Ring) (s : State), planesRun s = true ∧ NMap.get? s.host.streams ring = some r ∧ NMap.get? s.host.events ring = some q :=
  ⟨0, 64, { newRing 0 12 0 3 with producer := 128, coal := ⟨2, 5⟩ }, { newRing 0 12 0 3 with producer := 128, coal := ⟨2, 5⟩ }, ringsUp, by decide⟩

theorem witness_hostRingCommands_4 : ∃ (range : BitVec 32) (s : State), planesRun s = true :=
  ⟨0x00010001, up, by decide⟩

theorem witness_hostRingCommands_5 : ∃ (log2 sqBase cqBase : Nat) (s : State), planesRun s = true ∧ s.host.agreed.isSome = true ∧ NMap.get? s.host.qps 0 = none ∧ log2 = liveF s .YOK_HQ_AQ_DEPTH (.yoke (hostYoke s)) 0 3 0 ∧ 1 ≤ log2 ∧ log2 ≤ 12 ∧ sqBase = (live s .YOK_HQ_ASQ_BASE (.yoke (hostYoke s))).toNat ∧ sqBase % 4096 = 0 ∧ cqBase = (live s .YOK_HQ_ACQ_BASE (.yoke (hostYoke s))).toNat ∧ cqBase % 4096 = 0 :=
  ⟨6, 0, 0, { up with host := { up.host with qps := [], agreed := some 0x100 } }, by decide⟩

theorem witness_hostRingCommands_6 : ∃ (q : Nat) (qp : QPair) (s : State), planesRun s = true ∧ NMap.get? s.host.qps q = some qp ∧ coalDue s qp.coal = true :=
  ⟨1, { newQp 0 0 64 64 3 with coal := ⟨2, 5⟩ }, ringsUp, by decide⟩

theorem witness_hostRingCommands_7 : ∃ (sq cid tsq tcid : Nat) (s : State), Served s sq :=
  ⟨1, 7, 1, 6, up, by unfold Served; decide⟩

theorem witness_hostAdminCommands_1 : ∃ (sq cid q sqBase cqBase sqLog2 cqLog2 vector : Nat) (qp : QPair) (s : State), Served s sq ∧ sq = 0 :=
  ⟨0, 7, 2, 0, 0, 6, 6, 0, newQp 0 0 64 64 0, up, by unfold Served; decide⟩

theorem witness_hostAdminCommands_2 : ∃ (sq cid ring base k paddr vector : Nat) (s : State), Served s sq ∧ sq = 0 :=
  ⟨0, 7, 3, 0, 12, 0, 0, up, by unfold Served; decide⟩

theorem witness_hostAdminCommands_3 : ∃ (sq cid ring : Nat) (s : State), Served s sq ∧ sq = 0 ∧ (NMap.get? s.host.streams ring).isSome = true ∧ (NMap.get? s.host.events ring).isSome = true ∧ (sessions s).all (fun x => (desc s x).streamRing != ring) = true :=
  ⟨0, 7, 0, ringsUp, by unfold Served; decide⟩

theorem witness_hostAdminCommands_4 : ∃ (sq cid principal route conn base len key perm i : Nat) (b : List Byte) (verifies : Bool) (img : Image) (s : State), Served s sq ∧ sq = 0 :=
  ⟨0, 7, 1, 2, 3, 4, 5, 6, 7, 0, [], true, { id := 1, base := 0, code := 64, rodata := 0, entry := [], budget := [] }, up, by unfold Served; decide⟩

theorem witness_hostAdminCommands_5 : ∃ (sq cid handle cMax qMax dReq : Nat) (st : SState) (u s : State), SessionReady s sq handle u st ∧ st ≠ .fenced ∧ st ≠ .migrating ∧ u.ckp.leaving = false ∧ 1 ≤ qMax ∧ qMax ≤ 16 ∧ qMax ≤ cMax ∧ cMax < 2 ^ 32 ∧ liveF u .BUR_GUAR_CTRL (.acre (homeAcre (slotOf handle))) 0 0 0 ≠ 0 ∧ furCtl u (homeAcre (slotOf handle)) 3 0 ≠ 0 ∧ (otherContracts u (slotOf handle)).length < 256 ∧ (desc u (slotOf handle)).pinned = true ∧ sheafAway u (slotOf handle) = false ∧ contractD u (slotOf handle) cMax qMax (newSumW u (slotOf handle) cMax qMax) ≤ dReq ∧ contractsHold (setContracts (homeAcre (slotOf handle)) (otherContracts u (slotOf handle)) u) (homeAcre (slotOf handle)) (newSumW u (slotOf handle) cMax qMax) = true :=
  ⟨1, 7, 0x400003, 1, 1, 10000000, .toolWait, contractUp [], contractUp [], by unfold SessionReady Served; decide +kernel⟩

theorem witness_hostAdminCommands_6 : ∃ (sq cid handle : Nat) (st : SState) (k : Contract) (u s : State), SessionReady s sq handle u st ∧ st ≠ .fenced ∧ st ≠ .migrating ∧ contractOf u (slotOf handle) = some k :=
  ⟨1, 7, 0x400003, .toolWait, { slot := 3, cMax := 1, qMax := 1, dReq := 9 }, contractUp [{ slot := 3, cMax := 1, qMax := 1, dReq := 9 }], contractUp [{ slot := 3, cMax := 1, qMax := 1, dReq := 9 }], by unfold SessionReady Served; decide +kernel⟩

theorem witness_drawerAccessResults_1 : ∃ (t n a : Nat) (rd rs1 : BitVec 6) (imm : BitVec 13) (c : TineCtx) (s : State), TineReady s t c 1 ∧ c.system = false ∧ badReg rd = false ∧ badReg rs1 = false ∧ a = (tineReg c rs1 + imm.signExtend 64).toNat ∧ a % n = 0 ∧ a + n ≤ (desc s c.slot).drawerPlots * 65536 ∧ drawerFault s c.slot a n = none :=
  ⟨0, 8, 0, 5, 0, 0, drawCtx, drawerUp [], by unfold TineReady; decide +kernel⟩

theorem witness_drawerAccessResults_2 : ∃ (t n a : Nat) (rs2 rs1 : BitVec 6) (imm : BitVec 13) (c : TineCtx) (s u : State), TineReady s t c 1 ∧ c.system = false ∧ badReg rs2 = false ∧ badReg rs1 = false ∧ a = (tineReg c rs1 + imm.signExtend 64).toNat ∧ a % n = 0 ∧ a + n ≤ (desc s c.slot).drawerPlots * 65536 ∧ inScratch s c.slot a n = true ∧ drawerWrite c.slot a (leBytes n (tineReg c rs2).toNat) s = .ok u :=
  ⟨0, 1, 4096, 5, 5, 0, drawCtx, drawerUp [], drawerStored, by unfold TineReady; decide +kernel, by decide, by decide, by decide, by decide +kernel, by decide, by decide +kernel, by decide +kernel, by rfl⟩

theorem witness_sessionEngineResults_1 : ∃ (t : Nat) (rd rs1 : BitVec 6) (imm : BitVec 25) (c : TineCtx) (s : State), TineReady s t c 2 ∧ c.system = false ∧ badReg rd = false ∧ badReg rs1 = false :=
  ⟨0, 5, 8, 8, drawCtx, drawerUp [], by unfold TineReady; decide +kernel⟩

theorem witness_sessionEngineResults_2 : ∃ (t : Nat) (rd rs1 : BitVec 6) (c : TineCtx) (s : State), TineReady s t c 2 ∧ c.system = false ∧ badReg rd = false ∧ badReg rs1 = false :=
  ⟨0, 5, 8, drawCtx, drawerUp [], by unfold TineReady; decide +kernel⟩

theorem witness_sessionEngineResults_3 : ∃ (a : Acre) (t : Nat) (e : TEvent) (i : Image) (u s : State), planesRun s = true ∧ (s.tin.evq.get a).find? (runnable s) = some e ∧ (scanTines s a).find? (tineFree s) = some t ∧ own e.slot s = some u ∧ imageOf u (desc u e.slot).imageId = some i :=
  ⟨.a0, 0, timerEvent, { id := 1, base := 0, code := 64, rodata := 0, entry := List.replicate 16 0, budget := [] }, eventUp, eventUp, by decide +kernel⟩

theorem witness_sessionEngineResults_4 : ∃ (slot tag at_ : Nat) (o : AsyncOp) (s : State), planesRun s = true ∧ s.tin.asyncs.find? (fun o => o.slot = slot && o.tag = tag && !o.ended) = some o ∧ o.kind = .timer at_ ∧ at_ ≤ ktb s ∧ s.power.fallow.mode = .active :=
  ⟨3, 1, 5, { slot := 3, tag := 1, kind := .timer 5, ended := false, ins := [], outs := [] }, eventUp, by decide +kernel⟩

theorem witness_sessionEngineResults_5 : ∃ (t : Nat) (c : TineCtx) (s : State), planesRun s = true ∧ NMap.get? s.tin.tines t = some c ∧ c.system = false ∧ c.stall = none ∧ budgetOver s t c = true :=
  ⟨0, { handlerCtx with budget := 0, dispatchAt := 0 }, putTine 0 { handlerCtx with budget := 0, dispatchAt := 0 } handlerUp, by decide +kernel⟩

theorem witness_engineIssueResults_1 : ∃ (t : Nat) (rd rs1 rs2 : BitVec 6) (c : TineCtx) (s : State), TineReady s t c 2 ∧ c.system = false ∧ badReg rd = false ∧ badReg rs1 = false ∧ badReg rs2 = false ∧ outstandingOps s c.slot false < 4 ∧ attnIssue s c (tineReg c rs1).toNat (tineReg c rs2).toNat false = none ∧ drawerFault s c.slot (tineReg c rs1).toNat (leNat (drawerRead s c.slot (tineReg c rs1).toNat 4)) = none :=
  ⟨0, 5, 5, 6, drawCtx, drawerUp (attnReq 0), by unfold TineReady; decide +kernel⟩

theorem witness_engineIssueResults_2 : ∃ (t : Nat) (rd rs1 rs2 : BitVec 6) (c : TineCtx) (s : State), TineReady s t c 2 ∧ c.system = false ∧ badReg rd = false ∧ badReg rs1 = false ∧ badReg rs2 = false ∧ outstandingOps s c.slot false < 4 ∧ attnIssue s c (tineReg c rs1).toNat (tineReg c rs2).toNat true = none ∧ drawerFault s c.slot (tineReg c rs1).toNat (leNat (drawerRead s c.slot (tineReg c rs1).toNat 4)) = none :=
  ⟨0, 5, 5, 6, drawCtx, drawerUp (attnReq 64), by unfold TineReady; decide +kernel⟩

theorem witness_engineIssueResults_3 : ∃ (t req out : Nat) (rd rs1 rs2 : BitVec 6) (c : TineCtx) (s : State), TineReady s t c 2 ∧ c.system = false ∧ badReg rd = false ∧ badReg rs1 = false ∧ badReg rs2 = false ∧ outstandingOps s c.slot false < 4 ∧ req = (tineReg c rs1).toNat ∧ out = (tineReg c rs2).toNat ∧ req % 64 = 0 ∧ out % 64 = 0 ∧ inScratch s c.slot req 64 = true ∧ inScratch s c.slot out (64 + 16 * leNat (((drawerRead s c.slot req 64).drop 8).take 2)) = true ∧ drawerFault s c.slot req 64 = none :=
  ⟨0, 4096, 4160, 5, 5, 6, drawCtx, drawerUp [], by unfold TineReady; decide +kernel⟩

theorem witness_engineIssueResults_4 : ∃ (t off loc len : Nat) (rd rs1 rs2 rs3 : BitVec 6) (imm : BitVec 25) (c : TineCtx) (r : Route) (s : State), TineReady s t c 2 ∧ c.system = false ∧ badReg rd = false ∧ badReg rs1 = false ∧ badReg rs2 = false ∧ badReg rs3 = false ∧ outstandingOps s c.slot false < 4 ∧ off = (tineReg c rs1).toNat ∧ loc = (tineReg c rs2).toNat ∧ len = (tineReg c rs3).toNat ∧ imm.toNat < 2 ^ 8 ∧ routeCheck s c.slot imm off len true = .ok r :=
  ⟨0, 1, 4096, 8, 5, 8, 5, 7, 64, drawCtx, route0, routeUp, by unfold TineReady; decide +kernel⟩

theorem witness_engineIssueResults_5 : ∃ (t off loc len : Nat) (rd rs1 rs2 rs3 : BitVec 6) (imm : BitVec 25) (c : TineCtx) (r : Route) (s : State), TineReady s t c 2 ∧ c.system = false ∧ badReg rd = false ∧ badReg rs1 = false ∧ badReg rs2 = false ∧ badReg rs3 = false ∧ outstandingOps s c.slot false < 4 ∧ off = (tineReg c rs1).toNat ∧ loc = (tineReg c rs2).toNat ∧ len = (tineReg c rs3).toNat ∧ imm.toNat < 2 ^ 8 ∧ imm.getLsbD 6 = true ∧ routeCheck s c.slot imm off len false = .ok r ∧ inScratch s c.slot loc len = true :=
  ⟨0, 1, 4096, 8, 5, 8, 5, 7, 64, drawCtx, route0, routeUp, by unfold TineReady; decide +kernel⟩

theorem witness_scalarRegisterResults_1 : ∃ (t : Nat) (rd rs1 rs2 : BitVec 6) (c : TineCtx) (s : State), TineReady s t c 1 ∧ badReg rd = false ∧ badReg rs1 = false ∧ badReg rs2 = false :=
  ⟨256, 5, 5, 6, sysCtx, tineUp, by unfold TineReady; decide⟩

theorem witness_scalarImmediateResults_1 : ∃ (t : Nat) (rd rs1 sh : BitVec 6) (imm : BitVec 13) (wide : BitVec 19) (c : TineCtx) (s : State), TineReady s t c 1 ∧ badReg rd = false ∧ badReg rs1 = false :=
  ⟨256, 5, 6, 3, 9, 9, sysCtx, tineUp, by unfold TineReady; decide⟩

theorem witness_scalarImmediateResults_2 : ∃ (t : Nat) (rd : BitVec 6) (imm : BitVec 51) (c : TineCtx) (s : State), TineReady s t c 2 ∧ badReg rd = false :=
  ⟨256, 5, 9, sysCtx, tineUp, by unfold TineReady; decide⟩

theorem witness_scalarControlResults_1 : ∃ (t : Nat) (rs1 rs2 : BitVec 6) (off : BitVec 13) (c : TineCtx) (s : State), TineReady s t c 1 ∧ badReg rs1 = false ∧ badReg rs2 = false :=
  ⟨256, 5, 6, 9, sysCtx, tineUp, by unfold TineReady; decide⟩

theorem witness_scalarControlResults_2 : ∃ (t : Nat) (rd rs1 : BitVec 6) (imm : BitVec 13) (wide : BitVec 19) (c : TineCtx) (s : State), TineReady s t c 1 ∧ badReg rd = false ∧ badReg rs1 = false ∧ (tineReg c rs1 + imm.signExtend 64).toNat % 4 = 0 :=
  ⟨256, 5, 6, 8, 9, sysCtx, tineUp, by unfold TineReady; decide⟩

theorem witness_scalarControlResults_3 : ∃ (t : Nat) (c : TineCtx) (s : State), TineReady s t c 1 ∧ c.system = false :=
  ⟨0, handlerCtx, handlerUp, by unfold TineReady; decide⟩

theorem witness_localMemoryResults_1 : ∃ (t : Nat) (rd rs1 : BitVec 6) (imm : BitVec 13) (c : TineCtx) (s : State), TineReady s t c 1 ∧ badReg rd = false ∧ badReg rs1 = false ∧ (tineReg c rs1 + imm.signExtend 64).toNat % 8 = 0 ∧ (tineReg c rs1 + imm.signExtend 64).toNat + 8 ≤ (if c.system then 0x40000 else 0x34000) :=
  ⟨256, 5, 6, 8, sysCtx, tineUp, by unfold TineReady; decide⟩

theorem witness_localMemoryResults_2 : ∃ (t : Nat) (rs2 rs1 : BitVec 6) (imm : BitVec 13) (c : TineCtx) (s : State), TineReady s t c 1 ∧ badReg rs2 = false ∧ badReg rs1 = false ∧ (tineReg c rs1 + imm.signExtend 64).toNat % 8 = 0 ∧ (if c.system then 0 else 0x30000) ≤ (tineReg c rs1 + imm.signExtend 64).toNat ∧ (tineReg c rs1 + imm.signExtend 64).toNat + 8 ≤ (if c.system then 0x40000 else 0x34000) :=
  ⟨256, 5, 6, 8, sysCtx, tineUp, by unfold TineReady; decide⟩

theorem witness_trapResults_1 : ∃ (t : Nat) (code : BitVec 6) (c : TineCtx) (s : State), TineReady s t c 1 ∧ c.system = false :=
  ⟨0, 3, handlerCtx, handlerUp, by unfold TineReady; decide⟩

theorem witness_trapResults_2 : ∃ (t : Nat) (w0 w1 : BitVec 32) (st : Status) (c : TineCtx) (s : State), TineReady s t c 2 ∧ c.system = false ∧ illegalStatus w0.toNat w1.toNat = some st ∧ TineReady s t c 1 :=
  ⟨0, 0, 0, .badFormat, handlerCtx, handlerUp, by unfold TineReady; decide⟩

theorem witness_trapResults_3 : ∃ (t : Nat) (rd rs1 rs2 : BitVec 6) (c : TineCtx) (s : State), TineReady s t c 1 ∧ c.system = false ∧ 48 ≤ rd.toNat :=
  ⟨0, 48, 5, 6, handlerCtx, handlerUp, by unfold TineReady; decide⟩

theorem witness_signalCommands_1 : ∃ (t : Nat) (rd rs1 rs2 : BitVec 6) (c : TineCtx) (s : State), TineReady s t c 2 ∧ c.system = false ∧ badReg rd = false ∧ badReg rs1 = false ∧ badReg rs2 = false :=
  ⟨0, 5, 5, 6, handlerCtx, handlerUp, by unfold TineReady; decide⟩

theorem witness_armAndWaitCommands_1 : ∃ (t : Nat) (rd rs1 rs2 : BitVec 6) (c : TineCtx) (s u : State), TineReady s t c 2 ∧ c.system = false ∧ badReg rd = false ∧ badReg rs1 = false ∧ badReg rs2 = false ∧ own c.slot s = some u :=
  ⟨0, 5, 5, 6, handlerCtx, handlerOwned, handlerOwned, by unfold TineReady; decide⟩

theorem witness_armAndWaitCommands_2 : ∃ (t : Nat) (rd rs1 rs2 rs3 : BitVec 6) (c : TineCtx) (s : State), TineReady s t c 2 ∧ c.system = false ∧ badReg rd = false ∧ badReg rs1 = false ∧ badReg rs2 = false ∧ badReg rs3 = false ∧ outstandingOps s c.slot true < 4 :=
  ⟨0, 5, 5, 6, 7, handlerCtx, handlerUp, by unfold TineReady; decide⟩

theorem witness_armAndWaitCommands_3 : ∃ (t : Nat) (rd rs1 rs2 : BitVec 6) (c : TineCtx) (s u : State), TineReady s t c 2 ∧ c.system = false ∧ badReg rd = false ∧ badReg rs1 = false ∧ badReg rs2 = false ∧ own c.slot (drew s) = some u :=
  ⟨0, 5, 5, 6, handlerCtx, handlerOwned, drew handlerOwned, by unfold TineReady; decide⟩

theorem witness_syncServiceCommands_1 : ∃ (obj slot tag n : Nat) (w : SyncWait) (s : State), planesRun s = true ∧ s.sync.waits.find? (fun w => w.obj = obj && w.who = .session slot tag) = some w ∧ w.timeout = some n ∧ n ≤ ktb s :=
  ⟨3, 3, 1, 5, waitOn3, { up with sync := { up.sync with waits := [waitOn3] } }, by decide⟩

theorem witness_syncServiceCommands_2 : ∃ (obj slot tag : Nat) (w : SyncWait) (s : State), planesRun s = true ∧ s.sync.rebuilding = false ∧ s.sync.waits.find? (fun w => w.obj = obj && w.who = .session slot tag) = some w :=
  ⟨3, 3, 1, waitOn3, { up with sync := { up.sync with waits := [waitOn3] } }, by decide⟩

theorem witness_syncServiceCommands_3 : ∃ (obj slot tag : Nat) (w : SyncWait) (s : State), planesRun s = true ∧ s.sync.victims.contains (obj, slot, tag) = true ∧ s.sync.waits.find? (fun w => w.obj = obj && w.who = .session slot tag) = some w :=
  ⟨3, 3, 1, waitOn3, { up with sync := { up.sync with waits := [waitOn3], victims := [(3, 3, 1)] } }, by decide⟩

theorem witness_syncServiceCommands_4 : ∃ (a : Acre) (index : BitVec 14) (code : BitVec 4) (s : State), planesRun s = true :=
  ⟨.a0, 3, 0, up, by decide⟩

theorem witness_syncServiceCommands_5 : ∃ (a : Acre) (index : BitVec 14) (obj : Nat) (u : State) (s : State), planesRun s = true ∧ obj = a.num * 2 ^ 14 + index.toNat ∧ s.sync.closing.contains obj = false ∧ synKind s obj ≠ .free ∧ waitsOn s obj = [] ∧ s.sync.watches.any (fun w => w.obj = obj) = false ∧ u = setSynWord obj (setField (synWord s obj) 47 0 (field (live s .SYN_OP_ARG (.acre a)) 47 0)) s :=
  ⟨.a0, 3, 3, setSynWord 3 (setField (synWord synUp 3) 47 0 (field (live synUp .SYN_OP_ARG (.acre .a0)) 47 0)) synUp, synUp, by decide⟩

theorem witness_syncEffects_1 : ∃ (obj slot n : Nat) (s : State), waitsOn s obj = [] ∧ s.sync.watches.filter (fun w => w.obj = obj) = [] ∧ s.sync.closing.contains obj = false ∧ synAccess s obj (desc s slot).principal = true ∧ synKind s obj = .sem ∧ 1 ≤ n ∧ n ≤ 65535 ∧ n ≤ synValue (synWord s obj) := ⟨3, 0, 5, synUp, by decide⟩

theorem witness_syncEffects_2 : ∃ (obj slot n : Nat) (s : State), waitsOn s obj = [] ∧ s.sync.watches.filter (fun w => w.obj = obj) = [] ∧ s.sync.closing.contains obj = false ∧ synAccess s obj (desc s slot).principal = true ∧ synKind s obj = .sem ∧ 1 ≤ n ∧ n ≤ 0xFFFFFFFF ∧ synValue (synWord s obj) + n ≤ 0xFFFFFFFF := ⟨3, 0, 0xFFFFFFFA, synUp, by decide⟩

theorem witness_syncEffects_3 : ∃ (obj slot n : Nat) (s : State), waitsOn s obj = [] ∧ s.sync.watches.filter (fun w => w.obj = obj) = [] ∧ s.sync.closing.contains obj = false ∧ synAccess s obj (desc s slot).principal = true ∧ synKind s obj = .sem ∧ 1 ≤ n ∧ n ≤ 0xFFFFFFFF ∧ 0xFFFFFFFF < synValue (synWord s obj) + n := ⟨3, 0, 0xFFFFFFFB, synUp, by decide⟩

theorem witness_syncEffects_4 : ∃ (obj slot n : Nat) (s : State), waitsOn s obj = [] ∧ s.sync.watches.filter (fun w => w.obj = obj) = [] ∧ s.sync.closing.contains obj = false ∧ synAccess s obj (desc s slot).principal = true ∧ synKind s obj = .cctr ∧ 1 ≤ n ∧ n ≤ 0xFFFFFFFF := ⟨3, 0, 0xFFFFFFFF, setSynWord 3 0x6000FFFFFFFFFFFF up, by decide⟩

theorem witness_syncEffects_5 : ∃ (obj slot n : Nat) (s : State), waitsOn s obj = [] ∧ s.sync.watches.filter (fun w => w.obj = obj) = [] ∧ s.sync.closing.contains obj = false ∧ synAccess s obj (desc s slot).principal = true ∧ synKind s obj = .barrier ∧ n ≤ 1 ∧ field (synWord s obj) 31 16 + 1 ≠ field (synWord s obj) 47 32 := ⟨3, 0, 1, setSynWord 3 0x8000000300010000 up, by decide⟩

theorem witness_syncEffects_6 : ∃ (obj slot n : Nat) (s : State), waitsOn s obj = [] ∧ s.sync.watches.filter (fun w => w.obj = obj) = [] ∧ s.sync.closing.contains obj = false ∧ synAccess s obj (desc s slot).principal = true ∧ synKind s obj = .barrier ∧ n ≤ 1 ∧ field (synWord s obj) 31 16 + 1 = field (synWord s obj) 47 32 := ⟨3, 0, 1, setSynWord 3 0x800000030002FFFF up, by decide⟩

theorem witness_syncEffects_7 : ∃ (obj slot n : Nat) (s : State), waitsOn s obj = [] ∧ s.sync.watches.filter (fun w => w.obj = obj) = [] ∧ s.sync.closing.contains obj = false ∧ synAccess s obj (desc s slot).principal = true ∧ synKind s obj = .lock ∧ lstate (synWord s obj) = 0 ∧ (heldLocks s slot).length < 16 ∧ n = 0 := ⟨3, 0, 0, setSynWord 3 0x2000000000000000 up, by decide⟩

theorem witness_syncEffects_8 : ∃ (obj slot n : Nat) (s : State), waitsOn s obj = [] ∧ s.sync.watches.filter (fun w => w.obj = obj) = [] ∧ s.sync.closing.contains obj = false ∧ synAccess s obj (desc s slot).principal = true ∧ synKind s obj = .lock ∧ lstate (synWord s obj) = 1 ∧ synValue (synWord s obj) = handleOf s slot ∧ n ≤ 1 := ⟨3, 0, 0, setSynWord 3 (lockWord 1 (handleOf up 0)) up, by decide⟩

theorem witness_kltPacketResults_1 : ∃ (h : KHdr) (data : List Byte) (n i : Nat) (c : Conn) (r : Region) (u v s : State), planesRun s = true ∧ rcvCheck { h with opc := 1 } s = .inr (n, c) ∧ wakeGate n c { h with opc := 1 } s = (false, u) ∧ regionCheck u c { h with opc := 1 } data.length = .ok (i, r) ∧ placeWrite { h with opc := 1 } data r u = .ok v :=
  ⟨khdr 0 65537 4, [1, 2, 3, 4], 1, 1, conn0 .open_, { base := 0, len := 65536, kind := .plain, dbk := 0, dbArg := 0, canWrite := true, canRead := true, canDb := false, isLocal := true, peer := none, principal := 0, st := .valid, tag := 1, revTag := none }, kltWith (conn0 .open_), localPut 0 [1, 2, 3, 4] (kltWith (conn0 .open_)), kltWith (conn0 .open_), by decide +kernel⟩

theorem witness_kltPacketResults_2 : ∃ (h : KHdr) (frame tag : List Byte) (n i : Nat) (c : Conn) (r : Region) (u s : State), planesRun s = true ∧ rcvCheck { h with opc := 2 } s = .inr (n, c) ∧ wakeGate n c { h with opc := 2 } s = (false, u) ∧ regionCheck u c { h with opc := 2 } 4096 = .ok (i, r) :=
  ⟨khdr (2 ^ 48) 131073 4096, List.replicate 4096 7, List.replicate 16 9, 1, 2, conn0 .open_, { base := 2 ^ 48, len := 65536, kind := .frame, dbk := 0, dbArg := 0, canWrite := true, canRead := true, canDb := false, isLocal := true, peer := none, principal := 0, st := .valid, tag := 1, revTag := none }, kltWith (conn0 .open_), kltWith (conn0 .open_), by decide +kernel⟩

theorem witness_kltPacketResults_3 : ∃ (h : KHdr) (n : Nat) (c : Conn) (u s : State), planesRun s = true ∧ rcvCheck { h with opc := 3 } s = .inr (n, c) ∧ wakeGate n c { h with opc := 3 } s = (false, u) :=
  ⟨khdr 0 65537 8, 1, conn0 .open_, kltWith (conn0 .open_), kltWith (conn0 .open_), by decide +kernel⟩

theorem witness_kltPacketResults_4 : ∃ (h : KHdr) (n : Nat) (c : Conn) (u s : State), planesRun s = true ∧ rcvCheck { h with opc := 4 } s = .inr (n, c) ∧ wakeGate n c { h with opc := 4 } s = (false, u) :=
  ⟨khdr (2 ^ 48) 131073 4096, 1, conn0 .open_, kltWith (conn0 .open_), kltWith (conn0 .open_), by decide +kernel⟩

theorem witness_kltPacketResults_5 : ∃ (n i : Nat) (c : Conn) (h : KHdr) (frames : Bool) (p : RcvPkt) (s : State), planesRun s = true ∧ connOf s n = some c ∧ NMap.get? c.got c.frontier = some p ∧ p.read = some (h, frames) ∧ p.validated = some i ∧ s.klt.staging.get (connYoke n) + h.mlen ≤ 2 ^ 25 :=
  ⟨1, 1, connServes, khdr 0 65537 8, false, { readPkt (khdr 0 65537 8) false with validated := some 1 }, kltWith connServes, by decide +kernel⟩

theorem witness_kltPacketResults_6 : ∃ (h : KHdr) (data frame tag plain : List Byte) (good : Bool) (c : Conn) (o : SndOp) (s : State), planesRun s = true ∧ connOf s h.dconn = some c ∧ ackNames s h.dconn h.cgen h.sep c = true ∧ c.ops.find? (fun o => o.msn = h.msn && o.reading) = some o ∧ NMap.get? o.units (h.moff / 4096) = none ∧ h.moff < readLen o.op :=
  ⟨khdr 0 0 0, [1, 2, 3, 4, 5, 6, 7, 8], [], [], [], true, connReads [] 1, readOp, kltWith (connReads [] 1), by decide +kernel⟩

theorem witness_kltPacketResults_7 : ∃ (n unit : Nat) (c : Conn) (o : SndOp) (s : State), planesRun s = true ∧ connOf s n = some c ∧ c.ops.find? (fun x => x.msn = o.msn && x.reading) = some o ∧ unitDue s n c o unit = true :=
  ⟨1, 0, connReads [] 1, readOp, kltWith (connReads [] 1), by decide +kernel⟩

theorem witness_kltPacketResults_8 : ∃ (a : KAck) (c : Conn) (s : State), planesRun s = true ∧ connOf s a.dconn = some c ∧ ackNames s a.dconn a.cgen a.sep c = true :=
  ⟨{ tc := 4, dconn := 1, cgen := 0, frontier := 1, nak := none, ceCount := 0, tsEcho := 0, ackDelay := 0, sep := 9, sack := 0 }, connReads [(0, sentPkt)] 0, kltWith (connReads [(0, sentPkt)] 0), by decide +kernel⟩

theorem witness_kltPacketResults_9 : ∃ (n t : Nat) (c : Conn) (s : State), planesRun s = true ∧ connOf s n = some c ∧ c.firstArrival = some t ∧ t + primF s .KLT_CTRL 0 51 36 ≤ connNow s n :=
  ⟨1, 5, { conn0 .open_ with firstArrival := some 5 }, kltWith { conn0 .open_ with firstArrival := some 5 }, by decide +kernel⟩

theorem witness_kltPacketResults_10 : ∃ (n psn tx : Nat) (c : Conn) (p : SndPkt) (s : State), planesRun s = true ∧ connOf s n = some c ∧ NMap.get? c.inflight psn = some p ∧ p.sentAt = some tx ∧ psnLost s (connNow s n) c p tx = true :=
  ⟨1, 0, 5, connReads [(0, sentPkt)] 0, sentPkt, kltWith (connReads [(0, sentPkt)] 0), by decide +kernel⟩

theorem witness_kltPacketResults_11 : ∃ (n rtt port e t : Nat) (c : Conn) (s : State), planesRun s = true ∧ connOf s n = some c :=
  ⟨1, 100, 0, 0, 5, { connReads [] 1 with suspect := [(0, 5)], winAt := 0 }, kltWith { connReads [] 1 with suspect := [(0, 5)], winAt := 0 }, by decide +kernel⟩

theorem witness_kltPacketResults_12 : ∃ (port : Nat) (y : Yoke) (s : State), planesRun s = true ∧ port < 8 :=
  ⟨3, .ye, up, by decide⟩

theorem witness_kltConnectionResults_1 : ∃ (r : ConnReq) (s : State), planesRun s = true ∧ s.klt.answers.find? (fun x => x.1 = r.sep && x.2.1 = r.reqId) = none :=
  ⟨{ sep := 9, minVer := 1, maxVer := 1, tc := 4, entropy := 8, sconn := 3, scgen := 0, rwin := 64, domain := 0, reqId := 77 }, kltBase, by decide +kernel⟩

theorem witness_kltConnectionResults_2 : ∃ (r : ConnReq) (a : ConnRsp) (x : Nat) (y : Nat) (s : State), planesRun s = true ∧ s.klt.answers.find? (fun x => x.1 = r.sep && x.2.1 = r.reqId) = some (x, y, a) :=
  ⟨{ sep := 9, minVer := 1, maxVer := 1, tc := 4, entropy := 8, sconn := 3, scgen := 0, rwin := 64, domain := 0, reqId := 77 }, { sep := 0, status := .ok, ver := 1, tc := 4, entropy := 8, rconn := 1, rcgen := 0, rwin := 64, reqId := 77 }, 9, 77, { kltBase with klt := { kltBase.klt with answers := [(9, 77, { sep := 0, status := .ok, ver := 1, tc := 4, entropy := 8, rconn := 1, rcgen := 0, rwin := 64, reqId := 77 })] } }, by decide +kernel⟩

theorem witness_kltConnectionResults_3 : ∃ (r : ConnRsp) (n : Nat) (c : Conn) (s : State), planesRun s = true ∧ s.klt.conns.find? (fun e => e.2.st = .connecting && e.2.peer = r.sep && e.2.reqId = r.reqId) = some (n, c) :=
  ⟨{ sep := 9, status := .ok, ver := 1, tc := 4, entropy := 1, rconn := 3, rcgen := 0, rwin := 64, reqId := 0 }, 1, conn0 .connecting, kltWith (conn0 .connecting), by decide +kernel⟩

theorem witness_kltConnectionResults_4 : ∃ (n : Nat) (c : Conn) (s : State), planesRun s = true ∧ connOf s n = some c ∧ c.st = .connecting ∧ c.triedAt + 100000 ≤ connNow s n :=
  ⟨1, { conn0 .connecting with triedAt := 0 }, kltWith { conn0 .connecting with triedAt := 0 }, by decide +kernel⟩

theorem witness_kltConnectionResults_5 : ∃ (n cgen sep : Nat) (c : Conn) (s : State), planesRun s = true ∧ tc7Conn s n cgen sep = some c :=
  ⟨1, 0, 9, { conn0 .closing with closeSent := true }, kltWith { conn0 .closing with closeSent := true }, by decide +kernel⟩

theorem witness_kltConnectionResults_6 : ∃ (n : Nat) (c : Conn) (s : State), planesRun s = true ∧ connOf s n = some c ∧ c.closeSent = true ∧ c.triedAt + 100000 ≤ connNow s n :=
  ⟨1, { conn0 .closing with closeSent := true, triedAt := 0 }, kltWith { conn0 .closing with closeSent := true, triedAt := 0 }, by decide +kernel⟩

theorem witness_kltConnectionResults_7 : ∃ (sep e : Nat) (b : Beat) (s : State), planesRun s = true ∧ peerEntry s sep = some e :=
  ⟨9, 0, { domain := 0, liveGen := 0, fpValid := false, leaving := false, fallow := false, role := 0, fp := 0, commitAt := 0, ktb := 0 }, kltBase, by decide +kernel⟩

theorem witness_kltConnectionResults_8 : ∃ (e : Nat) (s : State), planesRun s = true :=
  ⟨0, kltBase, by decide⟩

theorem witness_kltCommandResults_1 : ∃ (y : Yoke) (s : State), planesRun s = true :=
  ⟨.yw, kltBase, by decide⟩

theorem witness_kltCommandResults_2 : ∃ (y : Yoke) (n : Nat) (c : Conn) (s : State), planesRun s = true ∧ n = bitsOf (cmdArg s y .KLT_CMD_ARG0) 23 0 ∧ connOf s n = some c :=
  ⟨.yw, 1, conn0 .open_, kltArgs 1 0 0 0 (kltWith (conn0 .open_)), by decide +kernel⟩

theorem witness_kltCommandResults_3 : ∃ (y : Yoke) (key : Nat) (r : Region) (s : State), planesRun s = true ∧ key = bitsOf (cmdArg s y .KLT_CMD_ARG0) 31 0 ∧ NMap.get? s.klt.regions (key / 2 ^ 16) = some r ∧ r.st = .valid ∧ r.tag = key % 2 ^ 16 ∧ regionUsed s (key / 2 ^ 16) r = false :=
  ⟨.yw, 65537, { base := 0, len := 65536, kind := .plain, dbk := 0, dbArg := 0, canWrite := true, canRead := true, canDb := false, isLocal := true, peer := none, principal := 0, st := .valid, tag := 1, revTag := none }, kltArgs 65537 0 0 0 kltBase, by decide +kernel⟩

theorem witness_kltCommandResults_4 : ∃ (y : Yoke) (q : Nat) (p : Pwq) (s : State), planesRun s = true ∧ q = bitsOf (cmdArg s y .KLT_CMD_ARG0) 9 0 ∧ pwqOf s q = some p ∧ p.inflight = [] :=
  ⟨.yw, 5, pwq0 [] 0, kltArgs 5 0 0 0 (pwqUp [] 0 []), by decide +kernel⟩

theorem witness_kltCommandResults_5 : ∃ (y : Yoke) (s : State), planesRun s = true :=
  ⟨.yw, kltArgs (2 ^ 14) 1 0 0 kltBase, by decide +kernel⟩

theorem witness_kltCommandResults_6 : ∃ (q : Nat) (p : Pwq) (s : State), planesRun s = true ∧ pwqOf s q = some p ∧ pwqMay s p = true :=
  ⟨5, pwq0 [] 0, pwqUp [] 0 (workBytes 0), by decide +kernel⟩

theorem witness_kltCommandResults_7 : ∃ (q idx : Nat) (p : Pwq) (st : Status) (m : NMap (Nat × Option Status)) (s : State), planesRun s = true ∧ pwqOf s q = some p ∧ NMap.get? p.inflight idx = some { status := some st, mcast := m } :=
  ⟨5, 0, pwq0 [(0, { status := some .ok, mcast := [] })] 64, .ok, [], pwqUp [(0, { status := some .ok, mcast := [] })] 64 (workBytes 0), by decide +kernel⟩

theorem witness_schedulerResults_1 : ∃ (port : Nat) (s : State), planesRun s = true ∧ port < 8 ∧ (portOf (kltPump s) port).up = true :=
  ⟨0, portUp 7, by decide +kernel⟩

theorem witness_schedulerResults_2 : ∃ (port : Nat) (s : State), planesRun s = true ∧ port < 8 :=
  ⟨0, portUp 6, by decide +kernel⟩

theorem witness_schedulerResults_3 : ∃ (y : Yoke) (g : Gcl) (p : GclPend) (s : State), planesRun s = true :=
  ⟨.yw, gcl0, ⟨some gcl0, 5, false⟩, setTsc (fun t => { t with running := t.running.set .yw (some gcl0) }) up, by decide +kernel⟩

theorem witness_schedulerResults_4 : ∃ (port seq t1 ts t3 t4 n : Nat) (s : State), planesRun s = true ∧ fromMaster s port = true :=
  ⟨2, 7, 30, 40, 50, 60, 8, ptpUp .slave, by decide +kernel⟩

theorem witness_schedulerResults_5 : ∃ (port seq ts domain : Nat) (k : PtpClock) (s : State), planesRun s = true ∧ ptpOn s = true ∧ port < 8 :=
  ⟨2, 9, 70, 0, { priority1 := 1, class_ := 1, accuracy := 1, variance := 1, priority2 := 1, identity := 1, steps := 0 }, ptpUp .master, by decide +kernel⟩

theorem witness_schedulerResults_6 : ∃ (t : Nat) (s : State), planesRun s = true :=
  ⟨3, ptpUp .slave, by decide +kernel⟩

theorem witness_managementSessions_1 : ∃ (y : Yoke) (minVer maxVer cred : Nat) (s : State), mgmtUp s = true ∧ (portM s y).lockUntil = none ∧ cryptoOk s y = true ∧ lifeCycle s ≠ 3 :=
  ⟨.yw, 1, 1, 1, deployed, by decide⟩

theorem witness_managementSessions_2 : ∃ (y : Yoke) (minVer maxVer cred t : Nat) (s : State), mgmtUp s = true ∧ (portM s y).lockUntil = some t :=
  ⟨.yw, 1, 1, 1, 5, lockedPort, by decide⟩

theorem witness_managementSessions_3 : ∃ (y : Yoke) (n : Nat) (verifies : Bool) (h : Hello) (s : State), mgmtUp s = true ∧ NMap.get? (portM s y).hellos n = some h ∧ (portM s y).lockUntil = none ∧ h.verOk = true :=
  ⟨.yw, 2, true, ⟨1, true⟩, helloUp, by decide⟩

theorem witness_managementSessions_4 : ∃ (y : Yoke) (n : Nat) (x : MgmtSess) (s : State), mgmtUp s = true ∧ NMap.get? (portM s y).sessions n = some x ∧ x.lastReq + liveF s .SEC_MGMT_CTRL (.yoke y) 0 31 16 * 1000000000 ≤ ktbOf s (.yoke y) :=
  ⟨.yw, 1, mgmtSess, later, by decide +kernel⟩

theorem witness_managementSessions_5 : ∃ (y : Yoke) (t : Nat) (s : State), mgmtUp s = true ∧ (portM s y).lockUntil = some t ∧ t ≤ ktbOf s (.yoke y) :=
  ⟨.yw, 5, lockedPort, by decide⟩

theorem witness_managementSessions_6 : ∃ (q : MgmtReq) (x : MgmtSess) (r : SpdmReq) (st : Status) (b : List (BitVec 384)) (t s : State), MgmtReady s q x rAny :=
  ⟨mgmtAsk, mgmtSess, .getVersion, .ok, [], up, mgmtUpState, by unfold MgmtReady; decide⟩

theorem witness_managementSessions_7 : ∃ (q : MgmtReq) (slot off : Nat) (more : Bool) (s : State), mgmtUp s = true ∧ q.session = 0 :=
  ⟨{ mgmtAsk with session := 0 }, 0, 0, false, deployed, by decide⟩

theorem witness_tenancyCommands_1 : ∃ (q : MgmtReq) (x : MgmtSess) (b : BindReq) (s : State), MgmtReady s q x rTenancy :=
  ⟨mgmtAsk, mgmtSess, bindReq0, deployed, by unfold MgmtReady; decide⟩

theorem witness_tenancyCommands_2 : ∃ (q : MgmtReq) (x : MgmtSess) (s : State), MgmtReady s q x rTenancy ∧ s.sec.tenancy = .binding :=
  ⟨mgmtAsk, mgmtSess, tenIn .binding, by unfold MgmtReady; decide⟩

theorem witness_tenancyCommands_3 : ∃ (q : MgmtReq) (x : MgmtSess) (s : State), MgmtReady s q x rTenancy ∧ s.sec.tenancy ≠ .binding :=
  ⟨mgmtAsk, mgmtSess, tenIn .unassigned, by unfold MgmtReady; decide⟩

theorem witness_tenancyCommands_4 : ∃ (q : MgmtReq) (x : MgmtSess) (s : State), MgmtReady s q x rTenancy ∧ s.sec.tenancy = .bound :=
  ⟨mgmtAsk, mgmtSess, tenIn .bound, by unfold MgmtReady; decide⟩

theorem witness_tenancyCommands_5 : ∃ (q : MgmtReq) (x : MgmtSess) (s : State), MgmtReady s q x rTenancy ∧ s.sec.tenancy = .releasing :=
  ⟨mgmtAsk, mgmtSess, tenIn .releasing, by unfold MgmtReady; decide⟩

theorem witness_tenancyCommands_6 : ∃ (q : MgmtReq) (x : MgmtSess) (s : State), MgmtReady s q x rTenancy ∧ s.sec.tenancy = .unassigned ∧ tenPending s = false :=
  ⟨mgmtAsk, mgmtSess, tenIn .unassigned, by unfold MgmtReady; decide⟩

theorem witness_tenancyCommands_7 : ∃ (s : State), mgmtUp s = true ∧ s.sec.tenancy = .binding ∧ s.sec.resuming = false ∧ s.sec.bindAt + primF s .SEC_BIND_CTRL 0 15 0 * 1000000000 ≤ ktb s :=
  ⟨setSec (fun x => { x with tenancy := .binding }) later, by decide +kernel⟩

theorem witness_tenancyCommands_8 : ∃ (s : State), mgmtUp s = true ∧ s.sec.tenancy = .releasing ∧ s.sec.rel = .scrub :=
  ⟨setSec (fun x => { x with rel := .scrub }) (tenIn .releasing), by decide⟩

theorem witness_deviceManagement_1 : ∃ (q : MgmtReq) (x : MgmtSess) (die kind n : Nat) (hit : List Nat) (d : Die) (s : State), MgmtReady s q x rConfigure ∧ Die.ofCode die = some d ∧ coreExists d kind n = true :=
  ⟨mgmtAsk, mgmtSess, 4, 1, 2, [], .acre .a0, mgmtUpState, by unfold MgmtReady; decide⟩

theorem witness_deviceManagement_2 : ∃ (q : MgmtReq) (x : MgmtSess) (i j : FwImage) (advance : Bool) (s : State), MgmtReady s q x rFirmware :=
  ⟨mgmtAsk, mgmtSess, image0, image0, true, mgmtUpState, by unfold MgmtReady; decide⟩

theorem witness_deviceManagement_3 : ∃ (q : MgmtReq) (x : MgmtSess) (key roles slot i : Nat) (s : State), MgmtReady s q x rCredential :=
  ⟨mgmtAsk, mgmtSess, 5, 3, 1, 0, mgmtUpState, by unfold MgmtReady; decide⟩

theorem witness_deviceManagement_4 : ∃ (q : MgmtReq) (key : Nat) (s : State), mgmtUp s = true ∧ pastStage1 s = true ∧ q.session = 0 ∧ lifeCycle s = 1 :=
  ⟨{ mgmtAsk with session := 0 }, 5, setSec (fun x => { x with lcA := 1, lcB := 1 }) mgmtUpState, by decide⟩

theorem witness_deviceManagement_5 : ∃ (q : MgmtReq) (x : MgmtSess) (s : State), MgmtReady s q x rCredential ∧ lifeCycle s = 2 ∧ s.sec.decommission = none ∧ tenPending s = false :=
  ⟨mgmtAsk, mgmtSess, deployed, by unfold MgmtReady; decide⟩

theorem witness_deviceManagement_6 : ∃ (y : Yoke) (s : State), mgmtUp s = true :=
  ⟨.yw, deployed, by decide⟩

theorem witness_debugCommands_1 : ∃ (q : MgmtReq) (x : MgmtSess) (s : State), MgmtReady s q x rDebug :=
  ⟨mgmtAsk, mgmtSess, deployed, by unfold MgmtReady; decide⟩

theorem witness_debugCommands_2 : ∃ (q : MgmtReq) (x : MgmtSess) (t : Option Consent) (s : State), MgmtReady s q x rDebug ∧ lifeCycle s = 2 ∧ s.sec.tenancy = .unassigned :=
  ⟨mgmtAsk, mgmtSess, none, deployed, by unfold MgmtReady; decide⟩

theorem witness_debugCommands_3 : ∃ (q : MgmtReq) (x : MgmtSess) (c : Consent) (s : State), MgmtReady s q x rDebug ∧ lifeCycle s = 2 ∧ s.sec.tenancy ≠ .unassigned :=
  ⟨mgmtAsk, mgmtSess, { device := 0, epoch := 0, scope := 1, notAfter := 5, challenge := 0, cred := 1, digest := 0, verifies := true }, tenIn .bound, by unfold MgmtReady; decide⟩

theorem witness_debugCommands_4 : ∃ (s : State), mgmtUp s = true ∧ s.sec.debugScopes ≠ 0 ∧ s.sec.debugUntil ≤ ktb s :=
  ⟨setSec (fun x => { x with debugScopes := 1, debugUntil := 5 }) deployed, by decide⟩

theorem witness_debugCommands_5 : ∃ (q : MgmtReq) (x : MgmtSess) (die chain : Nat) (d : Die) (s : State), MgmtReady s q x rDebug ∧ Die.ofCode die = some d :=
  ⟨mgmtAsk, mgmtSess, 4, 0, .acre .a0, deployed, by unfold MgmtReady; decide⟩

theorem witness_epochCommands_1 : ∃ (sq cid e at_ : Nat) (full : Bool) (remote : Option (Nat × Nat × Nat)) (s : State), Served s sq ∧ sq ≠ 0 ∧ (s.ckp.yokes.get s.ckp.primary).issuing = true :=
  ⟨1, 7, 5, 0, false, none, sessIn .idleWait, by unfold Served; decide⟩

theorem witness_epochCommands_2 : ∃ (a : Acre) (e : Epoch) (s : State), planesRun s = true ∧ s.ckp.epoch = some e ∧ (s.ckp.epochSt = .pending ∨ s.ckp.epochSt = .open_) ∧ (e.shards.get a).marked = false ∧ e.at_ ≤ ktbOf s (.acre a) :=
  ⟨.a0, epoch0 .empty, epochUp .pending .empty, by decide⟩

theorem witness_epochCommands_3 : ∃ (obj : Nat) (c : CapObj) (s : State), planesRun s = true ∧ capOf s obj = some c ∧ c.gone = false ∧ c.copied = false ∧ c.lost = false :=
  ⟨3, cap0, epochUp .open_ shard0, by decide⟩

theorem witness_epochCommands_4 : ∃ (a : Acre) (e : Epoch) (u s : State), planesRun s = true ∧ s.ckp.epoch = some e ∧ s.ckp.epochSt = .open_ ∧ (e.shards.get a).marked = true ∧ (e.shards.get a).captured = false ∧ sweepShard a e s = u :=
  ⟨.a0, epoch0 shard0, sweepShard .a0 (epoch0 shard0) (epochUp .open_ shard0), epochUp .open_ shard0, by decide, by decide, by decide, by decide, by decide, rfl⟩

theorem witness_epochCommands_5 : ∃ (a : Acre) (obj : Option Nat) (e : Epoch) (st r : Status) (s : State), planesRun s = true ∧ s.ckp.epoch = some e ∧ epochRuns s = true ∧ (e.shards.get a).captured = true ∧ drainEnd s a e obj st = some r :=
  ⟨.a0, none, epoch0 { shard0 with captured := true }, .ok, .ok, epochUp .captured { shard0 with captured := true }, by decide⟩

theorem witness_epochCommands_6 : ∃ (e : Epoch) (st : Status) (s : State), planesRun s = true ∧ s.ckp.epoch = some e ∧ epochRuns s = true :=
  ⟨epoch0 { shard0 with captured := true, metaDone := true, objs := [] }, .ok, epochUp .captured { shard0 with captured := true, metaDone := true, objs := [] }, by decide⟩

theorem witness_epochCommands_7 : ∃ (sq cid handle : Nat) (auto : Bool) (st : SState) (u s : State), SessionReady s sq handle u st ∧ (s.ckp.yokes.get s.ckp.primary).issuing = true :=
  ⟨1, 7, 0x400003, true, .idleWait, sessIn .idleWait, sessIn .idleWait, by unfold SessionReady Served; decide⟩

theorem witness_epochCommands_8 : ∃ (sq cid e : Nat) (s : State), Served s sq ∧ sq ≠ 0 ∧ (s.ckp.yokes.get s.ckp.primary).issuing = true ∧ s.sec.tenancy = .bound :=
  ⟨1, 7, 1, sessIn .idleWait, by unfold Served; decide⟩

theorem witness_restoreAndFenceCommands_1 : ∃ (sq cid handle tier : Nat) (src : RestoreSrc) (keepLog : Bool) (target : Option Nat) (st : SState) (u s : State), SessionReady s sq handle u st ∧ (s.ckp.yokes.get s.ckp.primary).issuing = true ∧ s.sec.tenancy = .bound :=
  ⟨1, 7, 0x400003, 1, .own 1 3 true true, false, none, .fenced, sessIn .fenced, sessIn .fenced, by unfold SessionReady Served; decide⟩

theorem witness_restoreAndFenceCommands_2 : ∃ (sq cid e : Nat) (m : Manifest) (ms : List Manifest) (what : ObjSet) (s : State), Served s sq ∧ sq ≠ 0 ∧ (s.ckp.yokes.get s.ckp.primary).issuing = true ∧ s.sec.tenancy = .bound ∧ chainFrom s.ckp.manifests (s.ckp.manifests.length + 1) e = m :: ms ∧ manifestGood s m e true = true :=
  ⟨1, 7, 1, manifestOf (sessIn .idleWait) { epoch0 .empty with e := 1 }, [], .sync .a0, manifestUp, by unfold Served; decide⟩

theorem witness_restoreAndFenceCommands_3 : ∃ (sq cid handle route : Nat) (locs : List Nat) (outcome : Status) (items : List ImportIn) (st : SState) (u s : State), SessionReady s sq handle u st ∧ (s.ckp.yokes.get s.ckp.primary).issuing = true :=
  ⟨1, 7, 0x400003, 0, [], .ok, [], .dormant, sessIn .dormant, sessIn .dormant, by unfold SessionReady Served; decide⟩

theorem witness_restoreAndFenceCommands_4 : ∃ (slot : Nat) (s : State), planesRun s = true ∧ s.ckp.restoring.any (fun r => r.slot = slot) = true :=
  ⟨3, setCkp (fun c => { c with restoring := [⟨3, [5]⟩] }) (sessIn .idleWait), by decide⟩

theorem witness_restoreAndFenceCommands_5 : ∃ (die kind n : Nat) (hit : List Nat) (d : Die) (s : State), planesRun s = true ∧ Die.ofCode die = some d :=
  ⟨4, 0, 5, [], .acre .a0, up, by decide⟩

theorem witness_primacyCommands_1 : ∃ (reached : List Nat) (s : State), planesRun s = true ∧ (s.ckp.yokes.get s.ckp.primary).issuing = true ∧ (s.ckp.yokes.get s.ckp.primary).renewAt + leaseNs s / 4 ≤ yokeNow s s.ckp.primary :=
  ⟨[0, 1, 2, 3], up, by decide⟩

theorem witness_primacyCommands_2 : ∃ (a : Acre) (l : Lease) (s : State), planesRun s = true ∧ s.ckp.leases.get a = some l ∧ l.expiry ≤ ktbOf s (.acre a) :=
  ⟨.a0, ⟨.yw, 5⟩, setCkp (fun c => { c with leases := c.leases.set .a0 (some ⟨.yw, 5⟩) }) up, by decide⟩

theorem witness_primacyCommands_3 : ∃ (y : Yoke) (p : Nat) (u s : State), planesRun s = true ∧ modYoke y (fun x => { x with heardAt := yokeNow s y, partnerUp := true, claim := x.claim.filter (fun c => !c.votes.isEmpty) }) s = u :=
  ⟨.yw, 2, modYoke .yw (fun x => { x with heardAt := yokeNow up .yw, partnerUp := true, claim := x.claim.filter (fun c => !c.votes.isEmpty) }) up, up, by decide, rfl⟩

theorem witness_primacyCommands_4 : ∃ (y : Yoke) (s : State), planesRun s = true ∧ (s.ckp.yokes.get y).beatAt + 10000 ≤ yokeNow s y ∧ (s.ckp.yokes.get y).heardAt + partnerNs s ≤ yokeNow s y :=
  ⟨.ye, up, by decide⟩

theorem witness_primacyCommands_5 : ∃ (y : Yoke) (c : Claim) (s : State), planesRun s = true ∧ (s.ckp.yokes.get y).claim = some c :=
  ⟨.ye, ⟨2, [.a0, .a1, .a2], 5⟩, claimUp, by decide⟩

theorem witness_primacyCommands_6 : ∃ (a : Acre) (y : Yoke) (c : Claim) (s : State), planesRun s = true ∧ (s.ckp.yokes.get y).claim = some c :=
  ⟨.a3, .ye, ⟨2, [.a0, .a1, .a2], 5⟩, claimUp, by decide⟩

theorem witness_primacyCommands_7 : ∃ (y : Yoke) (s : State), planesRun s = true ∧ (s.ckp.primary ≠ y ∨ (s.ckp.yokes.get y).winAt + leaseNs s ≤ yokeNow s y + 10000) :=
  ⟨.ye, up, by decide⟩

theorem witness_migrationCommands_1 : ∃ (sq cid handle device tier conn : Nat) (target : Option Nat) (st : SState) (u s : State), SessionReady s sq handle u st ∧ (st = .toolWait ∨ st = .idleWait ∨ st = .dormant) :=
  ⟨1, 7, 0x400003, 5, 1, 1, none, .idleWait, sessIn .idleWait, sessIn .idleWait, by unfold SessionReady Served; decide⟩

theorem witness_migrationCommands_2 : ∃ (conn : Nat) (h : MigHdr) (o : OfferIn) (s : State), planesRun s = true ∧ h.dst = s.sec.deviceId ∧ holdsOffer s h = false :=
  ⟨1, { migHdr0 with src := 5, dst := 0 }, offer0, sessIn .idleWait, by decide⟩

theorem witness_migrationCommands_3 : ∃ (h : MigHdr) (places : List MigPlace) (code slot : Nat) (m : Migration) (s : State), planesRun s = true ∧ findMig s true h = some (slot, m) :=
  ⟨migHdr0, [], 1, 3, migSource .offered, migUp (migSource .offered), by decide +kernel⟩

theorem witness_migrationCommands_4 : ∃ (h : MigHdr) (x : HandIn) (slot : Nat) (m : Migration) (s : State), planesRun s = true ∧ findMig s true h = none ∧ findMig s false h = some (slot, m) :=
  ⟨{ migHdr0 with src := 5, dst := 0 }, hand0, 3, { migSource .confirmed with source := false }, migUp { migSource .confirmed with source := false }, by decide +kernel⟩

theorem witness_migrationCommands_5 : ∃ (slot : Nat) (m m' : Migration) (s : State), planesRun s = true ∧ migOf s slot = some m ∧ m.source = true ∧ m.st = .sending ∧ (desc s slot).state = .migrating ∧ migOf (migTakeEnds slot m s) slot = some m' :=
  ⟨3, migSource .sending, migSource .sending, migUp (migSource .sending), by decide +kernel⟩

theorem witness_migrationCommands_6 : ∃ (conn slot : Nat) (h : MigHdr) (m : Migration) (s : State), planesRun s = true :=
  ⟨1, 3, migHdr0, migSource .handover, migUp (migSource .handover), by decide⟩

theorem witness_migrationCommands_7 : ∃ (sq cid handle : Nat) (activate : Bool) (m : Migration) (s : State), Served s sq ∧ sq ≠ 0 ∧ (s.ckp.yokes.get s.ckp.primary).issuing = true ∧ handleCheck s handle = none ∧ migOf s (slotOf handle) = some m :=
  ⟨1, 7, 0x400003, false, migSource .handover, migUp (migSource .handover), by unfold Served; decide +kernel⟩

theorem witness_observationCommands_1 : ∃ (die : Nat) (d : Die) (s : State), planesRun s = true ∧ Die.ofCode die = some d :=
  ⟨4, .acre .a0, up, by decide⟩

theorem witness_observationCommands_2 : ∃ (usage : List (Nat × Nat × Nat)) (s : State), planesRun s = true ∧ s.obs.energyAt / 10000 < ktb s / 10000 :=
  ⟨[], up, by decide⟩

theorem witness_observationCommands_3 : ∃ (n : Nat) (s : State), planesRun s = true :=
  ⟨0, up, by decide⟩

theorem witness_observationCommands_4 : ∃ (die kind n : Nat) (d : Die) (s : State), planesRun s = true ∧ Die.ofCode die = some d ∧ stallTrigger s d kind n = true :=
  ⟨4, 2, 1, .acre .a0, stallUp, by decide⟩

theorem witness_observationCommands_5 : ∃ (s : State), planesRun s = true ∧ Acre.all.any (fun a => liveF s .OBS_TRACE_TRIG (.acre a) 0 11 11 = 1) = true :=
  ⟨setLive .OBS_TRACE_TRIG (.acre .a0) 0 0x800 up, by decide⟩

theorem witness_observationCommands_6 : ∃ (y : Yoke) (t v : Nat) (s : State), planesRun s = true :=
  ⟨.yw, 256, 5, up, by decide⟩

theorem witness_observationCommands_7 : ∃ (src : Nat) (s : State), src < 3 ∧ s.obs.halted = false ∧ s.power.pwrgood = true :=
  ⟨0, up, by decide⟩

theorem witness_startAndResetCommands_1 : ∃ (pref sel : Bool) (s : State), s.power.pwrgood = false :=
  ⟨false, true, State.reset, by decide⟩

theorem witness_startAndResetCommands_2 : ∃ (pw pe ew ee torn : Bool) (fw fe ms : Nat) (s : State), s.power.pwrgood = true ∧ s.power.stage = .s0 :=
  ⟨true, true, true, true, false, 0, 0, 5, inStage .s0, by decide⟩

theorem witness_startAndResetCommands_3 : ∃ (ok0 ok1 : Bool) (links : List Nat) (lost : Option Yoke) (ms n : Nat) (i : FwImage) (s : State), s.power.pwrgood = true ∧ s.power.stage = .s1 ∧ s.power.failCode = 0 :=
  ⟨true, true, [], none, 5, 0, image0, inStage .s1, by decide⟩

theorem witness_startAndResetCommands_4 : ∃ (failed : List (Nat × Nat × Nat)) (offline : List Nat) (deviceId ms : Nat) (config : List (Nat × Word)) (s : State), planesRun s = true ∧ s.power.stage = .s2 ∧ s.power.failCode = 0 :=
  ⟨[], [], 5, 5, [], inStage .s2, by decide⟩

theorem witness_startAndResetCommands_5 : ∃ (y : Yoke) (s : State), planesRun s = true :=
  ⟨.yw, inStage .s3, by decide⟩

theorem witness_powerAndTapCommands_1 : ∃ (s : State), armed s = true :=
  ⟨up, by decide⟩

theorem witness_powerAndTapCommands_2 : ∃ (mv dA rail die tj : Nat) (d : Die) (s : State), armed s = true ∧ 1 ≤ rail ∧ rail ≤ 7 ∧ Die.ofCode die = some d :=
  ⟨800, 100, 1, 4, 70, .acre .a0, up, by decide⟩

theorem witness_powerAndTapCommands_3 : ∃ (y : Yoke) (die chain : Nat) (d : Die) (s : State), s.power.pwrgood = true ∧ Die.ofCode die = some d :=
  ⟨.yw, 4, 0, .acre .a0, up, by decide⟩

theorem witness_fallowCommands_1 : ∃ (s : State), planesRun s = true :=
  ⟨up, by decide⟩

theorem witness_fallowCommands_2 : ∃ (nb round : Nat) (s : State), planesRun s = true ∧ (neighboursOf s).contains nb = true :=
  ⟨0, 1, setLive .PWR_FALLOW_NB_CFG (.yoke .yw) 0 0x40000000000 up, by decide⟩

theorem witness_fallowCommands_3 : ∃ (t : State) (s : State), planesRun s = true ∧ s.power.fallow.mode = .preparing ∧ s.power.fallow.quiesced = false ∧ chestClean s = some t :=
  ⟨fallowIn .preparing, fallowIn .preparing, by decide⟩

theorem witness_fallowCommands_4 : ∃ (t : Nat) (s : State), planesRun s = true ∧ s.power.fallow.mode = .fallow :=
  ⟨5, fallowIn .fallow, by decide⟩

theorem witness_fallowCommands_5 : ∃ (s : State), planesRun s = true ∧ s.power.fallow.mode = .waking :=
  ⟨fallowIn .waking, by decide⟩

theorem witness_stepRunsFront_1 : ∃ (c : Instr) (rest : List Instr) (s : State), s.pending = c :: rest :=
  ⟨.ppsOutPulse, [], { State.reset with pending := [.ppsOutPulse] }, rfl⟩

theorem witness_stepRunsFront_2 : ∃ s : State, s.pending = [] := ⟨State.reset, rfl⟩

theorem witness_planesStandStill_1 : ∃ u s t : State, StandsStill u s ∧ step s = .next t :=
  ⟨State.reset, State.reset, State.reset, ⟨by decide, by simp [State.reset], [], State.reset.time, 0, rfl⟩, rfl⟩

theorem witness_unpoweredKeepsState_1 : ∃ u s t : State, Unpowered u s ∧ step s = .next t :=
  ⟨State.reset, State.reset, State.reset, ⟨rfl, by simp [State.reset], false, [], State.reset.time, State.reset.regs, 0, rfl⟩, rfl⟩

theorem witness_furrowArithmetic_1 : ∃ a b : F32, isNaN a = true ∨ isNaN b = true := ⟨0x7FC00000, 0, by decide⟩

theorem witness_furrowArithmetic_2 : ∃ a b : F32, isNaN a = false ∧ isNaN b = false := ⟨0x3F800000, 0xFF800000, by decide⟩

theorem witness_furrowArithmetic_3 : ∃ (a b : F32) (p q : Bool) (m n : Nat) (e f : Int), val32 a = .fin p m e ∧ val32 b = .fin q n f :=
  ⟨0x3F800000, 0x80000001, false, true, 2 ^ 23, 1, -23, -149, by decide⟩

theorem witness_furrowArithmetic_4 : ∃ (xs : List F32) (k : Nat), 2 ^ k < xs.length ∧ xs.length ≤ 2 ^ (k + 1) ∧ k < 32 := ⟨[0, 0, 0], 1, by decide⟩

theorem witness_mergeRule_1 : ∃ a b : F32, isFin a = true ∧ isFin b = true := ⟨0x3F800000, 0xC0000000, by decide⟩

theorem witness_mergeRule_2 : ∃ (fmt dv : Nat) (ps : List (Option (F32 × OpRow))) (p : Partial), sheafPartial fmt dv ps = some p :=
  ⟨0, 0, [some (0, ⟨[], []⟩)], _, rfl⟩

theorem witness_mergeRule_3 : ∃ ps : List (Option (F32 × OpRow)), ps ≠ [] ∧ ∀ x ∈ ps, ∀ y, x = some y → y.1 = fEmpty :=
  ⟨[none, some (fEmpty, ⟨[], []⟩)], by simp⟩

theorem witness_mergeRule_4 : ∃ a b c : Partial, a.m ≠ fEmpty ∧ b.m ≠ fEmpty ∧ mergePartial (some a) (some b) = some c :=
  ⟨⟨0, 0, []⟩, ⟨0, 0, []⟩, _, by decide, by decide, rfl⟩

theorem witness_energyShares_1 : ∃ (e floor : Nat) (ws : NMap Nat), e < floor := ⟨1, 2, [(0, 1)], by decide⟩

theorem witness_energyShares_2 : ∃ (e floor : Nat) (ws : NMap Nat), floor ≤ e ∧ (ws.map Prod.snd).sum ≠ 0 := ⟨5, 2, [(0, 1)], by decide⟩

theorem witness_handleChecks_1 : ∃ (s : State) (h : Nat), s.sec.tenancy ≠ .bound ∨ (desc s (slotOf h)).tenancyEpoch ≠ s.sec.epoch := ⟨State.reset, 0, by decide⟩

theorem witness_handleChecks_2 : ∃ (s : State) (h : Nat), s.sec.tenancy = .bound ∧ (desc s (slotOf h)).tenancyEpoch = s.sec.epoch ∧ genOf h ≠ (desc s (slotOf h)).gen :=
  ⟨sessIn .decode, 0x800003, by decide⟩

theorem witness_handleChecks_3 : ∃ (s : State) (h : Nat), s.sec.tenancy = .bound ∧ (desc s (slotOf h)).tenancyEpoch = s.sec.epoch ∧ genOf h = (desc s (slotOf h)).gen ∧
    ((desc s (slotOf h)).state = .free ∨ (desc s (slotOf h)).state = .retiring) := ⟨sessIn .retiring, 0x400003, by decide⟩

theorem witness_handleChecks_4 : ∃ (s : State) (h : Nat), s.sec.tenancy = .bound ∧ (desc s (slotOf h)).tenancyEpoch = s.sec.epoch ∧ genOf h = (desc s (slotOf h)).gen ∧
    (desc s (slotOf h)).state ≠ .free ∧ (desc s (slotOf h)).state ≠ .retiring := ⟨sessIn .decode, 0x400003, by decide⟩

theorem witness_handleChecks_5 : ∃ (i : Instr) (sq cid h : Nat) (st : Status) (s : State), namesSession i = some (sq, cid, h) ∧ Served s sq ∧ sq ≠ 0 ∧ handleCheck s h = some st :=
  ⟨.park 1 7 0x800003, 1, 7, 0x800003, .staleGen, sessIn .decode, by unfold Served; decide⟩

theorem witness_frameControl_1 : ∃ (i : Instr) (p : Part) (s t : State), partOf i = some p ∧ (p = .control ∨ p = .observation ∨ p = .recovery) ∧ exec i s = .next t :=
  ⟨.hostPortSelect none, .control, State.reset, _, rfl, .inl rfl, rfl⟩

theorem witness_frameUnits_1 : ∃ (i : Instr) (p : Part) (s t : State), partOf i = some p ∧ (p = .bureau ∨ p = .store ∨ p = .tine ∨ p = .queue ∨ p = .transport) ∧ exec i s = .next t :=
  ⟨.ppsOutPulse, .transport, State.reset, _, rfl, by simp, rfl⟩

theorem witness_frameScalar_1 : ∃ (i : Instr) (k : Nat) (rd : BitVec 6) (c : TineCtx) (s t : State), scalarDest i = some (k, rd) ∧ exec i s = .next t ∧
    NMap.get? s.tin.tines k = some c := ⟨.stD 256 1 2 0, 256, 0, _, tineUp, _, rfl, rfl, rfl⟩

/-! ## Ill-formed commands: one for each check -/

def ack0 : KAck :=
  { tc := 4, dconn := 1, cgen := 0, frontier := 0, nak := none, ceCount := 0, tsEcho := 0, ackDelay := 0, sep := 9, sack := 0 }

def connReq0 : ConnReq :=
  { sep := 9, minVer := 1, maxVer := 1, tc := 4, entropy := 1, sconn := 3, scgen := 0, rwin := 64, domain := 0, reqId := 5 }

def connRsp0 : ConnRsp := { sep := 9, status := .ok, ver := 1, tc := 4, entropy := 1, rconn := 3, rcgen := 0, rwin := 64, reqId := 5 }

def beat0 : Beat := { domain := 0, liveGen := 0, fpValid := false, leaving := false, fallow := false, role := 0, fp := 0, commitAt := 0, ktb := 0 }

def khdr0 : KHdr := khdr 0 0 4

theorem test_wellFormed : (khdr0.fits && ack0.fits && connReq0.fits && connRsp0.fits && beat0.fits && migHdr0.fits && mgmtAsk.fits &&
    (Instr.park 1 7 0x400003).WellFormed && (Instr.kltWrite khdr0 [0, 0, 0, 0]).WellFormed) = true := by decide

theorem test_illFormed_header : [{ khdr0 with ver := 256 }, { khdr0 with opc := 256 }, { khdr0 with tc := 8 }, { khdr0 with dconn := 2 ^ 24 },
    { khdr0 with cgen := 256 }, { khdr0 with psn := 2 ^ 32 }, { khdr0 with msn := 2 ^ 32 }, { khdr0 with addr := 2 ^ 64 },
    { khdr0 with key := 2 ^ 32 }, { khdr0 with plen := 4113 }, { khdr0 with sep := 2 ^ 15 }, { khdr0 with tsTx := 2 ^ 32 },
    { khdr0 with moff := 2 ^ 32 }, { khdr0 with mlen := 2 ^ 32 }].any KHdr.fits = false := by decide

theorem test_illFormed_ack : [{ ack0 with tc := 8 }, { ack0 with dconn := 2 ^ 24 }, { ack0 with cgen := 256 }, { ack0 with frontier := 2 ^ 32 },
    { ack0 with nak := some (2 ^ 32, 0) }, { ack0 with nak := some (0, 256) }, { ack0 with ceCount := 2 ^ 24 }, { ack0 with tsEcho := 2 ^ 32 },
    { ack0 with ackDelay := 2 ^ 32 }, { ack0 with sep := 2 ^ 15 }, { ack0 with sack := 2 ^ 256 }].any KAck.fits = false := by decide

theorem test_illFormed_connect : ([{ connReq0 with sep := 2 ^ 15 }, { connReq0 with minVer := 256 }, { connReq0 with maxVer := 256 },
    { connReq0 with tc := 256 }, { connReq0 with entropy := 0 }, { connReq0 with entropy := 257 }, { connReq0 with sconn := 2 ^ 24 },
    { connReq0 with scgen := 256 }, { connReq0 with rwin := 2 ^ 16 }, { connReq0 with domain := 2 ^ 16 },
    { connReq0 with reqId := 2 ^ 64 }].any ConnReq.fits ||
    [{ connRsp0 with sep := 2 ^ 15 }, { connRsp0 with ver := 256 }, { connRsp0 with tc := 256 }, { connRsp0 with entropy := 0 },
    { connRsp0 with rconn := 2 ^ 24 }, { connRsp0 with rcgen := 256 }, { connRsp0 with rwin := 2 ^ 16 },
    { connRsp0 with reqId := 2 ^ 64 }].any ConnRsp.fits) = false := by decide

theorem test_illFormed_messages : ([{ beat0 with domain := 2 ^ 16 }, { beat0 with liveGen := 2 ^ 16 }, { beat0 with role := 256 },
    { beat0 with commitAt := 2 ^ 64 }, { beat0 with ktb := 2 ^ 64 }].any Beat.fits ||
    [{ migHdr0 with migId := 2 ^ 32 }, { migHdr0 with seq := 2 ^ 32 }, { migHdr0 with src := 2 ^ 16 }, { migHdr0 with dst := 2 ^ 16 },
    { migHdr0 with srcHandle := 2 ^ 32 }, { migHdr0 with dstHandle := 2 ^ 32 }].any MigHdr.fits ||
    [{ mgmtAsk with session := 2 ^ 32 }, { mgmtAsk with seq := 2 ^ 64 }, { mgmtAsk with reqId := 2 ^ 32 }].any MgmtReq.fits ||
    [Requester.sysTine 255, .sysTine 288].any Requester.fits ||
    [DirTarget.session (2 ^ 32), .stack (2 ^ 32) 0, .stack 0 (2 ^ 24), .prefixOf 4096, .searchList (2 ^ 16) 0,
      .searchList 0 (2 ^ 16)].any DirTarget.fits) = false := by decide

theorem test_illFormed_sessions : [Instr.park 256 0 0, .park 1 (2 ^ 16) 0, .park 1 0 (2 ^ 32), .retireComplete (2 ^ 22),
    .wakeSet 1 0 0 256 0, .wakeSet 1 0 0 0 (2 ^ 64), .queuedWakeAdmit 4096, .descRead 1 0 0 (2 ^ 32), .profileUnbind 1 0 (2 ^ 16),
    .writeBackRound 0x2000000, .stackFetchForAppend 3 (2 ^ 24), .setPolicy 1 0 0 256 0 0, .setPolicy 1 0 0 1 (2 ^ 32) 0, .setPolicy 1 0 0 1 0 256,
    .prefixCreate 1 0 0 (2 ^ 32) 0, .prefixRetire 1 0 4096, .borrowEmpty 64, .trim 1 0 0 (2 ^ 32), .setFloor 1 0 0 (2 ^ 32),
    .abort 1 0 256 0, .abort 1 0 1 (2 ^ 16), .deadlineSet 1 0 0 (2 ^ 32) 1 0, .deadlineSet 1 0 0 1 256 0,
    .deadlineSet 1 0 0 1 1 (2 ^ 64)].any Instr.WellFormed = false := by decide

theorem test_illFormed_engines : [Instr.registerWrite (.sysTine 0) 0 0, .divergenceGraceExpiry (2 ^ 13), .pwrSpeedSample 16 0 0,
    .pwrSpeedSample 0 1024 0, .pwrSpeedSample 0 0 64, .linkFence 9, .harrowDeallocate 4 0, .harrowDeallocate 0 (2 ^ 20),
    .arqErrorClear 256, .preemptSaveDone 48, .tkqErrorClear 256, .srqErrorClear 64, .gleanerSwitch 16, .compactionSwitch 4096,
    .imageUnload 1 0 (2 ^ 16), .handlerBudgetExpire 288, .ktb 288 1 0 0, .waitTimeout (2 ^ 16) 0 0, .traceFlush 4, .haltWave 16,
    .obsMark .yw (.sysTine 300) 0, .scanout .yw 16 0, .scanout .yw 0 (2 ^ 32), .traceStallTrigger 0 256 0].any Instr.WellFormed = false := by
  decide

theorem test_illFormed_transport : [Instr.kltWrite khdr0 [0], .frameWrite khdr0 [] [], .close (2 ^ 24) 0 0, .close 0 256 0, .close 0 0 (2 ^ 15),
    .heartbeat (2 ^ 15) beat0, .lossDetect (2 ^ 18) 0, .lossDetect 0 (2 ^ 32), .pwqErrorClear 1024, .egressSelect 8,
    .cqHeadDoorbell 256 0, .cqHeadDoorbell 0 (2 ^ 32), .streamRingDoorbell 4096 0, .streamRingDoorbell 0 (2 ^ 64), .eventRingDoorbell 256 0,
    .sqTailDoorbell 1 (2 ^ 32) [], .sqTailDoorbell 1 1 [[0]], .suspectHoldExpiry 0 8 0, .suspectHoldExpiry 0 0 256].any
    Instr.WellFormed = false := by decide

theorem test_illFormed_control : [Instr.hello .yw 256 0 0, .hello .yw 0 256 0, .hello .yw 0 0 256, .auth .yw (2 ^ 32) true,
    .getInfo { mgmtAsk with reqId := 2 ^ 32 }, .getChain mgmtAsk 256 0 false, .reset mgmtAsk 256 .yw, .credAdd mgmtAsk 0 64,
    .credRemove mgmtAsk 16, .scanOut mgmtAsk 16 0, .scanOut mgmtAsk 0 (2 ^ 32), .yokeHeartbeat .yw (2 ^ 32),
    .migrationFreeze (2 ^ 22), .migOutcome migHdr0 256, .migRefuse migHdr0 256, .railPoll 8 none, .thermalSample 16 0, .thermalSample 0 256,
    .propose 32 0, .propose 0 (2 ^ 32)].any Instr.WellFormed = false := by decide

/-! ## Values the spec gives -/

/-- The worked example of R63: GEN 1 in slot 0x10_0001, whose home is A1. -/
theorem test_handle : slotOf 0x00500001 = 0x00100001 ∧ genOf 0x00500001 = 1 ∧ homeAcre 0x00100001 = .a1 := by decide

/-- The worked example of the KSI encodings: beqz, dld.w and addi. -/
theorem test_encodings : encI 0x0D 32 0 15 = 0x1B00000F ∧ encI 0x1E 7 6 12 = 0x3C38C00C ∧ encI 0x02 32 4 1 = 0x05008001 := by decide

/-- The worked example of R504: 900 J, 300 J of floor, 351 J and 65.75 J of weights. -/
theorem test_energy : apportion 900000000 300000000 [(0, 35100), (1, 6575)] = [(0, 505338932), (1, 94661067), (4096, 300000001)] := by decide

/-- The worked example of the Chest layout: 512 frames a drive, three tag blocks, pieces of 515 blocks. -/
theorem test_piece : pieceFrames 2048 32 4 0 = 512 ∧ tagBlocks 512 = 3 ∧ pieceBlocks 2048 32 4 0 = 515 := by decide

/-- The exponential of 0 is 1, and the table's values of R208. -/
theorem test_exp : exp32 0 = 0x3F800000 ∧ expTable.getD 0 0 = 0x3F800000 ∧ expTable.getD 32 0 = 0x3FB504F3 := by decide

/-- The register of Tine 256 after a command on `tineUp`. -/
def after (i : Instr) (r : BitVec 6) : Option Word :=
  match exec i tineUp with
  | .next t => (NMap.get? t.tin.tines 256).map (fun c => tineReg c r)
  | _ => none

/-- R325, R326: 7 − 7, 7 ÷ 0, 0 − 1 wraps, register 0 stays 0, the shift amount is modulo 64. -/
theorem test_sub : after (.sub 256 7 5 5) 7 = some 0 := by decide
theorem test_div_by_zero : after (.div 256 7 5 6) 7 = some (BitVec.allOnes 64) := by decide
theorem test_rem_by_zero : after (.rem 256 7 5 6) 7 = some 7 := by decide
theorem test_addi_wraps : after (.addi 256 7 6 (-1)) 7 = some (BitVec.allOnes 64) := by decide
theorem test_g0 : after (.addi 256 0 5 1) 0 = some 0 := by decide

/-- R63: a handle of another generation is stale, and one that names the session passes. -/
theorem test_bad_handle : handleCheck (sessIn .decode) 0x800003 = some .staleGen ∧ handleCheck (sessIn .decode) 0x400003 = none := by decide

end Sys2Proof.Tests
end

section
/-!
SUPPORT. Before the first power-on (R19, R430, R517): what a read of an empty table or of a value held alike on every die gives, which states meet
the premises of the invariants of standing still and of being unpowered on their own account, and what State.reset reads as.
-/
namespace Sys2Proof.NMap

variable {α : Type}

@[simp] theorem get?_nil (k : Nat) : get? ([] : NMap α) k = none := rfl

@[simp] theorem get_nil (d : α) (k : Nat) : get d [] k = d := rfl

end Sys2Proof.NMap

namespace Sys2Proof

variable {α : Type}

@[simp] theorem PerYoke.get_mk1 (v : α) (y : Yoke) : (PerYoke.mk1 v).get y = v := by
  cases y <;> rfl

@[simp] theorem PerAcre.get_mk1 (v : α) (a : Acre) : (PerAcre.mk1 v).get a = v := by
  cases a <;> rfl

@[simp] theorem PerDie.get_mk1 (v : α) (d : Die) : (PerDie.mk1 v).get d = v := by
  cases d with
  | yoke y => exact PerYoke.get_mk1 v y
  | acre a => exact PerAcre.get_mk1 v a

end Sys2Proof

namespace Sys2Proof.Machine

/-! ## Reads of a state -/

/-- A register that no entry lists reads as its reset value (R19). -/
theorem live_of_none_listed {s : State} (h : s.regs.live = []) (r : Reg) (d : Die) (i : Nat) : live s r d i = regReset r i := by
  simp [live, h]

/-- The line of a slot without a directory entry is at its home. -/
theorem desc_of_no_dir {s : State} (h : s.bur.dir = []) (slot : Nat) : desc s slot = homeDesc s slot := by
  simp [desc, dirOf, h, DirEntry.empty]

theorem homeDesc_of_none_home {s : State} (h : s.bur.home = []) (slot : Nat) : homeDesc s slot = Desc.freeOf 1 s.sec.epoch := by
  simp [homeDesc, h]

/-- Check 1 of R63 turns every handle away until a tenancy is BOUND. -/
theorem handleCheck_of_not_bound {s : State} (h : s.sec.tenancy ≠ .bound) (handle : Nat) : handleCheck s handle = some .tenant := by
  simp [handleCheck, h]

theorem planesRun_of_no_power {s : State} (h : s.power.pwrgood = false) : planesRun s = false := by
  simp [planesRun, h]

/-! ## Where the invariants begin -/

theorem standsStill_self {s : State} (hrun : planesRun s = false) (hidle : s.pending = []) : StandsStill s s :=
  ⟨hrun, by simp [hidle], s.pending, s.time, s.freeCtr, rfl⟩

theorem unpowered_self {s : State} (hpwr : s.power.pwrgood = false) (hidle : s.pending = []) : Unpowered s s :=
  ⟨hpwr, by simp [hidle], s.power.haltInLow, s.pending, s.time, s.regs, s.freeCtr, rfl⟩

/-! ## The reset state -/

@[simp] theorem reset_pending : State.reset.pending = [] := rfl

@[simp] theorem reset_pwrgood : State.reset.power.pwrgood = false := rfl

@[simp] theorem reset_tenancy : State.reset.sec.tenancy = .unassigned := rfl

theorem live_reset (r : Reg) (d : Die) (i : Nat) : live State.reset r d i = regReset r i :=
  live_of_none_listed rfl r d i

/-- Every slot is FREE, with GEN 1, at its home (R62). -/
theorem desc_reset (slot : Nat) : desc State.reset slot = Desc.freeOf 1 0 :=
  (desc_of_no_dir rfl slot).trans (homeDesc_of_none_home rfl slot)

theorem desc_reset_state (slot : Nat) : (desc State.reset slot).state = .free := by
  rw [desc_reset, Desc.freeOf]

theorem ktbOf_reset (d : Die) : ktbOf State.reset d = 0 := PerDie.get_mk1 0 d

/-- Settles O52: every table of the reset state is empty and every copy of a value the same, so each read gives the reset value; with no power and an
empty queue both invariants begin. -/
theorem resetState : Obligations.ResetState := by
  have unassigned : State.reset.sec.tenancy ≠ .bound := by simp
  have still : planesRun State.reset = false := planesRun_of_no_power reset_pwrgood
  exact ⟨reset_pending, rfl, reset_pwrgood, rfl, reset_tenancy, handleCheck_of_not_bound unassigned, live_reset, desc_reset_state,
    ktbOf_reset, standsStill_self still reset_pending, unpowered_self reset_pwrgood reset_pending⟩

end Sys2Proof.Machine
end

section
/-!
SUPPORT. The dies, planes and timing family (R30, R38, R44 to R59, R299, R329, R455): what each register, commit and timebase command answers
when nothing turns it away.
-/
namespace Sys2Proof.Machine

/-! ## Outcomes and steps -/

theorem ok_eq_next (s : State) : ok s = .next s := rfl

theorem okSettle_eq_next (s : State) : okSettle s = .next (settle s) := rfl

theorem step_of_pending_cons {s : State} {c : Instr} {rest : List Instr} (h : s.pending = c :: rest) :
    step s = exec c { s with pending := rest } := by
  rw [step, h]

theorem step_of_pending_nil {s : State} (h : s.pending = []) : step s = .next (tick s) := by
  rw [step, h]

/-- Settles O49, by the two cases of the queue. -/
theorem stepRunsFront : Obligations.StepRunsFront :=
  ⟨fun _ _ _ => step_of_pending_cons, fun _ => step_of_pending_nil⟩

/-! ## Register reads and writes (R47, R48, R329, R455) -/

theorem exec_registerWrite_up {r : Requester} {s : State} (hup : requesterUp r s = true) (addr : BitVec 40) (v : Word) :
    exec (.registerWrite r addr v) s =
      .next (settle (emit (.access (writeReg r addr.toNat v s).1 0) (writeReg r addr.toNat v s).2)) := by
  rw [exec_registerWrite, execRegisterWrite, if_pos hup]; rfl

/-- The handle check of rreg and wreg passes on an address of a register or of a hole of a block (R329). -/
theorem controlAddr_ok {a : Nat} (hlt : a < 2 ^ 40) (hname : addrName a ≠ .bad) : (decide (2 ^ 40 ≤ a) || addrName a == .bad) = false := by
  rw [decide_eq_false (Nat.not_le.mpr hlt), beq_eq_false_iff_ne.mpr hname, Bool.or_self]

section SystemHandler

variable {s : State} {t : Nat} {c : TineCtx} {rs1 : BitVec 6}

theorem exec_rreg_ready (hready : TineReady s t c 1) (hsys : c.system = true) (h1 : badReg rs1 = false)
    (hlt : (tineReg c rs1).toNat < 2 ^ 40) (hname : addrName (tineReg c rs1).toNat ≠ .bad) {rd : BitVec 6} (hd : badReg rd = false) :
    exec (.rreg t rd rs1 0) s = .next (tineWrite t 1 rd (readAccess (.sysTine t) (tineReg c rs1).toNat s).2.1 c
      (readAccess (.sysTine t) (tineReg c rs1).toNat s).2.2) := by
  rw [exec_rreg, execRreg, running_of hready.1, ok_eq_next, tineExec_ready hready _ _ _ _ (by simp [hd, h1]) (by simp)]
  simp only [hsys, controlAddr_ok hlt hname, Bool.not_true, Bool.false_eq_true, if_false]

theorem exec_wreg_ready (hready : TineReady s t c 1) (hsys : c.system = true) (h1 : badReg rs1 = false)
    (hlt : (tineReg c rs1).toNat < 2 ^ 40) (hname : addrName (tineReg c rs1).toNat ≠ .bad) {rs2 : BitVec 6} (h2 : badReg rs2 = false) :
    exec (.wreg t 0 rs1 rs2) s =
      .next (settle (writeReg (.sysTine t) (tineReg c rs1).toNat (tineReg c rs2) (putTine t { c with pc := c.pc + 4 } s)).2) := by
  rw [exec_wreg, execWreg, running_of hready.1, okSettle_eq_next, tineExec_ready hready _ _ _ _ (by simp [h1, h2]) (by simp)]
  simp only [hsys, controlAddr_ok hlt hname, Bool.not_true, Bool.false_eq_true, if_false]

end SystemHandler

theorem exec_regRead_ready {s : State} {q : MgmtReq} {x : MgmtSess} (h : MgmtReady s q x rObserve) (addr : BitVec 40) :
    exec (.regRead q addr) s = .next (mgmtReply q (readAccess (.mgmt q.port) addr.toNat (mgmtTake q x s)).1
      (.word (readAccess (.mgmt q.port) addr.toNat (mgmtTake q x s)).2.1) (readAccess (.mgmt q.port) addr.toNat (mgmtTake q x s)).2.2) := by
  rw [exec_regRead, execRegRead, mgmtCmd_ready h, ok_eq_next]

/-- The role of REG_WRITE is CONFIGURE; OBSERVE is enough for a selection register only, so CONFIGURE passes for every register. -/
theorem exec_regWrite_ready {s : State} {q : MgmtReq} {x : MgmtSess} (h : MgmtReady s q x rConfigure) {addr : BitVec 40} {r : Reg} {d : Die}
    (hname : addrName addr.toNat = .reg r d) (hmay : mgmtMayWrite addr.toNat = true) (v : Word) :
    exec (.regWrite q addr v) s = .next (mgmtReply q (writeReg (.mgmt q.port) addr.toNat v (mgmtTake q x s)).1 .none
      (writeReg (.mgmt q.port) addr.toNat v (mgmtTake q x s)).2) := by
  have hrole := h.mono (more := fun r => rConfigure r || (namesSel addr.toNat && rObserve r)) fun _ hr => by simp [hr]
  simp only [exec_regWrite, execRegWrite, mgmtCmd_ready hrole, ok_eq_next, hname, hmay, if_true]

/-- Settles O1: each clause is what the command answers to a requester that nothing turns away. -/
theorem registerAccessCommands : Obligations.RegisterAccessCommands :=
  ⟨fun _ addr v _ hup => exec_registerWrite_up hup addr v,
   fun _ _ _ _ _ _ hready hsys h1 hlt hname hd h2 =>
     ⟨exec_rreg_ready hready hsys h1 hlt hname hd, exec_wreg_ready hready hsys h1 hlt hname h2⟩,
   fun _ _ addr _ h => exec_regRead_ready h addr,
   fun _ _ _ v _ _ _ h hname hmay => exec_regWrite_ready h hname hmay v⟩

/-! ## Configuration commits (R49, R51, R52, R299, R524) -/

section Commit

variable {s : State} {r : Requester}

theorem exec_cfgCommit_up (hrun : planesRun s = true) (hup : requesterUp r s = true) (y : Yoke) (gen mask tag : Nat) (silent : List Nat) :
    exec (.cfgCommit y r gen mask tag silent) s = .next (settle (commitStart y (planeOf r) gen mask tag none silent none none s)) := by
  rw [exec_cfgCommit, execCfgCommit, running_of hrun, if_pos hup, okSettle_eq_next]

theorem exec_scheduledCommit_up (hrun : planesRun s = true) (hup : requesterUp r s = true) (y : Yoke) (gen mask tag : Nat)
    (silent : List Nat) :
    exec (.scheduledCommit y r gen mask tag silent) s = .next (commitStart y (planeOf r) gen mask tag
      (some (live s .CFG_COMMIT_AT (.yoke y)).toNat) silent none none s) := by
  rw [exec_scheduledCommit, execScheduledCommit, running_of hrun, if_pos hup, ok_eq_next]

theorem exec_commitCancel_up (hrun : planesRun s = true) (hup : requesterUp r s = true) (gen tag : Nat) :
    exec (.commitCancel r gen tag) s = .next (commitCancel (planeOf r) gen tag s).2 := by
  rw [exec_commitCancel, execCommitCancel, running_of hrun, if_pos hup, ok_eq_next]

end Commit

/-- With no die failed, the commit ends for the first die that is silent, 3 µs after PREPARE. -/
theorem commitTimeout_silent {s : State} {p : PendingCommit} {d : Die} {l : List Die} (hp : s.cfg.pendingC = some p)
    (hsilent : p.silent = d :: l) (hfailed : p.failed = none) (hlate : p.sentAt + 3000 ≤ ktb s) :
    commitTimeout s = commitEnd .timeout (setFailDie d s) := by
  have hdue : ¬ ktb s < p.sentAt + 3000 := Nat.not_lt.mpr hlate
  simp [commitTimeout, hp, hsilent, hfailed, hdue]

theorem exec_commitAnswerTimeout_silent {s : State} {p : PendingCommit} {d : Die} {l : List Die} (hrun : planesRun s = true)
    (hp : s.cfg.pendingC = some p) (hsilent : p.silent = d :: l) (hfailed : p.failed = none) (hlate : p.sentAt + 3000 ≤ ktb s) :
    exec .commitAnswerTimeout s = .next (commitEnd .timeout (setFailDie d s)) := by
  rw [exec_commitAnswerTimeout, execCommitAnswerTimeout, running_of hrun, commitTimeout_silent hp hsilent hfailed hlate, ok_eq_next]

theorem exec_commitApplyAt_due {s : State} {p : PendingCommit} (hrun : planesRun s = true) (hp : s.cfg.pendingC = some p)
    (hsched : p.scheduled = true) (hsilent : p.silent = []) (hfailed : p.failed = none) (hdue : p.applyAt ≤ ktb s) :
    exec .commitApplyAt s = .next (settle (commitEnd .ok (commitApply p.gen p.mask s))) := by
  rw [exec_commitApplyAt, execCommitApplyAt, running_of hrun]
  simp [hp, hsched, hsilent, hfailed, hdue, okSettle_eq_next]

section AdminQueue

variable {s : State} {sq : Nat}

theorem exec_configWrite_served (hs : Served s sq) (hadmin : sq = 0) (cid : Nat) {b : List Byte} {t : State} (hlen : configLenOk b = true)
    (hw : configWrites ((List.range (b.length / 16)).map (configEntry b)) 0 s = (none, t)) :
    exec (.configWrite sq cid b) s = .next (postCqe sq cid .ok 0 0 t) := by
  rw [exec_configWrite, execConfigWrite, running_of hs.1, hostCmd_served hs cid _ _ hadmin]
  simp [hlen, hw, ok_eq_next]

theorem exec_configRead_served (hs : Served s sq) (hadmin : sq = 0) (cid : Nat) {b bs : List Byte} {t : State} (hlen : configLenOk b = true)
    (hr : configReads (firmwareTine s) ((List.range (b.length / 16)).map (configEntry b)) 0 s = (bs, none, t)) :
    exec (.configRead sq cid b) s = .next (postCqe sq cid .ok 0 0 (emit (.hostData sq cid bs) t)) := by
  rw [exec_configRead, execConfigRead, running_of hs.1, hostCmd_served hs cid _ _ hadmin]
  simp [hlen, hr, ok_eq_next]

theorem exec_configCommit_served (hs : Served s sq) (hadmin : sq = 0) (hissue : (s.ckp.yokes.get s.ckp.primary).issuing = true)
    (cid gen mask tag : Nat) (silent : List Nat) :
    exec (.configCommit sq cid false gen mask 0 false tag silent) s = .next (settle (commitStart s.ckp.primary .control gen mask (tag % 256)
      none silent (some (sq, cid)) none s)) := by
  rw [exec_configCommit, execConfigCommit, running_of hs.1, primCmd_served hs cid _ hadmin hissue]
  rfl

end AdminQueue

section Management

variable {s : State} {q : MgmtReq} {x : MgmtSess}

theorem exec_mgmtConfigCommit_ready (h : MgmtReady s q x rConfigure) (hrun : planesRun s = true) (gen mask tag : Nat) (at_ : Option Nat)
    (silent : List Nat) :
    exec (.mgmtConfigCommit q gen mask at_ false tag silent) s = .next (tellScheduled (commitStart s.ckp.primary .management gen mask
      (tag % 256) at_ silent none (some q) (mgmtTake q x s))) := by
  rw [exec_mgmtConfigCommit, execMgmtConfigCommit, mgmtCmd_ready h]
  simp [hrun, ok_eq_next]

/-- The response leaves before the reset acts (log 150). -/
theorem exec_reset_system_ready (h : MgmtReady s q x rConfigure) (y : Yoke) :
    exec (.reset q 1 y) s = .next (systemReset .management (mgmtReply q .ok .none (mgmtTake q x s))) := by
  rw [exec_reset, execReset, mgmtCmd_ready h]
  rfl

theorem exec_reset_mgmt_ready (h : MgmtReady s q x rConfigure) (y : Yoke) :
    exec (.reset q 2 y) s = .next (mgmtReset y (mgmtReply q .ok .none (mgmtTake q x s))) := by
  rw [exec_reset, execReset, mgmtCmd_ready h]
  rfl

end Management

/-- Settles O2: each clause is what the command answers where its premises leave it one branch. -/
theorem commitCommands : Obligations.CommitCommands :=
  ⟨fun y _ gen mask tag silent _ hrun hup =>
     ⟨exec_cfgCommit_up hrun hup y gen mask tag silent, exec_scheduledCommit_up hrun hup y gen mask tag silent,
      exec_commitCancel_up hrun hup gen tag⟩,
   fun _ _ _ _ hrun hp hsilent hfailed hlate => exec_commitAnswerTimeout_silent hrun hp hsilent hfailed hlate,
   fun _ _ hrun hp hsched hsilent hfailed hdue => exec_commitApplyAt_due hrun hp hsched hsilent hfailed hdue,
   fun _ cid _ _ _ hs hadmin hlen hw => exec_configWrite_served hs hadmin cid hlen hw,
   fun _ cid _ _ _ _ hs hadmin hlen hr => exec_configRead_served hs hadmin cid hlen hr,
   fun _ cid gen mask tag silent _ hs hadmin hissue => exec_configCommit_served hs hadmin hissue cid gen mask tag silent,
   fun _ _ gen mask tag at_ silent _ h hrun => exec_mgmtConfigCommit_ready h hrun gen mask tag at_ silent,
   fun _ _ y _ h => ⟨exec_reset_system_ready h y, exec_reset_mgmt_ready h y⟩⟩

/-! ## The timebase, fingerprint, speed and link rows (R30, R38, R44 to R46, R56, R58, R59) -/

section Timebase

variable {s : State}

theorem exec_yokKtbFreqWrite_running (hrun : planesRun s = true) (y : Yoke) (v : Word) :
    exec (.yokKtbFreqWrite y v) s = .next (setLive .YOK_KTB_FREQ (.yoke y) 0
      (BitVec.ofNat 64 (twos 32 (max (-500000000) (min 500000000 (signedOf 32 (field v 31 0)))))) s) := by
  rw [exec_yokKtbFreqWrite, execYokKtbFreqWrite, running_of hrun, ok_eq_next, freqWrite, freqSat]

theorem exec_yokKtbSlewWrite_running (hrun : planesRun s = true) (y : Yoke) (v : Word) :
    exec (.yokKtbSlewWrite y v) s = .next (slewWrite y (signedOf 48 (field v 47 0)) s) := by
  rw [exec_yokKtbSlewWrite, execYokKtbSlewWrite, running_of hrun, ok_eq_next]

theorem exec_yokKtbStepWrite_running (hrun : planesRun s = true) (y : Yoke) (v : Word) :
    exec (.yokKtbStepWrite y v) s = .next (stepWrite y v s) := by
  rw [exec_yokKtbStepWrite, execYokKtbStepWrite, running_of hrun, ok_eq_next]

theorem exec_ppsInEdge_running (hktb : s.time.running = true) (y : Yoke) :
    exec (.ppsInEdge y) s =
      .next (setLive .YOK_PPS_IN_TS (.yoke y) 0 (BitVec.ofNat 64 (ktbOf s (.yoke y) + freeBelow 5 s - 2)) (drew s)) := by
  rw [exec_ppsInEdge, execPpsInEdge, if_pos hktb, ok_eq_next]

/-- From the first whole second on, the second that KTB lies in is not 0, so the ball rises once in it. -/
theorem exec_ppsOutPulse_crossed (hktb : s.time.running = true) (hsec : 1000000000 ≤ ktb s)
    (hnew : s.time.ppsRise ≠ some (ktb s / 1000000000 * 1000000000)) :
    exec .ppsOutPulse s = .next { s with time := { s.time with ppsRise := some (ktb s / 1000000000 * 1000000000) } } := by
  have hpos : ktb s / 1000000000 * 1000000000 ≠ 0 := by omega
  rw [exec_ppsOutPulse, execPpsOutPulse]
  exact if_pos (by simp only [hktb, hpos, hnew, ne_eq, not_false_eq_true, decide_true, Bool.and_self])

theorem exec_acreTimeTransfer_running (hktb : s.time.running = true) (hstage : pastStage1 s = true) (a : Acre) :
    exec (.acreTimeTransfer a) s =
      .next { drew s with time := { s.time with ktb := s.time.ktb.set (.acre a) (max (ktbOf s (.acre a)) (ktb s + freeBelow 9 s - 4)) } } := by
  rw [exec_acreTimeTransfer, execAcreTimeTransfer, hktb, hstage]
  rfl

theorem exec_configFingerprint_stale (hrun : planesRun s = true) (hfp : s.cfg.fpValid = false) :
    exec .configFingerprint s = .next (fingerprint s) := by
  rw [exec_configFingerprint, execConfigFingerprint, running_of hrun, hfp]
  rfl

theorem exec_divergenceGraceExpiry_over (hrun : planesRun s = true) {entry : Nat} {e : Divergence}
    (he : NMap.get? s.cfg.divergent entry = some e) (hcounted : e.counted = false)
    (hover : e.since + max 1 (primF s .CFG_DOMAIN 0 23 16) * 1000000 < ktb s) :
    exec (.divergenceGraceExpiry entry) s = .next (mgmtPost (.divergence entry) { s with cfg := { s.cfg with
      divergent := NMap.put s.cfg.divergent entry { e with counted := true } } }) := by
  rw [exec_divergenceGraceExpiry, execDivergenceGraceExpiry, running_of hrun]
  simp [he, hcounted, Nat.not_le.mpr hover, ok_eq_next]

/-- Array 0 is the Furrow, with the FP8 ratio 16.7/25.6 of R37 (log 172); a speed of ten bits is recorded as it is. -/
theorem exec_pwrSpeedSample_array0 (hpwr : s.power.pwrgood = true) {die speed : Nat} {d : Die} (hd : Die.ofCode die = some d)
    (hspeed : speed < 1024) :
    exec (.pwrSpeedSample die speed 0) s = .next (setLive .PWR_SPEED d 0 (if speed * 256 < 167 * 1024
      then setField (setField (setField (live s .PWR_SPEED d) 9 0 speed) 15 10 0) 16 16 1
      else setField (setField (live s .PWR_SPEED d) 9 0 speed) 15 10 0) s) := by
  have hmin : min speed 1023 = speed := by omega
  rw [exec_pwrSpeedSample, execPwrSpeedSample]
  simp only [hd, hpwr, hmin, speedRatio, Bool.not_true, Bool.false_eq_true, if_false, decide_eq_true_eq, ok_eq_next]

theorem exec_linkFence_new (hpwr : s.power.pwrgood = true) {n : Nat} {l : Link} (hl : Link.ofNum n = some l)
    (hnew : s.links.contains l = false) : exec (.linkFence n) s = .next { s with links := s.links ++ [l] } := by
  rw [exec_linkFence, execLinkFence]
  simp only [hl, hpwr, hnew, Bool.not_true, Bool.or_self, Bool.false_eq_true, if_false, ok_eq_next]

end Timebase

/-- Settles O3: each clause is what the row answers where its premises leave it one branch. -/
theorem timebaseCommands : Obligations.TimebaseCommands :=
  ⟨fun y v _ hrun =>
     ⟨exec_yokKtbFreqWrite_running hrun y v, exec_yokKtbSlewWrite_running hrun y v, exec_yokKtbStepWrite_running hrun y v⟩,
   fun y _ hktb => exec_ppsInEdge_running hktb y,
   fun _ hktb hsec hnew => exec_ppsOutPulse_crossed hktb hsec hnew,
   fun a _ hktb hstage => exec_acreTimeTransfer_running hktb hstage a,
   fun _ hrun hfp => exec_configFingerprint_stale hrun hfp,
   fun _ _ _ hrun he hcounted hover => exec_divergenceGraceExpiry_over hrun he hcounted hover,
   fun _ _ _ _ hpwr hd hspeed => exec_pwrSpeedSample_array0 hpwr hd hspeed,
   fun _ _ _ hl hnew hpwr => exec_linkFence_new hpwr hl hnew⟩

end Sys2Proof.Machine
end

section
/-!
SUPPORT. The connection rows of the KLT (R59, R372 to R376): what each message, resend and heartbeat does on the connection or the peer it names.
-/
namespace Sys2Proof.Machine

section Rows

variable {s : State} (hrun : planesRun s = true)
include hrun

/-! ## Opening a connection (R372, R373) -/

section ConnectReq

variable {r : ConnReq} (hnew : s.klt.answers.find? (fun x => x.1 = r.sep && x.2.1 = r.reqId) = none)
include hnew

theorem exec_connectReq_refused {st : Status} (hcheck : connCheck r s = some st) : exec (.connectReq r) s = .next (connRefuse r st s) := by
  rw [exec_connectReq, execConnectReq, running_of hrun, hnew]
  simp only [hcheck, ok_eq_next]

theorem exec_connectReq_full (hcheck : connCheck r s = none) (hpick : pickConn s = none) :
    exec (.connectReq r) s = .next (connRefuse r .noSpace s) := by
  rw [exec_connectReq, execConnectReq, running_of hrun, hnew]
  simp only [hcheck, hpick, ok_eq_next]

theorem exec_connectReq_accepted (hcheck : connCheck r s = none) {n : Nat} {u : State} (hpick : pickConn s = some (n, u)) :
    exec (.connectReq r) s = .next (connAccept r n u) := by
  rw [exec_connectReq, execConnectReq, running_of hrun, hnew]
  simp only [hcheck, hpick, ok_eq_next]

end ConnectReq

theorem exec_connectReq_repeated {r : ConnReq} {x y : Nat} {a : ConnRsp}
    (hold : s.klt.answers.find? (fun x => x.1 = r.sep && x.2.1 = r.reqId) = some (x, y, a)) :
    exec (.connectReq r) s = .next (connAnswer r a s) := by
  rw [exec_connectReq, execConnectReq, running_of hrun, hold]
  rfl

section ConnectRsp

variable {r : ConnRsp} {n : Nat} {c : Conn}
  (hopen : s.klt.conns.find? (fun e => e.2.st = .connecting && e.2.peer = r.sep && e.2.reqId = r.reqId) = some (n, c))
include hopen

theorem exec_connectRsp_refused (hst : r.status ≠ .ok) : exec (.connectRsp r) s = .next (cmdDone 1 n r.status 0 (dropConn n s)) := by
  rw [exec_connectRsp, execConnectRsp, running_of hrun, hopen]
  exact if_pos hst

theorem exec_connectRsp_ok (hst : r.status = .ok) :
    exec (.connectRsp r) s = .next (settle (kltPump (cmdDone 1 n .ok (n + NMap.get 0 s.klt.cgens n * 2 ^ 24)
      (putConn n (connOpened s n r c) s)))) := by
  rw [exec_connectRsp, execConnectRsp, running_of hrun, hopen]
  exact if_neg (not_not_intro hst)

end ConnectRsp

section ConnectResend

variable {n : Nat} {c : Conn} (hconn : connOf s n = some c) (hdue : c.st = .connecting ∧ c.triedAt + 100000 ≤ connNow s n)
include hconn hdue

theorem exec_connectResend_again (htries : c.tries < 8) : exec (.connectResend n) s = .next (sendConnect n s) := by
  rw [exec_connectResend, execConnectResend, running_of hrun, hconn]
  simp [hdue.1, Nat.not_lt.mpr hdue.2, htries, ok_eq_next]

theorem exec_connectResend_last (htries : 8 ≤ c.tries) : exec (.connectResend n) s = .next (cmdDone 1 n .timeout 0 (dropConn n s)) := by
  rw [exec_connectResend, execConnectResend, running_of hrun, hconn]
  simp [hdue.1, Nat.not_lt.mpr hdue.2, Nat.not_lt.mpr htries, ok_eq_next]

end ConnectResend

/-! ## Closing a connection (R374) -/

theorem exec_close_conn {n cgen sep : Nat} {c : Conn} (hconn : tc7Conn s n cgen sep = some c) :
    exec (.close n cgen sep) s = .next (settle (closeStep n (modConn n (fun c => { c with st := .closing, closeGot := true })
      (takeReqs (3 * s.klt.reqs.length) s)))) := by
  rw [exec_close, execClose, running_of hrun, hconn]
  rfl

theorem exec_closeAck_sent {n cgen sep : Nat} {c : Conn} (hconn : tc7Conn s n cgen sep = some c) (hsent : c.closeSent = true) :
    exec (.closeAck n cgen sep) s = .next (dropConn n s) := by
  rw [exec_closeAck, execCloseAck, running_of hrun, hconn]
  simp only [hsent, if_true, ok_eq_next]

section CloseResend

variable {n : Nat} {c : Conn} (hconn : connOf s n = some c) (hdue : c.closeSent = true ∧ c.triedAt + 100000 ≤ connNow s n)
include hconn hdue

theorem exec_closeResend_again (htries : c.tries < 8) :
    exec (.closeResend n) s = .next (sendTc7 n c.entry 32 (.close c.peerNum c.peerGen)
      (putConn n { c with tries := c.tries + 1, triedAt := connNow s n } s)) := by
  rw [exec_closeResend, execCloseResend, running_of hrun, hconn]
  simp [hdue.1, Nat.not_lt.mpr hdue.2, htries, ok_eq_next]

theorem exec_closeResend_last (htries : 8 ≤ c.tries) : exec (.closeResend n) s = .next (dropConn n s) := by
  rw [exec_closeResend, execCloseResend, running_of hrun, hconn]
  simp [hdue.1, Nat.not_lt.mpr hdue.2, Nat.not_lt.mpr htries, ok_eq_next]

end CloseResend

/-! ## Heartbeats (R59, R375, R376) -/

theorem exec_heartbeat_peer {sep e : Nat} (hpeer : peerEntry s sep = some e) (b : Beat) :
    exec (.heartbeat sep b) s = .next (compareBeat e b (putPeer e { peerOf s e with
      st := .up, lastHb := ktb s, leaving := b.leaving, fallow := b.fallow, role := b.role } s)) := by
  rw [exec_heartbeat, execHeartbeat, running_of hrun, hpeer]
  rfl

section PeerTimers

variable {e : Nat} (hvalid : bit (live s .KLT_PEER_CFG (.yoke s.ckp.primary) e) 15 = true)
include hvalid

theorem exec_heartbeatSend_due (hsend : bit (live s .KLT_PEER_CFG (.yoke s.ckp.primary) e) 17 = true)
    (hdue : (peerOf s e).sentHb + primF s .KLT_CTRL 0 31 16 * 1000 ≤ ktb s) :
    exec (.heartbeatSend e) s = .next (sendTc7 0 e 80 (.heartbeat e (ownBeat s)) (putPeer e { peerOf s e with sentHb := ktb s } s)) := by
  rw [exec_heartbeatSend, execHeartbeatSend, running_of hrun]
  simp [hvalid, hsend, Nat.not_lt.mpr hdue, ok_eq_next]

theorem exec_peerDown_silent (hst : (peerOf s e).st ≠ .down)
    (hdue : (peerOf s e).lastHb + primF s .KLT_CTRL 0 35 32 * primF s .KLT_CTRL 0 31 16 * 1000 ≤ ktb s) :
    exec (.peerDown e) s = .next (settle (failPeer e (dropConsent e (putPeer e { peerOf s e with st := .down } s)))) := by
  rw [exec_peerDown, execPeerDown, running_of hrun]
  simp [hvalid, hst, Nat.not_lt.mpr hdue, okSettle_eq_next]

end PeerTimers

end Rows

/-- Settles O34: each clause is what the row answers where its premises leave it one branch. -/
theorem kltConnectionResults : Obligations.KltConnectionResults :=
  ⟨fun _ _ hrun hnew =>
     ⟨fun _ hcheck => exec_connectReq_refused hrun hnew hcheck, fun hcheck hpick => exec_connectReq_full hrun hnew hcheck hpick,
      fun _ _ hcheck hpick => exec_connectReq_accepted hrun hnew hcheck hpick⟩,
   fun _ _ _ _ _ hrun hold => exec_connectReq_repeated hrun hold,
   fun _ _ _ _ hrun hopen => ⟨exec_connectRsp_refused hrun hopen, exec_connectRsp_ok hrun hopen⟩,
   fun _ _ _ hrun hconn hdue => ⟨exec_connectResend_again hrun hconn hdue, exec_connectResend_last hrun hconn hdue⟩,
   fun _ _ _ _ _ hrun hconn => ⟨exec_close_conn hrun hconn, exec_closeAck_sent hrun hconn⟩,
   fun _ _ _ hrun hconn hdue => ⟨exec_closeResend_again hrun hconn hdue, exec_closeResend_last hrun hconn hdue⟩,
   fun _ _ b _ hrun hpeer => exec_heartbeat_peer hrun hpeer b,
   fun _ _ hrun => ⟨exec_heartbeatSend_due hrun, exec_peerDown_silent hrun⟩⟩

end Sys2Proof.Machine
end

section
/-!
SUPPORT. The session bureau family (R63, R88 to R91, R289, R403, R430, R443, R489 to R492, R585): the checks on a handle, ownership between
Shelves and home, the two sides of a migration, and a command of the network that ends an operation of a session program.
-/
namespace Sys2Proof.Machine

/-! ## The checks of R63 -/

section HandleCheck

variable {s : State} {h : Nat}

theorem handleCheck_tenant (ht : s.sec.tenancy ≠ .bound ∨ (desc s (slotOf h)).tenancyEpoch ≠ s.sec.epoch) :
    handleCheck s h = some .tenant := if_pos ht

variable (ht : s.sec.tenancy = .bound) (he : (desc s (slotOf h)).tenancyEpoch = s.sec.epoch)
include ht he

/-- With check 1 passed, check 2 decides. -/
theorem handleCheck_bound : handleCheck s h = if genOf h ≠ (desc s (slotOf h)).gen then some .staleGen
    else if (desc s (slotOf h)).state = .free ∨ (desc s (slotOf h)).state = .retiring then some .badHandle else none :=
  if_neg (by simp only [ht, he, ne_eq, not_true_eq_false, or_self, not_false_eq_true])

theorem handleCheck_staleGen (hg : genOf h ≠ (desc s (slotOf h)).gen) : handleCheck s h = some .staleGen := by
  rw [handleCheck_bound ht he, if_pos hg]

theorem handleCheck_badHandle (hg : genOf h = (desc s (slotOf h)).gen)
    (hst : (desc s (slotOf h)).state = .free ∨ (desc s (slotOf h)).state = .retiring) : handleCheck s h = some .badHandle := by
  rw [handleCheck_bound ht he, if_neg (not_not_intro hg), if_pos hst]

theorem handleCheck_passes (hg : genOf h = (desc s (slotOf h)).gen) (hfree : (desc s (slotOf h)).state ≠ .free)
    (hret : (desc s (slotOf h)).state ≠ .retiring) : handleCheck s h = none := by
  rw [handleCheck_bound ht he, if_neg (not_not_intro hg), if_neg (not_or.mpr ⟨hfree, hret⟩)]

end HandleCheck

theorem onSession_turnedAway {s : State} {h : Nat} {st : Status} (hc : handleCheck s h = some st) (src : OpSrc)
    (f : Nat → SState → State → State) : onSession h src f s = finish src st 0 0 s := by
  simp only [onSession, hc]

/-- Every session command of an I/O queue runs its part behind the checks of R63, on the session its handle names. -/
theorem exec_of_namesSession {i : Instr} {sq cid h : Nat} (hi : namesSession i = some (sq, cid, h)) (s : State) :
    ∃ f, exec i s = running s (okSettle (hostCmd sq cid .io false (onSession h (.host sq cid) f) s)) := by
  unfold namesSession at hi
  split at hi <;> cases hi <;> exact ⟨_, rfl⟩

theorem exec_turnedAway {i : Instr} {sq cid h : Nat} {st : Status} {s : State} (hi : namesSession i = some (sq, cid, h)) (hs : Served s sq)
    (hio : sq ≠ 0) (hc : handleCheck s h = some st) : exec i s = .next (settle (postCqe sq cid st 0 0 s)) := by
  obtain ⟨f, hf⟩ := exec_of_namesSession hi s
  rw [hf, running_of hs.1, hostCmd_served hs cid _ _ hio, onSession_turnedAway hc, okSettle_eq_next, finish]

/-- Settles O57: `handleCheck` asks the checks in order, and every session command asks it first. -/
theorem handleChecks : Obligations.HandleChecks :=
  ⟨fun _ _ => handleCheck_tenant,
   fun _ _ ht he => ⟨handleCheck_staleGen ht he, handleCheck_badHandle ht he, handleCheck_passes ht he⟩,
   fun _ _ _ _ _ _ => exec_turnedAway⟩

/-! ## Shelf coherence (R88 to R91) -/

section Shelf

variable {s : State} (hrun : planesRun s = true)
include hrun

theorem exec_getx_queued {a : Acre} {slot : Nat} (hslot : slot < 2 ^ 22) (hnew : (dirOf s slot).waiting.contains a = false)
    (hown : (dirOf s slot).st ≠ .owned a) (hroom : (dirOf s slot).waiting.length < 3) :
    exec (.getx a slot) s = .next (setDir slot { dirOf s slot with
      waiting := (dirOf s slot).waiting ++ [a]
      recalled := (match (dirOf s slot).st with | .owned _ => (dirOf s slot).wb.isNone | _ => (dirOf s slot).recalled) }
      { s with bur := { s.bur with getx := s.bur.getx.set (homeAcre slot) (s.bur.getx.get (homeAcre slot) + 1) } }) := by
  have hfree : (decide (slot ≥ 2 ^ 22) || (dirOf s slot).waiting.contains a || decide ((dirOf s slot).st = .owned a) ||
      decide (3 ≤ (dirOf s slot).waiting.length)) = false := by
    simp only [hnew, decide_eq_false (Nat.not_le.mpr hslot), decide_eq_false hown, decide_eq_false (Nat.not_le.mpr hroom), Bool.or_self]
  rw [exec_getx, execGetx, running_of hrun]
  exact if_neg (Bool.eq_false_iff.mp hfree)

theorem exec_recall_released {a : Acre} {slot : Nat} {l : ShelfLine} (hown : (dirOf s slot).st = .owned a) (hwb : (dirOf s slot).wb = none)
    (hrec : (dirOf s slot).recalled = true) (hline : NMap.get? (s.bur.shelf.get a) slot = some l) :
    exec (.recall slot) s = .next (setDir slot { dirOf s slot with wb := some l.copy } (dropLine a slot s)) := by
  rw [exec_recall, execRecall, running_of hrun]
  simp only [hown, hwb, hrec, hline, Bool.not_true, Bool.false_eq_true, if_false, ok_eq_next]

theorem exec_shelfWb_arrived {slot : Nat} {d : Desc} (hwb : (dirOf s slot).wb = some d) :
    exec (.shelfWb slot) s = .next (setDir slot { dirOf s slot with st := .home, wb := none, recalled := false } (setHome slot d s)) := by
  rw [exec_shelfWb, execShelfWb, running_of hrun, ok_eq_next, wbArrives, hwb]

theorem exec_getxGrant_granted {slot : Nat} {a : Acre} {r : List Acre} {u : State} (hhome : (dirOf s slot).st = .home)
    (hwait : (dirOf s slot).waiting = a :: r) (hroom : shelfRoom a (setDir slot { dirOf s slot with waiting := r } s) = some u) :
    exec (.getxGrant slot) s =
      .next (setDir slot { dirOf (takeOwned a slot u) slot with recalled := !r.isEmpty } (takeOwned a slot u)) := by
  rw [exec_getxGrant, execGetxGrant, running_of hrun]
  simp only [hhome] at hroom ⊢
  simp only [hwait, hroom, ok_eq_next]

theorem exec_shelfEvict_owned {a : Acre} {slot : Nat} {l : ShelfLine} (hline : NMap.get? (s.bur.shelf.get a) slot = some l)
    (hmay : lineEvictable s slot = true) (hown : l.own = true) :
    exec (.shelfEvict a slot) s = .next (setDir slot { dirOf s slot with wb := some l.copy } (dropLine a slot s)) := by
  rw [exec_shelfEvict, execShelfEvict, running_of hrun, hline]
  simp only [hmay, hown, Bool.not_true, Bool.false_eq_true, if_false, if_true, ok_eq_next]

end Shelf

/-- Settles O6: each clause is what the command answers where its premises leave it one branch. -/
theorem shelfCommands : Obligations.ShelfCommands :=
  ⟨fun _ _ _ hrun hslot hnew hown hroom => exec_getx_queued hrun hslot hnew hown hroom,
   fun _ _ _ _ hrun hown hwb hrec hline => exec_recall_released hrun hown hwb hrec hline,
   fun _ _ _ hrun hwb => exec_shelfWb_arrived hrun hwb,
   fun _ _ _ _ _ hrun hhome hwait hroom => exec_getxGrant_granted hrun hhome hwait hroom,
   fun _ _ _ _ hrun hline hmay hown => exec_shelfEvict_owned hrun hline hmay hown⟩


/-! ## Migration (R67, R443, R489 to R492; the choices of log 151 and 152) -/

section Migrate

variable {s u : State} {sq handle : Nat} {st : SState} (hready : SessionReady s sq handle u st)
  (hst : st = .toolWait ∨ st = .idleWait ∨ st = .dormant)
include hready hst

theorem exec_migrate_begun (cid device tier : Nat) {conn : Nat} (target : Option Nat) (hcheck : migCheck u (slotOf handle) device conn = none) :
    exec (.migrate sq cid handle device tier target conn) s =
      .next (settle (migBegin (slotOf handle) handle device tier target conn (sq, cid) st u)) := by
  rw [exec_migrate, execMigrate, running_of hready.1.1, sessionCmd_ready hready, okSettle_eq_next]
  rcases hst with rfl | rfl | rfl <;> simp only [hcheck]

theorem exec_migrate_refused (cid device tier : Nat) {conn : Nat} (target : Option Nat) {e : Status}
    (hcheck : migCheck u (slotOf handle) device conn = some e) :
    exec (.migrate sq cid handle device tier target conn) s = .next (settle (postCqe sq cid e 0 0 u)) := by
  rw [exec_migrate, execMigrate, running_of hready.1.1, sessionCmd_ready hready, okSettle_eq_next]
  rcases hst with rfl | rfl | rfl <;> simp only [hcheck]

end Migrate

section Offer

variable {s : State} (hrun : planesRun s = true) {h : MigHdr} (hdst : h.dst = s.sec.deviceId) (hnew : holdsOffer s h = false)
include hrun hdst hnew

/-- An OFFER for this device that it does not hold yet is answered with what `offerTake` gives. -/
theorem exec_migOffer_new (conn : Nat) (o : OfferIn) : exec (.migOffer conn h o) s = match offerTake conn h o s with
    | .ok t => .next t
    | .error e => .next (emit (.migMsg conn { h with seq := 0, dstHandle := 0 } (.refuse e.code)) s) := by
  rw [exec_migOffer, execMigOffer, running_of hrun]
  exact if_neg (by simp [hdst, hnew])

theorem exec_migOffer_taken {conn : Nat} {o : OfferIn} {t : State} (htake : offerTake conn h o s = .ok t) :
    exec (.migOffer conn h o) s = .next t := by
  rw [exec_migOffer_new hrun hdst hnew, htake]

theorem exec_migOffer_refused {conn : Nat} {o : OfferIn} {e : Status} (htake : offerTake conn h o s = .error e) :
    exec (.migOffer conn h o) s = .next (emit (.migMsg conn { h with seq := 0, dstHandle := 0 } (.refuse e.code)) s) := by
  rw [exec_migOffer_new hrun hdst hnew, htake]

end Offer

section Source

variable {s : State} (hrun : planesRun s = true) {h : MigHdr} {slot : Nat} {m : Migration} (hmig : findMig s true h = some (slot, m))
include hrun hmig

theorem exec_migAccept_offered (hst : m.st = .offered) {places : List MigPlace} (hlen : places.length = (migItems s slot).length) :
    exec (.migAccept h places) s = .next (settle (migAccepted slot m h.dstHandle places s)) := by
  rw [exec_migAccept, execMigAccept, running_of hrun, hmig]
  exact if_neg (by simp [hst, hlen])

theorem exec_migRefuse_offered (hst : m.st = .offered) (code : Nat) :
    exec (.migRefuse h code) s = .next (settle (migRefused slot m ((Status.ofCode code).getD .access) s)) := by
  rw [exec_migRefuse, execMigRefuse, running_of hrun, hmig]
  exact if_neg (not_not_intro hst)

theorem exec_migConfirm_handover (hst : m.st = .handover) : exec (.migConfirm h) s = .next (settle (migConfirmed slot m s)) := by
  rw [exec_migConfirm, execMigConfirm, running_of hrun, hmig]
  exact if_neg (not_not_intro hst)

theorem exec_migOutcome_sourceActive (hst : m.st = .handover) : exec (.migOutcome h 1) s = .next (settle (migConfirmed slot m s)) := by
  rw [exec_migOutcome, execMigOutcome, running_of hrun, hmig]
  exact if_pos (by simp only [hst, decide_true, Bool.and_self])

theorem exec_migOutcome_sourceAbandoned : exec (.migOutcome h 2) s = .next (settle (migRefused slot m .aborted s)) := by
  rw [exec_migOutcome, execMigOutcome, running_of hrun, hmig]
  simp [okSettle_eq_next]

end Source

section Target

variable {s : State} (hrun : planesRun s = true) {h : MigHdr} {slot : Nat} {m : Migration} (hmig : findMig s false h = some (slot, m))
include hrun hmig

theorem exec_migHandover_installed (hst : m.st = .accepted) {x : HandIn} {t : State} (htake : handInstall slot m x s = some t) :
    exec (.migHandover h true x) s = .next (sendMig slot .confirm (putMig slot { m with st := .confirmed, runs := [], hand := some x } t)) := by
  rw [exec_migHandover, execMigHandover, running_of hrun, hmig]
  simp only [hst, htake, Bool.not_true, Bool.false_eq_true, if_false, ok_eq_next]

theorem exec_migHandover_again (hst : m.st = .confirmed) (x : HandIn) : exec (.migHandover h true x) s = .next (migAgain m s) := by
  rw [exec_migHandover, execMigHandover, running_of hrun, hmig]
  simp only [hst, Bool.not_true, Bool.false_eq_true, if_false, ok_eq_next]

theorem exec_migRelease_confirmed (hst : m.st = .confirmed) : exec (.migRelease h) s = .next (settle (migActivate slot m s)) := by
  rw [exec_migRelease, execMigRelease, running_of hrun, hmig]
  exact if_neg (not_not_intro hst)

variable (hnot : findMig s true h = none)
include hnot

theorem exec_migOutcome_targetActive (hst : m.st = .confirmed) : exec (.migOutcome h 1) s = .next (settle (migActivate slot m s)) := by
  rw [exec_migOutcome, execMigOutcome, running_of hrun, hnot, hmig]
  exact if_pos (by simp only [hst, decide_true, Bool.and_self])

theorem exec_migOutcome_targetAbandoned : exec (.migOutcome h 2) s = .next (settle (migDiscard slot m s)) := by
  rw [exec_migOutcome, execMigOutcome, running_of hrun, hnot, hmig]
  simp [okSettle_eq_next]

end Target

section Freeze

variable {s : State} (hrun : planesRun s = true) {slot : Nat} {m : Migration} (hmig : migOf s slot = some m) (hsrc : m.source = true)
  (hst : m.st = .sending) (hdesc : (desc s slot).state = .migrating)
include hrun hmig hsrc hst hdesc

/-- The source of a migration that is sending first looks at the ends of its writes. -/
theorem exec_migrationFreeze_sending :
    exec (.migrationFreeze slot) s = match (migEnds s slot).find? (fun e => e.2 ≠ .ok) with
      | some e => .next (settle (migAbandon slot e.2 (migTakeEnds slot m s)))
      | none => match migOf (migTakeEnds slot m s) slot with
        | none => .next (migTakeEnds slot m s)
        | some m' => if !m'.unsent.isEmpty then .next (settle (migSend slot (migTakeEnds slot m s)))
          else if !mayFreeze (migTakeEnds slot m s) slot m' then .next (migTakeEnds slot m s)
          else .next (sendMig slot (.handover (handOf (migTakeEnds slot m s) slot))
            (putMig slot { m' with st := .handover } (migTakeEnds slot m s))) := by
  rw [exec_migrationFreeze, execMigrationFreeze, running_of hrun, hmig]
  exact if_neg (by simp [hsrc, hst, hdesc])

theorem exec_migrationFreeze_failed {e : KltSrc × Status} (hend : (migEnds s slot).find? (fun e => e.2 ≠ .ok) = some e) :
    exec (.migrationFreeze slot) s = .next (settle (migAbandon slot e.2 (migTakeEnds slot m s))) := by
  rw [exec_migrationFreeze_sending hrun hmig hsrc hst hdesc, hend]

variable {m' : Migration} (htaken : migOf (migTakeEnds slot m s) slot = some m')
  (hends : (migEnds s slot).find? (fun e => e.2 ≠ .ok) = none)
include htaken hends

theorem exec_migrationFreeze_unsent (hun : m'.unsent.isEmpty = false) :
    exec (.migrationFreeze slot) s = .next (settle (migSend slot (migTakeEnds slot m s))) := by
  rw [exec_migrationFreeze_sending hrun hmig hsrc hst hdesc, hends, htaken]
  exact if_pos (by simp only [hun, Bool.not_false])

theorem exec_migrationFreeze_handover (hun : m'.unsent.isEmpty = true) (hmay : mayFreeze (migTakeEnds slot m s) slot m' = true) :
    exec (.migrationFreeze slot) s = .next (sendMig slot (.handover (handOf (migTakeEnds slot m s) slot))
      (putMig slot { m' with st := .handover } (migTakeEnds slot m s))) := by
  rw [exec_migrationFreeze_sending hrun hmig hsrc hst hdesc, hends, htaken]
  simp only [hun, hmay, Bool.not_true, Bool.false_eq_true, if_false]

end Freeze

section Resend

variable {s : State} (hrun : planesRun s = true)
include hrun

theorem exec_migQuery_running (conn : Nat) (h : MigHdr) :
    exec (.migQuery conn h) s = .next (emit (.migMsg conn h (.outcome (outcomeOf s h))) s) := by
  rw [exec_migQuery, execMigQuery, running_of hrun, ok_eq_next]

variable {slot : Nat} {m : Migration} (hmig : migOf s slot = some m)
include hmig

theorem exec_migResend_confirmed (hst : m.st = .confirmed) :
    exec (.migResend slot) s = .next (emit (.migMsg m.conn (migHdr s m) .query) s) := by
  rw [exec_migResend, execMigResend, running_of hrun, hmig]
  simp only [hst, ok_eq_next]

theorem exec_migResend_unanswered (hst : m.st = .handover ∨ m.st = .offered ∨ m.st = .accepted) :
    exec (.migResend slot) s = .next (migAgain m s) := by
  rw [exec_migResend, execMigResend, running_of hrun, hmig]
  rcases hst with hst | hst | hst <;> simp only [hst, ok_eq_next]

end Resend

section Resolve

variable {s : State} {sq : Nat} (hs : Served s sq) (hissue : (s.ckp.yokes.get s.ckp.primary).issuing = true)
include hs hissue

theorem exec_migResolve_served (hio : sq ≠ 0) (cid : Nat) {handle : Nat} (hcheck : handleCheck s handle = none) {m : Migration}
    (hmig : migOf s (slotOf handle) = some m) (activate : Bool) :
    exec (.migResolve sq cid false handle activate) s = .next (settle (postCqe sq cid (resolveBy (slotOf handle) m activate s).1 0 0
      (resolveBy (slotOf handle) m activate s).2)) := by
  rw [exec_migResolve, execMigResolve, running_of hs.1, primCmd_served hs cid _ hio hissue, okSettle_eq_next]
  simp only [hcheck, hmig]

theorem exec_leave_served (cid : Nat) :
    exec (.leave sq cid false) s = .next (postCqe sq cid .ok 0 0 (setCkp (fun c => { c with leaving := true }) s)) := by
  rw [exec_leave, execLeave, running_of hs.1, primCmd_served hs cid _ trivial hissue, ok_eq_next]

end Resolve

/-- Settles O44: each clause is what the command answers where its premises leave it one branch. -/
theorem migrationCommands : Obligations.MigrationCommands :=
  ⟨fun _ cid _ device tier _ target _ _ _ hready hst =>
     ⟨exec_migrate_begun hready hst cid device tier target, fun _ => exec_migrate_refused hready hst cid device tier target⟩,
   fun _ _ _ _ hrun hdst hnew =>
     ⟨fun _ => exec_migOffer_taken hrun hdst hnew, fun _ => exec_migOffer_refused hrun hdst hnew⟩,
   fun _ _ code _ _ _ hrun hmig =>
     ⟨fun hst => exec_migAccept_offered hrun hmig hst, fun hst => exec_migRefuse_offered hrun hmig hst code,
      exec_migConfirm_handover hrun hmig, exec_migOutcome_sourceActive hrun hmig, exec_migOutcome_sourceAbandoned hrun hmig⟩,
   fun _ x _ _ _ hrun hnot hmig =>
     ⟨fun _ hst => exec_migHandover_installed hrun hmig hst, fun hst => exec_migHandover_again hrun hmig hst x,
      exec_migRelease_confirmed hrun hmig, exec_migOutcome_targetActive hrun hmig hnot, exec_migOutcome_targetAbandoned hrun hmig hnot⟩,
   fun _ _ _ _ hrun hmig hsrc hst hdesc htaken =>
     ⟨fun _ => exec_migrationFreeze_failed hrun hmig hsrc hst hdesc, exec_migrationFreeze_unsent hrun hmig hsrc hst hdesc htaken,
      exec_migrationFreeze_handover hrun hmig hsrc hst hdesc htaken⟩,
   fun conn _ h _ _ hrun =>
     ⟨exec_migQuery_running hrun conn h, exec_migResend_confirmed hrun, exec_migResend_unanswered hrun⟩,
   fun _ cid _ activate _ _ hs hio hissue hcheck hmig =>
     ⟨exec_migResolve_served hs hissue hio cid hcheck hmig activate, exec_leave_served hs hissue cid⟩⟩

/-! ## The egress scheduler ends operations of session programs (R289, R399, R403) -/

theorem Within.transport_tin {s t : State} (h : Within .transport s t) : t.tin = s.tin := by
  obtain ⟨_, _, _, _, _, _, _, rfl⟩ := h
  rfl

/-- EGRESS_SELECT takes up the operations that wait at the KLT engine, whether or not its port can send. -/
theorem exec_egressSelect_portDown {s : State} (hrun : planesRun s = true) {port : Nat} (hdown : (portOf (kltPump s) port).up = false) :
    exec (.egressSelect port) s = .next (kltPump s) := by
  rw [exec_egressSelect, execEgressSelect, running_of hrun]
  exact if_pos (by simp only [hdown, Bool.not_false, Bool.or_true])

/-- RWRITE with tag 1 of the session in slot 3 has posted its write (R341), and the route's connection 5 is gone. -/
def rwriteWaits : State :=
  { State.reset with
    power := { State.reset.power with pwrgood := true, stage := .serving }
    tin := { State.reset.tin with asyncs := [{ slot := 3, tag := 1, kind := .rwrite, ended := false, ins := [], outs := [] }] }
    klt := { State.reset.klt with reqs := [{ conn := 5, tc := 0, op := .write 0 0 [0] false, src := .tine 3 1 }] } }

/-- The write ends ST_ACCESS, and with no image to take the event its tag is invalid at once (R289). -/
theorem kltPump_rwriteWaits_asyncs : (kltPump rwriteWaits).tin.asyncs = [] := by decide

theorem egressSelect_rwriteWaits : exec (.egressSelect 0) rwriteWaits = .next (kltPump rwriteWaits) :=
  exec_egressSelect_portDown (by decide) (by decide)

/-- Refutes O59: EGRESS_SELECT, a command of the network, takes up a write that a session program has posted; the write ends at once, and the
program's asynchronous operation, which is state of the Tines, ends with it. -/
theorem not_frameUnits : ¬ Obligations.FrameUnits := by
  intro h
  have htin := (h (.egressSelect 0) .transport _ _ rfl (by simp) egressSelect_rwriteWaits).transport_tin
  have hasync : ([] : List AsyncOp) = rwriteWaits.tin.asyncs := kltPump_rwriteWaits_asyncs ▸ congrArg TineState.asyncs htin
  exact absurd hasync (by decide)

end Sys2Proof.Machine
end

section
/-!
SUPPORT. Shared prefixes (R116, R117, R120): PREFIX_CREATE on a session that the device admits, by the state it is found in, and PREFIX_RETIRE.
-/
namespace Sys2Proof.Machine

section Create

variable {s u : State} {sq handle : Nat}

/-- With new work admitted, PREFIX_CREATE of a session that is not parked is turned away (R117). -/
theorem exec_prefixCreate_busy {st : SState} (hready : SessionReady s sq handle u st) (hadmit : admitNew u [1] = none)
    (hidle : st ≠ .idleWait) (hfenced : st ≠ .fenced) (cid len principal : Nat) :
    exec (.prefixCreate sq cid handle len principal) s = .next (postCqe sq cid .busy 0 0 u) := by
  rw [exec_prefixCreate, execPrefixCreate, running_of hready.1.1, sessionCmd_ready hready, ok_eq_next]
  simp only [hfenced, hidle, hadmit, Option.isSome_none, Bool.false_eq_true, ne_eq, not_false_eq_true, if_true, if_false]

/-- A parked session whose stacks below `len` are all at hand is shared as far as there is room (R117). -/
theorem exec_prefixCreate_parked (hready : SessionReady s sq handle u .idleWait) (hadmit : admitNew u [1] = none) {len principal : Nat}
    (hpos : 1 ≤ len) (hlen : len ≤ (desc u (slotOf handle)).len) (hprin : principal ≤ 4095)
    (hhomed : prefixHomed u (slotOf handle) len = true) (cid : Nat) :
    exec (.prefixCreate sq cid handle len principal) s = .next (match prefixBuild (slotOf handle) len principal u with
      | none => postCqe sq cid .noSpace 0 0 u
      | some (id, v) => postCqe sq cid .ok id 0 v) := by
  have hform : (decide (len = 0) || decide ((desc u (slotOf handle)).len < len) || decide (4095 < principal)) = false := by
    simp only [Bool.or_eq_false_iff, decide_eq_false_iff_not]
    omega
  rw [exec_prefixCreate, execPrefixCreate, running_of hready.1.1, sessionCmd_ready hready, ok_eq_next]
  simp only [hadmit, hform, hhomed, reduceCtorEq, ne_eq, not_true_eq_false, Option.isSome_none, Bool.not_true, Bool.false_eq_true, if_false]
    <;> rfl

end Create

/-- With a tenant bound, PREFIX_RETIRE marks the entry RETIRING and sweeps it (R120). -/
theorem exec_prefixRetire_served {s : State} {sq : Nat} (hs : Served s sq) (hio : sq ≠ 0) (hbound : s.sec.tenancy = .bound) {id : Nat}
    {p : PrefixEntry} (hentry : NMap.get? s.tier.prefixes id = some p) (cid : Nat) :
    exec (.prefixRetire sq cid id) s = .next (postCqe sq cid .ok 0 0 (prefixSweep id
      { s with tier := { s.tier with prefixes := NMap.put s.tier.prefixes id { p with retiring := true } } })) := by
  rw [exec_prefixRetire, execPrefixRetire, running_of hs.1, hostCmd_served hs cid _ _ hio, ok_eq_next]
  simp only [hbound, hentry, ne_eq, not_true_eq_false, if_false]

/-- Settles O9: each clause is what the command answers where its premises leave it one branch. -/
theorem sharedPrefixCommands : Obligations.SharedPrefixCommands :=
  ⟨fun _ cid _ _ _ _ _ hready hadmit ⟨hpos, hlen, hprin⟩ hhomed =>
     exec_prefixCreate_parked hready hadmit hpos hlen hprin hhomed cid,
   fun _ cid _ len principal _ _ _ hready hadmit ⟨hidle, hfenced⟩ =>
     exec_prefixCreate_busy hready hadmit hidle hfenced cid len principal,
   fun _ cid _ _ _ hs hio hbound hentry => exec_prefixRetire_served hs hio hbound hentry cid⟩

end Sys2Proof.Machine
end

section
/-!
SUPPORT. The Chest store (R115, R134, R135, R147 to R157, R162, R164, R562): writes into the Chest, stagings, the drives, the journal with its
map checkpoint, and the Harrow, each by what its command answers on the state it is found in.
-/
namespace Sys2Proof.Machine

/-! ## Moves into the Chest and stagings (R115, R142, R143, R148, R152 to R154) -/

section Move

variable {s : State} {obj : Nat} {m : HomeMove} (hrun : planesRun s = true) (hmove : s.tier.moves.find? (fun m => m.obj = obj) = some m)
include hrun hmove

/-- The copy of a clean object that lies outside the Chest begins, and a write that fails ends its move (R152 steps 1 to 4). -/
theorem exec_chestWrite_clean {d : Nat} {f : Sealed} (hdest : m.dest = .chest d) (hsealed : (getObj s obj).sealed = some f)
    (hdirty : (getObj s obj).dirty = false) (hwb : (getObj s obj).wbActive = false) (hhome : (getObj s obj).home.tier ≠ .chest)
    (hnew : (s.chest.writes.any fun w => w.cause = .move obj) = false) (hup : chestUp s = true) (hread : readFault (getObj s obj) = none) :
    exec (.chestWrite obj) s = .next (
      let r := chestWrite f (if (getObj s obj).kind = .searchList then .searchList else .stack) (getObj s obj).profile
        (chestFrames s (getObj s obj)).1 (chestFrames s (getObj s obj)).2 (chestTargets (chestBegun obj s) d) (.move obj) (chestBegun obj s)
      if r.1 = .ok then r.2 else moveEnd obj (getObj s obj).home.tier (some r.1) (chestBegun obj s)) := by
  rw [exec_chestWrite, execChestWrite, running_of hrun]
  simp only [hmove, hdest, hsealed, hdirty, hwb, hhome, hnew, hup, hread, decide_false, Bool.false_and, Bool.or_self, Bool.not_true,
    Bool.false_eq_true, if_false, ok_eq_next]
  generalize chestWrite _ _ _ _ _ _ _ _ = r
  obtain ⟨st, t⟩ := r
  split
  case h_1 heq => cases heq; exact congrArg _ (if_pos rfl).symm
  case h_2 hne heq =>
    cases heq
    exact congrArg _ (if_neg hne).symm

section Durable

variable {index : Nat} {w : ChestWrite} (hwrite : s.chest.writes.find? (fun w => w.index = index) = some w) (hcause : w.cause = .move obj)
  (hdur : writeDurable s w = true) (hidle : anyReader s obj = false)
include hwrite hcause hdur hidle

/-- A Chest object whose stack is unchanged since the copy began takes its place (R152 step 5). -/
theorem exec_chestWriteDurable_unchanged (hctr : (getObj s obj).ctr = m.ctr0) (hdirty : (getObj s obj).dirty = false)
    (hwb : (getObj s obj).wbActive = false) :
    exec (.chestWriteDurable index) s = .next (chestPublish obj (locOf index w.incarn) m
      { s with chest := { s.chest with writes := s.chest.writes.erase w } }) := by
  rw [exec_chestWriteDurable, execChestWriteDurable, running_of hrun]
  simp only [hwrite, hcause, hmove, hdur, hidle, hctr, hdirty, hwb, bne_self_eq_false, Bool.or_self, Bool.false_eq_true, if_false, ok_eq_next]

/-- One that was written since is stale in the Chest: the new Chest object goes (R113 step 4). -/
theorem exec_chestWriteDurable_changed (hctr : (getObj s obj).ctr ≠ m.ctr0) :
    exec (.chestWriteDurable index) s = .next (chestRelease (locOf index w.incarn)
      { s with chest := { s.chest with writes := s.chest.writes.erase w } }) := by
  rw [exec_chestWriteDurable, execChestWriteDurable, running_of hrun]
  simp only [hwrite, hcause, hmove, hdur, hidle, bne_iff_ne.mpr hctr, Bool.true_or, Bool.false_eq_true, if_false, if_true, ok_eq_next]

end Durable

end Move

section Staging

variable {s : State} {g : Staging} (hrun : planesRun s = true)
include hrun

/-- A piece that verifies is struck from its staging (R153). -/
theorem exec_chestPieceRead_verified {loc drive : Nat} {c : Sealed}
    (hstage : s.chest.stagings.find? (fun g => g.loc = loc && g.left.contains drive) = some g) (hup : chestUp s = true)
    (honline : (driveOf s drive).st = .online) (hloc : locValid s loc = true)
    (hcontent : NMap.get? s.chest.content (locIndex loc) = some c) (hintact : c.corrupt = false) :
    exec (.chestPieceRead loc drive .ok) s = .next { s with chest := { s.chest with
      stagings := s.chest.stagings.map (fun x => if x = g then { x with left := x.left.filter (· ≠ drive) } else x) } } := by
  rw [exec_chestPieceRead, execChestPieceRead, running_of hrun]
  simp only [hstage, hup, honline, hloc, hcontent, hintact, reduceCtorEq, ne_eq, not_true_eq_false, Bool.not_true, Bool.false_eq_true,
    if_false, if_true, ok_eq_next]

/-- With every piece read the copy of a session's object is complete (R115, R153). -/
theorem exec_stagingDone_session {obj slot : Nat} (hstage : s.chest.stagings.find? (fun g => g.obj = obj) = some g) (hleft : g.left = [])
    (hcause : g.cause = .gather slot ∨ g.cause = .background slot) :
    exec (.stagingDone obj) s = .next (modObj obj (fun o => { o with staged := true })
      { s with chest := { s.chest with stagings := s.chest.stagings.filter (fun x => x.obj ≠ obj) } }) := by
  rw [exec_stagingDone, execStagingDone, running_of hrun]
  rcases hcause with hcause | hcause <;>
    simp only [hstage, hleft, hcause, List.isEmpty_nil, Bool.not_true, Bool.false_eq_true, if_false, ok_eq_next]

end Staging

/-- Settles O10: each clause is what the command answers where its premises leave it one branch. -/
theorem chestObjectCommands : Obligations.ChestObjectCommands :=
  ⟨fun _ _ _ _ _ hrun hmove hdest hsealed ⟨hdirty, hwb, hhome⟩ hnew hup hread =>
     exec_chestWrite_clean hrun hmove hdest hsealed hdirty hwb hhome hnew hup hread,
   fun _ _ _ _ _ hrun hwrite hcause hmove hdur hidle =>
     ⟨exec_chestWriteDurable_unchanged hrun hmove hwrite hcause hdur hidle,
      exec_chestWriteDurable_changed hrun hmove hwrite hcause hdur hidle⟩,
   fun _ _ _ _ _ hrun hstage hup honline hloc hcontent hintact =>
     exec_chestPieceRead_verified hrun hstage hup honline hloc hcontent hintact,
   fun _ _ _ _ hrun hstage hleft hcause => exec_stagingDone_session hrun hstage hleft hcause⟩

/-! ## Drives (R134, R135, R162, R164, R562) -/

section Drives

variable {s : State} {d : Nat} (hrun : planesRun s = true)
include hrun

/-- A completion without a media error takes its command off the drive (R134). -/
theorem exec_nvmeCompletion_outstanding {cid : Nat} {c : NvmeCmd} (hcmd : (driveOf s d).cmds.find? (fun c => c.cid = cid) = some c) :
    exec (.nvmeCompletion d cid false) s =
      .next (putDrive d { driveOf s d with cmds := (driveOf s d).cmds.filter (fun c => c.cid ≠ cid) } s) := by
  have hany : (driveOf s d).cmds.any (fun c => c.cid = cid) = true := by
    rw [← List.isSome_find?, hcmd, Option.isSome_some]
  rw [exec_nvmeCompletion, execNvmeCompletion, running_of hrun]
  simp only [hany, Bool.not_true, Bool.false_eq_true, if_false, ok_eq_next]

/-- A command that is late for the first time, and whose abort succeeds, is counted and issued again (R135). -/
theorem exec_nvmeCmdTimeout_retried {cid : Nat} {c : NvmeCmd} (hcmd : (driveOf s d).cmds.find? (fun c => c.cid = cid) = some c)
    (hlate : c.issuedAt + chsF s 47 32 * 1000000 ≤ ktb s) (hfirst : c.retried = false) :
    exec (.nvmeCmdTimeout d cid true false) s = .next (putDrive d { driveOf s d with
      cmds := (driveOf s d).cmds.filter (fun x => x.cid ≠ cid) ++ [{ c with issuedAt := ktb s, retried := true }] }
      (bumpF .CHS_DRIVE_ERR (.yoke .yw) d 31 0 1 s)) := by
  have hktb : ktb (bumpF .CHS_DRIVE_ERR (.yoke .yw) d 31 0 1 s) = ktb s := rfl
  rw [exec_nvmeCmdTimeout, execNvmeCmdTimeout, running_of hrun]
  simp only [hcmd, Nat.not_lt.mpr hlate, hfirst, hktb, Bool.true_or, Bool.not_true, Bool.false_and, Bool.false_eq_true, if_false, if_true,
    ok_eq_next]
  split <;> rfl

theorem exec_driveFailed_port (hport : d < 4) (far : Bool) : exec (.driveFailed d far) s = .next (settle (driveDown d (!far) s)) := by
  rw [exec_driveFailed, execDriveFailed, running_of hrun, if_neg (Nat.not_le.mpr hport), okSettle_eq_next]

/-- New media is blank to this device (R562). -/
theorem exec_driveLinkUp_blank (hport : d < 4) (hoff : (driveOf s d).st ≠ .online) {segments : Nat} (hsize : 34 ≤ segments) (vwc : Bool) :
    exec (.driveLinkUp d segments vwc false) s = .next (putDrive d { Drive.absent with
      st := .unformatted, vwc := vwc, segments := segments, free := ⟨33, segments, []⟩, smartAt := ktb s } s) := by
  rw [exec_driveLinkUp, execDriveLinkUp, running_of hrun]
  simp only [Nat.not_le.mpr hport, hoff, Nat.not_lt.mpr hsize, decide_false, Bool.or_self, Bool.false_eq_true, if_false, ok_eq_next]

/-- An event makes the drive's log due at once; within the thresholds nothing is posted (R164). -/
theorem exec_smartPoll_healthy (honline : (driveOf s d).st = .online) {pct crit : Nat} (hworn : min pct 255 < chsF s 31 24)
    (hcrit : crit = 0) :
    exec (.smartPoll d pct crit true) s =
      .next (putDrive d { driveOf s d with pctUsed := min pct 255, critWarn := 0, smartAt := ktb s } s) := by
  subst hcrit
  have hin (v : Drive) : ¬ chsF (putDrive d v s) 31 24 ≤ min pct 255 := Nat.not_le.mpr hworn
  rw [exec_smartPoll, execSmartPoll, running_of hrun]
  simp only [honline, hin, Nat.zero_mod, bne_self_eq_false, decide_true, decide_false, Bool.true_or, Bool.not_true, Bool.or_self,
    Bool.false_eq_true, if_false, ok_eq_next]

end Drives

/-- Settles O11: each clause is what the row answers where its premises leave it one branch. -/
theorem chestDriveEvents : Obligations.ChestDriveEvents :=
  ⟨fun _ _ _ _ hrun hcmd => ⟨exec_nvmeCompletion_outstanding hrun hcmd, exec_nvmeCmdTimeout_retried hrun hcmd⟩,
   fun _ far _ hrun hport => exec_driveFailed_port hrun hport far,
   fun _ _ vwc _ hrun hport hoff hsize => exec_driveLinkUp_blank hrun hport hoff hsize vwc,
   fun _ _ _ _ hrun honline hworn hcrit => exec_smartPoll_healthy hrun honline hworn hcrit⟩

/-! ## The journal and its map checkpoint (R147, R149, R150) -/

section Journal

variable {s : State} (hrun : planesRun s = true)
include hrun

/-- A group that is full, or whose first record has waited long enough, is written once the group before it is durable (R149). -/
theorem exec_journalGroupClose_due {r : JRec} {l : List JRec} (hgroup : s.chest.group = r :: l) (hflight : s.chest.inFlight = [])
    (hdue : 50 ≤ (r :: l).length ∨ r.joined + 250000 ≤ ktb s) :
    exec .journalGroupClose s = .next ((onlineDrives s).foldl (fun s d => nvmeIssue d 1 s) { s with chest := { s.chest with
      inFlight := (r :: l).take 50, group := (r :: l).drop 50, blocks := s.chest.blocks + 1 } }) := by
  have hclose : (decide ((r :: l).length < 50) && decide (ktb s < r.joined + 250000)) = false := by
    simp only [Bool.and_eq_false_iff, decide_eq_false_iff_not, Nat.not_lt]
    exact hdue
  rw [exec_journalGroupClose, execJournalGroupClose, running_of hrun]
  simp only [hgroup, hflight, hclose, not_halted_of_planesRun hrun, List.isEmpty_nil, Bool.not_true, Bool.or_self, Bool.false_eq_true,
    if_false, ok_eq_next]
  rfl

/-- With its write complete on every drive, the group's records take effect in order (R149). -/
theorem exec_journalGroupDurable_complete {l : JRec} (hlast : s.chest.inFlight.getLast? = some l)
    (hdone : ((onlineDrives s).any fun d => (driveOf s d).cmds.any fun c => c.opc = 1) = false) :
    exec .journalGroupDurable s = .next (
      let u := s.chest.inFlight.foldl (fun s r => applyRec r s) ((onlineDrives s).foldl
        (fun v d => putDrive d { driveOf v d with journal := (driveOf v d).journal ++ s.chest.inFlight } v) s)
      { u with chest := { u.chest with durable := l.jseq, inFlight := [] } }) := by
  rw [exec_journalGroupDurable, execJournalGroupDurable, running_of hrun]
  simp only [hlast, hdone, Bool.false_eq_true, if_false, ok_eq_next]

/-- A map checkpoint that is due begins with CKPT_BEGIN for the slot not in use (R150). -/
theorem exec_mapCheckpoint_due (hup : chestUp s = true) (hnone : s.chest.ckpt = none)
    (hdue : 65536 ≤ s.chest.blocks ∨ s.chest.baseAt + chsF s 55 48 * 1000000000 ≤ ktb s) :
    exec .mapCheckpoint s = .next (
      let u := jWrite .ckptBegin (1 - s.chest.slot) .empty s
      { u with chest := { u.chest with
        baseAt := ktb u
        ckpt := some
          { base := s.chest.jseq, slot := 1 - s.chest.slot, copy := ⟨0, [], []⟩, endJseq := 0, blocks := s.chest.blocks } } }) := by
  rw [exec_mapCheckpoint, execMapCheckpoint, running_of hrun]
  simp only [hup, hnone, hdue, Bool.not_true, Bool.false_eq_true, Bool.or_eq_true, decide_eq_true_eq, if_false, if_true, ok_eq_next]

end Journal

/-! ## The Harrow (R155 to R157) -/

section Harrow

variable {s : State} {d : Nat} (hrun : planesRun s = true) (hup : chestUp s = true) (honline : (driveOf s d).st = .online)
include hrun hup honline

/-- Below HARROW_START_PCT the victim is marked COLLECTING and its live pieces are copied (R155, R157). -/
theorem exec_harrowCollect_starts {g : Nat} (hidle : NMap.get? s.chest.harrow d = none)
    (hlow : freeU s (driveOf s d) < pctOf (chsF s 15 8) (dataSegs (driveOf s d))) (hvictim : harrowVictim (driveOf s d) = some g) :
    exec (.harrowCollect d) s = .next (
      let u := putDrive d { driveOf s d with segs := NMap.modify (driveOf s d).segs g (fun x => { x with st := .collecting }) } s
      let v := { u with chest := { u.chest with harrow := NMap.put u.chest.harrow d { victim := g, lastPut := 0 } } }
      (livePieces v d g).foldl (harrowCopy d) v) := by
  rw [exec_harrowCollect, execHarrowCollect, running_of hrun]
  simp only [hup, honline, hidle, hlow, hvictim, ne_eq, not_true_eq_false, decide_false, Bool.not_true, Bool.or_self, Bool.false_eq_true,
    if_false, if_true, ok_eq_next]

/-- The victim of a collection whose PUTs are durable, with no live piece, no read on it and no record that waits, becomes FREE (R156 steps 6
and 7). -/
theorem exec_harrowDeallocate_empty {seg : Nat} {g : Seg} {h : Collect} (hseg : NMap.get? (driveOf s d).segs seg = some g)
    (hst : g.st = .collecting) (hlive : g.live = 0) (hcollect : NMap.get? s.chest.harrow d = some h) (hvictim : h.victim = seg)
    (hput : h.lastPut ≤ s.chest.durable) (hread : s.chest.stagings = []) (hgroup : s.chest.group = []) (hflight : s.chest.inFlight = [])
    (hstalled : s.chest.stalled = []) :
    exec (.harrowDeallocate d seg) s = .next (
      let u := putDrive d { driveOf s d with segs := NMap.erase (driveOf s d).segs seg, free := { (driveOf s d).free with
        freed := (driveOf s d).free.freed ++ [seg] } } s
      let v := { u with chest := { u.chest with harrow := NMap.erase u.chest.harrow d } }
      jAppend .segFree (d * 2 ^ 24 + seg) .empty (bumpF .CHS_HARROW (.yoke .yw) 0 31 0 1 v)) := by
  rw [exec_harrowDeallocate, execHarrowDeallocate, running_of hrun]
  simp only [hseg, hst, hlive, hcollect, hvictim, Nat.not_lt.mpr hput, hread, hgroup, hflight, hstalled, hup, honline, List.append_nil,
    List.any_nil, ne_eq, not_true_eq_false, decide_true, decide_false, Bool.and_false, Bool.not_true, Bool.or_self, Bool.false_eq_true,
    if_false, if_true, ok_eq_next]

end Harrow

/-- Settles O12: each clause is what the row answers where its premises leave it one branch. -/
theorem chestJournalAndHarrow : Obligations.ChestJournalAndHarrow :=
  ⟨fun _ _ _ hrun hgroup hflight hdue => exec_journalGroupClose_due hrun hgroup hflight hdue,
   fun _ _ hrun hlast hdone => exec_journalGroupDurable_complete hrun hlast hdone,
   fun _ hrun hup hnone hdue => exec_mapCheckpoint_due hrun hup hnone hdue,
   fun _ _ _ hrun hup honline hidle hlow hvictim => exec_harrowCollect_starts hrun hup honline hidle hlow hvictim,
   fun _ _ _ _ _ hrun hup honline ⟨hseg, hst, hlive⟩ ⟨hcollect, hvictim, hput⟩ hread ⟨hgroup, hflight, hstalled⟩ =>
     exec_harrowDeallocate_empty hrun hup honline hseg hst hlive hcollect hvictim hput hread hgroup hflight hstalled⟩

end Sys2Proof.Machine
end

section
/-!
SUPPORT. The Furrows (R80, R173 to R177, R180 to R193, R213, R232): the attention request queues and their batches, and the work items on the Furrows,
each by what its row does on the state it is found in.
-/
namespace Sys2Proof.Machine

/-! ## Attention request queues (R173, R174, R176, R177, R192, R193, R232) -/

section Arq

variable {s : State} (hrun : planesRun s = true)
include hrun

section Take

variable {arq : Nat} (hready : arqReady s arq = true)
include hready

/-- A header that fails the checks of R176 stops the queue. -/
theorem exec_arqBatchTake_malformed (hhdr : hdrOk s arq (arqHdr s arq) = false) :
    exec (.arqBatchTake arq) s = .next (stopArq arq .badFormat s) := by
  rw [exec_arqBatchTake, execArqBatchTake, running_of hrun]
  simp only [hready, hhdr, Bool.not_true, Bool.not_false, Bool.false_eq_true, if_false, if_true, ok_eq_next]

section Notified

variable (hhdr : hdrOk s arq (arqHdr s arq) = true) (hall : (arqOf s arq).take + (arqHdr s arq).len ≤ (arqOf s arq).pi)
  (hpad : hdrPad s arq (arqHdr s arq) = false)
include hhdr hall hpad

/-- A batch whose record is larger than the whole response ring can never be answered (R192). -/
theorem exec_arqBatchTake_never_fits
    (hbig : (rspCfg s (arqHdr s arq).ring).1 < batchNeed s (arqHdr s arq) (batchEntries s arq (arqHdr s arq))) :
    exec (.arqBatchTake arq) s = .next (stopArq arq .noSpace s) := by
  rw [exec_arqBatchTake, execArqBatchTake, running_of hrun]
  simp only [hready, hhdr, hpad, hbig, Nat.not_lt.mpr hall, Bool.not_true, Bool.false_eq_true, if_false, if_true, ok_eq_next]

/-- A batch whose record fits the ring and its free credit is taken (R192). -/
theorem exec_arqBatchTake_fits
    (hsize : batchNeed s (arqHdr s arq) (batchEntries s arq (arqHdr s arq)) ≤ (rspCfg s (arqHdr s arq).ring).1)
    (hroom : batchNeed s (arqHdr s arq) (batchEntries s arq (arqHdr s arq)) ≤ rspRoom s (arqHdr s arq).ring) :
    exec (.arqBatchTake arq) s = .next (settle (batchTaken arq (arqHdr s arq) s)) := by
  rw [exec_arqBatchTake, execArqBatchTake, running_of hrun]
  simp only [hready, hhdr, hpad, Nat.not_lt.mpr hall, Nat.not_lt.mpr hsize, Nat.not_lt.mpr hroom, Bool.not_true, Bool.false_eq_true,
    if_false, okSettle_eq_next]

end Notified

end Take

/-- With every entry ended, the batch's record leaves in TC6 (R177, R193). -/
theorem exec_batchResponse_ended {arq serial : Nat} {b : Batch}
    (hbatch : (arqOf s arq).batches.find? (fun b => b.serial = serial && !b.answered) = some b)
    (hended : (b.entries.filterMap fun i => NMap.get? s.fur.entries i).any (fun e => e.status.isNone) = false) :
    exec (.batchResponse arq serial) s = .next (batchAnswered arq b (rspEmit b.ring 6 (batchRecord s arq b) b.reserved 0x01 s)) := by
  rw [exec_batchResponse, execBatchResponse, running_of hrun]
  simp only [hbatch, hended, not_halted_of_planesRun hrun, Bool.or_self, Bool.false_eq_true, if_false, ok_eq_next]

/-- A stopped queue resumes with PI at its take point (R173). -/
theorem exec_arqErrorClear_stopped {arq : Nat} {st : Status} (herr : (arqOf s arq).err = some st) :
    exec (.arqErrorClear arq) s = .next (setLiveF .FUR_ARQ_STATUS (.acre (Acre.ofNum (arq / 64))) (arq % 64) 40 40 0
      (writePi (Acre.ofNum (arq / 64)) (arqCfg s arq) (arqOf s arq).take
        (putArq arq { arqOf s arq with err := none, pi := (arqOf s arq).take, marks := [], aborts := [] } s))) := by
  rw [exec_arqErrorClear, execArqErrorClear, running_of hrun]
  simp only [herr, ok_eq_next]

/-- An entry whose sample record has not come in time ends, and its session's held requests go on (R232). -/
theorem exec_sampleHoldTimeout_due {id since : Nat} {e : AttnEntry} (hentry : NMap.get? s.fur.entries id = some e)
    (hheld : (auxOf s e.slot).sampleHold.find? (fun h => h.1 = id) = some (id, since)) (hdue : since ≤ ktb s) :
    exec (.sampleHoldTimeout id) s = .next (settle (drainHeld e.slot (endEntry id .badFormat
      (setAux e.slot { auxOf s e.slot with sampleHold := (auxOf s e.slot).sampleHold.filter (fun y => y.1 ≠ id) } s)))) := by
  rw [exec_sampleHoldTimeout, execSampleHoldTimeout, running_of hrun]
  simp only [hentry, hheld, Nat.not_lt.mpr hdue, if_false, okSettle_eq_next]

end Arq

/-- Settles O14: each clause is what the row answers where its premises leave it one branch. -/
theorem attentionQueueCommands : Obligations.AttentionQueueCommands :=
  ⟨fun _ _ hrun hready hhdr => exec_arqBatchTake_malformed hrun hready hhdr,
   fun _ _ hrun hready hhdr hall hpad =>
     ⟨exec_arqBatchTake_never_fits hrun hready hhdr hall hpad, exec_arqBatchTake_fits hrun hready hhdr hall hpad⟩,
   fun _ _ _ _ hrun hbatch hended => exec_batchResponse_ended hrun hbatch hended,
   fun _ _ _ hrun herr => exec_arqErrorClear_stopped hrun herr,
   fun _ _ _ _ hrun hentry hheld hdue => exec_sampleHoldTimeout_due hrun hentry hheld hdue⟩

/-! ## Items on the Furrows (R180, R182 to R186, R189, R213) -/

section Items

variable {s : State} (hrun : planesRun s = true)
include hrun

/-- The oldest DECODE or VERIFY item takes a free Furrow of the whole Acre, and a pre-emption may be latched (R183, R184, R186). -/
theorem exec_itemDispatch_decode {a : Acre} {f : Nat} {i : WorkItem} {r : List WorkItem} (hqueue : s.fur.dvQ.get a = i :: r)
    (hfree : freeFurrow s (acreFurrows a) = some f) :
    exec (.itemDispatch a) s =
      .next (settle (latchCheck a (startItem f i { s with fur := { s.fur with dvQ := s.fur.dvQ.set a r } }))) := by
  rw [exec_itemDispatch, execItemDispatch, running_of hrun]
  simp only [hqueue, hfree, not_halted_of_planesRun hrun, Bool.false_eq_true, if_false, okSettle_eq_next]

/-- While no DECODE or VERIFY item waits, a saved PREFILL item at the front resumes outside the reserve (R185). -/
theorem exec_prefillRestore_saved {a : Acre} {f : Nat} {i : WorkItem} {r : List WorkItem} (hnone : s.fur.dvQ.get a = [])
    (hqueue : s.fur.pfQ.get a = i :: r) (hfree : freeFurrow s (nonReserve s a) = some f) (hsaved : i.saved = true) :
    exec (.prefillRestore a) s =
      .next (putFur f (.running { i with saved := false } (ktb s)) { s with fur := { s.fur with pfQ := s.fur.pfQ.set a r } }) := by
  rw [exec_prefillRestore, execPrefillRestore, running_of hrun]
  simp only [hnone, hqueue, hfree, hsaved, not_halted_of_planesRun hrun, Bool.not_true, Bool.or_self, Bool.false_eq_true, if_false,
    ok_eq_next]

/-- An item whose sheaves can all be read joins its entry (R189, R213). -/
theorem exec_itemComplete_readable {f : Nat} {i : WorkItem} {e : AttnEntry} (hitem : itemOn (furUse s f) = some i)
    (hup : furrowUp s f = true) (hentry : NMap.get? s.fur.entries i.entry = some e)
    (hread : gatherCheck s e (itemSheaves s e i) = (none, none)) :
    exec (.itemComplete f) s = .next (itemDone f i e (itemSheaves s e i) s) := by
  rw [exec_itemComplete, execItemComplete, running_of hrun]
  simp only [hitem, hup, hentry, hread, not_halted_of_planesRun hrun, Bool.not_true, Bool.or_self, Bool.false_eq_true, if_false,
    ok_eq_next]

section Latched

variable {a : Acre} {f since : Nat} {i : WorkItem} (hlatch : s.fur.latch.get a = some f) (huse : furUse s f = .running i since)
include hlatch huse

/-- A latched pre-emption is void where the backlog is gone (R186 step 3). -/
theorem exec_preemptSave_void (hgone : backlog s a = false) :
    exec (.preemptSave a) s =
      .next (bumpF .FUR_EVENTS (.acre a) 0 39 24 1 { s with fur := { s.fur with latch := s.fur.latch.set a none } }) := by
  rw [exec_preemptSave, execPreemptSave, running_of hrun]
  simp only [hlatch, huse, hgone, Bool.not_false, if_true, ok_eq_next]

/-- While the backlog stands, the save begins in the 16 MiB found for it (R186 steps 3 and 4). -/
theorem exec_preemptSave_begins (hbacklog : backlog s a = true) {e : AttnEntry} (hentry : NMap.get? s.fur.entries i.entry = some e)
    {u : State} (hroom : makeRoom a (desc s e.slot).principal 16777216 false (roomFuel s a) s = some u) :
    exec (.preemptSave a) s = .next (putFur f (.saving i) u) := by
  rw [exec_preemptSave, execPreemptSave, running_of hrun]
  simp only [hlatch, huse, hbacklog, hentry, hroom, Bool.not_true, Bool.false_eq_true, if_false, ok_eq_next]

end Latched

/-- A saved item waits behind the items saved before it, and its Furrow is free (R186 step 5). -/
theorem exec_preemptSaveDone_saving {f : Nat} {i : WorkItem} (huse : furUse s f = .saving i) :
    exec (.preemptSaveDone f) s = .next (
      let a := Acre.ofNum (f / 12)
      let q := s.fur.pfQ.get a
      let u := acctAdd ((NMap.get? s.fur.entries i.entry).elim 0 (fun e => (desc s e.slot).principal)) 6 1 s
      bumpF .FUR_EVENTS (.acre a) 0 23 0 1 (putFur f .idle { u with fur := { u.fur with
        pfQ := u.fur.pfQ.set a
          (q.takeWhile (fun x => x.saved) ++ [{ i with saved := true, preempts := i.preempts + 1 }] ++ q.dropWhile (fun x => x.saved))
        latch := u.fur.latch.set a (if s.fur.latch.get a = some f then none else s.fur.latch.get a) } })) := by
  rw [exec_preemptSaveDone, execPreemptSaveDone, running_of hrun]
  simp only [huse, ok_eq_next]

/-- With no item left, and every entry admitted before it on its layer complete, an entry completes (R80, R180, R181). -/
theorem exec_entryComplete_last {id : Nat} {e : AttnEntry} {u : State} (hentry : NMap.get? s.fur.entries id = some e)
    (hopen : e.open_ = true) (hleft : e.left = 0) (hfirst : earlierOpen s id e = false) (hown : own e.slot s = some u) :
    exec (.entryComplete id) s = .next (settle (attnEnded e.slot (entryDone id e u))) := by
  rw [exec_entryComplete, execEntryComplete, running_of hrun]
  simp only [hentry, hopen, hleft, hfirst, hown, not_halted_of_planesRun hrun, bne_self_eq_false, Bool.not_true, Bool.or_self,
    Bool.false_eq_true, if_false, okSettle_eq_next]

end Items

/-- Settles O15: each clause is what the row answers where its premises leave it one branch. -/
theorem furrowItemCommands : Obligations.FurrowItemCommands :=
  ⟨fun _ _ _ _ _ hrun hqueue hfree => exec_itemDispatch_decode hrun hqueue hfree,
   fun _ _ _ _ _ hrun hnone hqueue hfree hsaved => exec_prefillRestore_saved hrun hnone hqueue hfree hsaved,
   fun _ _ _ _ hrun hitem hup hentry hread => exec_itemComplete_readable hrun hitem hup hentry hread,
   fun _ _ _ _ _ hrun hlatch huse =>
     ⟨exec_preemptSave_void hrun hlatch huse,
      fun _ _ hbacklog hentry hroom => exec_preemptSave_begins hrun hlatch huse hbacklog hentry hroom⟩,
   fun _ _ _ hrun huse => exec_preemptSaveDone_saving hrun huse,
   fun _ _ _ _ hrun hentry hopen hleft hfirst hown => exec_entryComplete_last hrun hentry hopen hleft hfirst hown⟩

end Sys2Proof.Machine
end

section
/-!
SUPPORT. The Gleaners (R173, R259 to R269, R274, R275): the search request queues, the passes of a search batch and its answer, each by what its
row does on the state it is found in.
-/
namespace Sys2Proof.Machine

section Search

variable {s : State} (hrun : planesRun s = true)
include hrun

/-! ## Search request queues (R173, R261, R262) -/

section Take

variable {srq : Nat} (hready : srqReady s srq = true)
include hready

/-- A header that fails the checks of R262 stops the queue. -/
theorem exec_srqBatchTake_malformed (hhdr : srqHdrOk s srq (srqHdr s srq) = false) :
    exec (.srqBatchTake srq) s = .next (stopSrq srq .badFormat s) := by
  rw [exec_srqBatchTake, execSrqBatchTake, running_of hrun]
  simp only [hready, hhdr, Bool.not_true, Bool.not_false, Bool.false_eq_true, if_false, if_true, ok_eq_next]

section Notified

variable (hhdr : srqHdrOk s srq (srqHdr s srq) = true) (hall : (srqOf s srq).take + (srqHdr s srq).len ≤ (srqOf s srq).pi)
  (hpad : srqPad s srq (srqHdr s srq) = false)
include hhdr hall hpad

/-- A batch whose record is larger than the whole response ring can never be answered (R192, R261). -/
theorem exec_srqBatchTake_never_fits (hbig : (rspCfg s (srqHdr s srq).ring).1 < srqNeed s srq (srqHdr s srq)) :
    exec (.srqBatchTake srq) s = .next (stopSrq srq .noSpace s) := by
  rw [exec_srqBatchTake, execSrqBatchTake, running_of hrun]
  simp only [hready, hhdr, hpad, hbig, Nat.not_lt.mpr hall, Bool.not_true, Bool.false_eq_true, if_false, if_true, ok_eq_next]

/-- Updates need no place among the four batches of an Acre; queries do (R264, R269). -/
theorem exec_srqBatchTake_fits (hsize : srqNeed s srq (srqHdr s srq) ≤ (rspCfg s (srqHdr s srq).ring).1)
    (hroom : srqNeed s srq (srqHdr s srq) ≤ rspRoom s (srqHdr s srq).ring)
    (hplace : (srqHdr s srq).cls = 1 ∨ acreBatches s (Acre.ofNum (srq / 16)) < 4) :
    exec (.srqBatchTake srq) s = .next (settle (srqTaken srq (srqHdr s srq) s)) := by
  have hfree : (decide ((srqHdr s srq).cls ≠ 1) && decide (4 ≤ acreBatches s (Acre.ofNum (srq / 16)))) = false := by
    simp only [Bool.and_eq_false_iff, decide_eq_false_iff_not, not_not, Nat.not_le]
    exact hplace
  rw [exec_srqBatchTake, execSrqBatchTake, running_of hrun]
  simp only [hready, hhdr, hpad, hfree, Nat.not_lt.mpr hall, Nat.not_lt.mpr hsize, Nat.not_lt.mpr hroom, Bool.not_true,
    Bool.false_eq_true, if_false, okSettle_eq_next]

end Notified

end Take

/-- A stopped queue resumes with PI at its take point (R173). -/
theorem exec_srqErrorClear_stopped {srq : Nat} {st : Status} (herr : (srqOf s srq).err = some st) :
    exec (.srqErrorClear srq) s = .next (setLiveF .GLN_SRQ_STATUS (.acre (Acre.ofNum (srq / 16))) (srq % 16) 40 40 0
      (writePi (Acre.ofNum (srq / 16)) (srqCfg s srq) (srqOf s srq).take
        (putSrq srq { srqOf s srq with err := none, pi := (srqOf s srq).take, marks := [], aborts := [] } s))) := by
  rw [exec_srqErrorClear, execSrqErrorClear, running_of hrun]
  simp only [herr, ok_eq_next]

/-! ## Passes (R259, R264, R267) -/

section Pass

variable {g serial since : Nat} {low : Bool} {b : SBatch} {x : Index} (hup : glnUp s g = true)
  (hbatch : NMap.get? s.gln.batches serial = some b) (hindex : NMap.get? s.gln.indexes b.slot = some x)
include hup hbatch hindex

/-- The end of a centroid pass frees its Gleaner for the passes that wait (R259, R264). -/
theorem exec_centroidPassDone_batch (hunit : NMap.get? s.gln.units g = some { pass := .centroid serial, low := low, at_ := since }) :
    exec (.centroidPassDone g) s =
      .next (settle (glnGoOn (Acre.ofNum (g / 4)) (centroidEnd (Acre.ofNum (g / 4)) b x (freeGln g s)))) := by
  rw [exec_centroidPassDone, execCentroidPassDone, running_of hrun]
  simp only [hunit, hup, hbatch, hindex, not_halted_of_planesRun hrun, freeGln_gln, Bool.not_true, Bool.or_self, Bool.false_eq_true,
    if_false, okSettle_eq_next]

/-- The end of a visit frees its Gleaner for the passes that wait (R259, R265). -/
theorem exec_listVisitDone_batch {l : Nat} (hunit : NMap.get? s.gln.units g = some { pass := .visit serial l, low := low, at_ := since }) :
    exec (.listVisitDone g) s =
      .next (settle (glnGoOn (Acre.ofNum (g / 4)) (visitEnd (Acre.ofNum (g / 4)) b x l (freeGln g s)))) := by
  rw [exec_listVisitDone, execListVisitDone, running_of hrun]
  simp only [hunit, hup, hbatch, hindex, not_halted_of_planesRun hrun, freeGln_gln, Bool.not_true, Bool.or_self, Bool.false_eq_true,
    if_false, okSettle_eq_next]

end Pass

/-- A Gleaner that may leave its low-priority pass takes the first high-priority pass that waits (R267). -/
theorem exec_gleanerSwitch_waiting {g : Nat} {r p : GlnRun} (hunit : NMap.get? s.gln.units g = some r)
    (hwait : (s.gln.passQ.get (Acre.ofNum (g / 4))).find? (fun p => !p.low) = some p) (hmay : maySwitch s g r = true) :
    exec (.gleanerSwitch g) s = .next (switched g r p s) := by
  rw [exec_gleanerSwitch, execGleanerSwitch, running_of hrun]
  simp only [hunit, hwait, hmay, if_true, ok_eq_next]

/-! ## Answers (R259, R264, R269, R275) -/

section Answer

variable {serial : Nat} {b : SBatch} (hbatch : NMap.get? s.gln.batches serial = some b)
include hbatch

section Merge

variable (hphase : b.phase = .visits) (hvisits : b.visits = [])
include hphase hvisits

/-- An update batch is answered with the status of each update (R269). -/
theorem exec_searchMerge_updates (hcls : b.cls = 1) :
    exec (.searchMerge serial) s = .next (settle (glnGoOn b.acre (searchEmit serial (plainResults b) (traceSearch b .ok s)))) := by
  rw [exec_searchMerge, execSearchMerge, running_of hrun]
  simp only [hbatch, hphase, hvisits, hcls, not_halted_of_planesRun hrun, ne_eq, not_true_eq_false, decide_false, List.isEmpty_nil,
    Bool.not_true, Bool.or_self, Bool.false_eq_true, if_false, if_true, okSettle_eq_next]

/-- A query batch is answered with the merged results of its visits (R264). -/
theorem exec_searchMerge_queries (hcls : b.cls ≠ 1) :
    exec (.searchMerge serial) s = .next (settle (glnGoOn b.acre
      (searchEmit serial (queryResults s b) (traceSearch b (firstBad (queryResults s b)) (queryDrew b s))))) := by
  rw [exec_searchMerge, execSearchMerge, running_of hrun]
  simp only [hbatch, hphase, hvisits, hcls, not_halted_of_planesRun hrun, ne_eq, not_true_eq_false, decide_false, List.isEmpty_nil,
    Bool.not_true, Bool.or_self, Bool.false_eq_true, if_false, okSettle_eq_next]

end Merge

/-- A sharded batch that waits no longer is answered with what its members have sent (R275 steps 5 and 6). -/
theorem exec_shardDeadline_over (hphase : b.phase = .members) (hover : shardWaits s b = false) :
    exec (.shardDeadline serial) s = .next (settle (glnGoOn b.acre
      (searchEmit serial (shardResults s b) (traceSearch b (firstBad (shardResults s b)) (shardDrew b s))))) := by
  rw [exec_shardDeadline, execShardDeadline, running_of hrun]
  simp only [hbatch, hphase, hover, not_halted_of_planesRun hrun, ne_eq, not_true_eq_false, decide_false, Bool.or_self, Bool.false_eq_true,
    if_false, okSettle_eq_next]

end Answer

end Search

/-- Settles O17: each clause is what the row answers where its premises leave it one branch. -/
theorem searchQueueCommands : Obligations.SearchQueueCommands :=
  ⟨fun _ _ hrun hready hhdr => exec_srqBatchTake_malformed hrun hready hhdr,
   fun _ _ hrun hready hhdr hall hpad =>
     ⟨exec_srqBatchTake_never_fits hrun hready hhdr hall hpad, exec_srqBatchTake_fits hrun hready hhdr hall hpad⟩,
   fun _ _ _ hrun herr => exec_srqErrorClear_stopped hrun herr,
   fun _ _ _ _ _ _ _ hrun hunit hup hbatch hindex => exec_centroidPassDone_batch hrun hup hbatch hindex hunit,
   fun _ _ _ _ _ _ _ _ hrun hunit hup hbatch hindex => exec_listVisitDone_batch hrun hup hbatch hindex hunit,
   fun _ _ _ hrun hbatch ⟨hphase, hvisits⟩ =>
     ⟨exec_searchMerge_updates hrun hbatch hphase hvisits, exec_searchMerge_queries hrun hbatch hphase hvisits⟩,
   fun _ _ _ _ hrun hunit hwait hmay => exec_gleanerSwitch_waiting hrun hunit hwait hmay,
   fun _ _ _ hrun hbatch ⟨hphase, hover⟩ => exec_shardDeadline_over hrun hbatch hphase hover⟩

end Sys2Proof.Machine
end

section
/-!
SUPPORT. The attention arithmetic (R196, R197, R203, R207, R208, R211): the order of FP32 values as an order of exact values, the
rounding to an integer, the sum tree without its fuel, and the merge of two partials.
-/
namespace Sys2Proof.Machine

/-! ## Order of exact values (R197) -/

/-- A finite value as an integer times a power of two not above its own. -/
theorem ratOf_eq_int_mul {p : Bool} {m : Nat} {e g : Int} (h : g ≤ e) :
    ratOf p m e =
      ((if p then -((m * 2 ^ (e - g).toNat : Nat) : Int) else ((m * 2 ^ (e - g).toNat : Nat) : Int) : Int) : Rat) * 2 ^ g := by
  have hpow : (2 : Rat) ^ e = 2 ^ (e - g).toNat * 2 ^ g := by
    rw [← zpow_natCast, ← zpow_add₀ two_ne_zero, Int.toNat_of_nonneg (by omega), sub_add_cancel]
  cases p <;> simp [ratOf, hpow, mul_assoc]

/-- Of two finite values the order is that of their rational values. -/
theorem fLt_iff_ratOf {a b : F32} {p q : Bool} {m n : Nat} {e f : Int} (ha : val32 a = .fin p m e) (hb : val32 b = .fin q n f) :
    fLt a b = true ↔ ratOf p m e < ratOf q n f := by
  have hpos : (0 : Rat) < 2 ^ min e f := zpow_pos two_pos _
  rw [ratOf_eq_int_mul (min_le_left e f), ratOf_eq_int_mul (min_le_right e f), mul_lt_mul_iff_left₀ hpos, Int.cast_lt]
  simp only [fLt, ha, hb, decide_eq_true_eq]

/-- The extended rational that a number stands for; of NaN nothing is meant. -/
def FVal.toExt : FVal → WithBot (WithTop Rat)
  | .nan => ⊤
  | .inf neg => if neg then ⊥ else ⊤
  | .fin neg m e => ((ratOf neg m e : WithTop Rat) : WithBot (WithTop Rat))

/-- The value of a number that is not NaN: an infinity or finite. -/
theorem val32_of_not_isNaN {a : F32} (h : isNaN a = false) : (∃ p, val32 a = .inf p) ∨ ∃ p m e, val32 a = .fin p m e := by
  cases hv : val32 a with
  | nan => simp [isNaN, hv] at h
  | inf p => exact .inl ⟨p, rfl⟩
  | fin p m e => exact .inr ⟨p, m, e, rfl⟩

section Order

variable {a b : F32} (ha : isNaN a = false) (hb : isNaN b = false)

include ha hb in
/-- fLt is the order of the extended rationals on numbers. -/
theorem fLt_iff_toExt : fLt a b = true ↔ (val32 a).toExt < (val32 b).toExt := by
  obtain ⟨x, hx⟩ | ⟨p, m, e, hx⟩ := val32_of_not_isNaN ha <;> obtain ⟨y, hy⟩ | ⟨q, n, f, hy⟩ := val32_of_not_isNaN hb
  · cases x <;> cases y <;> simp [fLt, hx, hy, FVal.toExt]
  · cases x <;> simp [fLt, hx, hy, FVal.toExt, WithBot.bot_lt_coe]
  · cases y <;> simp [fLt, hx, hy, FVal.toExt, ← WithBot.coe_top, WithTop.coe_lt_top]
  · simp only [fLt_iff_ratOf hx hy, hx, hy, FVal.toExt, WithBot.coe_lt_coe, WithTop.coe_lt_coe]

include ha in
theorem fLt_irrefl : fLt a a = false := by
  simpa using mt (fLt_iff_toExt ha ha).mp (lt_irrefl _)

include ha hb in
theorem fLt_asymm (h : fLt a b = true) : fLt b a = false := by
  simpa using mt (fLt_iff_toExt hb ha).mp ((fLt_iff_toExt ha hb).mp h).asymm

include ha hb in
/-- Numbers of which neither is the smaller stand for one value. -/
theorem toExt_eq_of_not_fLt (hab : fLt a b = false) (hba : fLt b a = false) : (val32 a).toExt = (val32 b).toExt :=
  le_antisymm (not_lt.mp (by simpa [hba] using (fLt_iff_toExt hb ha).symm)) (not_lt.mp (by simpa [hab] using (fLt_iff_toExt ha hb).symm))

end Order

/-! ## One pattern per value and sign (R196) -/

/-- The magnitude bits from the parts of a finite value: the steps of its exponent above the least one, and its integer. -/
theorem magVal_eq_fin {neg p : Bool} {mb bias bits m : Nat} {e : Int} (h : magVal neg mb bias bits = .fin p m e) :
    p = neg ∧ ∃ k : Nat, e = 1 - (bias : Int) - mb + k ∧ bits = k * 2 ^ mb + m ∧ m < 2 ^ (mb + 1) ∧ (k = 0 ∨ 2 ^ mb ≤ m) := by
  have hdiv := Nat.div_add_mod' bits (2 ^ mb)
  have hmod := Nat.mod_lt bits (Nat.two_pow_pos mb)
  have hpow := Nat.pow_succ 2 mb
  simp only [magVal] at h
  split at h
  next hex =>
    obtain ⟨rfl, rfl, rfl⟩ := FVal.fin.inj h
    rw [hex] at hdiv
    exact ⟨rfl, 0, by omega, by omega, by omega, .inl rfl⟩
  next hex =>
    obtain ⟨rfl, rfl, rfl⟩ := FVal.fin.inj h
    obtain ⟨k, hk⟩ := Nat.exists_eq_succ_of_ne_zero hex
    rw [hk] at hdiv ⊢
    rw [Nat.succ_mul] at hdiv
    exact ⟨rfl, k, by push_cast; omega, by omega, by omega, .inr (by omega)⟩

/-- A normalised value equal to one of no more bits does not have the larger exponent. -/
theorem steps_le_of_mul_pow_eq {mb j k m n : Nat} (hm : m < 2 ^ (mb + 1)) (hn : k = 0 ∨ 2 ^ mb ≤ n) (h : m * 2 ^ j = n * 2 ^ k) : k ≤ j := by
  by_contra hlt
  obtain ⟨d, rfl⟩ := Nat.exists_eq_add_of_lt (not_le.mp hlt)
  have hn : 2 ^ mb ≤ n := hn.resolve_left (by omega)
  have hm' : m = n * 2 ^ d * 2 := Nat.eq_of_mul_eq_mul_right (Nat.two_pow_pos j) (by rw [h]; ring)
  have := Nat.le_mul_of_pos_right n (Nat.two_pow_pos d)
  omega

/-- Magnitude bits that stand for one value are the same. -/
theorem magVal_bits_eq {p q p' q' : Bool} {mb bias x y m n : Nat} {e f : Int} (hx : magVal p mb bias x = .fin p' m e)
    (hy : magVal q mb bias y = .fin q' n f) (h : (m : Rat) * 2 ^ e = n * 2 ^ f) : x = y := by
  obtain ⟨_, j, rfl, rfl, hm, hj⟩ := magVal_eq_fin hx
  obtain ⟨_, k, rfl, rfl, hn, hk⟩ := magVal_eq_fin hy
  have hnat : m * 2 ^ j = n * 2 ^ k := by
    have hne : (2 : Rat) ^ (1 - (bias : Int) - mb) ≠ 0 := zpow_ne_zero _ two_ne_zero
    rw [zpow_add₀ two_ne_zero, zpow_add₀ two_ne_zero, mul_left_comm, mul_left_comm (n : Rat), mul_right_inj' hne] at h
    exact_mod_cast h
  obtain rfl : j = k := le_antisymm (steps_le_of_mul_pow_eq hn hj hnat.symm) (steps_le_of_mul_pow_eq hm hk hnat)
  rw [Nat.eq_of_mul_eq_mul_right (Nat.two_pow_pos j) hnat]

/-- A pattern is its magnitude bits and its sign bit. -/
theorem f32_eq_of_mag_of_sign {a b : F32} (hmag : a.toNat % 2 ^ 31 = b.toNat % 2 ^ 31) (hsign : a.getLsbD 31 = b.getLsbD 31) : a = b := by
  have hbit : a.toNat / 2 ^ 31 % 2 = 1 ↔ b.toNat / 2 ^ 31 % 2 = 1 := by
    simpa [BitVec.getLsbD, Nat.testBit_eq_decide_div_mod_eq] using hsign
  have := a.isLt
  have := b.isLt
  exact BitVec.eq_of_toNat_eq (by omega)

/-- An infinity has one pattern. -/
theorem val32_eq_inf {a : F32} {p : Bool} (h : val32 a = .inf p) : a = fInf p := by
  simp only [val32] at h
  split at h
  · contradiction
  split at h
  next hmag =>
    obtain rfl := FVal.inf.inj h
    cases hs : a.getLsbD 31 <;> exact f32_eq_of_mag_of_sign hmag hs
  · simp only [magVal] at h
    split at h <;> contradiction

/-- A finite value has the pattern's sign, and its magnitude is that of the bits below the sign. -/
theorem val32_eq_fin {a : F32} {p : Bool} {m : Nat} {e : Int} (h : val32 a = .fin p m e) :
    p = a.getLsbD 31 ∧ magVal (a.getLsbD 31) 23 127 (a.toNat % 2 ^ 31) = .fin p m e := by
  simp only [val32] at h
  split at h
  · contradiction
  split at h
  · contradiction
  · exact ⟨(magVal_eq_fin h).1, h⟩

/-- Numbers of one value and one sign have one pattern. -/
theorem eq_of_toExt_eq {a b : F32} (ha : isNaN a = false) (hb : isNaN b = false) (hsign : a.getLsbD 31 = b.getLsbD 31)
    (h : (val32 a).toExt = (val32 b).toExt) : a = b := by
  obtain ⟨x, hx⟩ | ⟨p, m, e, hx⟩ := val32_of_not_isNaN ha <;> obtain ⟨y, hy⟩ | ⟨q, n, f, hy⟩ := val32_of_not_isNaN hb <;>
    rw [hx, hy] at h
  · rw [val32_eq_inf hx, val32_eq_inf hy]
    cases x <;> cases y <;> simp_all [FVal.toExt]
  · cases x <;> simp [FVal.toExt, ← WithBot.coe_top] at h
  · cases y <;> simp [FVal.toExt, ← WithBot.coe_top] at h
  · obtain ⟨hp, hmx⟩ := val32_eq_fin hx
    obtain ⟨hq, hmy⟩ := val32_eq_fin hy
    obtain rfl : p = q := by rw [hp, hq, hsign]
    have hval : (m : Rat) * 2 ^ e = n * 2 ^ f := by
      simp only [FVal.toExt, WithBot.coe_inj, WithTop.coe_inj] at h
      cases p <;> simpa [ratOf] using h
    exact f32_eq_of_mag_of_sign (magVal_bits_eq hmx hmy hval) hsign

/-! ## The maximum (R197) -/

theorem fMax_of_isNaN {a b : F32} (h : isNaN a = true ∨ isNaN b = true) : fMax a b = fNaN := by
  simp [fMax, h]

section Maximum

variable {a b : F32} (ha : isNaN a = false) (hb : isNaN b = false)
include ha hb

theorem fMax_of_fLt (h : fLt a b = true) : fMax a b = b := by
  simp [fMax, ha, hb, h]

theorem fMax_of_fLt_swap (h : fLt b a = true) : fMax a b = a := by
  simp [fMax, ha, hb, h, fLt_asymm hb ha h]

/-- Of two equal numbers the maximum is the one without a sign, if either. -/
theorem fMax_of_not_fLt (hab : fLt a b = false) (hba : fLt b a = false) : fMax a b = if a.getLsbD 31 then b else a := by
  simp [fMax, ha, hb, hab, hba]

theorem fMax_eq_or : fMax a b = a ∨ fMax a b = b := by
  cases hab : fLt a b with
  | true => exact .inr (fMax_of_fLt ha hb hab)
  | false =>
    cases hba : fLt b a with
    | true => exact .inl (fMax_of_fLt_swap ha hb hba)
    | false =>
      rw [fMax_of_not_fLt ha hb hab hba]
      exact (ite_eq_or_eq _ _ _).symm

/-- Neither number is larger than the maximum. -/
theorem fMax_not_fLt : fLt (fMax a b) a = false ∧ fLt (fMax a b) b = false := by
  cases hab : fLt a b with
  | true => simp [fMax_of_fLt ha hb hab, fLt_asymm ha hb hab, fLt_irrefl hb]
  | false =>
    cases hba : fLt b a with
    | true => simp [fMax_of_fLt_swap ha hb hba, hab, fLt_irrefl ha]
    | false => obtain h | h := fMax_eq_or ha hb <;> simp [h, hab, hba, fLt_irrefl ha, fLt_irrefl hb]

end Maximum

theorem fMax_comm (a b : F32) : fMax a b = fMax b a := by
  by_cases hnan : isNaN a = true ∨ isNaN b = true
  · rw [fMax_of_isNaN hnan, fMax_of_isNaN hnan.symm]
  simp only [not_or, Bool.not_eq_true] at hnan
  obtain ⟨ha, hb⟩ := hnan
  cases hab : fLt a b with
  | true => rw [fMax_of_fLt ha hb hab, fMax_of_fLt_swap hb ha hab]
  | false =>
    cases hba : fLt b a with
    | true => rw [fMax_of_fLt_swap ha hb hba, fMax_of_fLt hb ha hba]
    | false =>
      rw [fMax_of_not_fLt ha hb hab hba, fMax_of_not_fLt hb ha hba hab]
      by_cases hsign : a.getLsbD 31 = b.getLsbD 31
      · simp [eq_of_toExt_eq ha hb hsign (toExt_eq_of_not_fLt ha hb hab hba)]
      · cases hs : a.getLsbD 31 <;> simp_all

theorem fMax_self {a : F32} (ha : isNaN a = false) : fMax a a = a :=
  (fMax_eq_or ha ha).elim id id

@[simp] theorem val32_fInf (p : Bool) : val32 (fInf p) = .inf p := by
  cases p <;> rfl

@[simp] theorem isNaN_fInf (p : Bool) : isNaN (fInf p) = false := by
  simp [isNaN]

/-- Minus infinity is the unit of the maximum of numbers. -/
theorem fMax_fInf_true {a : F32} (ha : isNaN a = false) : fMax (fInf true) a = a := by
  obtain ⟨x, hx⟩ | ⟨p, m, e, hx⟩ := val32_of_not_isNaN ha
  · rw [val32_eq_inf hx]
    cases x <;> decide
  · exact fMax_of_fLt (isNaN_fInf _) ha (by simp [fLt, hx])

/-- Plus infinity absorbs every number under the maximum. -/
theorem fMax_fInf_false {a : F32} (ha : isNaN a = false) : fMax (fInf false) a = fInf false := by
  obtain ⟨x, hx⟩ | ⟨p, m, e, hx⟩ := val32_of_not_isNaN ha
  · rw [val32_eq_inf hx]
    cases x <;> decide
  · exact fMax_of_fLt_swap (isNaN_fInf _) ha (by simp [fLt, hx])

/-! ## rint (R197) -/

/-- The quotient `q` by `2 * h` with remainder `r`, rounded up where the remainder is past `h`, or is `h` and the quotient odd. -/
def halfEven (h q r : Nat) : Nat := if h < r ∨ (r = h ∧ q % 2 = 1) then q + 1 else q

/-- Rounding half to even is within half a unit, and gives the even one of two integers equally near. -/
theorem halfEven_near {h r : Nat} (q : Nat) (hr : r < 2 * h) :
    |(q : Rat) + r / (2 * h) - halfEven h q r| ≤ 1 / 2 ∧ (|(q : Rat) + r / (2 * h) - halfEven h q r| = 1 / 2 → halfEven h q r % 2 = 0) := by
  have hpos : (0 : Rat) < 2 * h := by exact_mod_cast hr.trans_le' (Nat.zero_le r)
  have hr' : (r : Rat) < 2 * h := by exact_mod_cast hr
  unfold halfEven
  split
  next hup =>
    have hge : (h : Rat) ≤ r := by exact_mod_cast (show h ≤ r by omega)
    have hneg : (q : Rat) + r / (2 * h) - (q + 1 : Nat) = -((2 * h - r) / (2 * h)) := by rw [sub_div, div_self hpos.ne']; push_cast; ring
    rw [hneg, abs_neg, abs_of_nonneg (div_nonneg (by linarith) hpos.le), div_le_iff₀ hpos, div_eq_iff hpos.ne']
    refine ⟨by linarith, fun htie => ?_⟩
    have : r = h := by exact_mod_cast (show (r : Rat) = h by linarith)
    omega
  next hdown =>
    have hle : (r : Rat) ≤ h := by exact_mod_cast (show r ≤ h by omega)
    rw [add_sub_cancel_left, abs_of_nonneg (div_nonneg r.cast_nonneg hpos.le), div_le_iff₀ hpos, div_eq_iff hpos.ne']
    refine ⟨by linarith, fun htie => ?_⟩
    have : r = h := by exact_mod_cast (show (r : Rat) = h by linarith)
    omega

/-- A right shift by `c + 1` places rounds the quotient by twice 2^c. -/
theorem shiftRne_neg (m c : Nat) :
    shiftRne m (-((c + 1 : Nat) : Int)) = halfEven (2 ^ c) (m / 2 ^ (c + 1)) (m % 2 ^ (c + 1)) := by
  have hneg : ¬ (0 : Int) ≤ -((c + 1 : Nat) : Int) := by omega
  have hd : (-(-((c + 1 : Nat) : Int))).toNat = c + 1 := by omega
  simp only [shiftRne, halfEven, hneg, if_false, hd, Nat.add_sub_cancel, Bool.or_eq_true, Bool.and_eq_true, decide_eq_true_eq]

/-- The quotient by twice 2^c, with its remainder, is exact. -/
theorem div_two_pow_succ (m c : Nat) :
    (m : Rat) / 2 ^ (c + 1) = (m / 2 ^ (c + 1) : Nat) + (m % 2 ^ (c + 1) : Nat) / (2 * (2 ^ c : Nat)) := by
  have hne : (2 : Rat) ^ (c + 1) ≠ 0 := pow_ne_zero _ two_ne_zero
  have hhalf : 2 * ((2 ^ c : Nat) : Rat) = 2 ^ (c + 1) := by push_cast; ring
  rw [hhalf, div_eq_iff hne, add_mul, div_mul_cancel₀ _ hne]
  exact_mod_cast (Nat.div_add_mod' m (2 ^ (c + 1))).symm

/-- shiftRne gives the integer nearest to m × 2^k, and the even one of two equally near. -/
theorem shiftRne_near (m : Nat) (k : Int) :
    |(m : Rat) * 2 ^ k - shiftRne m k| ≤ 1 / 2 ∧ (|(m : Rat) * 2 ^ k - shiftRne m k| = 1 / 2 → shiftRne m k % 2 = 0) := by
  obtain ⟨d, rfl⟩ | ⟨c, rfl⟩ : (∃ d : Nat, k = d) ∨ ∃ c : Nat, k = -((c + 1 : Nat) : Int) := by
    obtain h | h := le_or_gt 0 k
    · exact .inl ⟨k.toNat, by omega⟩
    · exact .inr ⟨(-k).toNat - 1, by omega⟩
  · simp [shiftRne]
  · rw [zpow_neg, zpow_natCast, ← div_eq_mul_inv, div_two_pow_succ, shiftRne_neg]
    exact halfEven_near _ ((Nat.mod_lt m (Nat.two_pow_pos _)).trans_eq (Nat.pow_succ' ..))

/-- The distance of a finite value from its rint is that of its magnitude from its rounded magnitude, with the sign. -/
theorem ratOf_sub_rintZ {a : F32} {p : Bool} {m : Nat} {e : Int} (h : val32 a = .fin p m e) :
    ratOf p m e - (rintZ a : Rat) = (if p then -1 else 1) * ((m : Rat) * 2 ^ e - shiftRne m e) := by
  cases p with
  | false => simp [rintZ, h, ratOf]
  | true => simp [rintZ, h, ratOf]; ring

theorem rintZ_mod_two {a : F32} {p : Bool} {m : Nat} {e : Int} (h : val32 a = .fin p m e) (heven : shiftRne m e % 2 = 0) : rintZ a % 2 = 0 := by
  cases p <;> simp [rintZ, h] <;> omega

/-- rint is the nearest integer, and the even one of two equally near. -/
theorem rintZ_near {a : F32} {p : Bool} {m : Nat} {e : Int} (h : val32 a = .fin p m e) :
    |ratOf p m e - (rintZ a : Rat)| ≤ 1 / 2 ∧ (|ratOf p m e - (rintZ a : Rat)| = 1 / 2 → rintZ a % 2 = 0) := by
  have habs : |ratOf p m e - (rintZ a : Rat)| = |(m : Rat) * 2 ^ e - shiftRne m e| := by
    rw [ratOf_sub_rintZ h]
    cases p <;> simp [abs_sub_comm]
  obtain ⟨hle, heven⟩ := shiftRne_near m e
  rw [habs]
  exact ⟨hle, fun htie => rintZ_mod_two h (heven htie)⟩

/-! ## The fixed sum tree (R203) -/

@[simp] theorem fTree_singleton (n : Nat) (x : F32) : fTree n [x] = x := by
  cases n <;> rfl

/-- The first part of a tree of more than 2^k and at most 2^(k+1) values has 2^k. -/
theorem log2_pred_eq {n k : Nat} (hlo : 2 ^ k < n) (hhi : n ≤ 2 ^ (k + 1)) : Nat.log2 (n - 1) = k :=
  (Nat.log2_eq_iff (by have := Nat.two_pow_pos k; omega)).mpr (by omega)

/-- A list of two values or more lies between two powers of two as in R203. -/
theorem exists_two_pow_split {n : Nat} (h : 2 ≤ n) : ∃ k, 2 ^ k < n ∧ n ≤ 2 ^ (k + 1) := by
  have hne : n - 1 ≠ 0 := by omega
  have hle := Nat.log2_self_le hne
  have hlt := Nat.lt_log2_self (n := n - 1)
  exact ⟨Nat.log2 (n - 1), by omega, by omega⟩

/-- A tree of two values or more is the rounded sum of the trees of its two parts. -/
theorem fTree_succ {xs : List F32} {k : Nat} (hlo : 2 ^ k < xs.length) (hhi : xs.length ≤ 2 ^ (k + 1)) (n : Nat) :
    fTree (n + 1) xs = fAdd (fTree n (xs.take (2 ^ k))) (fTree n (xs.drop (2 ^ k))) := by
  have h2 : 2 ≤ xs.length := by have := Nat.two_pow_pos k; omega
  obtain rfl := log2_pred_eq hlo hhi
  match xs, h2 with
  | _ :: _ :: _, _ => rfl

/-- Fuel beyond the tree's height changes nothing. -/
theorem fTree_succ_fuel (n : Nat) (xs : List F32) (h : xs.length ≤ 2 ^ n) : fTree (n + 1) xs = fTree n xs := by
  induction n generalizing xs with
  | zero =>
    match xs, h with
    | [], _ => rfl
    | [_], _ => rfl
  | succ n ih =>
    match xs, h with
    | [], _ => rfl
    | [_], _ => rfl
    | x :: y :: r, h =>
      obtain ⟨k, hlo, hhi⟩ := exists_two_pow_split (n := (x :: y :: r).length) (by simp)
      have hk : 2 ^ k ≤ 2 ^ n := Nat.pow_le_pow_right two_pos (Nat.lt_succ_iff.mp ((Nat.pow_lt_pow_iff_right one_lt_two).mp (hlo.trans_le h)))
      rw [fTree_succ hlo hhi, fTree_succ hlo hhi, ih _ (by rw [List.length_take]; omega), ih _ (by rw [List.length_drop]; omega)]

/-- The tree of more values than one, with its first 2^k values apart. -/
theorem treeSum_split {xs : List F32} {k : Nat} (hlo : 2 ^ k < xs.length) (hhi : xs.length ≤ 2 ^ (k + 1)) (hk : k < 32) :
    treeSum xs = fAdd (treeSum (xs.take (2 ^ k))) (treeSum (xs.drop (2 ^ k))) := by
  have hfuel : 2 ^ k ≤ 2 ^ 31 := Nat.pow_le_pow_right two_pos (by omega)
  simp only [treeSum]
  rw [fTree_succ hlo hhi 31, fTree_succ_fuel 31 (xs.take _) (by simp; omega), fTree_succ_fuel 31 (xs.drop _) (by simp; omega)]

/-! ## The table T (R208) -/

/-- T[j] lies within half a unit in the last place of 2^(j/64), as 64th powers. -/
theorem expTable_near : ∀ j < 64,
    val32 (expTable.getD j 0) = .fin false ((expTable.getD j 0).toNat - 0x3F000000) (-23) ∧
      (2 * ((expTable.getD j 0).toNat - 0x3F000000) - 1) ^ 64 < (2 ^ 256) ^ 6 * 2 ^ j ∧
      (2 ^ 256) ^ 6 * 2 ^ j < (2 * ((expTable.getD j 0).toNat - 0x3F000000) + 1) ^ 64 := by
  decide

/-- Settles O53: the order is that of the extended rationals, rint is the half-even quotient, the tree does not depend on its fuel, and the
table is checked entry by entry. -/
theorem furrowArithmetic : Obligations.FurrowArithmetic :=
  ⟨fun a b h => by rw [fMax_of_isNaN h]; decide,
   fun a b ha hb => ⟨fMax_eq_or ha hb, fMax_not_fLt ha hb⟩,
   fun a b p q m n e f ha hb => fLt_iff_ratOf ha hb,
   fun a ha => ⟨fMax_fInf_true ha, by rw [fMax_comm, fMax_fInf_true ha], fMax_fInf_false ha, by rw [fMax_comm, fMax_fInf_false ha]⟩,
   by decide, by decide,
   fun a p m e h => by
     obtain ⟨hle, heven⟩ := rintZ_near h
     obtain ⟨hlo, hhi⟩ := abs_le.mp hle
     exact ⟨hlo, hhi, fun htie => heven ((abs_eq (by norm_num)).mpr htie)⟩,
   fTree_singleton 32,
   fun xs k hlo hhi hk => treeSum_split hlo hhi hk,
   rfl, rfl, rfl,
   fun j hj => by
     obtain ⟨hval, hlo, hhi⟩ := expTable_near j hj
     have hpow : 2 ^ (j + 24 * 64) = (2 ^ 256) ^ 6 * 2 ^ j := by rw [← pow_mul, pow_add, mul_comm]
     rw [hpow]
     exact ⟨_, hval, hlo, hhi⟩⟩

/-! ## The merge of two partials (R211) -/

theorem FVal.add_comm (v w : FVal) : v.add w = w.add v := by
  cases v with
  | nan => cases w <;> rfl
  | inf a =>
    cases w with
    | nan => rfl
    | inf b => cases a <;> cases b <;> rfl
    | fin b n f => rfl
  | fin a m e =>
    cases w with
    | nan => rfl
    | inf b => rfl
    | fin b n f => simp only [FVal.add, min_comm f e, Int.add_comm, Bool.and_comm]

theorem fAdd_comm (a b : F32) : fAdd a b = fAdd b a := by
  rw [fAdd, FVal.add_comm, fAdd]

/-- The order of the two partials does not matter. -/
theorem mergePartial_comm (a b : Option Partial) : mergePartial a b = mergePartial b a := by
  match a, b with
  | none, none => rfl
  | none, some _ => rfl
  | some _, none => rfl
  | some a, some b =>
    simp only [mergePartial]
    rw [fMax_comm b.m a.m, fAdd_comm, ← List.zip_swap b.o a.o, List.map_map]
    congr 3
    funext z
    exact fAdd_comm _ _

/-- The value of a finite number. -/
theorem val32_of_isFin {a : F32} (h : isFin a = true) : ∃ p m e, val32 a = .fin p m e := by
  simp only [isFin, isInf, Bool.and_eq_true, Bool.not_eq_true', Bool.or_eq_false_iff, decide_eq_false_iff_not] at h
  obtain ⟨hnan, hpos, hneg⟩ := h
  obtain ⟨x, hx⟩ | hfin := val32_of_not_isNaN hnan
  · cases x
    · exact absurd (val32_eq_inf hx) hpos
    · exact absurd (val32_eq_inf hx) hneg
  · exact hfin

theorem isNaN_of_isFin {a : F32} (h : isFin a = true) : isNaN a = false := by
  obtain ⟨p, m, e, hx⟩ := val32_of_isFin h
  simp [isNaN, hx]

/-- An exact value cancels against itself to +0. -/
theorem FVal.add_neg_self (p : Bool) (m : Nat) (e : Int) : ∃ g, (FVal.fin p m e).add (FVal.fin p m e).neg = .fin false 0 g := by
  by_cases hm : m = 0
  · exact ⟨0, by simp [FVal.add, FVal.neg, hm]⟩
  · exact ⟨e, by cases p <;> simp [FVal.add, FVal.neg, hm]⟩

/-- The difference of a finite number from itself is +0. -/
theorem fSub_self {a : F32} (h : isFin a = true) : fSub a a = 0 := by
  obtain ⟨p, m, e, hx⟩ := val32_of_isFin h
  obtain ⟨g, hg⟩ := FVal.add_neg_self p m e
  rw [fSub, hx, hg]
  rfl

theorem exp32_zero : exp32 0 = 0x3F800000 := by decide

/-- The partial with the larger m is scaled by exactly 1.0 (R207, R211). -/
theorem exp32_fSub_fMax {a b : F32} (ha : isFin a = true) (hb : isFin b = true) :
    exp32 (fSub a (fMax a b)) = 0x3F800000 ∨ exp32 (fSub b (fMax a b)) = 0x3F800000 := by
  obtain h | h := fMax_eq_or (isNaN_of_isFin ha) (isNaN_of_isFin hb)
  · exact .inl (by rw [h, fSub_self ha, exp32_zero])
  · exact .inr (by rw [h, fSub_self hb, exp32_zero])

/-- The maximum of two values above minus infinity, NaN taken among them, is not minus infinity. -/
theorem fMax_ne_fEmpty {a b : F32} (ha : a ≠ fEmpty) (hb : b ≠ fEmpty) : fMax a b ≠ fEmpty := by
  by_cases hnan : isNaN a = true ∨ isNaN b = true
  · rw [fMax_of_isNaN hnan]; decide
  · simp only [not_or, Bool.not_eq_true] at hnan
    obtain ⟨ha', hb'⟩ := hnan
    obtain h | h := fMax_eq_or ha' hb' <;> rwa [h]

/-- The maximum of values that are all minus infinity is minus infinity. -/
theorem foldl_fMax_fEmpty {xs : List F32} (h : ∀ x ∈ xs, x = fEmpty) : xs.foldl fMax fEmpty = fEmpty := by
  induction xs with
  | nil => rfl
  | cons x xs ih =>
    obtain ⟨rfl, hxs⟩ := List.forall_mem_cons.mp h
    exact ih hxs

/-- An array of positions gives a partial only where the maximum of its scores is not minus infinity. -/
theorem sheafPartial_m_ne {fmt dv : Nat} {ps : List (Option (F32 × OpRow))} {p : Partial} (h : sheafPartial fmt dv ps = some p) :
    p.m ≠ fEmpty := by
  simp only [sheafPartial] at h
  split at h
  · contradiction
  split at h
  · contradiction
  next hne =>
    obtain rfl := Option.some.inj h
    exact hne

/-- Positions whose scores are all minus infinity give EMPTY. -/
theorem sheafPartial_eq_none {fmt dv : Nat} {ps : List (Option (F32 × OpRow))}
    (h : ∀ x ∈ ps, ∀ y, x = some y → y.1 = fEmpty) : sheafPartial fmt dv ps = none := by
  have hsc : ∀ x ∈ ps.filterMap (fun x => x.map (fun y => y.1)), x = fEmpty := by
    intro x hx
    obtain ⟨y, hy, hxy⟩ := List.mem_filterMap.mp hx
    obtain ⟨z, rfl, rfl⟩ := Option.map_eq_some_iff.mp hxy
    exact h _ hy z rfl
  simp only [sheafPartial]
  split
  · rfl
  next s0 r heq =>
    obtain ⟨rfl, hr⟩ := List.forall_mem_cons.mp (heq ▸ hsc)
    rw [if_pos (foldl_fMax_fEmpty hr)]

/-- The partial of one position of score 0 with the sum `l`, for a value row of no elements. -/
def sumOnly (l : F32) : Option Partial := some { m := 0, l := l, o := [] }

/-- Two sums of 2^-24 are each lost beside 1.0, and together are not. -/
theorem mergePartial_not_assoc :
    mergePartial (mergePartial (sumOnly 0x3F800000) (sumOnly 0x33800000)) (sumOnly 0x33800000) ≠
      mergePartial (sumOnly 0x3F800000) (mergePartial (sumOnly 0x33800000) (sumOnly 0x33800000)) := by
  decide

/-- Settles O54: maximum and sum commute, a finite maximum differs from one of the two by +0, and no maximum of two values above minus
infinity is minus infinity. -/
theorem mergeRule : Obligations.MergeRule :=
  ⟨fun _ => rfl, fun a => mergePartial_comm a none,
   fun _ _ => rfl,
   fun _ _ => exp32_fSub_fMax,
   mergePartial_comm,
   ⟨_, _, _, mergePartial_not_assoc⟩,
   fun _ _ _ _ => sheafPartial_m_ne,
   fun _ _ _ => sheafPartial_eq_none,
   fun a b c ha hb h => by
     obtain rfl := Option.some.inj h
     exact fMax_ne_fEmpty ha hb⟩

end Sys2Proof.Machine
end

section
/-!
SUPPORT. The agent loop (R80, R173, R226 to R231, R240, R241): the record at the take point of a token queue, and the commands that act on a
session's lengths and generation settings, each by what its row does on the state it is found in.
-/
namespace Sys2Proof.Machine

/-! ## Token queues (R173, R228 to R231) -/

/-- The record at the take point of a token queue. -/
def tkqRecord (s : State) (tkq : Nat) : List Byte := ringRead s (Acre.ofNum (tkq / 64)) (tkqCfg s tkq) (tkqOf s tkq).take 128

/-- The format byte of a sample record (R229). -/
def recordFormat (b : List Byte) : Nat := leNat ((b.drop 4).take 1)

/-- The opcode byte of a sample record (R229). -/
def recordOp (b : List Byte) : Nat := leNat ((b.drop 5).take 1)

section TokenQueue

variable {s : State} {tkq : Nat} (hrun : planesRun s = true)
include hrun

/-- A stopped queue resumes with PI at its take point (R173, R228). -/
theorem exec_tkqErrorClear_stopped {st : Status} (herr : (tkqOf s tkq).err = some st) :
    exec (.tkqErrorClear tkq) s = .next (setLiveF .GEN_TKQ_STATUS (.acre (Acre.ofNum (tkq / 64))) (tkq % 64) 40 40 0
      (writePi (Acre.ofNum (tkq / 64)) (tkqCfg s tkq) (tkqOf s tkq).take
        (putTkq tkq { tkqOf s tkq with err := none, pi := (tkqOf s tkq).take, marks := [] } s))) := by
  rw [exec_tkqErrorClear, execTkqErrorClear, running_of hrun]
  simp only [herr, ok_eq_next]

variable (hsel : tkq < 256) (herr : (tkqOf s tkq).err = none) (hfree : (tkqOf s tkq).holding = false)
  (hwhole : (tkqOf s tkq).take + 128 ≤ (tkqOf s tkq).pi)
include hsel herr hfree hwhole

/-- A queue that runs and holds a whole record decides by that record (R228). -/
theorem execTkqRecordApply_ready :
    execTkqRecordApply tkq s =
      if recordFormat (tkqRecord s tkq) ≠ 1 || 1 < recordOp (tkqRecord s tkq) || 16 < (sampleRec (tkqRecord s tkq)).count then
        .next (stopTkq tkq .badFormat s)
      else if recordOp (tkqRecord s tkq) = 0 then .next (tkqNext tkq s)
      else if tkqHolds s (sampleRec (tkqRecord s tkq)) then
        let slot := slotOf (sampleRec (tkqRecord s tkq)).handle
        .next (hold slot (.sample tkq) (putTkq tkq { tkqOf s tkq with holding := true }
          (if streamRoom (desc s slot).streamRing 256 s then s else stall slot s)))
      else .next (settle (tkqApply tkq s)) := by
  have hgo : (s.obs.halted || decide (256 ≤ tkq) || (tkqOf s tkq).err.isSome || (tkqOf s tkq).holding ||
      decide ((tkqOf s tkq).pi < (tkqOf s tkq).take + 128)) = false := by
    simp only [not_halted_of_planesRun hrun, decide_eq_false (Nat.not_le.mpr hsel), herr, Option.isSome_none, hfree,
      decide_eq_false (Nat.not_lt.mpr hwhole), Bool.or_self]
  rw [execTkqRecordApply, running_of hrun]
  exact if_neg (Bool.eq_false_iff.mp hgo)

/-- An invalid record stops the queue (R229). -/
theorem exec_tkqRecordApply_invalid
    (hbad : recordFormat (tkqRecord s tkq) ≠ 1 ∨ 1 < recordOp (tkqRecord s tkq) ∨ 16 < (sampleRec (tkqRecord s tkq)).count) :
    exec (.tkqRecordApply tkq) s = .next (stopTkq tkq .badFormat s) := by
  rw [exec_tkqRecordApply, execTkqRecordApply_ready hrun hsel herr hfree hwhole,
    if_pos (by simpa only [Bool.or_eq_true, decide_eq_true_eq, or_assoc] using hbad)]

section Valid

variable (hfmt : recordFormat (tkqRecord s tkq) = 1) (hcount : (sampleRec (tkqRecord s tkq)).count ≤ 16)
include hfmt hcount

/-- A NOP is passed over (R229). -/
theorem exec_tkqRecordApply_nop (hop : recordOp (tkqRecord s tkq) = 0) :
    exec (.tkqRecordApply tkq) s = .next (tkqNext tkq s) := by
  rw [exec_tkqRecordApply, execTkqRecordApply_ready hrun hsel herr hfree hwhole]
  simp [hfmt, hop, Nat.not_lt.mpr hcount]

variable (hop : recordOp (tkqRecord s tkq) = 1)
include hop

/-- A record that need not wait is checked and applied or refused at once (R230, R231). -/
theorem exec_tkqRecordApply_applied (hnow : tkqHolds s (sampleRec (tkqRecord s tkq)) = false) :
    exec (.tkqRecordApply tkq) s = .next (settle (tkqApply tkq s)) := by
  rw [exec_tkqRecordApply, execTkqRecordApply_ready hrun hsel herr hfree hwhole]
  simp [hfmt, hop, hnow, Nat.not_lt.mpr hcount]

/-- A COMMIT record that must wait is held at its session's descriptor, and its queue waits with it (R231). -/
theorem exec_tkqRecordApply_held (hwait : tkqHolds s (sampleRec (tkqRecord s tkq)) = true) :
    exec (.tkqRecordApply tkq) s = .next (hold (slotOf (sampleRec (tkqRecord s tkq)).handle) (.sample tkq)
      (putTkq tkq { tkqOf s tkq with holding := true }
        (if streamRoom (desc s (slotOf (sampleRec (tkqRecord s tkq)).handle)).streamRing 256 s then s
         else stall (slotOf (sampleRec (tkqRecord s tkq)).handle) s))) := by
  rw [exec_tkqRecordApply, execTkqRecordApply_ready hrun hsel herr hfree hwhole]
  simp [hfmt, hop, hwait, Nat.not_lt.mpr hcount]

end Valid

end TokenQueue

/-! ## The lengths and settings of a session (R80, R226, R240, R241) -/

/-- With no attention in flight, nothing held, and the stream space a rollback asks for, a length command applies at once (R80, R246). -/
theorem trimAdmit_now {slot : Nat} {st : SState} {u : State} (hst : st = .prefill ∨ st = .decode ∨ st = .idleWait ∨ st = .toolWait)
    (hidle : attnInflight u slot = 0) (hheld : (auxOf u slot).held = []) (src : OpSrc) (h : HeldOp) {needs : Bool}
    (hroom : needs = true → streamRoom (desc u slot).streamRing 256 u = true) (apply : State → Status × State) :
    trimAdmit slot st src h needs apply u = finish src (apply u).1 0 0 (apply u).2 := by
  have hstall : (needs && !streamRoom (desc u slot).streamRing 256 u) = false := by
    cases needs with
    | false => rfl
    | true => rw [hroom rfl]; rfl
  obtain rfl | rfl | rfl | rfl := hst <;> simp [trimAdmit, hstall, hidle, hheld]

section Session

variable {s u : State} {sq handle : Nat} {st : SState} (hready : SessionReady s sq handle u st)
include hready

section Lengths

variable (hst : st = .prefill ∨ st = .decode ∨ st = .idleWait ∨ st = .toolWait) (hidle : attnInflight u (slotOf handle) = 0)
  (hheld : (auxOf u (slotOf handle)).held = [])
include hst hidle hheld

/-- A trim that takes nothing from the committed length needs no stream space (R241, R246). -/
theorem exec_trim_now (cid : Nat) {n : Nat}
    (hroom : (desc u (slotOf handle)).len ≤ n ∨ streamRoom (desc u (slotOf handle)).streamRing 256 u = true) :
    exec (.trim sq cid handle n) s = .next (settle (postCqe sq cid (applyTrim (slotOf handle) n u).1 0 0
      (applyTrim (slotOf handle) n u).2)) := by
  have hneeds (hlt : decide (n < (desc u (slotOf handle)).len) = true) : streamRoom (desc u (slotOf handle)).streamRing 256 u = true :=
    hroom.resolve_left (Nat.not_le.mpr (of_decide_eq_true hlt))
  rw [exec_trim, execTrim, running_of hready.1.1, sessionCmd_ready hready, doTrim, trimAdmit_now hst hidle hheld _ _ hneeds,
    okSettle_eq_next, finish]

theorem exec_setFloor_now (cid n : Nat) :
    exec (.setFloor sq cid handle n) s = .next (settle (postCqe sq cid (applySetFloor (slotOf handle) n u).1 0 0
      (applySetFloor (slotOf handle) n u).2)) := by
  rw [exec_setFloor, execSetFloor, running_of hready.1.1, sessionCmd_ready hready, doSetFloor,
    trimAdmit_now hst hidle hheld _ _ (by simp), okSettle_eq_next, finish]

end Lengths

/-- A parked session takes new settings: the header first, then the descriptor words (R240). -/
theorem exec_genSet_parked (hst : st = .idleWait ∨ st = .toolWait ∨ st = .dormant) (cid : Nat) {buf : List Byte}
    (hlen : 1312 ≤ buf.length) (hok : (genBlock buf).ok = true) {v w : State}
    (hstop : drawerWrite (slotOf handle) 0x100 ((genBlock buf).stopSeq ++ (genBlock buf).stopLen) u = .ok v)
    (heos : drawerWrite (slotOf handle) 0x600 (genBlock buf).eosSet v = .ok w) :
    exec (.genSet sq cid handle buf) s =
      .next (settle (postCqe sq cid .ok 0 0 (commitDesc (slotOf handle) (genBlock buf).set w))) := by
  have hgood : (decide (buf.length < 1312) || !(genBlock buf).ok) = false := by
    rw [decide_eq_false (Nat.not_lt.mpr hlen), hok]; rfl
  rw [exec_genSet, execGenSet, running_of hready.1.1, sessionCmd_ready hready, okSettle_eq_next]
  obtain rfl | rfl | rfl := hst <;>
    simp only [hgood, hstop, heos, Bool.false_eq_true, if_false]

end Session

/-- Settles O16: each clause is what the row answers where its premises leave it one branch. -/
theorem generationCommands : Obligations.GenerationCommands :=
  ⟨fun _ _ hrun hsel ⟨herr, hfree, hwhole⟩ =>
     ⟨exec_tkqRecordApply_invalid hrun hsel herr hfree hwhole,
      fun hfmt hop hcount => exec_tkqRecordApply_nop hrun hsel herr hfree hwhole hfmt hcount hop,
      fun hfmt hop hcount => exec_tkqRecordApply_applied hrun hsel herr hfree hwhole hfmt hcount hop,
      fun hfmt hop hcount => exec_tkqRecordApply_held hrun hsel herr hfree hwhole hfmt hcount hop⟩,
   fun _ _ _ hrun herr => exec_tkqErrorClear_stopped hrun herr,
   fun _ cid _ n _ _ _ hready hst ⟨hidle, hheld⟩ =>
     ⟨exec_trim_now hready hst hidle hheld cid, exec_setFloor_now hready hst hidle hheld cid n⟩,
   fun _ cid _ _ _ _ _ _ _ hready hst hlen hok hstop heos => exec_genSet_parked hready hst cid hlen hok hstop heos⟩

end Sys2Proof.Machine
end

section
/-!
SUPPORT. The indexes of a device (R253 to R256, R270, R271, R299): the commands that make, load, publish, compact and retire an index, and the
two ends of a compaction, each by what its row does on the state it is found in.
-/
namespace Sys2Proof.Machine

section Commands

variable {s : State} {sq : Nat} (hs : Served s sq) (hio : sq ≠ 0)
include hs hio

/-! ## IDX_CREATE (R253 to R256) -/

/-- A block whose fields are in range, on an Acre that may be named, is answered by what making the index gives. -/
theorem exec_idxCreate_made (hadmit : admitNew s [1, 3] = none) {target : Nat} (htarget : target ≤ 3 ∨ target = 0xFF) {buf : List Byte}
    {x : Index} (hblock : idxBlock buf = some x) (cid : Nat) :
    (∀ st, idxMake (idxHome s target) x buf s = .error st → exec (.idxCreate sq cid target buf) s = .next (postCqe sq cid st 0 0 s)) ∧
    (∀ h u, idxMake (idxHome s target) x buf s = .ok (h, u) →
      exec (.idxCreate sq cid target buf) s = .next (postCqe sq cid .ok h 0 u)) := by
  have hacre : (decide (3 < target) && decide (target ≠ 0xFF)) = false := by
    simp only [Bool.and_eq_false_iff, decide_eq_false_iff_not]
    omega
  rw [exec_idxCreate, execIdxCreate, running_of hs.1, hostCmd_served hs cid _ _ hio, ok_eq_next]
  simp only [hadmit, hacre, hblock, Bool.false_eq_true, if_false]
  constructor
  · intro st hmake
    rw [hmake]
  · intro h u hmake
    rw [hmake]

section Handle

variable {handle slot : Nat} {x : Index} (hidx : idxCheck s handle = .ok (slot, x))
include hidx

/-! ## IDX_LOAD (R254, R256) -/

/-- A list not yet loaded into a BUILDING index is answered by what building its object gives. -/
theorem exec_idxLoad_built (hstay : s.ckp.leaving = false) (hst : x.st = .building) {list : Nat} (hnew : NMap.get? x.lists list = none)
    (hlist : list < x.nlist) {buf : List Byte} (hlen : 64 ≤ buf.length) (hsize : listFrames x.d (bufN buf 0 4) ≤ 65536)
    {items : List (Nat × List F32)} (hblock : listBlock x buf = some items) (cid : Nat) :
    (∀ st, buildList slot x list items s = .error st →
      exec (.idxLoad sq cid handle list buf) s = .next (postCqe sq cid st 0 0 s)) ∧
    (∀ e u, buildList slot x list items s = .ok (e, u) →
      exec (.idxLoad sq cid handle list buf) s = .next (postCqe sq cid .ok 0 0 (nameList slot list e u))) := by
  have hopen : (decide (x.st ≠ .building) || (NMap.get? x.lists list).isSome) = false := by
    simp only [hst, hnew, ne_eq, not_true_eq_false, decide_false, Option.isSome_none, Bool.or_self]
  have hform : (decide (x.nlist ≤ list) || decide (buf.length < 64)) = false := by
    rw [decide_eq_false (Nat.not_le.mpr hlist), decide_eq_false (Nat.not_lt.mpr hlen), Bool.or_self]
  rw [exec_idxLoad, execIdxLoad, running_of hs.1, hostCmd_served hs cid _ _ hio, ok_eq_next]
  simp only [hidx, hstay, hopen, hform, hblock, Nat.not_lt.mpr hsize, Bool.false_eq_true, if_false]
  constructor
  · intro st hbuild
    rw [hbuild]
  · intro e u hbuild
    rw [hbuild]

/-! ## IDX_PUBLISH, IDX_COMPACT and IDX_RETIRE (R256, R270) -/

/-- A BUILDING index is published: its centroid object is written back and it is ACTIVE. -/
theorem exec_idxPublish_building (hst : x.st = .building) (cid : Nat) :
    exec (.idxPublish sq cid handle) s =
      .next (postCqe sq cid .ok 0 0 (modIdx slot (fun x => { x with st := .active }) (writeBackNow x.centroid s))) := by
  rw [exec_idxPublish, execIdxPublish, running_of hs.1, hostCmd_served hs cid _ _ hio, ok_eq_next]
  simp only [hidx, hst, ne_eq, not_true_eq_false, if_false]

/-- A compaction of an ACTIVE index waits behind what its index has admitted (R271 step 1). -/
theorem exec_idxCompact_active (hst : x.st = .active) (cid : Nat) :
    exec (.idxCompact sq cid handle) s = .next (settle (glnGoOn (idxAcre slot)
      (modIdx slot (fun x => { x with waiting := x.waiting ++ [.compact sq cid] }) s))) := by
  rw [exec_idxCompact, execIdxCompact, running_of hs.1, hostCmd_served hs cid _ _ hio, okSettle_eq_next]
  simp only [hidx, hst, ne_eq, not_true_eq_false, if_false]

/-- Whatever its state, an index that the handle names goes to RETIRING. -/
theorem exec_idxRetire_named (cid : Nat) :
    exec (.idxRetire sq cid handle) s =
      .next (settle (postCqe sq cid .ok 0 0 (glnGoOn (idxAcre slot) (idxRetired slot x s)))) := by
  rw [exec_idxRetire, execIdxRetire, running_of hs.1, hostCmd_served hs cid _ _ hio, okSettle_eq_next]
  simp only [hidx]

end Handle

end Commands

/-! ## Compaction (R271) -/

section Compaction

variable {s : State} (hrun : planesRun s = true) {slot : Nat} {x : Index} (hindex : NMap.get? s.gln.indexes slot = some x)
include hrun hindex

/-- A pass that can read every list it needs builds the new lists (R271 steps 2 and 3). -/
theorem exec_compactionBuildDone_readable {g since : Nat} {low : Bool}
    (hunit : NMap.get? s.gln.units g = some { pass := .compact slot, low := low, at_ := since }) (hup : glnUp s g = true)
    (hread : compactBlocked s x (idxAcre slot) = false) :
    exec (.compactionBuildDone g) s = .next (settle (compactBuilt g slot x s)) := by
  rw [exec_compactionBuildDone, execCompactionBuildDone, running_of hrun]
  simp only [hunit, hindex, hup, hread, not_halted_of_planesRun hrun, Bool.not_true, Bool.or_self, Bool.false_eq_true, if_false,
    okSettle_eq_next]

/-- The switch that heads the queue of its index comes once no query is admitted (R271 steps 4 and 5). -/
theorem exec_compactionSwitch_quiet {m : NMap (Option ListEnt)} {w : List IdxWait} (hbuilt : x.built = some m)
    (hwait : x.waiting = .switch :: w) (hquiet : idxQueries s slot = 0) :
    exec (.compactionSwitch slot) s = .next (settle (glnGoOn (idxAcre slot) (switchDone slot x m w s))) := by
  rw [exec_compactionSwitch, execCompactionSwitch, running_of hrun]
  simp only [hindex, hbuilt, hwait, hquiet, not_halted_of_planesRun hrun, ne_eq, not_true_eq_false, decide_false, Bool.or_self,
    Bool.false_eq_true, if_false, okSettle_eq_next]

end Compaction

/-- Settles O18: each clause is what the row answers where its premises leave it one branch. -/
theorem indexCommands : Obligations.IndexCommands :=
  ⟨fun _ cid _ _ _ _ hs hio hadmit htarget hblock => exec_idxCreate_made hs hio hadmit htarget hblock cid,
   fun _ cid _ _ _ _ _ _ _ hs hio hidx ⟨hstay, hst, hnew⟩ ⟨hlist, hlen⟩ hsize hblock =>
     exec_idxLoad_built hs hio hidx hstay hst hnew hlist hlen hsize hblock cid,
   fun _ cid _ _ _ _ hs hio hidx =>
     ⟨fun hst => exec_idxPublish_building hs hio hidx hst cid, fun hst => exec_idxCompact_active hs hio hidx hst cid,
      exec_idxRetire_named hs hio hidx cid⟩,
   fun _ _ _ _ _ _ hrun hunit hup hindex hread => exec_compactionBuildDone_readable hrun hindex hunit hup hread,
   fun _ _ _ _ _ hrun hindex ⟨hbuilt, hwait⟩ hquiet => exec_compactionSwitch_quiet hrun hindex hbuilt hwait hquiet⟩

end Sys2Proof.Machine
end

section
/-!
SUPPORT. Session programs (R285 to R291, R311, R334 to R343, R348 to R357): what an engine instruction of a session handler answers where none of
its checks turns it away, how an asynchronous operation gets its tag, and how events, timers and budgets reach a handler.
-/
namespace Sys2Proof.Machine

/-! ## Engine instructions and tags (R289, R316, R334) -/

/-- An engine instruction of a session handler that is ready answers with its own part, settled. -/
theorem engineRow_ready {s : State} {t : Nat} {c : TineCtx} (hready : TineReady s t c 2) (hm : c.system = false) (eop : Nat)
    (rd rs1 rs2 : BitVec 6) {regs : List (BitVec 6)} (hregs : regs.any badReg = false) {mbz : Bool} (hmbz : mbz = false)
    (f : TineCtx → State → State) :
    running s (okSettle (tineEngine t eop rd rs1 rs2 regs mbz f s)) = .next (settle (f c s)) := by
  rw [running_of hready.1, okSettle_eq_next, tineEngine_ready hready hm _ _ _ _ _ _ _ hregs hmbz]

/-- Below the limit of R289 the operation is noted under the session's next tag, and goes on with it. -/
theorem asyncIssue_room {s : State} {c : TineCtx} {kind : AsyncKind} (hroom : outstandingOps s c.slot kind.timed < 4) (t : Nat)
    (rd : BitVec 6) (f : Nat → State → State) : asyncIssue t rd kind f c s = f (issueTag s c.slot) (issued t rd kind c s) :=
  if_neg (Nat.not_le.mpr hroom)

section Handler

variable {s : State} {t : Nat} {c : TineCtx} (hready : TineReady s t c 2) (hm : c.system = false) {rd : BitVec 6} (hd : badReg rd = false)
include hready hm hd

/-! ## The own session (R65, R337) -/

theorem exec_ksiRevive_ready : exec (.ksiRevive t rd 0 0 0 0) s = .next (settle (tineSync t 0x03 rd 0 0 c doRevive s)) := by
  rw [exec_ksiRevive, execKsiRevive, engineRow_ready hready hm _ _ _ _ (by simp [hd]) (by simp)]

theorem exec_rdesc_listed {imm : BitVec 25} (hlt : imm.toNat < 2 ^ 6)
    (hlisted : [2, 3, 7, 8, 16, 17, 18, 19, 20].contains imm.toNat = true) :
    exec (.rdesc t rd 0 0 0 imm) s = .next (settle (tineWrite t 2 rd (descWord s c.slot imm.toNat) c s)) := by
  rw [exec_rdesc, execRdesc, engineRow_ready hready hm _ _ _ _ (by simp [hd]) (by simpa using hlt)]
  simp only [Nat.mod_eq_of_lt hlt, hlisted, if_true]

variable {rs1 : BitVec 6} (h1 : badReg rs1 = false)
include h1

theorem exec_ksiPark_zero (hzero : tineReg c rs1 = 0) :
    exec (.ksiPark t rd rs1 0 0 0) s = .next (settle (tineSync t 0x01 rd rs1 0 c doPark s)) := by
  rw [exec_ksiPark, execKsiPark, engineRow_ready hready hm _ _ _ _ (by simp [hd, h1]) (by simp)]
  simp only [hzero, ne_eq, not_true_eq_false, if_false]

theorem exec_ksiTrim_length (hlen : (tineReg c rs1).toNat < 2 ^ 32) :
    exec (.ksiTrim t rd rs1 0 0 0) s =
      .next (settle (tineSync t 0x04 rd rs1 0 c (fun slot st src => doTrim slot st src (tineReg c rs1).toNat) s)) := by
  rw [exec_ksiTrim, execKsiTrim, engineRow_ready hready hm _ _ _ _ (by simp [hd, h1]) (by simp)]
  simp only [Nat.not_le.mpr hlen, if_false]

theorem exec_parkA_one (hone : tineReg c rs1 = 1) (hroom : outstandingOps s c.slot false < 4) :
    exec (.parkA t rd rs1 0 0 0) s = .next (settle (onSession c.handle (.async c.slot (issueTag s c.slot))
      (fun slot st => doDormant slot st (.async c.slot (issueTag s c.slot))) (issued t rd .park c s))) := by
  rw [exec_parkA, execParkA, engineRow_ready hready hm _ _ _ _ (by simp [hd, h1]) (by simp)]
  simp only [hone, ne_eq, not_true_eq_false, if_false, asyncIssue_room (kind := .park) hroom]

theorem exec_post_noRing (hring : (desc s c.slot).eventRing = 0xFFFF) (imm : BitVec 25) :
    exec (.post t rd rs1 0 0 imm) s = .next (settle (tineWrite t 2 rd (statusWord .access) c s)) := by
  rw [exec_post, execPost, engineRow_ready hready hm _ _ _ _ (by simp [hd, h1]) (by simp)]
  simp only [hring, if_true]

/-- The USER record of `post` carries 32 bytes of handler data, from the slot that the immediate names (R337). -/
theorem exec_post_ring (hring : (desc s c.slot).eventRing ≠ 0xFFFF) (imm : BitVec 25) :
    exec (.post t rd rs1 0 0 imm) s = .next (settle (tineWrite t 2 rd (statusWord .ok) c (postEvent (desc s c.slot).eventRing
      { kind := 3, status := .ok, handle := c.handle, ktb := ktb s, a := imm.toNat % 2 ^ 16, b := (tineReg c rs1).toNat % 2 ^ 32, c := 0,
        extra := localRead s c (0x30000 + 32 * (imm.toNat / 2 ^ 16)) 32 } s))) := by
  rw [exec_post, execPost, engineRow_ready hready hm _ _ _ _ (by simp [hd, h1]) (by simp)]
  simp only [hring, if_false]

/-! ## Timers and cancels (R289, R311, R342) -/

theorem exec_waitT_relative (hroom : outstandingOps s c.slot true < 4) :
    exec (.waitT t rd rs1 0 0 0) s = .next (settle (issued t rd (.timer (ktb s + (tineReg c rs1).toNat)) c s)) := by
  have hrelative : (0 : BitVec 25).getLsbD 0 = false := rfl
  rw [exec_waitT, execWaitT, engineRow_ready hready hm _ _ _ _ (by simp [hd, h1]) (by simp)]
  simp only [hrelative, Bool.false_eq_true, if_false, asyncIssue_room (kind := .timer _) hroom]

theorem exec_waitC_unknown (htag : s.tin.asyncs.find? (fun o => o.slot = c.slot && o.tag = (tineReg c rs1).toNat) = none) :
    exec (.waitC t rd rs1 0 0 0) s = .next (settle (tineWrite t 2 rd (statusWord .badHandle) c s)) := by
  rw [exec_waitC, execWaitC, engineRow_ready hready hm _ _ _ _ (by simp [hd, h1]) (by simp)]
  simp only [htag]

section Named

variable {o : AsyncOp} (htag : s.tin.asyncs.find? (fun o => o.slot = c.slot && o.tag = (tineReg c rs1).toNat) = some o)
include htag

theorem exec_waitC_ended (hended : o.ended = true) :
    exec (.waitC t rd rs1 0 0 0) s =
      .next (settle (lateEvent c.slot (tineReg c rs1).toNat (tineWrite t 2 rd (statusWord .abortLate) c s))) := by
  rw [exec_waitC, execWaitC, engineRow_ready hready hm _ _ _ _ (by simp [hd, h1]) (by simp)]
  simp only [htag, hended, if_true]

theorem exec_waitC_outstanding (hended : o.ended = false) :
    exec (.waitC t rd rs1 0 0 0) s =
      .next (settle (tineWrite t 2 rd (statusWord (if (abortAsync o s).1 then .ok else .abortLate)) c (abortAsync o s).2)) := by
  rw [exec_waitC, execWaitC, engineRow_ready hready hm _ _ _ _ (by simp [hd, h1]) (by simp)]
  simp only [htag, hended, Bool.false_eq_true, if_false]

end Named

/-! ## Attention, search and checkpoints (R338, R340, R343) -/

section Issue

variable (hroom : outstandingOps s c.slot false < 4)
include hroom

theorem exec_ckpt_room :
    exec (.ckpt t rd rs1 0 0 0) s =
      .next (settle (ckptIssued c (tineReg c rs1).toNat (issueTag s c.slot) (issued t rd .ckpt c s))) := by
  rw [exec_ckpt, execCkpt, engineRow_ready hready hm _ _ _ _ (by simp [hd, h1]) (by simp), asyncIssue_room (kind := .ckpt) hroom]

variable {rs2 : BitVec 6} (h2 : badReg rs2 = false)
include h2

/-- `attn` and `append` over areas that pass the checks of R338 bring the request block that lies at RS1 to the own session. -/
theorem tineAttn_issued {app : Bool} (hareas : attnIssue s c (tineReg c rs1).toNat (tineReg c rs2).toNat app = none)
    (hframe : drawerFault s c.slot (tineReg c rs1).toNat (leNat (drawerRead s c.slot (tineReg c rs1).toNat 4)) = none) (eop : Nat) :
    running s (okSettle (tineAttn t eop app rd rs1 rs2 0 0 s)) = .next (settle (attnIssued t c (tineReg c rs1).toNat
      (drawerRead s c.slot (tineReg c rs1).toNat (leNat (drawerRead s c.slot (tineReg c rs1).toNat 4))) (tineReg c rs2).toNat
      (issueTag s c.slot) (issued t rd (if app then .append else .attn) c s))) := by
  have hkind : (if app then AsyncKind.append else .attn).timed = false := by cases app <;> rfl
  simp only [tineAttn]
  rw [engineRow_ready hready hm _ _ _ _ (by simp [hd, h1, h2]) (by simp)]
  simp only [hareas, hframe, asyncIssue_room (hkind.symm ▸ hroom)]

/-- `srch` on aligned areas of the scratch region hands the query of its request block over (R340). -/
theorem exec_srch_issued {req out : Nat} (hreq : req = (tineReg c rs1).toNat) (hout : out = (tineReg c rs2).toNat)
    (halign : req % 64 = 0 ∧ out % 64 = 0) (hreqIn : inScratch s c.slot req 64 = true)
    (houtIn : inScratch s c.slot out (64 + 16 * leNat (((drawerRead s c.slot req 64).drop 8).take 2)) = true)
    (hframe : drawerFault s c.slot req 64 = none) :
    exec (.srch t rd rs1 rs2 0 0) s =
      .next (settle (srchIssued t c req (drawerRead s c.slot req 64) out (issueTag s c.slot) (issued t rd .srch c s))) := by
  simp only [exec_srch, execSrch]
  rw [engineRow_ready hready hm _ _ _ _ (by simp [hd, h1, h2]) (by simp)]
  simp only [← hreq, ← hout, halign, hreqIn, houtIn, hframe, asyncIssue_room (kind := .srch) hroom, ne_eq, not_true_eq_false, decide_false,
    Bool.not_true, Bool.or_self, Bool.false_eq_true, if_false]

/-! ## Transport over a route (R291, R341) -/

section Transport

variable {rs3 : BitVec 6} (h3 : badReg rs3 = false) {imm : BitVec 25} (himm : imm.toNat < 2 ^ 8) {off loc len : Nat}
  (hoff : off = (tineReg c rs1).toNat) (hloc : loc = (tineReg c rs2).toNat) (hlen : len = (tineReg c rs3).toNat) {r : Route}
include h3 himm hoff hloc hlen

/-- A write from handler data takes its bytes at issue, at most 512 of them. -/
theorem exec_rwrite_local (hroute : routeCheck s c.slot imm off len true = .ok r) (hform : imm.getLsbD 6 = false) (hshort : len ≤ 512)
    (hdata : storeOk c loc len = true) :
    exec (.rwrite t rd rs1 rs2 rs3 imm) s = .next (settle (kltPost
      { conn := r.conn, tc := 0, op := .write (r.base + off) r.key (localRead s c loc len) (imm.getLsbD 7),
        src := .tine c.slot (issueTag s c.slot) }
      (noteAreas c.slot (issueTag s c.slot) [] [] (issued t rd .rwrite c s)))) := by
  simp only [exec_rwrite, execRwrite]
  rw [engineRow_ready hready hm _ _ _ _ (by simp [hd, h1, h2, h3]) (by simpa using himm)]
  simp only [← hoff, ← hloc, ← hlen, hroute, hform, hdata, decide_eq_false (Nat.not_lt.mpr hshort), asyncIssue_room (kind := .rwrite) hroom,
    Bool.not_true, Bool.or_self, Bool.false_eq_true, if_false]

/-- A write from the Drawer reads bytes that lie in it and whose frames are sound. -/
theorem exec_rwrite_drawer (hroute : routeCheck s c.slot imm off len true = .ok r) (hform : imm.getLsbD 6 = true)
    (hin : loc + len ≤ (desc s c.slot).drawerPlots * 65536) (hframe : drawerFault s c.slot loc len = none) :
    exec (.rwrite t rd rs1 rs2 rs3 imm) s = .next (settle (kltPost
      { conn := r.conn, tc := 0, op := .write (r.base + off) r.key (drawerRead s c.slot loc len) (imm.getLsbD 7),
        src := .tine c.slot (issueTag s c.slot) }
      (noteAreas c.slot (issueTag s c.slot) [(loc, len)] [] (issued t rd .rwrite c s)))) := by
  simp only [exec_rwrite, execRwrite]
  rw [engineRow_ready hready hm _ _ _ _ (by simp [hd, h1, h2, h3]) (by simpa using himm)]
  simp only [← hoff, ← hloc, ← hlen, hroute, hform, hframe, decide_eq_false (Nat.not_lt.mpr hin), asyncIssue_room (kind := .rwrite) hroom,
    Bool.false_eq_true, if_true, if_false]

/-- A read goes into the scratch region, which becomes its output area. -/
theorem exec_rread_scratch (hroute : routeCheck s c.slot imm off len false = .ok r) (hform : imm.getLsbD 6 = true)
    (hin : inScratch s c.slot loc len = true) :
    exec (.rread t rd rs1 rs2 rs3 imm) s = .next (settle (kltPost
      { conn := r.conn, tc := 0, op := .read (r.base + off) r.key len loc, src := .tine c.slot (issueTag s c.slot) }
      (noteAreas c.slot (issueTag s c.slot) [] [(loc, len)] (issued t rd .rread c s)))) := by
  simp only [exec_rread, execRread]
  rw [engineRow_ready hready hm _ _ _ _ (by simp [hd, h1, h2, h3]) (by simpa using himm)]
  simp only [← hoff, ← hloc, ← hlen, hroute, hform, hin, asyncIssue_room (kind := .rread) hroom, Bool.not_true, Bool.or_self,
    Bool.false_eq_true, if_false]

end Transport

end Issue

/-! ## Synchronisation objects (R342, R349, R356, R357) -/

section Objects

variable {rs2 : BitVec 6} (h2 : badReg rs2 = false)
include h2

/-- An ARM code whose checks pass commits the object wake where the session's line is held. -/
theorem tineArm_committed {u : State} (howned : own c.slot s = some u) (code : Nat)
    (hcheck : synCheck s ((tineReg c rs1).toNat % 2 ^ 16) code (tineReg c rs2) (some (desc s c.slot).principal) = none) :
    running s (okSettle (tineArm t code rd rs1 rs2 0 0 s)) = armNext t rd rs1 rs2 (armPred code) c u := by
  rw [tineArm, engineRow_ready hready hm _ _ _ _ (by simp [hd, h1, h2]) (by simp)]
  simp only [hcheck, howned, armNext]

/-- With room for a further wait, every code of `wait` is admitted at its object under the tag that RD gets. -/
theorem tineWait_admitted {rs3 : BitVec 6} (h3 : badReg rs3 = false) (hroom : outstandingOps s c.slot true < 4) (code : Nat) :
    running s (okSettle (tineWait t code rd rs1 rs2 rs3 0 s)) = waitNext t rd rs1 rs2 rs3 code c s := by
  rw [tineWait, engineRow_ready hready hm _ _ _ _ (by simp [hd, h1, h2, h3]) (by simp)]
  simp only [asyncIssue_room (kind := .wait _) hroom]
  rfl

/-- The value that DISARM reports is a free choice, drawn before the session's line is taken (log 29). -/
theorem exec_disarm_committed {u : State} (howned : own c.slot (drew s) = some u) :
    exec (.disarm t rd rs1 rs2 0 0) s = .next (settle (tineWrite t 2 rd (BitVec.ofNat 64 (0 + freeBelow (2 ^ 32) s * 2 ^ 32)) c
      (removeWatch c.slot (commitDesc c.slot (fun d => { d with wakeObject := false }) u)))) := by
  rw [exec_disarm, execDisarm, tineDisarm, engineRow_ready hready hm _ _ _ _ (by simp [hd, h1, h2]) (by simp)]
  simp only [howned]
  rfl

end Objects

end Handler

/-! ## Timers, dispatch and budgets (R285 to R289, R324) -/

section Rows

variable {s : State} (hrun : planesRun s = true)
include hrun

theorem exec_programTimer_due {slot tag at_ : Nat} {o : AsyncOp}
    (htag : s.tin.asyncs.find? (fun o => o.slot = slot && o.tag = tag && !o.ended) = some o) (hkind : o.kind = .timer at_)
    (hdue : at_ ≤ ktb s) (hactive : s.power.fallow.mode = .active) :
    exec (.programTimer slot tag) s = .next (asyncEnd slot tag 7 0 s) := by
  rw [exec_programTimer, execProgramTimer, running_of hrun]
  simp only [htag, hkind, decide_eq_false (Nat.not_lt.mpr hdue), not_deferring hactive, not_halted_of_planesRun hrun,
    cancelAgreement_active hactive, Bool.or_self, Bool.false_eq_true, if_false, ok_eq_next]

/-- The first event that may run takes the first free Tine, where its session's line and its image are at hand. -/
theorem exec_eventDispatch_runnable {a : Acre} {t : Nat} {e : TEvent} {i : Image} {u : State}
    (hevent : (s.tin.evq.get a).find? (runnable s) = some e) (htine : (scanTines s a).find? (tineFree s) = some t)
    (howned : own e.slot s = some u) (himage : imageOf u (desc u e.slot).imageId = some i) :
    exec (.eventDispatch a) s = .next (dispatched t e i (takeEvent a e u)) := by
  rw [exec_eventDispatch, execEventDispatch, running_of hrun]
  simp only [hevent, htine, not_halted_of_planesRun hrun, howned, himage, Bool.false_eq_true, if_false, ok_eq_next]

theorem exec_handlerBudgetExpire_over {t : Nat} {c : TineCtx} (hctx : NMap.get? s.tin.tines t = some c) (hm : c.system = false)
    (hstall : c.stall = none) (hover : budgetOver s t c = true) :
    exec (.handlerBudgetExpire t) s = .next (tineTrap t c .timeout (leNat (localRead s c c.pc 4)) s) := by
  rw [exec_handlerBudgetExpire, execHandlerBudgetExpire, running_of hrun]
  simp only [hctx, hm, hstall, hover, not_halted_of_planesRun hrun, Option.isSome_none, Bool.not_true, Bool.or_self, Bool.false_eq_true,
    if_false, ok_eq_next]

end Rows

/-! ## The statements of the family -/

/-- Settles O22: each clause is what the instruction or the row answers where its premises leave it one branch. -/
theorem sessionEngineResults : Obligations.SessionEngineResults :=
  ⟨fun _ _ _ imm _ _ hready hm hd h1 =>
     ⟨exec_ksiPark_zero hready hm hd h1, exec_ksiRevive_ready hready hm hd, exec_ksiTrim_length hready hm hd h1,
      exec_parkA_one hready hm hd h1, exec_waitT_relative hready hm hd h1, exec_rdesc_listed hready hm hd,
      fun hring => exec_post_noRing hready hm hd h1 hring imm, fun hring => exec_post_ring hready hm hd h1 hring imm⟩,
   fun _ _ _ _ _ hready hm hd h1 =>
     ⟨exec_waitC_unknown hready hm hd h1,
      fun _ htag => ⟨exec_waitC_ended hready hm hd h1 htag, exec_waitC_outstanding hready hm hd h1 htag⟩⟩,
   fun _ _ _ _ _ _ hrun hevent htine howned himage => exec_eventDispatch_runnable hrun hevent htine howned himage,
   fun _ _ _ _ _ hrun htag ⟨hkind, hdue⟩ hactive => exec_programTimer_due hrun htag hkind hdue hactive,
   fun _ _ _ hrun hctx ⟨hm, hstall⟩ hover => exec_handlerBudgetExpire_over hrun hctx hm hstall hover⟩

/-- Settles O23: each clause is the issue below the limit of R289 of an instruction whose checks pass. -/
theorem engineIssueResults : Obligations.EngineIssueResults :=
  ⟨fun _ _ _ _ _ _ hready hm hd h1 h2 hroom hareas hframe =>
     (exec_attn ..).trans (tineAttn_issued hready hm hd h1 hroom h2 hareas hframe 0x10),
   fun _ _ _ _ _ _ hready hm hd h1 h2 hroom hareas hframe =>
     (exec_append ..).trans (tineAttn_issued hready hm hd h1 hroom h2 hareas hframe 0x11),
   fun _ _ _ _ _ _ _ _ hready hm ⟨hd, h1, h2⟩ hroom ⟨hreq, hout, halign⟩ ⟨hreqIn, houtIn⟩ hframe =>
     ⟨exec_srch_issued hready hm hd h1 hroom h2 hreq hout halign hreqIn houtIn hframe, exec_ckpt_room hready hm hd h1 hroom⟩,
   fun _ _ _ _ _ _ _ _ _ _ _ _ hready hm ⟨hd, h1, h2, h3⟩ hroom ⟨hoff, hloc, hlen⟩ himm hroute =>
     ⟨exec_rwrite_local hready hm hd h1 hroom h2 h3 himm hoff hloc hlen hroute,
      exec_rwrite_drawer hready hm hd h1 hroom h2 h3 himm hoff hloc hlen hroute⟩,
   fun _ _ _ _ _ _ _ _ _ _ _ _ hready hm ⟨hd, h1, h2, h3⟩ hroom ⟨hoff, hloc, hlen⟩ ⟨himm, hform⟩ hroute hin =>
     exec_rread_scratch hready hm hd h1 hroom h2 h3 himm hoff hloc hlen hroute hform hin⟩

/-- Settles O30: every ARM code runs through the one check and commit, every `wait` through the one admission. -/
theorem armAndWaitCommands : Obligations.ArmAndWaitCommands :=
  ⟨fun _ _ _ _ _ _ _ hready hm hd h1 h2 howned =>
     have committed := tineArm_committed hready hm hd h1 h2 howned
     ⟨(exec_armGe ..).trans ∘ committed cARMGE, (exec_armNe ..).trans ∘ committed cARMNE,
      (exec_armPhase ..).trans ∘ committed cARMPHASE, (exec_armFree ..).trans ∘ committed cARMFREE⟩,
   fun _ _ _ _ _ _ _ hready hm hd h1 h2 h3 hroom =>
     have admitted := tineWait_admitted hready hm hd h1 h2 h3 hroom
     ⟨(exec_waitGe ..).trans (admitted cGE), (exec_waitNe ..).trans (admitted cNE), (exec_waitPhase ..).trans (admitted cPHASE),
      (exec_waitFree ..).trans (admitted cFREE), (exec_waitLock ..).trans (admitted cLOCK), (exec_waitP ..).trans (admitted cP),
      (exec_waitArrive ..).trans (admitted cARRIVE)⟩,
   fun _ _ _ _ _ _ _ hready hm hd h1 h2 howned => exec_disarm_committed hready hm hd h1 h2 howned⟩

end Sys2Proof.Machine
end

section
/-!
SUPPORT. The KSI reference (R318, R323, R325 to R331, R342, R349, R351): the answer of each shape of instruction on a Tine that is ready, and what
the scalar instructions leave unchanged on every path.
-/
namespace Sys2Proof.Machine

/-! ## Values of R325 and R326 in terms of numbers -/

theorem ite_slt {α : Type} (a b : Word) (x y : α) : (if a.slt b then x else y) = if a.toInt < b.toInt then x else y :=
  if_congr BitVec.slt_iff_toInt_lt rfl rfl

theorem ite_not_slt {α : Type} (a b : Word) (x y : α) : (if !a.slt b then x else y) = if b.toInt ≤ a.toInt then x else y :=
  if_congr (by rw [Bool.not_eq_true', ← Bool.not_eq_true, BitVec.slt_iff_toInt_lt, Int.not_lt]) rfl rfl

theorem ite_ult {α : Type} (a b : Word) (x y : α) : (if a.ult b then x else y) = if a.toNat < b.toNat then x else y :=
  if_congr BitVec.ult_iff_lt rfl rfl

theorem ite_not_ult {α : Type} (a b : Word) (x y : α) : (if !a.ult b then x else y) = if b.toNat ≤ a.toNat then x else y :=
  if_congr (by rw [Bool.not_eq_true', ← Bool.not_eq_true, BitVec.ult_iff_lt, BitVec.lt_def, Nat.not_lt]) rfl rfl

/-- The signed quotient truncates, and −2^63 ÷ −1 wraps. -/
theorem divS_eq (a b : Word) : divS a b = if b = 0 then BitVec.allOnes 64 else BitVec.ofInt 64 (a.toInt.tdiv b.toInt) := by
  have hdiv : a.sdiv b = BitVec.ofInt 64 (a.toInt.tdiv b.toInt) :=
    BitVec.eq_of_toInt_eq (by rw [BitVec.toInt_sdiv, BitVec.toInt_ofInt])
  rw [divS, hdiv]

theorem divU_eq (a b : Word) : divU a b = if b = 0 then BitVec.allOnes 64 else BitVec.ofNat 64 (a.toNat / b.toNat) := by
  rw [divU, BitVec.udiv_def]

theorem remS_eq (a b : Word) : remS a b = if b = 0 then a else BitVec.ofInt 64 (a.toInt.tmod b.toInt) := by
  rw [remS, ← BitVec.toInt_srem, BitVec.ofInt_toInt]

theorem remU_eq (a b : Word) : remU a b = if b = 0 then a else BitVec.ofNat 64 (a.toNat % b.toNat) := by
  rw [remU, BitVec.umod_def]

/-! ## Register and immediate forms (R326, R327) -/

/-- A scalar instruction of a Tine that is ready answers with its own part. -/
theorem scalarRow_ready {s : State} {t n : Nat} {c : TineCtx} (hready : TineReady s t c n) {w : Nat} {regs : List (BitVec 6)} {mbz : Bool}
    {f : TineCtx → State → State} (hregs : regs.any badReg = false) (hmbz : mbz = false) :
    running s (ok (tineExec t w n regs mbz f s)) = .next (f c s) := by
  rw [running_of hready.1, ok_eq_next, tineExec_ready hready _ _ _ _ hregs hmbz]

section Ready

variable {s : State} {t : Nat} {c : TineCtx} (hready : TineReady s t c 1)
include hready

/-- The one rule of the 21 register instructions: RD gets the value of the operation on RS1 and RS2. -/
theorem aluRow_ready {rd rs1 rs2 : BitVec 6} (hd : badReg rd = false) (h1 : badReg rs1 = false) (h2 : badReg rs2 = false) {fn : Nat}
    {f : Word → Word → Word} {v : Word} (hv : f (tineReg c rs1) (tineReg c rs2) = v) :
    running s (ok (tineAlu t rd rs1 rs2 fn f s)) = .next (tineWrite t 1 rd v c s) := by
  rw [running_of hready.1, ok_eq_next, tineAlu_ready hready hd h1 h2, hv]

theorem aluImmRow_ready {rd rs1 : BitVec 6} (hd : badReg rd = false) (h1 : badReg rs1 = false) {op : Nat} {imm : BitVec 13}
    {f : Word → Word → Word} {v : Word} (hv : f (tineReg c rs1) (imm.signExtend 64) = v) :
    running s (ok (tineAluImm t op rd rs1 imm f s)) = .next (tineWrite t 1 rd v c s) := by
  rw [running_of hready.1, ok_eq_next, tineAluImm_ready hready hd h1, hv]

theorem shiftRow_ready {rd rs1 : BitVec 6} (hd : badReg rd = false) (h1 : badReg rs1 = false) (kind : Nat) (sh : BitVec 6)
    (f : Word → Nat → Word) :
    running s (ok (tineShift t kind rd rs1 sh 0 f s)) = .next (tineWrite t 1 rd (f (tineReg c rs1) sh.toNat) c s) := by
  rw [running_of hready.1, ok_eq_next, tineShift_ready hready hd h1]

/-! ## Branches, jumps and control (R328, R329) -/

/-- The one rule of the six branches: the target is the taken address or the next word, as the comparison says. -/
theorem branchRow_ready {rs1 rs2 : BitVec 6} (h1 : badReg rs1 = false) (h2 : badReg rs2 = false) {op : Nat} {off : BitVec 13}
    {f : Word → Word → Bool} {target : Word} (htarget : (if f (tineReg c rs1) (tineReg c rs2) then
      BitVec.ofNat 64 c.pc + off.signExtend 64 * 4 else BitVec.ofNat 64 (c.pc + 4)) = target) :
    running s (ok (tineBranch t op rs1 rs2 off f s)) = .next (tineJump t target c s) := by
  rw [running_of hready.1, ok_eq_next, tineBranch_ready hready h1 h2, htarget]

theorem exec_jal_ready {rd : BitVec 6} (hd : badReg rd = false) (wide : BitVec 19) :
    exec (.jal t rd wide) s = .next (tineJump t (BitVec.ofNat 64 c.pc + wide.signExtend 64 * 4)
      (setTineReg c rd.toNat (BitVec.ofNat 64 (c.pc + 4))) s) :=
  scalarRow_ready hready (by simp [hd]) rfl

/-- RD is written only where the target is a multiple of 4. -/
theorem exec_jalr_aligned {rd rs1 : BitVec 6} (hd : badReg rd = false) (h1 : badReg rs1 = false) {imm : BitVec 13}
    (halign : (tineReg c rs1 + imm.signExtend 64).toNat % 4 = 0) :
    exec (.jalr t rd rs1 imm) s = .next (tineJump t (tineReg c rs1 + imm.signExtend 64)
      (setTineReg c rd.toNat (BitVec.ofNat 64 (c.pc + 4))) s) := by
  rw [exec_jalr, execJalr, scalarRow_ready hready (by simp [hd, h1]) rfl]
  simp only [sext13, halign, ne_eq, not_true_eq_false, if_false]

theorem exec_ktb_ready {rd : BitVec 6} (hd : badReg rd = false) :
    exec (.ktb t rd 0 0) s = .next (tineWrite t 1 rd (BitVec.ofNat 64 (ktbOf s (tineDie t))) c s) :=
  scalarRow_ready hready (by simp [hd]) (by simp)

/-- The return of a session handler commits its c registers and frees the Tine. -/
theorem exec_evret_session (hm : c.system = false) :
    exec (.evret t 0 0 0) s =
      .next (freeTine t (commitDesc c.slot (fun d => { d with ctx := (List.range 16).map (fun i => NMap.get 0 c.c i) }) s)) := by
  rw [exec_evret, execEvret, scalarRow_ready hready rfl (by simp)]
  simp only [hm, Bool.false_eq_true, if_false, ctxWords]

end Ready

/-- Settles O24: each instruction is the rule of form R with its own operation, whose value R325 and R326 name. -/
theorem scalarRegisterResults : Obligations.ScalarRegisterResults :=
  fun _ _ _ _ _ _ hready hd h1 h2 =>
    have row {fn : Nat} {f : Word → Word → Word} {v : Word} := aluRow_ready hready hd h1 h2 (fn := fn) (f := f) (v := v)
    ⟨row rfl, row rfl, row rfl, row rfl, row rfl, row rfl, row rfl, row rfl, row (ite_slt ..), row (ite_ult ..), row (ite_slt ..),
      row (ite_slt ..), row (ite_ult ..), row (ite_ult ..), row rfl, row rfl, row rfl, row (divS_eq ..), row (divU_eq ..), row (remS_eq ..),
      row (remU_eq ..)⟩

/-- Settles O25: the two rules of form I, and the constants. -/
theorem scalarImmediateResults : Obligations.ScalarImmediateResults :=
  ⟨fun _ _ _ sh _ _ _ _ hready hd h1 =>
     have row {op : Nat} {imm : BitVec 13} {f : Word → Word → Word} {v : Word} :=
       aluImmRow_ready hready hd h1 (op := op) (imm := imm) (f := f) (v := v)
     have shift := fun kind => shiftRow_ready hready hd h1 kind sh
     ⟨row rfl, row rfl, row rfl, row rfl, row (ite_slt ..), row (ite_ult ..), shift 0 _, shift 1 _, shift 2 _,
      scalarRow_ready hready (by simp [hd]) rfl, scalarRow_ready hready (by simp [hd]) rfl⟩,
   fun _ _ _ _ _ hready hd => scalarRow_ready hready (by simp [hd]) rfl⟩

/-- Settles O26: the rule of the branches with each comparison, and one equation for each jump and control instruction. -/
theorem scalarControlResults : Obligations.ScalarControlResults :=
  ⟨fun _ _ _ _ _ _ hready h1 h2 =>
     have row {op : Nat} {off : BitVec 13} {f : Word → Word → Bool} {target : Word} :=
       branchRow_ready hready h1 h2 (op := op) (off := off) (f := f) (target := target)
     ⟨row (if_congr beq_iff_eq rfl rfl), row (if_congr bne_iff_ne rfl rfl), row (ite_slt ..), row (ite_not_slt ..), row (ite_ult ..),
      row (ite_not_ult ..)⟩,
   fun _ _ _ _ wide _ _ hready hd h1 halign =>
     ⟨exec_jal_ready hready hd wide, exec_jalr_aligned hready hd h1 halign, exec_ktb_ready hready hd⟩,
   fun _ _ _ hready hm => exec_evret_session hready hm⟩

/-! ## Drawer loads and stores (R331, R336) -/

section Drawer

variable {s : State} {t n a : Nat} {c : TineCtx} {rs1 : BitVec 6} {imm : BitVec 13} (hready : TineReady s t c 1) (hm : c.system = false)
  (h1 : badReg rs1 = false) (ha : a = (tineReg c rs1 + imm.signExtend 64).toNat) (halign : a % n = 0)
  (hin : a + n ≤ (desc s c.slot).drawerPlots * 65536)
include hready hm h1 ha halign hin

/-- The one rule of the Drawer loads: an aligned address of the Drawer whose frames are sound gives its bytes, or a free value (log 203). -/
theorem tineDld_ready {rd : BitVec 6} (hd : badReg rd = false) (hframe : drawerFault s c.slot a n = none) (op : Nat) :
    running s (okSettle (tineDld t op n rd rs1 imm s)) = .next (settle (
      if loadsOutput s c.slot a n then tineWrite t 1 rd (BitVec.ofNat 64 (freeBelow (256 ^ n) s)) c (drew s)
      else tineWrite t 1 rd (BitVec.ofNat 64 (leNat (drawerRead s c.slot a n))) c s)) := by
  rw [running_of hready.1, okSettle_eq_next, tineDld, tineExec_ready hready _ _ _ _ (by simp [hd, h1]) rfl]
  simp only [sext13, ← ha, hm, halign, Nat.not_lt.mpr hin, hframe, ne_eq, not_true_eq_false, Bool.false_eq_true, if_false]

/-- The one rule of the Drawer stores: the bytes lie in the scratch region, and operations that still read them are spoilt (R336). -/
theorem tineDst_ready {rs2 : BitVec 6} {u : State} (h2 : badReg rs2 = false) (hscratch : inScratch s c.slot a n = true)
    (hwritten : drawerWrite c.slot a (leBytes n (tineReg c rs2).toNat) s = .ok u) (op : Nat) :
    running s (okSettle (tineDst t op n rs2 rs1 imm s)) =
      .next (settle (putTine t { c with pc := c.pc + 4 } (spoilAll c.slot a n u))) := by
  rw [running_of hready.1, okSettle_eq_next, tineDst, tineExec_ready hready _ _ _ _ (by simp [h2, h1]) rfl]
  simp only [sext13, ← ha, hm, halign, decide_eq_false (Nat.not_lt.mpr hin), hscratch, hwritten, ne_eq, not_true_eq_false, Bool.not_true,
    Bool.or_self, Bool.false_eq_true, if_false]

end Drawer

/-- Settles O21: each width is the one rule of the loads, or of the stores, at that width (R331, R336; log 203). -/
theorem drawerAccessResults : Obligations.DrawerAccessResults :=
  ⟨fun _ _ _ _ _ _ _ _ hready hm hd h1 ⟨ha, halign, hin⟩ hframe =>
     have load := tineDld_ready hready hm h1 ha halign hin hd hframe
     ⟨by rintro rfl; exact load 0x1C, by rintro rfl; exact load 0x1D, by rintro rfl; exact load 0x1E, by rintro rfl; exact load 0x1F⟩,
   fun _ _ _ _ _ _ _ _ _ hready hm h2 h1 ⟨ha, halign, hin⟩ hscratch hwritten =>
     have store := tineDst_ready hready hm h1 ha halign hin h2 hscratch hwritten
     ⟨by rintro rfl; exact store 0x20, by rintro rfl; exact store 0x21, by rintro rfl; exact store 0x22, by rintro rfl; exact store 0x23⟩⟩

/-! ## Signals (R342, R349, R351) -/

/-- The one rule of the `signal` codes: the operation of the code in the try form, its status and value in RD. -/
theorem tineSignal_ready {s : State} {t : Nat} {c : TineCtx} {rd rs1 rs2 : BitVec 6} (hready : TineReady s t c 2) (hm : c.system = false)
    (hd : badReg rd = false) (h1 : badReg rs1 = false) (h2 : badReg rs2 = false) (code : Nat) :
    running s (okSettle (tineSignal t code rd rs1 rs2 0 0 s)) = signalNext t rd rs1 rs2 code c s := by
  rw [tineSignal, engineRow_ready hready hm _ _ _ _ (by simp [hd, h1, h2]) (by simp), signalNext]

/-- Settles O29: every code runs through the one rule. -/
theorem signalCommands : Obligations.SignalCommands :=
  fun _ _ _ _ _ _ hready hm hd h1 h2 =>
    have signal := tineSignal_ready hready hm hd h1 h2
    ⟨signal cREAD, signal cGE, signal cNE, signal cPHASE, signal cFREE, signal cLOCK, signal cP, signal cARRIVE, signal cUNLOCK, signal cV,
      signal cADD⟩

end Sys2Proof.Machine
end

section
/-!
SUPPORT. The frame of the scalar instructions (R318, R323, R326 to R330): what a write of a register, a jump, a store and a trap leave of a Tine's
context and of the other Tines, and the frame of every shape of instruction put together from these.
-/
namespace Sys2Proof.Machine

/-- `d` is `c` but for register `rd`, the program counter, the trap it stopped at and the bytes of the local store in `span` (address and
count). -/
structure ContextFrame (rd : BitVec 6) (span : Nat × Nat) (c d : TineCtx) : Prop where
  regs : ∀ r : BitVec 6, r ≠ rd → tineReg d r = tineReg c r
  handler : d.system = c.system ∧ d.slot = c.slot ∧ d.handle = c.handle ∧ d.image = c.image ∧ d.evCode = c.evCode ∧
    d.dispatchAt = c.dispatchAt ∧ d.budget = c.budget ∧ d.stall = c.stall
  bytes : ∀ a, a < span.1 ∨ span.1 + span.2 ≤ a → Cells.read d.data a = Cells.read c.data a

/-- The step to `t` leaves every Tine but `k` as it was, and of `k`, which stood in context `c`, all that `ContextFrame` names. -/
structure TineFrame (k : Nat) (rd : BitVec 6) (span : Nat × Nat) (c : TineCtx) (s t : State) : Prop where
  others : ∀ j, j ≠ k → NMap.get? t.tin.tines j = NMap.get? s.tin.tines j
  own : ∀ d, NMap.get? t.tin.tines k = some d → ContextFrame rd span c d

/-! ## Writes to a context (R318, R330) -/

/-- A write of one register leaves every other: the general and the context registers are two tables, and a register has one place. -/
theorem tineReg_setTineReg_of_ne {rd r : BitVec 6} (hne : r ≠ rd) (c : TineCtx) (v : Word) :
    tineReg (setTineReg c rd.toNat v) r = tineReg c r := by
  have hnum : r.toNat ≠ rd.toNat := fun h => hne (BitVec.eq_of_toNat_eq h)
  unfold setTineReg
  split
  · rfl
  · split
    · simp only [tineReg, NMap.get_putD_of_ne _ _ hnum]
    · rcases Nat.lt_or_ge r.toNat 32 with hlow | hhigh
      · simp only [tineReg, hlow, if_true]
      · simp only [tineReg, NMap.get_putD_of_ne 0 c.c (show r.toNat - 32 ≠ rd.toNat - 32 by omega)]

theorem setTineReg_eq (c : TineCtx) (r : Nat) (v : Word) : ∃ g x, setTineReg c r v = { c with g := g, c := x } := by
  unfold setTineReg
  split
  · exact ⟨_, _, rfl⟩
  · split <;> exact ⟨_, _, rfl⟩

section Context

variable (rd : BitVec 6) (span : Nat × Nat) (c : TineCtx)

theorem ContextFrame.refl : ContextFrame rd span c c where
  regs _ _ := rfl
  handler := ⟨rfl, rfl, rfl, rfl, rfl, rfl, rfl, rfl⟩
  bytes _ _ := rfl

theorem contextFrame_setTineReg (v : Word) : ContextFrame rd span c (setTineReg c rd.toNat v) := by
  obtain ⟨_, _, hset⟩ := setTineReg_eq c rd.toNat v
  exact { regs := fun r hne => tineReg_setTineReg_of_ne hne c v, handler := by simp [hset], bytes := by simp [hset] }

theorem contextFrame_localWrite (a : Nat) (bs : List Byte) : ContextFrame rd (a, bs.length) c (localWrite c a bs) where
  regs _ _ := rfl
  handler := ⟨rfl, rfl, rfl, rfl, rfl, rfl, rfl, rfl⟩
  bytes b hout := Cells.read_writeN_outside c.data a b bs hout

variable {rd span c} {d : TineCtx} (h : ContextFrame rd span c d)
include h

theorem ContextFrame.setPc (pc : Nat) : ContextFrame rd span c { d with pc := pc } :=
  ⟨h.regs, h.handler, h.bytes⟩

theorem ContextFrame.setTrapped (st : Option Status) : ContextFrame rd span c { d with trapped := st } :=
  ⟨h.regs, h.handler, h.bytes⟩

end Context

theorem length_leBytes (n v : Nat) : (leBytes n v).length = n := by
  induction n generalizing v with
  | zero => rfl
  | succ n ih => rw [leBytes, List.length_cons, ih]

/-! ## A trap touches the host's rings, the counters of faults and its own Tine (R288, R306) -/

theorem coalesce_tin (c : Coalesce) (vector : Nat) (s : State) : (coalesce c vector s).2.tin = s.tin := by
  simp only [coalesce]
  split
  · rfl
  · split <;> rfl

theorem eventWrite_tin (ring : Nat) (r : Ring) (e : EventRec) (s : State) : (eventWrite ring r e s).tin = s.tin := by
  rw [eventWrite]
  exact coalesce_tin ..

theorem postEvent_tin (ring : Nat) (e : EventRec) (s : State) : (postEvent ring e s).tin = s.tin := by
  simp only [postEvent]
  split
  · rfl
  · split
    · split
      · exact eventWrite_tin ..
      · split <;> rfl
    · split <;> rfl

theorem tineTrap_session_tines {c : TineCtx} (hm : c.system = false) (t : Nat) (st : Status) (w0 : Nat) (s : State) :
    (tineTrap t c st w0 s).tin.tines = NMap.erase s.tin.tines t := by
  rw [tineTrap, if_neg (by simp [hm]), postEvent_tin]
  rfl

/-! ## Steps of the Tines -/

section Step

variable {k : Nat} {rd : BitVec 6} {span : Nat × Nat} {c : TineCtx} {s : State}

theorem tineFrame_putTine {d : TineCtx} (h : ContextFrame rd span c d) : TineFrame k rd span c s (putTine k d s) where
  others _ hne := NMap.get?_put_of_ne _ hne d
  own _ hown := Option.some.inj ((NMap.get?_put_self s.tin.tines k d).symm.trans hown) ▸ h

theorem tineFrame_tineWrite (words : Nat) (v : Word) : TineFrame k rd span c s (tineWrite k words rd v c s) :=
  tineFrame_putTine ((contextFrame_setTineReg rd span c v).setPc _)

theorem tineFrame_tineJump {d : TineCtx} (h : ContextFrame rd span c d) (target : Word) : TineFrame k rd span c s (tineJump k target d s) :=
  tineFrame_putTine (h.setPc _)

/-- A trap ends a session handler's context or stops system firmware, and writes no register and no byte (R323; log 40). -/
theorem tineFrame_tineTrap (st : Status) (w0 : Nat) : TineFrame k rd span c s (tineTrap k c st w0 s) := by
  cases hm : c.system with
  | true =>
    rw [tineTrap, if_pos hm]
    exact tineFrame_putTine ((ContextFrame.refl rd span c).setTrapped _)
  | false =>
    have herase := tineTrap_session_tines hm k st w0 s
    exact { others := fun j hne => by rw [herase, NMap.get?_erase, if_neg hne]
            own := fun d hown => by simp [herase, NMap.get?_erase] at hown }

/-- The part of `jalr` after the checks: a misaligned target traps before RD is written (R328). -/
theorem tineFrame_jalr (w0 : Nat) (target v : Word) : TineFrame k rd span c s
    (if target.toNat % 4 ≠ 0 then tineTrap k c .badFormat w0 s else tineJump k target (setTineReg c rd.toNat v) s) := by
  split
  · exact tineFrame_tineTrap ..
  · exact tineFrame_tineJump (contextFrame_setTineReg rd span c v) _

section Shape

variable (hctx : NMap.get? s.tin.tines k = some c)
include hctx

theorem TineFrame.refl : TineFrame k rd span c s s where
  others _ _ := rfl
  own _ hown := Option.some.inj (hctx.symm.trans hown) ▸ ContextFrame.refl rd span c

theorem tineRunning_eq {c' : TineCtx} (h : tineRunning s k = some c') : c' = c := by
  simp only [tineRunning, hctx] at h
  split at h
  · cases h
  · split at h
    · cases h
    · exact (Option.some.inj h).symm

/-! ## The shapes of scalar instructions (R326 to R330) -/

/-- An instruction that does not get to its own part changes nothing or traps, so its own part decides its frame. -/
theorem tineFrame_tineExec {w n : Nat} {regs : List (BitVec 6)} {mbz : Bool} {f : TineCtx → State → State}
    (hbody : TineFrame k rd span c s (f c s)) : TineFrame k rd span c s (tineExec k w n regs mbz f s) := by
  unfold tineExec
  split
  · exact TineFrame.refl hctx
  · next c' hrun =>
    obtain rfl := tineRunning_eq hctx hrun
    split
    · exact tineFrame_tineTrap ..
    · split
      · exact tineFrame_tineTrap ..
      · split
        · exact tineFrame_tineTrap ..
        · exact hbody

theorem tineFrame_tineBranch (op : Nat) (rs1 rs2 : BitVec 6) (off : BitVec 13) (f : Word → Word → Bool) :
    TineFrame k rd span c s (tineBranch k op rs1 rs2 off f s) :=
  tineFrame_tineExec hctx (tineFrame_tineJump (ContextFrame.refl rd span c) _)

theorem tineFrame_tineLoad (op n : Nat) (rs1 : BitVec 6) (imm : BitVec 13) : TineFrame k rd span c s (tineLoad k op n rd rs1 imm s) := by
  refine tineFrame_tineExec hctx ?_
  dsimp only
  split
  · exact tineFrame_tineTrap ..
  · split
    · exact tineFrame_tineTrap ..
    · exact tineFrame_tineWrite ..

theorem tineFrame_tineStore (op n : Nat) (rs2 rs1 : BitVec 6) (imm : BitVec 13) :
    TineFrame k rd ((tineReg c rs1 + imm.signExtend 64).toNat, n) c s (tineStore k op n rs2 rs1 imm s) := by
  refine tineFrame_tineExec hctx ?_
  dsimp only
  split
  · exact tineFrame_tineTrap ..
  · split
    · exact tineFrame_tineTrap ..
    · have hwrite := contextFrame_localWrite rd c (tineReg c rs1 + sext13 imm).toNat (leBytes n (tineReg c rs2).toNat)
      rw [length_leBytes] at hwrite
      exact tineFrame_putTine (hwrite.setPc _)

/-- While the planes stand still nothing changes; else the frame is that of the instruction. -/
theorem TineFrame.of_running {t u : State} (hstep : running s (ok u) = .next t) (h : TineFrame k rd span c s u) :
    TineFrame k rd span c s t := by
  cases hrun : planesRun s with
  | false =>
    rw [running_idle hrun] at hstep
    cases hstep
    exact TineFrame.refl hctx
  | true =>
    rw [running_of hrun, ok_eq_next] at hstep
    cases hstep
    exact h

end Shape

end Step

/-- The frame of every scalar instruction: its shape is one of those above. -/
theorem exec_tineFrame {i : Instr} {k : Nat} {rd : BitVec 6} {c : TineCtx} {s t : State} (hdest : scalarDest i = some (k, rd))
    (hstep : exec i s = .next t) (hctx : NMap.get? s.tin.tines k = some c) : TineFrame k rd (storeSpan i c) c s t := by
  cases i with
  | add | sub | andReg | orReg | xorReg | sll | srl | sra | slt | sltu | min | max | minu | maxu | mul | mulh | mulhu | div | divu | rem
  | remu | addi | andi | ori | xori | slti | sltiu | slli | srli | srai | liShort | liLong | lpc | ktb =>
    cases hdest
    exact TineFrame.of_running hctx hstep (tineFrame_tineExec hctx (tineFrame_tineWrite ..))
  | beq | bne | blt | bge | bltu | bgeu =>
    cases hdest
    exact TineFrame.of_running hctx hstep (tineFrame_tineBranch hctx ..)
  | jal =>
    cases hdest
    exact TineFrame.of_running hctx hstep (tineFrame_tineExec hctx (tineFrame_tineJump (contextFrame_setTineReg ..) _))
  | jalr =>
    cases hdest
    exact TineFrame.of_running hctx hstep (tineFrame_tineExec hctx (tineFrame_jalr ..))
  | ldB | ldH | ldW | ldD =>
    cases hdest
    exact TineFrame.of_running hctx hstep (tineFrame_tineLoad hctx ..)
  | stB | stH | stW | stD =>
    cases hdest
    exact TineFrame.of_running hctx hstep (tineFrame_tineStore hctx ..)
  | _ => cases hdest

/-- Settles O60, from the frame of each shape of scalar instruction. -/
theorem frameScalar : Obligations.FrameScalar := by
  intro i k rd c s t hdest hstep hctx
  obtain ⟨hothers, hown⟩ := exec_tineFrame hdest hstep hctx
  refine ⟨hothers, fun d hd => ?_⟩
  obtain ⟨hregs, hhandler, hbytes⟩ := hown d hd
  exact ⟨hregs, hhandler, hbytes⟩

end Sys2Proof.Machine
end

section
/-!
SUPPORT. The device at rest: what a step leaves while the planes stand still (R512, R514, R518; the choice of log 18) and without power
(R524, R552; log 106).
-/
namespace Sys2Proof.Machine

/-! ## While the planes stand still -/

/-- Every command of the planes runs behind `running`. -/
theorem exec_of_planeCommand {i : Instr} (hi : planeCommand i = true) (s : State) : ∃ o, exec i s = running s o := by
  cases i with
  | registerWrite | ppsInEdge | ppsOutPulse | acreTimeTransfer | pwrSpeedSample | linkFence | hello | auth | mgmtIdleTimeout
  | mgmtLockoutExpiry | getInfo | getChain | sessionClose | regRead | regWrite | mgmtConfigCommit | reset | fenceCore | fwStage
  | fwActivate | bindBegin | bindCommit | bindAbort | bindTimeout | release | releaseScrubDone | zeroise | spdmRelay | credAdd
  | credRemove | deploy | decommission | debugChallenge | debugUnlock | debugLock | debugUnlockExpiry | eventSubscribe | traceTrigger
  | halt | scanOut | entropyTestFail | haltWave | haltInN | pwrgoodRise | stage0 | stage1 | pwrgoodFall | resetN | hostReset
  | hostPortSelect | avsStep | energyUpdate | railPoll | thermalSample | jtagBypass | jtagIdcode | jtagSamplePreload | jtagExtest
  | jtagClamp | jtagHighz | scanout | thermtripComparator | provisioning => cases hi
  | _ => exact ⟨_, rfl⟩

theorem exec_planeCommand_idle {i : Instr} {s : State} (hi : planeCommand i = true) (hrun : planesRun s = false) : exec i s = .next s := by
  obtain ⟨o, ho⟩ := exec_of_planeCommand hi s
  rw [ho, running_idle hrun]

/-- An idle step then moves the timebase, and no engine's counter. -/
theorem tick_idle {s : State} (hrun : planesRun s = false) : ∃ tm n, tick s = { s with time := tm, freeCtr := n } := by
  unfold tick
  split
  · exact ⟨s.time, s.freeCtr, rfl⟩
  · exact ⟨_, _, if_neg (ne_true_of_eq_false hrun)⟩

/-- Where every command that waits is one of the planes, a step leaves all but the queue, which it shortens, the timebase and the count of
free values. -/
theorem step_idle {s t : State} (hstep : step s = .next t) (hrun : planesRun s = false) (hplane : ∀ c ∈ s.pending, planeCommand c = true) :
    ∃ p tm n, p ⊆ s.pending ∧ t = { s with pending := p, time := tm, freeCtr := n } := by
  cases hqueue : s.pending with
  | nil =>
    obtain ⟨tm, n, htick⟩ := tick_idle hrun
    rw [step_of_pending_nil hqueue, htick] at hstep
    cases hstep
    exact ⟨s.pending, tm, n, hqueue ▸ List.Subset.refl _, rfl⟩
  | cons c rest =>
    have hc : planeCommand c = true := hplane c (hqueue ▸ List.mem_cons_self)
    rw [step_of_pending_cons hqueue, exec_planeCommand_idle (s := { s with pending := rest }) hc hrun] at hstep
    cases hstep
    exact ⟨rest, s.time, s.freeCtr, List.subset_cons_self c rest, rfl⟩

theorem StandsStill.step {u s t : State} (h : StandsStill u s) (hstep : step s = .next t) : StandsStill u t := by
  obtain ⟨hrun, hplane, p, tm, n, rfl⟩ := h
  obtain ⟨p', tm', n', hp, rfl⟩ := step_idle hstep hrun hplane
  exact ⟨hrun, fun c hc => hplane c (hp hc), p', tm', n', rfl⟩

/-- Settles O50, by the step above from any state of the kind. -/
theorem planesStandStill : Obligations.PlanesStandStill := fun _ _ _ => StandsStill.step

/-! ## Without power (R524, R552) -/

/-- The commands that have an effect without power: PWRGOOD rises, the level at HALT_IN_N changes, and what the timebase does by itself. -/
def actsUnpowered (i : Instr) : Bool :=
  match i with
  | .pwrgoodRise .. | .haltInN .. | .ppsInEdge .. | .ppsOutPulse | .acreTimeTransfer .. => true
  | _ => false

section NoPower

variable {s : State} (hoff : s.power.pwrgood = false)
include hoff

theorem mgmtUp_of_no_power : mgmtUp s = false := by
  simp [mgmtUp, hoff]

theorem mgmtCmd_no_power (q : MgmtReq) (early quiet : Bool) (role : Nat → Bool) (f : State → State) : mgmtCmd q early quiet role f s = s := by
  simp [mgmtCmd, mgmtUp_of_no_power hoff]

theorem openReq_no_power (q : MgmtReq) (f : State → Status × MgmtBody) : openReq q f s = s := by
  simp [openReq, mgmtUp_of_no_power hoff, mgmtCmd_no_power hoff]

theorem requesterUp_no_power (r : Requester) : requesterUp r s = false := by
  cases r <;> simp [requesterUp, mgmtUp_of_no_power hoff, planesRun_of_no_power hoff]

theorem armed_of_no_power : armed s = false := by
  simp [armed, hoff]

theorem haltWave_no_power (src : Nat) : haltWave src s = s := by
  simp [haltWave, hoff]

theorem onTap_no_power (t : State) : onTap s t = .next s := by
  simp [onTap, hoff, ok_eq_next]

/-- A request of a management session finds nobody to answer it. -/
theorem ok_mgmtCmd_no_power (q : MgmtReq) (early quiet : Bool) (role : Nat → Bool) (f : State → State) :
    ok (mgmtCmd q early quiet role f s) = .next s := by
  rw [mgmtCmd_no_power hoff, ok_eq_next]

/-- Of the commands that are not of the planes, only the rise of power, the level at HALT_IN_N, the timebase's own rows and the stamp of
PPS_IN have an effect without power. -/
theorem exec_no_power_idle {i : Instr} (hi : actsUnpowered i = false) : exec i s = .next s := by
  have hup := mgmtUp_of_no_power hoff
  have harm := armed_of_no_power hoff
  cases i with
  | pwrgoodRise | haltInN | ppsInEdge | ppsOutPulse | acreTimeTransfer => cases hi
  | sessionClose | regRead | regWrite | mgmtConfigCommit | reset | fenceCore | fwStage | fwActivate | bindBegin | bindCommit | bindAbort
  | release | zeroise | spdmRelay | credAdd | credRemove | decommission | debugChallenge | debugUnlock | debugLock | eventSubscribe
  | traceTrigger | halt | scanOut => exact ok_mgmtCmd_no_power hoff ..
  | getInfo | getChain => exact congrArg ok (openReq_no_power hoff ..)
  | jtagBypass | jtagIdcode | jtagSamplePreload | jtagExtest | jtagClamp | jtagHighz => exact onTap_no_power hoff _
  | registerWrite => simp [execRegisterWrite, requesterUp_no_power hoff, ok_eq_next]
  | pwrSpeedSample die => cases hd : Die.ofCode die <;> simp [execPwrSpeedSample, hd, hoff, ok_eq_next]
  | linkFence link => cases hl : Link.ofNum link <;> simp [execLinkFence, hl, hoff, ok_eq_next]
  | hello | auth => simp [execHello, execAuth, hup, ok_eq_next]
  | mgmtIdleTimeout | mgmtLockoutExpiry =>
    simp only [exec_mgmtIdleTimeout, execMgmtIdleTimeout, exec_mgmtLockoutExpiry, execMgmtLockoutExpiry, hup, Bool.false_and,
      Bool.false_eq_true, if_false]
    split <;> rfl
  | deploy q => by_cases hq : q.session = 0 <;> simp [execDeploy, hq, hup, mgmtCmd_no_power hoff, ok_eq_next]
  | bindTimeout | releaseScrubDone | debugUnlockExpiry | provisioning =>
    simp [execBindTimeout, execReleaseScrubDone, execDebugUnlockExpiry, execProvisioning, hup, ok_eq_next]
  | entropyTestFail | stage0 | stage1 | pwrgoodFall | resetN | hostReset | hostPortSelect | thermtripComparator =>
    simp [execEntropyTestFail, execStage0, execStage1, execPwrgoodFall, execResetN, execHostReset, execHostPortSelect,
      execThermtripComparator, hoff, ok_eq_next]
  | haltWave => simp [execHaltWave, haltWave_no_power hoff, ok_eq_next]
  | avsStep | energyUpdate | railPoll => simp [execAvsStep, execEnergyUpdate, execRailPoll, harm, ok_eq_next]
  | thermalSample die => cases hd : Die.ofCode die <;> simp [execThermalSample, hd, harm, ok_eq_next]
  | scanout y die => cases hd : Die.ofCode die <;> simp [execScanout, hd, onTap_no_power hoff, ok_eq_next]
  | _ => exact exec_planeCommand_idle rfl (planesRun_of_no_power hoff)

/-- What any command but the rise of power may change without power. -/
theorem exec_no_power {i : Instr} {t : State} (hrise : ∀ a b, i ≠ .pwrgoodRise a b) (hexec : exec i s = .next t) :
    ∃ low tm rg n, t = { s with power := { s.power with haltInLow := low }, time := tm, regs := rg, freeCtr := n } := by
  cases hacts : actsUnpowered i with
  | false =>
    rw [exec_no_power_idle hoff hacts] at hexec
    cases hexec
    exact ⟨_, _, _, _, rfl⟩
  | true =>
    cases i with
    | pwrgoodRise a b => exact absurd rfl (hrise a b)
    | haltInN low =>
      have hwave := haltWave_no_power (s := { s with power := { s.power with haltInLow := low } }) hoff 1
      rw [exec_haltInN, execHaltInN, hwave, ite_self, ok_eq_next] at hexec
      cases hexec
      exact ⟨_, _, _, _, rfl⟩
    | ppsInEdge | ppsOutPulse | acreTimeTransfer =>
      simp only [exec_ppsInEdge, execPpsInEdge, exec_ppsOutPulse, execPpsOutPulse, exec_acreTimeTransfer, execAcreTimeTransfer] at hexec
      split at hexec <;> cases hexec <;> exact ⟨_, _, _, _, rfl⟩
    | _ => cases hacts

/-- A step without power leaves all but the queue, which it shortens, the timebase, the registers, the level at HALT_IN_N and the free
values. -/
theorem step_no_power {t : State} (hstep : step s = .next t) (hrise : ∀ c ∈ s.pending, ∀ a b, c ≠ .pwrgoodRise a b) :
    ∃ low p tm rg n, p ⊆ s.pending ∧
      t = { s with power := { s.power with haltInLow := low }, pending := p, time := tm, regs := rg, freeCtr := n } := by
  cases hqueue : s.pending with
  | nil =>
    obtain ⟨tm, n, htick⟩ := tick_idle (planesRun_of_no_power hoff)
    rw [step_of_pending_nil hqueue, htick] at hstep
    cases hstep
    exact ⟨_, s.pending, _, _, _, hqueue ▸ List.Subset.refl _, rfl⟩
  | cons c rest =>
    rw [step_of_pending_cons hqueue] at hstep
    obtain ⟨low, tm, rg, n, rfl⟩ := exec_no_power (s := { s with pending := rest }) hoff (hrise c (hqueue ▸ List.mem_cons_self)) hstep
    exact ⟨low, rest, tm, rg, n, List.subset_cons_self c rest, rfl⟩

end NoPower

theorem Unpowered.step {u s t : State} (h : Unpowered u s) (hstep : step s = .next t) : Unpowered u t := by
  obtain ⟨hoff, hrise, low, p, tm, rg, n, hs⟩ := h
  have hoffS : s.power.pwrgood = false := hs ▸ hoff
  obtain ⟨low', p', tm', rg', n', hp, rfl⟩ := step_no_power hoffS hstep hrise
  exact ⟨hoff, fun c hc => hrise c (hp hc), low', p', tm', rg', n', hs ▸ rfl⟩

/-- Settles O51, step by step: without power only what `actsUnpowered` lists has an effect. -/
theorem unpoweredKeepsState : Obligations.UnpoweredKeepsState := fun _ _ _ => Unpowered.step

end Sys2Proof.Machine
end

section
/-!
SUPPORT. No register read shows a key (R423, R455): every field a register shows is the same when other keys stand in the key slots and
another unique secret in the fuses.
-/
namespace Sys2Proof.Machine

theorem get?_mapV {α β : Type} (m : NMap α) (h : Nat → α → β) (k : Nat) : NMap.get? (NMap.mapV m h) k = (NMap.get? m k).map (h k) := by
  induction m with
  | nil => rfl
  | cons e m ih =>
    by_cases hk : k = e.1
    · simp [NMap.mapV, NMap.get?, hk]
    · simpa [NMap.mapV, NMap.get?, hk] using ih

section OtherKeys

variable (f : Nat → Nat → Nat) (g : Nat → Nat) (s : State)

theorem showYok_otherKeys (r : Reg) (y : Yoke) (i : Nat) : showYok (otherKeys f g s) r y i = showYok s r y i := rfl

theorem showPwr_otherKeys (r : Reg) (i : Nat) : showPwr (otherKeys f g s) r i = showPwr s r i := rfl

theorem showObs_otherKeys (r : Reg) (d : Die) (i : Nat) : showObs (otherKeys f g s) r d i = showObs s r d i := rfl

theorem showShared_otherKeys (r : Reg) (y : Yoke) (i : Nat) : showShared (otherKeys f g s) r y i = showShared s r y i := rfl

theorem showAcre_otherKeys (r : Reg) (a : Acre) (i : Nat) : showAcre (otherKeys f g s) r a i = showAcre s r a i := rfl

/-- SEC_KEY_STATUS shows of a slot that it holds a key, whether it is the device's own and whether it is the current one (R440). -/
theorem showSec_otherKeys (r : Reg) (y : Yoke) (i : Nat) : showSec (otherKeys f g s) r y i = showSec s r y i := by
  cases r with
  | SEC_KEY_STATUS =>
    have hslot : NMap.get? (otherKeys f g s).sec.keys i = (NMap.get? s.sec.keys i).map (fun k => { k with key := f i k.key }) :=
      get?_mapV (β := KeySlot) s.sec.keys (fun k x => { x with key := f k x.key }) i
    simp only [showSec, hslot]
    cases NMap.get? s.sec.keys i <;> rfl
  | _ => rfl

/-- A gate list that takes over does so whatever the keys. -/
theorem gclTake_otherKeys (y : Yoke) : gclTake y (otherKeys f g s) = otherKeys f g (gclTake y s) := by
  have hpend : (otherKeys f g s).tsc.pend.get y = s.tsc.pend.get y := rfl
  have hktb : ktbOf (otherKeys f g s) (.yoke y) = ktbOf s (.yoke y) := rfl
  unfold gclTake
  rw [hpend, hktb]
  cases s.tsc.pend.get y with
  | none => rfl
  | some p =>
    by_cases hdue : ktbOf s (.yoke y) < p.at_
    · simp only [if_pos hdue]
    · simp only [if_neg hdue]
      rfl

theorem showKlt_otherKeys (r : Reg) (y : Yoke) (i : Nat) : showKlt (otherKeys f g s) r y i = showKlt s r y i := by
  cases r with
  | TSC_GCL_STATUS => simp only [showKlt, gclTake_otherKeys]; rfl
  | _ => rfl

theorem shown_otherKeys (r : Reg) (d : Die) (i : Nat) : shown (otherKeys f g s) r d i = shown s r d i := by
  cases d with
  | acre a => rw [shown, showObs_otherKeys, showAcre_otherKeys, shown]
  | yoke y =>
    rw [shown, showYok_otherKeys, showPwr_otherKeys, showSec_otherKeys, showObs_otherKeys, showKlt_otherKeys, showShared_otherKeys, shown]

theorem readReg_otherKeys (r : Reg) (d : Die) (i : Nat) : readReg r d i (otherKeys f g s) = readReg r d i s := by
  rw [readReg, shown_otherKeys]; rfl

theorem entryOf_otherKeys (q : Requester) (r : Reg) (d : Die) : entryOf q r d (otherKeys f g s) = entryOf q r d s := rfl

theorem hostWindow_otherKeys (r : Reg) (d : Die) (w : Bool) : hostWindow r d w (otherKeys f g s) = hostWindow r d w s := rfl

theorem shadow_otherKeys (r : Reg) (d : Die) (i : Nat) : shadow (otherKeys f g s) r d i = shadow s r d i := rfl

theorem readAccess_otherKeys (q : Requester) (a : Nat) : (readAccess q a (otherKeys f g s)).1 = (readAccess q a s).1 ∧
    (readAccess q a (otherKeys f g s)).2.1 = (readAccess q a s).2.1 := by
  cases hname : addrName a with
  | bad | hole => simp only [readAccess, hname, and_self]
  | reg r d =>
    simp only [readAccess, hname, entryOf_otherKeys, hostWindow_otherKeys, shadow_otherKeys, readReg_otherKeys]
    split_ifs <;> exact ⟨rfl, rfl⟩

end OtherKeys

/-- Settles O56: a read shows an address, a selected entry, stored fields and shown fields, none of which depends on a key. -/
theorem keysNotReadable : Obligations.KeysNotReadable := fun q a f g s => readAccess_otherKeys f g s q a

end Sys2Proof.Machine
end

section
/-!
SUPPORT. How the energy of an interval is shared out (R504).
-/
namespace Sys2Proof.Machine

theorem foldl_snd_eq_sum (ws : NMap Nat) : ws.foldl (fun n w => n + w.2) 0 = (ws.map Prod.snd).sum := by
  rw [List.sum_eq_foldl, List.foldl_map]

/-- The part of `a` that a weight of a sum gets, rounded down. -/
def weightShares (a sum : Nat) (ws : NMap Nat) : List (Nat × Nat) := ws.map (fun w => (w.1, a * w.2 / sum))

theorem mem_weightShares {a sum : Nat} {ws : NMap Nat} {x : Nat × Nat} (hx : x ∈ weightShares a sum ws) :
    ∃ w, (x.1, w) ∈ ws ∧ x.2 * sum ≤ a * w := by
  obtain ⟨w, hw, rfl⟩ := List.mem_map.mp hx
  exact ⟨w.2, hw, Nat.div_mul_le_self _ _⟩

theorem sum_weightShares_mul_le (a sum : Nat) (ws : NMap Nat) :
    ((weightShares a sum ws).map Prod.snd).sum * sum ≤ a * (ws.map Prod.snd).sum := by
  induction ws with
  | nil => simp [weightShares]
  | cons w ws ih =>
    have hw : a * w.2 / sum * sum ≤ a * w.2 := Nat.div_mul_le_self _ _
    simp only [weightShares, List.map_cons, List.sum_cons, Nat.add_mul, Nat.mul_add] at ih ⊢
    exact Nat.add_le_add hw ih

/-- Rounded down, the parts of `a` are together at most `a`. -/
theorem sum_weightShares_le {a : Nat} {ws : NMap Nat} (hsum : (ws.map Prod.snd).sum ≠ 0) :
    ((weightShares a (ws.map Prod.snd).sum ws).map Prod.snd).sum ≤ a :=
  Nat.le_of_mul_le_mul_right (sum_weightShares_mul_le a _ ws) (Nat.pos_of_ne_zero hsum)

/-! ## The two cases of an apportionment -/

theorem apportion_to_device {e floor : Nat} {ws : NMap Nat} (h : e < floor ∨ (ws.map Prod.snd).sum = 0) :
    apportion e floor ws = [(4096, e)] := by
  rw [← foldl_snd_eq_sum] at h
  exact if_pos h

theorem apportion_weighted {e floor : Nat} {ws : NMap Nat} (hfloor : floor ≤ e) (hsum : (ws.map Prod.snd).sum ≠ 0) :
    apportion e floor ws = weightShares (e - floor) (ws.map Prod.snd).sum ws ++
      [(4096, floor + (e - floor - ((weightShares (e - floor) (ws.map Prod.snd).sum ws).map Prod.snd).sum))] := by
  have hcase : ¬ (e < floor ∨ (ws.map Prod.snd).sum = 0) := not_or.mpr ⟨Nat.not_lt.mpr hfloor, hsum⟩
  simp only [apportion, foldl_snd_eq_sum, if_neg hcase]
  rfl

theorem sum_apportion (e floor : Nat) (ws : NMap Nat) : ((apportion e floor ws).map Prod.snd).sum = e := by
  by_cases h : e < floor ∨ (ws.map Prod.snd).sum = 0
  · simp [apportion_to_device h]
  · obtain ⟨hfloor, hsum⟩ := not_or.mp h
    have hgiven := sum_weightShares_le (a := e - floor) hsum
    rw [apportion_weighted (Nat.not_lt.mp hfloor) hsum]
    simp only [List.map_append, List.map_cons, List.map_nil, List.sum_append, List.sum_cons, List.sum_nil]
    omega

theorem apportion_accounts {e floor : Nat} {ws : NMap Nat} (hfloor : floor ≤ e) (hsum : (ws.map Prod.snd).sum ≠ 0) :
    (apportion e floor ws).map Prod.fst = ws.map Prod.fst ++ [4096] := by
  rw [apportion_weighted hfloor hsum, List.map_append, weightShares, List.map_map]
  rfl

theorem apportion_share_le {e floor : Nat} {ws : NMap Nat} (hfloor : floor ≤ e) (hsum : (ws.map Prod.snd).sum ≠ 0) :
    ∀ x ∈ (apportion e floor ws).dropLast, ∃ w, (x.1, w) ∈ ws ∧ x.2 * (ws.map Prod.snd).sum ≤ (e - floor) * w := by
  rw [apportion_weighted hfloor hsum, List.dropLast_concat]
  exact fun _ => mem_weightShares

/-- Settles O55: below the floor, or with no weight, all goes to the device account; else each weight's part is rounded down and the device
account takes what remains. -/
theorem energySharesRule : Obligations.EnergyShares :=
  ⟨sum_apportion, fun _ _ _ hbelow => apportion_to_device (.inl hbelow),
   fun _ _ _ hfloor hsum => ⟨apportion_accounts hfloor hsum, apportion_share_le hfloor hsum⟩, fun _ _ => sum_apportion _ _ _⟩

end Sys2Proof.Machine
end

section
/-!
SUPPORT. The synchronisation objects family (R349 to R366): what each operation of a program does to an object on which nothing waits, and
the rows of the arbiters and of the wait-for unit.
-/
namespace Sys2Proof.Machine

/-! ## Words and operands -/

theorem bitsOf_of_lt {v hi : Nat} (h : v < 2 ^ (hi + 1)) : bitsOf v hi 0 = v := by
  simpa [bitsOf] using Nat.mod_eq_of_lt h

theorem toNat_ofNat64 {n : Nat} (h : n ≤ 0xFFFFFFFF) : (BitVec.ofNat 64 n).toNat = n := by
  rw [BitVec.toNat_ofNat]; omega

/-- An operand of at most 32 bits stands in its field whole. -/
theorem field_operand {n : Nat} (h : n ≤ 0xFFFFFFFF) : field (BitVec.ofNat 64 n) 31 0 = n := by
  rw [field, toNat_ofNat64 h]
  exact bitsOf_of_lt (by omega)

@[simp] theorem synWord_setSynWord (obj : Nat) (w : Word) (s : State) : synWord (setSynWord obj w s) obj = w :=
  NMap.get_putD_self ..

theorem waitsOn_setSynWord (obj : Nat) (w : Word) (s : State) : waitsOn (setSynWord obj w s) obj = waitsOn s obj := rfl

section Operations

variable {obj slot n : Nat} {s : State} (hwaits : waitsOn s obj = []) (hwatches : s.sync.watches.filter (fun w => w.obj = obj) = [])

/-! ## An object nothing waits on and nothing watches -/

include hwaits hwatches in
/-- With no wait to grant and no watch to fire, a change of the word is all that happens (R352, R357). -/
theorem synChanged_quiet (w : Word) : synChanged obj (setSynWord obj w s) = setSynWord obj w s := by
  have hw : waitsOn (setSynWord obj w s) obj = [] := hwaits
  have hf : (setSynWord obj w s).sync.watches.filter (fun w => w.obj = obj) = [] := hwatches
  simp only [synChanged, hw, grantLoop, List.find?_nil, fireWatches, hf, List.foldl_nil]

variable (hclose : s.sync.closing.contains obj = false) (haccess : synAccess s obj (desc s slot).principal = true)

include hclose haccess in
/-- The checks of an operation whose code takes the kind of the object, with its operand in range (R346, R348 to R350). -/
theorem synCheck_passes {k : SynKind} {code : Nat} {v : Word} (hkind : synKind s obj = k) (hfits : kindFits code k = true)
    (hoperand : operandOk code v = true) : synCheck s obj code v (some (desc s slot).principal) = none := by
  have hfree : k ≠ .free := by rintro rfl; cases hfits
  simp only [synCheck, hclose, hkind, hfree, haccess, hfits, hoperand, Bool.not_true, Bool.false_eq_true, if_false]

theorem operandOk_of_small {code : Nat} (hcode : code = cARRIVE ∨ code = cUNLOCK) (hn : n ≤ 1) : operandOk code (BitVec.ofNat 64 n) = true := by
  have hval : (BitVec.ofNat 64 n).toNat = n := toNat_ofNat64 (by omega)
  rcases hcode with rfl | rfl <;> simp [operandOk, cP, cV, cADD, cARRIVE, cUNLOCK, hval, hn]

theorem operandOk_of_count {code : Nat} (hcode : code = cV ∨ code = cADD) (h1 : 1 ≤ n) (hn : n ≤ 0xFFFFFFFF) :
    operandOk code (BitVec.ofNat 64 n) = true := by
  rcases hcode with rfl | rfl <;> simp [operandOk, cP, cV, cADD, toNat_ofNat64 hn, h1, hn]

include hclose haccess

/-! ## SEM and CCTR (R351) -/

include hwaits hwatches in
theorem applySignal_P (hkind : synKind s obj = .sem) (h1 : 1 ≤ n) (hn : n ≤ 65535) (hcount : n ≤ synValue (synWord s obj)) :
    applySignal obj 9 (BitVec.ofNat 64 n) (some slot) s =
      ((.ok, synValue (setField (synWord s obj) 31 0 (synValue (synWord s obj) - n))),
        setSynWord obj (setField (synWord s obj) 31 0 (synValue (synWord s obj) - n)) s) := by
  have hcheck := synCheck_passes (code := 9) (v := BitVec.ofNat 64 n) hclose haccess hkind rfl (by
    simp [operandOk, cP, toNat_ofNat64 (show n ≤ 0xFFFFFFFF by omega), h1, hn])
  simp [applySignal, hcheck, cREAD, cGE, cNE, cPHASE, cFREE, cLOCK, cP, hwaits, field_operand (show n ≤ 0xFFFFFFFF by omega),
    Nat.not_lt.mpr hcount, synChanged_quiet hwaits hwatches]

include hwaits hwatches in
theorem applySignal_V (hkind : synKind s obj = .sem) (h1 : 1 ≤ n) (hn : n ≤ 0xFFFFFFFF)
    (hroom : synValue (synWord s obj) + n ≤ 0xFFFFFFFF) :
    applySignal obj 13 (BitVec.ofNat 64 n) (some slot) s =
      ((.ok, synValue (setField (synWord s obj) 31 0 (synValue (synWord s obj) + n))),
        setSynWord obj (setField (synWord s obj) 31 0 (synValue (synWord s obj) + n)) s) := by
  have hcheck := synCheck_passes (code := 13) hclose haccess hkind rfl (operandOk_of_count (.inl rfl) h1 hn)
  simp [applySignal, hcheck, cREAD, cGE, cNE, cPHASE, cFREE, cLOCK, cP, cARRIVE, cUNLOCK, cV, field_operand hn, Nat.not_lt.mpr hroom,
    synChanged_quiet hwaits hwatches]

theorem applySignal_V_full (hkind : synKind s obj = .sem) (h1 : 1 ≤ n) (hn : n ≤ 0xFFFFFFFF)
    (hfull : 0xFFFFFFFF < synValue (synWord s obj) + n) :
    applySignal obj 13 (BitVec.ofNat 64 n) (some slot) s = ((.noSpace, synValue (synWord s obj)), s) := by
  have hcheck := synCheck_passes (code := 13) hclose haccess hkind rfl (operandOk_of_count (.inl rfl) h1 hn)
  simp [applySignal, hcheck, cREAD, cGE, cNE, cPHASE, cFREE, cLOCK, cP, cARRIVE, cUNLOCK, cV, field_operand hn, hfull]

include hwaits hwatches in
theorem applySignal_ADD (hkind : synKind s obj = .cctr) (h1 : 1 ≤ n) (hn : n ≤ 0xFFFFFFFF) :
    (applySignal obj 14 (BitVec.ofNat 64 n) (some slot) s).2 =
      setSynWord obj (setField (synWord s obj) 47 0 ((field (synWord s obj) 47 0 + n) % 2 ^ 48)) s := by
  have hcheck := synCheck_passes (code := 14) hclose haccess hkind rfl (operandOk_of_count (.inr rfl) h1 hn)
  simp [applySignal, hcheck, cREAD, cGE, cNE, cPHASE, cFREE, cLOCK, cP, cARRIVE, cUNLOCK, cV, cADD, field_operand hn,
    synChanged_quiet hwaits hwatches]

/-! ## BARRIER (R351) -/

theorem applySignal_ARRIVE (hkind : synKind s obj = .barrier) (hn : n ≤ 1) :
    (applySignal obj 10 (BitVec.ofNat 64 n) (some slot) s).2 = synChanged obj (arrive obj s) := by
  have hcheck := synCheck_passes (code := 10) hclose haccess hkind rfl (operandOk_of_small (.inl rfl) hn)
  simp [applySignal, hcheck, cREAD, cGE, cNE, cPHASE, cFREE, cLOCK, cP, cARRIVE]

include hwaits hwatches in
theorem applySignal_ARRIVE_counts (hkind : synKind s obj = .barrier) (hn : n ≤ 1)
    (hless : field (synWord s obj) 31 16 + 1 ≠ field (synWord s obj) 47 32) :
    (applySignal obj 10 (BitVec.ofNat 64 n) (some slot) s).2 =
      setSynWord obj (setField (synWord s obj) 31 16 (field (synWord s obj) 31 16 + 1)) s := by
  rw [applySignal_ARRIVE hclose haccess hkind hn, arrive, if_neg hless, synChanged_quiet hwaits hwatches]

include hwaits hwatches in
theorem applySignal_ARRIVE_last (hkind : synKind s obj = .barrier) (hn : n ≤ 1)
    (hlast : field (synWord s obj) 31 16 + 1 = field (synWord s obj) 47 32) :
    (applySignal obj 10 (BitVec.ofNat 64 n) (some slot) s).2 =
      setSynWord obj (setField (setField (synWord s obj) 31 16 0) 15 0 ((field (synWord s obj) 15 0 + 1) % 2 ^ 16)) s := by
  rw [applySignal_ARRIVE hclose haccess hkind hn, arrive, if_pos hlast, synChanged_quiet hwaits hwatches]

/-! ## LOCK (R353, R364) -/

include hwaits hwatches in
theorem applySignal_LOCK_free (hkind : synKind s obj = .lock) (hfree : lstate (synWord s obj) = 0)
    (hquota : (heldLocks s slot).length < 16) (v : Word) :
    (applySignal obj 8 v (some slot) s).2 = setSynWord obj (lockWord 1 (handleOf s slot)) s := by
  have hcheck := synCheck_passes (code := 8) (v := v) hclose haccess hkind rfl rfl
  have hheld : holds s obj slot = false := by simp [holds, hfree]
  simp [applySignal, hcheck, cREAD, cGE, cNE, cPHASE, cFREE, cLOCK, hwaits, hheld, hfree, Nat.not_le.mpr hquota,
    synChanged_quiet hwaits hwatches]

include hwaits hwatches in
theorem applySignal_UNLOCK_held (hkind : synKind s obj = .lock) (hheld : lstate (synWord s obj) = 1)
    (hholder : synValue (synWord s obj) = handleOf s slot) (hn : n ≤ 1) :
    applySignal obj 12 (BitVec.ofNat 64 n) (some slot) s = ((.ok, 0), setSynWord obj (lockWord 0 0) s) := by
  have hcheck := synCheck_passes (code := 12) hclose haccess hkind rfl (operandOk_of_small (.inr rfl) hn)
  have hmine : holds s obj slot = true := by simp [holds, hheld, hholder]
  have hpass : passLock obj false 1 s = setSynWord obj (lockWord 0 0) s := by simp [passLock, headOf, hwaits]
  have hzero : synValue (lockWord 0 0) = 0 := by decide
  simp [applySignal, hcheck, cREAD, cGE, cNE, cPHASE, cFREE, cLOCK, cP, cARRIVE, cUNLOCK, doUnlock, hmine, hheld, hwaits, hpass,
    synChanged_quiet hwaits hwatches, hzero]

end Operations

/-- Settles O32: each clause is the one branch of the operation that its premises leave, on an object whose change wakes nobody. -/
theorem syncEffects : Obligations.SyncEffects :=
  fun _ _ _ _ hwaits hwatches hclose haccess =>
    ⟨applySignal_P hwaits hwatches hclose haccess, applySignal_V hwaits hwatches hclose haccess, applySignal_V_full hclose haccess,
     applySignal_ADD hwaits hwatches hclose haccess, applySignal_ARRIVE_counts hwaits hwatches hclose haccess,
     applySignal_ARRIVE_last hwaits hwatches hclose haccess,
     fun hkind hfree hquota => applySignal_LOCK_free hwaits hwatches hclose haccess hkind hfree hquota _,
     applySignal_UNLOCK_held hwaits hwatches hclose haccess⟩

/-! ## The arbiters' and the wait-for unit's rows (R354, R359 to R361, R366) -/

section Rows

variable {s : State} (hrun : planesRun s = true)
include hrun

section PendingWait

variable {obj slot tag : Nat} {w : SyncWait} (hwait : s.sync.waits.find? (fun w => w.obj = obj && w.who = .session slot tag) = some w)
include hwait

/-- The queue of the object is visited in the step that ends the wait (log 34). -/
theorem exec_waitTimeout_due {n : Nat} (htimer : w.timeout = some n) (hdue : n ≤ ktb s) :
    exec (.waitTimeout obj slot tag) s = .next (settle (synChanged obj (failWait w .timeout s))) := by
  rw [exec_waitTimeout, execWaitTimeout, running_of hrun]
  simp only [hwait, htimer, hdue, if_true, okSettle_eq_next]

theorem exec_waitForSearch_pending (hbuilt : s.sync.rebuilding = false) :
    exec (.waitForSearch obj slot tag) s = .next (searchEdge w slot (s.sync.waits.length + 1) s) := by
  rw [exec_waitForSearch, execWaitForSearch, running_of hrun]
  simp only [hbuilt, hwait, Bool.false_eq_true, if_false, ok_eq_next]

theorem exec_deadlockFail_victim (hvictim : s.sync.victims.contains (obj, slot, tag) = true) :
    exec (.deadlockFail obj slot tag) s = .next (settle (synChanged obj (failWait w .deadlock
      (bumpF .SYN_WFG_STAT (.yoke s.ckp.primary) 0 41 18 1
        { s with sync := { s.sync with victims := s.sync.victims.filter (· ≠ (obj, slot, tag)) } })))) := by
  rw [exec_deadlockFail, execDeadlockFail, running_of hrun]
  simp only [hvictim, hwait, Bool.not_true, Bool.false_eq_true, if_false, okSettle_eq_next]

end PendingWait

section Firmware

variable (a : Acre) (index : BitVec 14)

theorem exec_synOp_running (code : BitVec 4) : exec (.synOp a index code) s = .next (settle (postSynResult a
    (applySignal (a.num * 2 ^ 14 + index.toNat) code.toNat (live s .SYN_OP_ARG (.acre a)) none s).1.1
    (applySignal (a.num * 2 ^ 14 + index.toNat) code.toNat (live s .SYN_OP_ARG (.acre a)) none s).1.2
    (applySignal (a.num * 2 ^ 14 + index.toNat) code.toNat (live s .SYN_OP_ARG (.acre a)) none s).2)) := by
  rw [exec_synOp, execSynOp, running_of hrun]
  rfl

theorem exec_synOpForce_quiet {obj : Nat} (hobj : obj = a.num * 2 ^ 14 + index.toNat) (hclose : s.sync.closing.contains obj = false)
    (hfree : synKind s obj ≠ .free) (hwaits : waitsOn s obj = []) (hwatches : s.sync.watches.any (fun w => w.obj = obj) = false)
    {u : State} (hu : u = setSynWord obj (setField (synWord s obj) 47 0 (field (live s .SYN_OP_ARG (.acre a)) 47 0)) s) :
    exec (.synOpForce a index) s = .next (postSynResult a .ok (synValue (synWord u obj)) u) := by
  subst hobj hu
  rw [exec_synOpForce, execSynOpForce, running_of hrun]
  simp only [hclose, hfree, hwaits, hwatches, List.isEmpty_nil, Bool.not_true, Bool.or_self, Bool.false_eq_true, if_false, ok_eq_next]

end Firmware

end Rows

/-- Settles O31: each clause is what the row answers where its premises leave it one branch. -/
theorem syncServiceCommands : Obligations.SyncServiceCommands :=
  ⟨fun _ _ _ _ _ _ hrun hwait htimer hdue => exec_waitTimeout_due hrun hwait htimer hdue,
   fun _ _ _ _ _ hrun hbuilt hwait => exec_waitForSearch_pending hrun hwait hbuilt,
   fun _ _ _ _ _ hrun hvictim hwait => exec_deadlockFail_victim hrun hwait hvictim,
   fun a index code _ hrun => exec_synOp_running hrun a index code,
   fun a index _ _ _ hrun hobj hclose hfree hwaits hwatches hu => exec_synOpForce_quiet hrun a index hobj hclose hfree hwaits hwatches hu⟩

end Sys2Proof.Machine
end

section
/-!
SUPPORT. Frames of security, power, the TAP, observation, checkpoint timers and primacy: what their shared operations leave as it was, and
with it the frame of each command (R423, R430, R485, R510, R512).
-/
namespace Sys2Proof.Machine

/-! ## What a part must leave -/

/-- The state with everything that a command of security, power and the TAP may change cleared. -/
def besideControl (s : State) : State :=
  { s with freeCtr := 0, regs := .reset, power := .reset, sec := .reset, obs := .reset, out := [] }

/-- The state with everything that a command of observation may change cleared. -/
def besideObservation (s : State) : State := { besideControl s with klt := .reset, tsc := .reset }

/-- The state with everything that a command of checkpoint timers and primacy may change cleared. -/
def besideRecovery (s : State) : State := { s with freeCtr := 0, regs := .reset, ckp := .reset, out := [] }

theorem within_control {s t : State} (h : besideControl t = besideControl s) : Within .control s t := by
  cases s
  cases t
  simp only [besideControl, State.mk.injEq] at h
  simp only [Within, State.mk.injEq, h, true_and]
  exact ⟨_, _, _, _, _, _, rfl, rfl, rfl, rfl, rfl, rfl⟩

theorem within_observation {s t : State} (h : besideObservation t = besideObservation s) : Within .observation s t := by
  cases s
  cases t
  simp only [besideObservation, besideControl, State.mk.injEq] at h
  simp only [Within, State.mk.injEq, h, true_and]
  exact ⟨_, _, _, _, _, _, _, _, rfl, rfl, rfl, rfl, rfl, rfl, rfl, rfl⟩

theorem within_recovery {s t : State} (h : besideRecovery t = besideRecovery s) : Within .recovery s t := by
  cases s
  cases t
  simp only [besideRecovery, State.mk.injEq] at h
  simp only [Within, State.mk.injEq, h, true_and]
  exact ⟨_, _, _, _, rfl, rfl, rfl, rfl⟩

/-- What security, power and the TAP leave, observation leaves too. -/
theorem besideObservation_of_control {s t : State} (h : besideControl t = besideControl s) : besideObservation t = besideObservation s := by
  rw [besideObservation, h, besideObservation]

/-- A fold whose every step keeps a view of the state keeps it. -/
theorem foldl_keeps {β γ : Type} {view : State → γ} {f : State → β → State} (h : ∀ s x, view (f s x) = view s) (l : List β) (s : State) :
    view (l.foldl f s) = view s := by
  induction l generalizing s with
  | nil => rfl
  | cons x l ih => exact (ih (f s x)).trans (h s x)

/-! ## Outcomes that keep a view of the state -/

/-- Every next state of the outcome shows the same view as `s`. -/
structure Keeps {γ : Type} (view : State → γ) (s : State) (o : Host.Outcome State Fault Refusal) : Prop where
  of_next : ∀ t, o = .next t → view t = view s

section Keeps

variable {γ : Type} {view : State → γ} {s : State}

theorem keeps_ok {t : State} (h : view t = view s) : Keeps view s (ok t) where
  of_next := by
    rintro _ ⟨⟩
    exact h

theorem keeps_self : Keeps view s (ok s) := keeps_ok rfl

theorem keeps_ite {c : Prop} [Decidable c] {a b : Host.Outcome State Fault Refusal} (ha : Keeps view s a) (hb : Keeps view s b) :
    Keeps view s (if c then a else b) := by
  split
  · exact ha
  · exact hb

theorem keeps_running {o : Host.Outcome State Fault Refusal} (h : Keeps view s o) : Keeps view s (running s o) :=
  keeps_ite h keeps_self

theorem view_ite {c : Prop} [Decidable c] {t u : State} (ht : view t = view s) (hu : view u = view s) :
    view (if c then t else u) = view s := by
  split
  · exact ht
  · exact hu

end Keeps

/-! ## Security, power and the TAP -/

section Control

@[simp] theorem besideControl_setLive (r : Reg) (d : Die) (i : Nat) (v : Word) (s : State) :
    besideControl (setLive r d i v s) = besideControl s := rfl
@[simp] theorem besideControl_setLiveF (r : Reg) (d : Die) (i hi lo v : Nat) (s : State) :
    besideControl (setLiveF r d i hi lo v s) = besideControl s := rfl
@[simp] theorem besideControl_bumpF (r : Reg) (d : Die) (i hi lo n : Nat) (s : State) :
    besideControl (bumpF r d i hi lo n s) = besideControl s := rfl
@[simp] theorem besideControl_setSec (f : SecState → SecState) (s : State) : besideControl (setSec f s) = besideControl s := rfl
@[simp] theorem besideControl_setObs (f : ObsState → ObsState) (s : State) : besideControl (setObs f s) = besideControl s := rfl
@[simp] theorem besideControl_setPower (f : PowerState → PowerState) (s : State) : besideControl (setPower f s) = besideControl s := rfl
@[simp] theorem besideControl_setFallow (f : FallowState) (s : State) : besideControl (setFallow f s) = besideControl s := rfl
@[simp] theorem besideControl_emit (e : Emission) (s : State) : besideControl (emit e s) = besideControl s := rfl
@[simp] theorem besideControl_drew (s : State) : besideControl (drew s) = besideControl s := rfl
@[simp] theorem besideControl_putPortM (y : Yoke) (p : MgmtPort) (s : State) : besideControl (putPortM y p s) = besideControl s := rfl
@[simp] theorem besideControl_secRecords (n : Nat) (s : State) : besideControl (secRecords n s) = besideControl s := rfl
@[simp] theorem besideControl_putTrace (a : Acre) (t : Trace) (s : State) : besideControl (putTrace a t s) = besideControl s := rfl

theorem besideControl_emits {β : Type} (f : β → Emission) (l : List β) (s : State) :
    besideControl (l.foldl (fun s x => emit (f x) s) s) = besideControl s :=
  foldl_keeps (view := besideControl) (fun _ _ => by rfl) l s

@[simp] theorem besideControl_mgmtPost (e : MgmtEvent) (s : State) : besideControl (mgmtPost e s) = besideControl s := by
  refine foldl_keeps (view := besideControl) (fun s y => ?_) Yoke.all (emit (.mgmt e) s)
  exact besideControl_emits (fun x => .mgmtEvent y x.1 (x.2.seqOut + 1)) ((s.sec.mgmt.get y).sessions.filter (fun x => x.2.subscribed)) s

@[simp] theorem besideControl_mgmtReply (q : MgmtReq) (st : Status) (b : MgmtBody) (s : State) :
    besideControl (mgmtReply q st b s) = besideControl s := rfl

@[simp] theorem besideControl_sayOpen (q : MgmtReq) (st : Status) (b : MgmtBody) (s : State) :
    besideControl (sayOpen q st b s) = besideControl s := rfl

@[simp] theorem besideControl_mgmtTake (q : MgmtReq) (x : MgmtSess) (s : State) : besideControl (mgmtTake q x s) = besideControl s := rfl

@[simp] theorem besideControl_haltWave (src : Nat) (s : State) : besideControl (haltWave src s) = besideControl s :=
  view_ite rfl (by simp)

@[simp] theorem besideControl_haltFree (s : State) : besideControl (haltFree s) = besideControl s := by
  simp [haltFree]

@[simp] theorem besideControl_debugClose (s : State) : besideControl (debugClose s) = besideControl s :=
  view_ite rfl (by simp)

@[simp] theorem besideControl_setTen (t : Tenancy) (r : TenRec) (s : State) : besideControl (setTen t r s) = besideControl s := by
  simp [setTen]

@[simp] theorem besideControl_certUpdate (s : State) : besideControl (certUpdate s) = besideControl s := by
  refine view_ite ?_ rfl
  rw [besideControl_mgmtPost]
  exact foldl_keeps (view := besideControl) (fun _ _ => by rfl) _ _

@[simp] theorem besideControl_lcAdvance (s : State) : besideControl (lcAdvance s) = besideControl s := view_ite rfl rfl

@[simp] theorem besideControl_bindAbort (s : State) : besideControl (bindAbort s) = besideControl s := by
  simp [bindAbort]

@[simp] theorem besideControl_bindBegun (b : BindReq) (s : State) : besideControl (bindBegun b s) = besideControl s := by
  simp [bindBegun]

@[simp] theorem besideControl_dropSessions (s : State) : besideControl (dropSessions s) = besideControl s :=
  foldl_keeps (view := besideControl) (fun _ _ => by rfl) _ _

@[simp] theorem besideControl_debugGrant (scopes until_ : Nat) (entry : List Byte) (s : State) :
    besideControl (debugGrant scopes until_ entry s) = besideControl s := by
  simp [debugGrant]

@[simp] theorem besideControl_putCred (i : Nat) (c : Cred) (s : State) : besideControl (putCred i c s) = besideControl s := rfl

@[simp] theorem besideControl_fwSelect (i : FwImage) (advance : Bool) (s : State) : besideControl (fwSelect i advance s) = besideControl s := by
  simp [fwSelect]

@[simp] theorem besideControl_endSess (y : Yoke) (n : Nat) (s : State) : besideControl (endSess y n s) = besideControl s := rfl

@[simp] theorem besideControl_authSay (y : Yoke) (n : Nat) (st : Status) (p : MgmtPort) (s : State) :
    besideControl (authSay y n st p s) = besideControl s := rfl

/-! ## Fallow -/

@[simp] theorem besideControl_fallowSendAll (kind hint : Nat) (s : State) : besideControl (fallowSendAll kind hint s) = besideControl s :=
  foldl_keeps (view := besideControl) (fun _ _ => by exact view_ite rfl rfl) _ _

@[simp] theorem besideControl_startWake (s : State) : besideControl (startWake s) = besideControl s := view_ite rfl rfl

@[simp] theorem besideControl_countDeferred (s : State) : besideControl (countDeferred s) = besideControl s := rfl

@[simp] theorem besideControl_cancelAgreement (s : State) : besideControl (cancelAgreement s) = besideControl s :=
  view_ite (by simp) rfl

@[simp] theorem besideControl_fallowEnter (s : State) : besideControl (fallowEnter s) = besideControl s :=
  view_ite rfl (by simp)

@[simp] theorem besideControl_fallowTry (s : State) : besideControl (fallowTry s) = besideControl s :=
  view_ite (by simp) rfl

@[simp] theorem besideControl_setNeighbour (n : Nat) (f : Neighbour → Neighbour) (s : State) :
    besideControl (setNeighbour n f s) = besideControl s := rfl

@[simp] theorem besideControl_proposeAnswer (nb round : Nat) (s : State) : besideControl (proposeAnswer nb round s) = besideControl s :=
  view_ite rfl rfl

section ManagementSession

variable {γ : Type} {view : State → γ} (hcoarse : ∀ {s t : State}, besideControl t = besideControl s → view t = view s) (q : MgmtReq)
  (s : State)
include hcoarse

theorem mgmtSession_keeps {f : Nat → State → State} (hf : ∀ r s, view (f r s) = view s) : view (mgmtSession q f s) = view s := by
  simp only [mgmtSession]
  cases NMap.get? (portM s q.port).sessions q.session with
  | none => rfl
  | some x =>
    refine view_ite ?_ (view_ite rfl (view_ite (hcoarse (besideControl_putPortM ..)) ?_))
    · cases x.cached with
      | none => rfl
      | some r => exact hcoarse (besideControl_emit ..)
    · exact (hf _ _).trans (hcoarse (besideControl_mgmtTake ..))

/-- A request of a management session keeps what its own part keeps, of what sessions and the wake leave. -/
theorem mgmtCmd_keeps {f : State → State} (hf : ∀ s, view (f s) = view s) (early quiet : Bool) (role : Nat → Bool) :
    view (mgmtCmd q early quiet role f s) = view s := by
  refine view_ite rfl (mgmtSession_keeps hcoarse q s (fun r s => ?_))
  have hwake : besideControl (if quiet then s else cancelAgreement s) = besideControl s := view_ite rfl (by simp)
  exact view_ite (hcoarse (by simp)) (view_ite (hcoarse (by simp)) (view_ite ((hf _).trans (hcoarse hwake)) (hcoarse (by simpa using hwake))))

end ManagementSession

theorem besideControl_mgmtCmd {f : State → State} (hf : ∀ s, besideControl (f s) = besideControl s) (q : MgmtReq) (early quiet : Bool)
    (role : Nat → Bool) (s : State) : besideControl (mgmtCmd q early quiet role f s) = besideControl s :=
  mgmtCmd_keeps (fun h => h) q s hf early quiet role

theorem besideControl_openReq (q : MgmtReq) (f : State → Status × MgmtBody) (s : State) : besideControl (openReq q f s) = besideControl s :=
  view_ite (view_ite rfl rfl) (besideControl_mgmtCmd (fun _ => by rfl) q true true rAny s)

/-! ## Rails, temperature and the TAP -/

@[simp] theorem besideControl_railRead (rail mv dA : Nat) (s : State) : besideControl (railRead rail mv dA s) = besideControl s :=
  view_ite rfl (by simp)

@[simp] theorem besideControl_energyCount (s : State) : besideControl (energyCount s) = besideControl s := by
  simp only [energyCount, closeWindows]
  split_ifs <;> simp

@[simp] theorem besideControl_thermRead (d : Die) (t : Nat) (s : State) : besideControl (thermRead d t s) = besideControl s :=
  view_ite (by simp) rfl

@[simp] theorem besideControl_thermTrip (s : State) : besideControl (thermTrip s) = besideControl s := by
  simp [thermTrip]

@[simp] theorem besideControl_loadTap (y : Yoke) (i : JtagInstr) (s : State) : besideControl (loadTap y i s) = besideControl s := rfl

@[simp] theorem besideControl_tapHalts (y : Yoke) (i : JtagInstr) (s : State) : besideControl (tapHalts y i s) = besideControl s := by
  rw [tapHalts, besideControl_loadTap]
  exact view_ite (by simp) rfl

@[simp] theorem besideControl_portChosen (s : State) : besideControl (portChosen s) = besideControl s := view_ite rfl rfl

/-- A message from a neighbour keeps what its own part keeps. -/
theorem keeps_fromNeighbour {f : State → State} (hf : ∀ s, besideControl (f s) = besideControl s) (nb kind : Nat) (s : State) :
    Keeps besideControl s (fromNeighbour nb kind f s) :=
  keeps_running (keeps_ite (keeps_ok (hf _)) keeps_self)

theorem keeps_onTap {s t : State} (h : besideControl t = besideControl s) : Keeps besideControl s (onTap s t) :=
  keeps_ite (keeps_ok h) keeps_self

/-! ## The frame of each command -/

section Management

variable (q : MgmtReq) (s : State)

theorem keeps_mgmtCmd {f : State → State} (hf : ∀ s, besideControl (f s) = besideControl s) (early quiet : Bool) (role : Nat → Bool) :
    Keeps besideControl s (ok (mgmtCmd q early quiet role f s)) :=
  keeps_ok (besideControl_mgmtCmd hf q early quiet role s)

theorem keeps_getInfo : Keeps besideControl s (exec (.getInfo q) s) := keeps_ok (besideControl_openReq ..)

theorem keeps_getChain (slot off : Nat) (more : Bool) : Keeps besideControl s (exec (.getChain q slot off more) s) :=
  keeps_ok (besideControl_openReq ..)

theorem keeps_sessionClose : Keeps besideControl s (exec (.sessionClose q) s) :=
  keeps_mgmtCmd q s (fun s => by simp) ..

theorem keeps_debugChallenge : Keeps besideControl s (exec (.debugChallenge q) s) :=
  keeps_mgmtCmd q s (fun s => by simp) ..

theorem keeps_debugLock : Keeps besideControl s (exec (.debugLock q) s) :=
  keeps_mgmtCmd q s (fun s => by simp) ..

theorem keeps_eventSubscribe : Keeps besideControl s (exec (.eventSubscribe q) s) :=
  keeps_mgmtCmd q s (fun s => by simp) ..

theorem keeps_fwStage (i : FwImage) (verifies : Bool) : Keeps besideControl s (exec (.fwStage q i verifies) s) :=
  keeps_mgmtCmd q s (fun s => by split_ifs <;> simp) ..

theorem keeps_fwActivate (advance : Bool) : Keeps besideControl s (exec (.fwActivate q advance) s) :=
  keeps_mgmtCmd q s (fun s => by split <;> simp) ..

theorem keeps_bindBegin (b : BindReq) : Keeps besideControl s (exec (.bindBegin q b) s) :=
  keeps_mgmtCmd q s (fun s => by split <;> simp) ..

theorem keeps_bindAbort : Keeps besideControl s (exec (.bindAbort q) s) :=
  keeps_mgmtCmd q s (fun s => by split <;> simp) ..

theorem keeps_credAdd (key roles : Nat) : Keeps besideControl s (exec (.credAdd q key roles) s) :=
  keeps_mgmtCmd q s (fun s => by split <;> simp) ..

theorem keeps_credRemove (slot : Nat) : Keeps besideControl s (exec (.credRemove q slot) s) :=
  keeps_mgmtCmd q s (fun s => by split_ifs <;> simp) ..

theorem keeps_debugUnlock (t : Option Consent) : Keeps besideControl s (exec (.debugUnlock q t) s) := by
  refine keeps_mgmtCmd q s (fun s => ?_) ..
  refine view_ite (by simp) (view_ite (by simp) ?_)
  cases t with
  | none => simp
  | some c => exact view_ite (by simp) (by simp)

theorem keeps_deploy (key : Nat) : Keeps besideControl s (exec (.deploy q key) s) := by
  rw [exec_deploy, execDeploy]
  split_ifs
  · exact keeps_mgmtCmd q s (fun s => by simp) ..
  all_goals exact keeps_ok (by simp)

end Management

section Ports

variable (y : Yoke) (s : State)

theorem keeps_hello (minVer maxVer cred : Nat) : Keeps besideControl s (exec (.hello y minVer maxVer cred) s) := by
  simp only [exec_hello, execHello]
  split_ifs <;> exact keeps_ok (by simp)

theorem keeps_auth (n : Nat) (verifies : Bool) : Keeps besideControl s (exec (.auth y n verifies) s) := by
  simp only [exec_auth, execAuth]
  refine keeps_ite keeps_self ?_
  cases NMap.get? (portM s y).hellos n with
  | none => exact keeps_self
  | some h =>
    dsimp only
    split_ifs <;> exact keeps_ok (by simp)

theorem keeps_mgmtIdleTimeout (n : Nat) : Keeps besideControl s (exec (.mgmtIdleTimeout y n) s) := by
  simp only [exec_mgmtIdleTimeout, execMgmtIdleTimeout]
  cases NMap.get? (portM s y).sessions n with
  | none => exact keeps_self
  | some x => exact keeps_ite (keeps_ok (by simp)) keeps_self

theorem keeps_mgmtLockoutExpiry : Keeps besideControl s (exec (.mgmtLockoutExpiry y) s) := by
  simp only [exec_mgmtLockoutExpiry, execMgmtLockoutExpiry]
  cases (portM s y).lockUntil with
  | none => exact keeps_self
  | some t => exact keeps_ite (keeps_ok (by simp)) keeps_self

end Ports

section Power

variable (s : State)

theorem keeps_pwrSpeedSample (die speed source : Nat) : Keeps besideControl s (exec (.pwrSpeedSample die speed source) s) := by
  rw [exec_pwrSpeedSample, execPwrSpeedSample]
  cases Die.ofCode die with
  | none => exact keeps_self
  | some d =>
    refine keeps_ite keeps_self ?_
    cases speedRatio source <;> exact keeps_ok (by simp)

theorem keeps_hostPortSelect (linked : Option Yoke) : Keeps besideControl s (exec (.hostPortSelect linked) s) := by
  refine keeps_ite keeps_self ?_
  cases linked <;> exact keeps_ok (by simp)

theorem keeps_avsStep : Keeps besideControl s (exec .avsStep s) := by
  simp only [exec_avsStep, execAvsStep, avsSet]
  split_ifs <;> exact keeps_ok (by simp)

theorem keeps_railPoll (rail : Nat) (answer : Option (Nat × Nat)) : Keeps besideControl s (exec (.railPoll rail answer) s) := by
  refine keeps_ite keeps_self ?_
  cases answer <;> exact keeps_ok (by simp)

theorem keeps_thermalSample (die tj : Nat) : Keeps besideControl s (exec (.thermalSample die tj) s) := by
  rw [exec_thermalSample, execThermalSample]
  cases Die.ofCode die with
  | none => exact keeps_self
  | some d =>
    dsimp only
    split_ifs <;> exact keeps_ok (by simp)

theorem keeps_selfWake : Keeps besideControl s (exec .selfWake s) := by
  refine keeps_running ?_
  cases earliest s with
  | none => exact keeps_self
  | some t => exact keeps_ite (keeps_ok (by simp)) keeps_self

theorem keeps_accept (nb round : Nat) : Keeps besideControl s (exec (.accept nb round) s) := by
  rw [exec_accept, execAccept]
  exact keeps_fromNeighbour (fun s => by split_ifs <;> simp) ..

theorem keeps_refuse (nb round : Nat) : Keeps besideControl s (exec (.refuse nb round) s) := by
  rw [exec_refuse, execRefuse]
  exact keeps_fromNeighbour (fun s => by split_ifs <;> simp) ..

end Power

theorem exec_keeps_control {i : Instr} (hi : partOf i = some .control) (s : State) : Keeps besideControl s (exec i s) := by
  cases i with
  | getInfo => exact keeps_getInfo ..
  | getChain => exact keeps_getChain ..
  | sessionClose => exact keeps_sessionClose ..
  | debugChallenge => exact keeps_debugChallenge ..
  | debugLock => exact keeps_debugLock ..
  | eventSubscribe => exact keeps_eventSubscribe ..
  | fwStage => exact keeps_fwStage ..
  | fwActivate => exact keeps_fwActivate ..
  | bindBegin => exact keeps_bindBegin ..
  | bindAbort => exact keeps_bindAbort ..
  | credAdd => exact keeps_credAdd ..
  | credRemove => exact keeps_credRemove ..
  | debugUnlock => exact keeps_debugUnlock ..
  | deploy => exact keeps_deploy ..
  | hello => exact keeps_hello ..
  | auth => exact keeps_auth ..
  | mgmtIdleTimeout => exact keeps_mgmtIdleTimeout ..
  | mgmtLockoutExpiry => exact keeps_mgmtLockoutExpiry ..
  | pwrSpeedSample => exact keeps_pwrSpeedSample ..
  | hostPortSelect => exact keeps_hostPortSelect ..
  | avsStep => exact keeps_avsStep ..
  | railPoll => exact keeps_railPoll ..
  | thermalSample => exact keeps_thermalSample ..
  | selfWake => exact keeps_selfWake ..
  | bindTimeout | debugUnlockExpiry | provisioning | entropyTestFail | thermtripComparator => exact keeps_ite (keeps_ok (by simp)) keeps_self
  | energyUpdate => exact keeps_ite keeps_self (keeps_ok (by simp))
  | pwrResetMgmt => exact keeps_running (keeps_ok (besideControl_putPortM ..))
  | fallowEnter => exact keeps_running (keeps_ok (by simp))
  | fallowWake | fallowCancel => exact keeps_running (keeps_ok (by simp [fallowCmd]))
  | propose => exact keeps_fromNeighbour (fun _ => besideControl_proposeAnswer ..) ..
  | accept => exact keeps_accept ..
  | refuse => exact keeps_refuse ..
  | cancel | committed | wake => exact keeps_fromNeighbour (fun _ => besideControl_setNeighbour ..) ..
  | fallowAnswerTimeout | consentExpiry => exact keeps_running (keeps_ite (keeps_ok (by simp)) keeps_self)
  | jtagBypass | jtagIdcode | jtagSamplePreload | jtagExtest | jtagClamp | jtagHighz => exact keeps_onTap (by simp)
  | _ => cases hi

end Control

/-! ## Observation -/

section Observation

theorem besideObservation_traceSend (a : Acre) (n : Nat) (s : State) : besideObservation (traceSend a n s) = besideObservation s := by
  simp only [traceSend]
  split <;> rfl

theorem besideObservation_traceSends (a : Acre) (l : List Nat) (s : State) :
    besideObservation (l.foldl (fun s n => traceSend a n s) s) = besideObservation s :=
  foldl_keeps (fun s n => besideObservation_traceSend a n s) l s

@[simp] theorem besideObservation_putTrace (a : Acre) (t : Trace) (s : State) : besideObservation (putTrace a t s) = besideObservation s := rfl
@[simp] theorem besideObservation_setObs (f : ObsState → ObsState) (s : State) : besideObservation (setObs f s) = besideObservation s := rfl
@[simp] theorem besideObservation_setTsc (f : TscState → TscState) (s : State) : besideObservation (setTsc f s) = besideObservation s := rfl
@[simp] theorem besideObservation_emit (e : Emission) (s : State) : besideObservation (emit e s) = besideObservation s := rfl

@[simp] theorem besideObservation_mgmtReply (q : MgmtReq) (st : Status) (b : MgmtBody) (s : State) :
    besideObservation (mgmtReply q st b s) = besideObservation s := rfl

@[simp] theorem besideObservation_haltWave (src : Nat) (s : State) : besideObservation (haltWave src s) = besideObservation s :=
  besideObservation_of_control (besideControl_haltWave src s)

@[simp] theorem besideObservation_traceExport (a : Acre) (s : State) : besideObservation (traceExport a s) = besideObservation s :=
  view_ite rfl (view_ite rfl (besideObservation_traceSends a _ (drew s)))

@[simp] theorem besideObservation_traceDrain (a : Acre) (s : State) : besideObservation (traceDrain a s) = besideObservation s :=
  view_ite (besideObservation_traceSends a _ s) rfl

@[simp] theorem besideObservation_frameWrite (a : Acre) (s : State) : besideObservation (frameWrite a s) = besideObservation s :=
  view_ite rfl (by simp)

@[simp] theorem besideObservation_traceStop (a : Acre) (reason : Nat) (s : State) :
    besideObservation (traceStop a reason s) = besideObservation s :=
  view_ite (by simp) rfl

@[simp] theorem besideObservation_recAdd (a : Acre) (r : TraceRec) (s : State) : besideObservation (recAdd a r s) = besideObservation s := by
  simp only [recAdd]
  split_ifs <;> simp

@[simp] theorem besideObservation_tracePostTo (a : Acre) (d : Die) (kind arg : Nat) (trig : Bool) (prin : Option Nat) (body : List Byte)
    (s : State) : besideObservation (tracePostTo a d kind arg trig prin body s) = besideObservation s := by
  simp only [tracePostTo]
  split_ifs <;> simp

@[simp] theorem besideObservation_tracePost (d : Die) (kind arg : Nat) (prin : Option Nat) (body : List Byte) (s : State) :
    besideObservation (tracePost d kind arg prin body s) = besideObservation s :=
  besideObservation_tracePostTo ..

@[simp] theorem besideObservation_traceTrigger (d : Die) (src val : Nat) (s : State) :
    besideObservation (traceTrigger d src val s) = besideObservation s := by
  refine foldl_keeps (fun s a => ?_) _ s
  simp [apply_ite besideObservation]

@[simp] theorem besideObservation_ovf (d : Die) (b : Nat) (w : Bool) (s : State) : besideObservation (ovf d b w s) = besideObservation s :=
  view_ite rfl rfl

@[simp] theorem besideObservation_acctAdd (account idx n : Nat) (s : State) :
    besideObservation (acctAdd account idx n s) = besideObservation s :=
  view_ite rfl (by simp only [besideObservation_ovf]; rfl)

@[simp] theorem besideObservation_traceApply (a : Acre) (s : State) : besideObservation (traceApply a s) = besideObservation s := by
  simp only [traceApply]
  split_ifs <;> simp

@[simp] theorem besideObservation_acctPeriod (s : State) : besideObservation (acctPeriod s) = besideObservation s := by
  refine (foldl_keeps (fun s p => by simp) _ _).trans ?_
  simp only [acctLatch, besideObservation_ovf]
  rfl

@[simp] theorem besideObservation_dieBoundary (d : Die) (b : Nat) (s : State) : besideObservation (dieBoundary d b s) = besideObservation s := by
  cases d with
  | acre a => simp [dieBoundary]
  | yoke y => exact view_ite (by simp [maxLatch]) (by simp [maxLatch])

@[simp] theorem besideObservation_dieLatched (d : Die) (s : State) : besideObservation (dieLatched d s) = besideObservation s := rfl

@[simp] theorem besideObservation_snapTake (d : Die) (s : State) : besideObservation (snapTake d s) = besideObservation s := by
  cases d with
  | acre a => rfl
  | yoke y => exact view_ite (by simp) (by simp)

@[simp] theorem besideObservation_intervalDone (usage : List (Nat × Nat × Nat)) (s : State) :
    besideObservation (intervalDone usage s) = besideObservation s := by
  simp only [intervalDone, besideObservation_setObs]
  refine (foldl_keeps (fun s x => by simp) _ _).trans (foldl_keeps (fun s u => by simp) _ _)

@[simp] theorem besideObservation_scanOut (d : Die) (chain : Nat) (s : State) :
    besideObservation (scanOut d chain s).2.2 = besideObservation s := by
  unfold scanOut
  split
  · rfl
  · split
    · rfl
    · dsimp only
      split <;> rfl

@[simp] theorem besideObservation_readAccess (q : Requester) (a : Nat) (s : State) :
    besideObservation (readAccess q a s).2.2 = besideObservation s := by
  simp only [readAccess]
  split
  · rfl
  · rfl
  · split_ifs
    · rfl
    · rfl
    · rfl
    · exact foldl_keeps (view := besideObservation) (fun _ _ => by rfl) _ _

theorem keeps_mgmtCmd_observation {f : State → State} (hf : ∀ s, besideObservation (f s) = besideObservation s) (q : MgmtReq)
    (early quiet : Bool) (role : Nat → Bool) (s : State) : Keeps besideObservation s (ok (mgmtCmd q early quiet role f s)) :=
  keeps_ok (mgmtCmd_keeps besideObservation_of_control q s hf early quiet role)

section Rows

variable (s : State)

theorem keeps_regRead (q : MgmtReq) (addr : BitVec 40) : Keeps besideObservation s (exec (.regRead q addr) s) := by
  rw [exec_regRead, execRegRead]
  exact keeps_mgmtCmd_observation (fun s => by simp) ..

theorem keeps_traceTrigger (q : MgmtReq) : Keeps besideObservation s (exec (.traceTrigger q) s) := by
  rw [exec_traceTrigger, execTraceTrigger]
  exact keeps_mgmtCmd_observation (fun s => by split_ifs <;> simp) ..

theorem keeps_halt (q : MgmtReq) : Keeps besideObservation s (exec (.halt q) s) := by
  rw [exec_halt, execHalt]
  exact keeps_mgmtCmd_observation (fun s => by split_ifs <;> simp) ..

theorem keeps_scanOut (q : MgmtReq) (die chain : Nat) : Keeps besideObservation s (exec (.scanOut q die chain) s) := by
  rw [exec_scanOut, execScanOut]
  refine keeps_mgmtCmd_observation (fun s => view_ite (by simp) ?_) ..
  cases Die.ofCode die <;> simp

/-- A row of a die answers nothing where no die has the code. -/
theorem keeps_die {f : Die → Host.Outcome State Fault Refusal} (hf : ∀ d, Keeps besideObservation s (f d)) (die : Nat) :
    Keeps besideObservation s (match Die.ofCode die with
      | none => ok s
      | some d => f d) := by
  cases Die.ofCode die with
  | none => exact keeps_self
  | some d => exact hf d

theorem keeps_haltInN (low : Bool) : Keeps besideObservation s (exec (.haltInN low) s) :=
  keeps_ite (keeps_ok (besideObservation_haltWave ..)) (keeps_ok rfl)

theorem keeps_obsMark (y : Yoke) (r : Requester) (v : Nat) : Keeps besideObservation s (exec (.obsMark y r v) s) := by
  refine keeps_running (keeps_ok ?_)
  cases r <;> simp [markWrite]

theorem keeps_scanout (y : Yoke) (die chain : Nat) : Keeps besideObservation s (exec (.scanout y die chain) s) := by
  rw [exec_scanout, execScanout]
  refine keeps_die s (fun d => ?_) die
  have hload : ∀ i, besideObservation (loadTap y i s) = besideObservation s := fun i => besideObservation_of_control (by simp)
  refine keeps_ite (keeps_ite (keeps_ok ?_) keeps_self) (keeps_ite (keeps_ok (hload _)) keeps_self)
  exact view_ite (by simp [hload]) (by simp [hload])

end Rows

theorem exec_keeps_observation {i : Instr} (hi : partOf i = some .observation) (s : State) : Keeps besideObservation s (exec i s) := by
  cases i with
  | regRead => exact keeps_regRead ..
  | traceTrigger => exact keeps_traceTrigger ..
  | halt => exact keeps_halt ..
  | scanOut => exact keeps_scanOut ..
  | periodBoundary die => exact keeps_running (keeps_die s (fun d => keeps_ite keeps_self (keeps_ok (by simp))) die)
  | obsSnapTake die => exact keeps_running (keeps_die s (fun d => keeps_ok (by simp)) die)
  | traceStallTrigger die => exact keeps_running (keeps_die s (fun d => keeps_ite (keeps_ok (by simp)) keeps_self) die)
  | energyApportion => exact keeps_running (keeps_ite keeps_self (keeps_ok (by simp)))
  | traceFlush | traceTimeTrigger | trigIn => exact keeps_running (keeps_ite (keeps_ok (by simp)) keeps_self)
  | tracePostDone => exact keeps_running (keeps_ite (keeps_ite (keeps_ok (by simp)) (keeps_ok (by simp))) keeps_self)
  | obsMark => exact keeps_obsMark ..
  | haltWave => exact keeps_ite (keeps_ok (by simp)) keeps_self
  | haltInN => exact keeps_haltInN ..
  | scanout => exact keeps_scanout ..
  | _ => cases hi

end Observation

/-! ## Checkpoint timers and primacy -/

section Recovery

@[simp] theorem besideRecovery_setCkp (f : CkptState → CkptState) (s : State) : besideRecovery (setCkp f s) = besideRecovery s := rfl
@[simp] theorem besideRecovery_modYoke (y : Yoke) (f : YokePrim → YokePrim) (s : State) : besideRecovery (modYoke y f s) = besideRecovery s := rfl
@[simp] theorem besideRecovery_emit (e : Emission) (s : State) : besideRecovery (emit e s) = besideRecovery s := rfl
@[simp] theorem besideRecovery_applyMarker (a : Acre) (e : Epoch) (s : State) : besideRecovery (applyMarker a e s) = besideRecovery s := rfl
@[simp] theorem besideRecovery_stopIssuing (y : Yoke) (s : State) : besideRecovery (stopIssuing y s) = besideRecovery s := view_ite rfl rfl
@[simp] theorem besideRecovery_sendClaim (y : Yoke) (s : State) : besideRecovery (sendClaim y s) = besideRecovery s := rfl
@[simp] theorem besideRecovery_claimVote (a : Acre) (y : Yoke) (c : Claim) (s : State) : besideRecovery (claimVote a y c s) = besideRecovery s := by
  simp [claimVote]

theorem besideRecovery_takeLease (y : Yoke) (p : Nat) (a : Acre) (s : State) : besideRecovery (takeLease y p a s) = besideRecovery s := rfl

@[simp] theorem besideRecovery_renewed (reached : List Nat) (s : State) : besideRecovery (renewed reached s) = besideRecovery s :=
  (foldl_keeps (fun t a => besideRecovery_takeLease _ _ a t) _ _).trans (besideRecovery_modYoke ..)

section Rows

variable (s : State)

theorem keeps_epochMarker (a : Acre) : Keeps besideRecovery s (exec (.epochMarker a) s) := by
  refine keeps_running ?_
  cases s.ckp.epoch with
  | none => exact keeps_self
  | some e => exact keeps_ite keeps_self (keeps_ok (by simp))

theorem keeps_leaseExpiry (a : Acre) : Keeps besideRecovery s (exec (.leaseExpiry a) s) := by
  refine keeps_running ?_
  cases s.ckp.leases.get a with
  | none => exact keeps_self
  | some l => exact keeps_ite (keeps_ok (by simp)) keeps_self

theorem keeps_claim (a : Acre) (y : Yoke) (p : Nat) : Keeps besideRecovery s (exec (.claim a y p) s) := by
  refine keeps_running ?_
  cases (s.ckp.yokes.get y).claim with
  | none => exact keeps_self
  | some c =>
    refine keeps_ite keeps_self (keeps_ite (keeps_ok (by simp)) ?_)
    cases claimWait s a y with
    | none => exact keeps_ite keeps_self (keeps_ok (by simp))
    | some w => exact keeps_ok (by simp)

theorem keeps_claimRetry (y : Yoke) : Keeps besideRecovery s (exec (.claimRetry y) s) := by
  refine keeps_running ?_
  cases (s.ckp.yokes.get y).claim with
  | none => exact keeps_self
  | some c => exact keeps_ite keeps_self (keeps_ok (by simp))

theorem keeps_leaseRenew (reached : List Nat) : Keeps besideRecovery s (exec (.leaseRenew reached) s) :=
  keeps_running (keeps_ite keeps_self (keeps_ok (view_ite (by simp) (by simp))))

theorem keeps_yokeHeartbeat (y : Yoke) (p : Nat) : Keeps besideRecovery s (exec (.yokeHeartbeat y p) s) :=
  keeps_running (keeps_ok (view_ite (by simp) (by simp)))

end Rows

theorem exec_keeps_recovery {i : Instr} (hi : partOf i = some .recovery) (s : State) : Keeps besideRecovery s (exec i s) := by
  cases i with
  | epochMarker => exact keeps_epochMarker ..
  | leaseRenew => exact keeps_leaseRenew ..
  | leaseExpiry => exact keeps_leaseExpiry ..
  | yokeHeartbeat => exact keeps_yokeHeartbeat ..
  | partnerHeartbeatSend => exact keeps_running (keeps_ite keeps_self (keeps_ok (by simp)))
  | partnerSilence => exact keeps_running (keeps_ite keeps_self (keeps_ite (keeps_ok (by simp)) (keeps_ok (by simp))))
  | claim => exact keeps_claim ..
  | claimRetry => exact keeps_claimRetry ..
  | stalePrimacy | left => exact keeps_running (keeps_ite (keeps_ok (by simp)) keeps_self)
  | _ => cases hi

end Recovery

/-- Settles O58, from the frames of the three parts. -/
theorem frameControl : Obligations.FrameControl := by
  intro i p s t hi hp hexec
  rcases hp with rfl | rfl | rfl
  · exact within_control ((exec_keeps_control hi s).of_next t hexec)
  · exact within_observation ((exec_keeps_observation hi s).of_next t hexec)
  · exact within_recovery ((exec_keeps_recovery hi s).of_next t hexec)

end Sys2Proof.Machine
end

section
/-!
SUPPORT. Management sessions, tenancy, device management and debug: what the rows of O37 to O40 answer on the state in which the session
took the request.
-/
namespace Sys2Proof.Machine

/-! ## What taking a request leaves as it was (R454) -/

section Take

variable (q : MgmtReq) (x : MgmtSess) (s : State)

theorem mgmtTake_tenancy : (mgmtTake q x s).sec.tenancy = s.sec.tenancy := rfl
theorem mgmtTake_localMode : (mgmtTake q x s).sec.localMode = s.sec.localMode := rfl
theorem mgmtTake_creds : (mgmtTake q x s).sec.creds = s.sec.creds := rfl
theorem mgmtTake_flash : (mgmtTake q x s).sec.flash = s.sec.flash := rfl
theorem mgmtTake_decommission : (mgmtTake q x s).sec.decommission = s.sec.decommission := rfl
theorem mgmtTake_lifeCycle : lifeCycle (mgmtTake q x s) = lifeCycle s := rfl
theorem mgmtTake_tenPending : tenPending (mgmtTake q x s) = tenPending s := rfl
theorem mgmtTake_ktb : ktb (mgmtTake q x s) = ktb s := rfl
theorem mgmtTake_spareSlot : spareSlot (mgmtTake q x s) = spareSlot s := rfl
theorem mgmtTake_svnOk (i : FwImage) : svnOk (mgmtTake q x s) i = svnOk s i := rfl
theorem mgmtTake_consented (n : Nat) : consented (mgmtTake q x s) n = consented s n := rfl

end Take

/-- A session that is ready under any role is ready under a role that its credential has. -/
theorem MgmtReady.withRole {s : State} {q : MgmtReq} {x : MgmtSess} {role : Nat → Bool} (h : MgmtReady s q x rAny)
    (hr : role (rolesOf s x) = true) : MgmtReady s q x role := by
  obtain ⟨hup, hstage, hactive, hsess, hseq, hbound, hcached, -⟩ := h
  exact ⟨hup, hstage, hactive, hsess, hseq, hbound, hcached, hr⟩

/-! ## Sessions (R424, R444, R453 to R455) -/

section Port

variable {s : State} {y : Yoke} (hup : mgmtUp s = true)
include hup

theorem exec_hello_answered (hopen : (portM s y).lockUntil = none) (hcrypto : cryptoOk s y = true) (hlife : lifeCycle s ≠ 3)
    (minVer maxVer cred : Nat) :
    exec (.hello y minVer maxVer cred) s = .next (emit (.mgmtRsp y (rspOf (portM s y).next .ok (.hello 1)))
      (putPortM y (helloTaken (portM s y) minVer maxVer cred) s)) := by
  simp only [exec_hello, execHello, hup, hopen, hcrypto, hlife, Option.isSome_none, Bool.not_true, decide_false, Bool.or_self,
    Bool.false_eq_true, if_false, ok_eq_next]

theorem exec_hello_locked {t : Nat} (hlock : (portM s y).lockUntil = some t) (minVer maxVer cred : Nat) :
    exec (.hello y minVer maxVer cred) s = .next (emit (.mgmtRsp y (rspOf 0 .busy .none)) s) := by
  simp only [exec_hello, execHello, hup, hlock, Option.isSome_some, Bool.not_true, Bool.false_eq_true, if_false, if_true, ok_eq_next]

section Auth

variable {n : Nat} {h : Hello} (hhello : NMap.get? (portM s y).hellos n = some h) (hopen : (portM s y).lockUntil = none)
  (hver : h.verOk = true)
include hhello hopen hver

theorem exec_auth_opens (hcred : (NMap.get? s.sec.creds h.cred).isSome = true)
    (hroom : (portM s y).sessions.length < liveF s .SEC_MGMT_CTRL (.yoke y) 0 35 32) :
    exec (.auth y n true) s = .next (authSay y n .ok { portM s y with
      hellos := NMap.erase (portM s y).hellos n,
      sessions := NMap.put (portM s y).sessions n (sessOf h.cred (ktbOf s (.yoke y))) } s) := by
  have hsome : (NMap.get? s.sec.creds h.cred).isNone = false := by rw [← Option.not_isSome, hcred]; rfl
  simp only [exec_auth, execAuth, hup, hhello, hopen, hver, hsome, Nat.not_le.mpr hroom, Option.isSome_none, Bool.not_true, Bool.or_self,
    Bool.false_eq_true, if_false, ok_eq_next]

theorem exec_auth_forged :
    exec (.auth y n false) s = .next (authSay y n .access (authFailed (ktbOf s (.yoke y))
      { portM s y with hellos := NMap.erase (portM s y).hellos n }) (bumpF .SEC_MGMT_STATUS (.yoke y) 0 15 8 1 s)) := by
  simp only [exec_auth, execAuth, hup, hhello, hopen, hver, Option.isSome_none, Bool.not_true, Bool.not_false, Bool.true_or,
    Bool.false_eq_true, if_false, if_true, ok_eq_next]

end Auth

theorem exec_mgmtIdleTimeout_due {n : Nat} {x : MgmtSess} (hsess : NMap.get? (portM s y).sessions n = some x)
    (hdue : x.lastReq + liveF s .SEC_MGMT_CTRL (.yoke y) 0 31 16 * 1000000000 ≤ ktbOf s (.yoke y)) :
    exec (.mgmtIdleTimeout y n) s = .next (endSess y n s) := by
  simp only [exec_mgmtIdleTimeout, execMgmtIdleTimeout, hsess, hup, hdue, decide_true, Bool.and_self, if_true, ok_eq_next]

theorem exec_mgmtLockoutExpiry_due {t : Nat} (hlock : (portM s y).lockUntil = some t) (hdue : t ≤ ktbOf s (.yoke y)) :
    exec (.mgmtLockoutExpiry y) s = .next (putPortM y { portM s y with lockUntil := none } s) := by
  simp only [exec_mgmtLockoutExpiry, execMgmtLockoutExpiry, hlock, hup, hdue, decide_true, Bool.and_self, if_true, ok_eq_next]

end Port

section Open

variable {s : State} {q : MgmtReq} (hup : mgmtUp s = true) (hopen : q.session = 0)
include hup hopen

/-- A request outside a session is answered in plaintext (R453). -/
theorem openReq_outside (f : State → Status × MgmtBody) : openReq q f s = sayOpen q (f s).1 (f s).2 s := by
  simp only [openReq, hopen, hup, Bool.not_true, Bool.false_eq_true, if_true, if_false]

theorem exec_getInfo_outside :
    exec (.getInfo q) s = .next (sayOpen q .ok (.info s.sec.deviceId 0 (lifeCycle s) s.sec.tenancy.code) s) := by
  rw [exec_getInfo, execGetInfo, openReq_outside hup hopen, ok_eq_next]

theorem exec_getChain_outside (slot off : Nat) (more : Bool) :
    exec (.getChain q slot off more) s = .next (sayOpen q (chainAnswer s slot off more).1 (chainAnswer s slot off more).2 s) := by
  rw [exec_getChain, execGetChain, openReq_outside hup hopen, ok_eq_next]

theorem exec_deploy_provisioned (hstage : pastStage1 s = true) (hlife : lifeCycle s = 1) (key : Nat) :
    exec (.deploy q key) s = .next (sayOpen q .ok .none (certUpdate (lcAdvance (putCred 0 ⟨key, 63⟩ s)))) := by
  simp only [exec_deploy, execDeploy, hopen, hup, hstage, hlife, ne_eq, not_true_eq_false, Bool.not_true, Bool.false_eq_true, if_false,
    ok_eq_next]

end Open

section Request

variable {s : State} {q : MgmtReq} {x : MgmtSess}

theorem exec_sessionClose_ready (h : MgmtReady s q x rAny) :
    exec (.sessionClose q) s = .next (endSess q.port q.session (mgmtReply q .ok .none (mgmtTake q x s))) := by
  rw [exec_sessionClose, execSessionClose, mgmtCmd_ready h, ok_eq_next]

theorem exec_eventSubscribe_ready (h : MgmtReady s q x rObserve) :
    exec (.eventSubscribe q) s = .next (mgmtReply q .ok .none (putPortM q.port { portM (mgmtTake q x s) q.port with
      sessions := NMap.modify (portM (mgmtTake q x s) q.port).sessions q.session (fun x => { x with subscribed := true }) }
      (mgmtTake q x s))) := by
  rw [exec_eventSubscribe, execEventSubscribe, mgmtCmd_ready h, ok_eq_next]

theorem exec_spdmRelay_answered (h : MgmtReady s q x rObserve) {r : SpdmReq} {st : Status} {b : List (BitVec 384)} {t : State}
    (hanswer : spdmAnswer q r (mgmtTake q x s) = (some (st, b), t)) :
    exec (.spdmRelay q r) s = .next (mgmtReply q .ok (.spdm r st b) t) := by
  rw [exec_spdmRelay, execSpdmRelay, mgmtCmd_ready h, ok_eq_next]
  simp only [hanswer]

end Request

/-- Settles O37: each clause is the branch of the row that its premises leave. -/
theorem managementSessions : Obligations.ManagementSessions :=
  ⟨fun _ minVer maxVer cred _ hup hopen hcrypto hlife => exec_hello_answered hup hopen hcrypto hlife minVer maxVer cred,
   fun _ minVer maxVer cred _ _ hup hlock => exec_hello_locked hup hlock minVer maxVer cred,
   fun _ _ _ _ _ hup hhello hopen hver =>
     ⟨fun hgood hcred hroom => hgood ▸ exec_auth_opens hup hhello hopen hver hcred hroom,
      fun hbad => hbad ▸ exec_auth_forged hup hhello hopen hver⟩,
   fun _ _ _ _ hup hsess hdue => exec_mgmtIdleTimeout_due hup hsess hdue,
   fun _ _ _ hup hlock hdue => exec_mgmtLockoutExpiry_due hup hlock hdue,
   fun _ _ _ _ _ _ _ h =>
     ⟨exec_sessionClose_ready h, fun hrole => exec_eventSubscribe_ready (h.withRole hrole),
      fun hrole hanswer => exec_spdmRelay_answered (h.withRole hrole) hanswer⟩,
   fun _ slot off more _ hup hopen => ⟨exec_getInfo_outside hup hopen, exec_getChain_outside hup hopen slot off more⟩⟩

/-! ## Tenancy (R430 to R439) -/

section Tenancy

variable {s : State} {q : MgmtReq} {x : MgmtSess} (h : MgmtReady s q x rTenancy)
include h

theorem exec_bindBegin_passed {b : BindReq} (hcheck : bindCheck b (mgmtTake q x s) = none) :
    exec (.bindBegin q b) s = .next (mgmtReply q .ok .none (bindBegun b (mgmtTake q x s))) := by
  rw [exec_bindBegin, execBindBegin, mgmtCmd_ready h, ok_eq_next]
  simp only [hcheck]

theorem exec_bindBegin_refused {b : BindReq} {st : Status} (hcheck : bindCheck b (mgmtTake q x s) = some st) :
    exec (.bindBegin q b) s = .next (mgmtReply q st .none (mgmtTake q x s)) := by
  rw [exec_bindBegin, execBindBegin, mgmtCmd_ready h, ok_eq_next]
  simp only [hcheck]

theorem exec_bindCommit_binding (hten : s.sec.tenancy = .binding) (hlocal : s.sec.localMode = true) :
    exec (.bindCommit q) s = .next (mgmtReply q (bindCommit (localKey (mgmtTake q x s))).1 .none
      (bindCommit (localKey (mgmtTake q x s))).2) := by
  rw [exec_bindCommit, execBindCommit, mgmtCmd_ready h, ok_eq_next]
  simp only [mgmtTake_tenancy, mgmtTake_localMode, hten, hlocal, ne_eq, not_true_eq_false, decide_false, Bool.not_true, Bool.or_self,
    Bool.false_eq_true, if_false]

theorem exec_bindCommit_elsewhere (hten : s.sec.tenancy ≠ .binding) :
    exec (.bindCommit q) s = .next (mgmtReply q .tenant .none (mgmtTake q x s)) := by
  rw [exec_bindCommit, execBindCommit, mgmtCmd_ready h, ok_eq_next]
  simp only [mgmtTake_tenancy, ne_eq, hten, not_false_eq_true, decide_true, Bool.true_or, if_true]

theorem exec_bindAbort_binding (hten : s.sec.tenancy = .binding) :
    exec (.bindAbort q) s = .next (mgmtReply q .ok .none (bindAbort (mgmtTake q x s))) := by
  rw [exec_bindAbort, execBindAbort, mgmtCmd_ready h, ok_eq_next, if_pos (by rw [mgmtTake_tenancy, hten])]

theorem exec_bindAbort_elsewhere (hten : s.sec.tenancy ≠ .binding) :
    exec (.bindAbort q) s = .next (mgmtReply q .tenant .none (mgmtTake q x s)) := by
  rw [exec_bindAbort, execBindAbort, mgmtCmd_ready h, ok_eq_next, if_neg (by rw [mgmtTake_tenancy]; exact hten)]

theorem exec_release_ready : exec (.release q) s =
    .next (releaseBy (.mgmt q) false (fun st s => mgmtReply q st .none s) (mgmtTake q x s)) := by
  rw [exec_release, execRelease, mgmtCmd_ready h, ok_eq_next]

theorem exec_zeroise_ready : exec (.zeroise q) s =
    .next (releaseBy (.mgmt q) true (fun st s => mgmtReply q st .none s) (mgmtTake q x s)) := by
  rw [exec_zeroise, execZeroise, mgmtCmd_ready h, ok_eq_next]

end Tenancy

section ReleaseBy

variable {s : State} (w : RelWaiter) (abort : Bool) (tell : Status → State → State)

theorem releaseBy_binding (hten : s.sec.tenancy = .binding) :
    releaseBy w abort tell s = if abort then tell .ok (bindAbort s) else tell .tenant s := by
  simp only [releaseBy, hten]

theorem releaseBy_bound (hten : s.sec.tenancy = .bound) :
    releaseBy w abort tell s = startRelease (setSec (fun k => { k with waiters := k.waiters ++ [w] }) s) := by
  simp only [releaseBy, hten]

theorem releaseBy_releasing (hten : s.sec.tenancy = .releasing) :
    releaseBy w abort tell s = setSec (fun k => { k with waiters := k.waiters ++ [w] }) s := by
  simp only [releaseBy, hten]

theorem releaseBy_unassigned (hten : s.sec.tenancy = .unassigned) (hpend : tenPending s = false) :
    releaseBy w abort tell s = tell .ok s := by
  simp only [releaseBy, hten, hpend, Bool.false_eq_true, if_false]

end ReleaseBy

theorem exec_bindTimeout_due {s : State} (hup : mgmtUp s = true) (hten : s.sec.tenancy = .binding) (hresume : s.sec.resuming = false)
    (hdue : s.sec.bindAt + primF s .SEC_BIND_CTRL 0 15 0 * 1000000000 ≤ ktb s) : exec .bindTimeout s = .next (bindAbort s) := by
  simp only [exec_bindTimeout, execBindTimeout, hup, hten, hresume, hdue, decide_true, Bool.not_false, Bool.and_self, if_true, ok_eq_next]

theorem exec_releaseScrubDone_scrub {s : State} (hup : mgmtUp s = true) (hten : s.sec.tenancy = .releasing) (hrel : s.sec.rel = .scrub) :
    exec .releaseScrubDone s = .next (releaseEnd s) := by
  simp only [exec_releaseScrubDone, execReleaseScrubDone, hup, hten, hrel, decide_true, Bool.and_self, if_true, ok_eq_next]

/-- Settles O38: each command is taken by its session and goes by the tenancy state it finds. -/
theorem tenancyCommands : Obligations.TenancyCommands :=
  ⟨fun _ _ _ _ h => ⟨exec_bindBegin_passed h, fun _ => exec_bindBegin_refused h⟩,
   fun q x s h hten =>
     have hten' : (mgmtTake q x s).sec.tenancy = .binding := hten
     ⟨exec_bindCommit_binding h hten, exec_bindAbort_binding h hten,
      by rw [exec_release_ready h, releaseBy_binding _ _ _ hten', if_neg Bool.false_ne_true],
      by rw [exec_zeroise_ready h, releaseBy_binding _ _ _ hten', if_pos rfl]⟩,
   fun _ _ _ h hten => ⟨exec_bindCommit_elsewhere h hten, exec_bindAbort_elsewhere h hten⟩,
   fun q x s h hten =>
     have hten' : (mgmtTake q x s).sec.tenancy = .bound := hten
     ⟨by rw [exec_release_ready h, releaseBy_bound _ _ _ hten'], by rw [exec_zeroise_ready h, releaseBy_bound _ _ _ hten']⟩,
   fun q x s h hten =>
     have hten' : (mgmtTake q x s).sec.tenancy = .releasing := hten
     ⟨by rw [exec_release_ready h, releaseBy_releasing _ _ _ hten'], by rw [exec_zeroise_ready h, releaseBy_releasing _ _ _ hten']⟩,
   fun q x s h hten hpend =>
     have hten' : (mgmtTake q x s).sec.tenancy = .unassigned := hten
     have hpend' : tenPending (mgmtTake q x s) = false := (mgmtTake_tenPending q x s).trans hpend
     ⟨by rw [exec_release_ready h, releaseBy_unassigned _ _ _ hten' hpend'],
      by rw [exec_zeroise_ready h, releaseBy_unassigned _ _ _ hten' hpend']⟩,
   fun _ hup hten hresume hdue => exec_bindTimeout_due hup hten hresume hdue,
   fun _ hup hten hrel => exec_releaseScrubDone_scrub hup hten hrel⟩

/-! ## Cores, firmware, credentials, life cycle (R424, R427 to R429, R451, R455, R482) -/

section Cores

variable {s : State} {q : MgmtReq} {x : MgmtSess} (h : MgmtReady s q x rConfigure) {die kind n : Nat} {d : Die}
  (hdie : Die.ofCode die = some d) (hcore : coreExists d kind n = true)
include h hdie hcore

theorem exec_fenceCore_running (hrun : planesRun s = true) (hit : List Nat) :
    exec (.fenceCore q die kind n hit) s = .next (mgmtReply q .ok .none (settle (fenceCore d kind n hit (mgmtTake q x s)))) := by
  rw [exec_fenceCore, execFenceCore, mgmtCmd_ready h, ok_eq_next]
  simp only [hdie, hcore, mgmtTake_planesRun, hrun, Bool.not_true, Bool.false_eq_true, if_false, if_true]

/-- On stopped planes the fence map alone changes (log 173). -/
theorem exec_fenceCore_stopped (hstop : planesRun s = false) (hit : List Nat) :
    exec (.fenceCore q die kind n hit) s = .next (mgmtReply q .ok .none (fenceMark d kind n (mgmtTake q x s))) := by
  rw [exec_fenceCore, execFenceCore, mgmtCmd_ready h, ok_eq_next]
  simp only [hdie, hcore, mgmtTake_planesRun, hstop, Bool.not_true, Bool.false_eq_true, if_false]

end Cores

section Firmware

variable {s : State} {q : MgmtReq} {x : MgmtSess} (h : MgmtReady s q x rFirmware)
include h

theorem exec_fwStage_forged (i : FwImage) : exec (.fwStage q i false) s = .next (mgmtReply q .integrity .none (mgmtTake q x s)) := by
  rw [exec_fwStage, execFwStage, mgmtCmd_ready h, ok_eq_next]
  rfl

theorem exec_fwStage_old {i : FwImage} (hsvn : svnOk s i = false) :
    exec (.fwStage q i true) s = .next (mgmtReply q .version .none (mgmtTake q x s)) := by
  rw [exec_fwStage, execFwStage, mgmtCmd_ready h, ok_eq_next]
  simp only [mgmtTake_svnOk, hsvn, Bool.not_true, Bool.not_false, Bool.false_eq_true, if_false, if_true]

/-- The image goes to the slot that does not run (log 174). -/
theorem exec_fwStage_stored {i : FwImage} (hsvn : svnOk s i = true) :
    exec (.fwStage q i true) s = .next (mgmtReply q .ok .none
      (setSec (fun k => { k with flash := NMap.put k.flash (spareSlot s) i }) (mgmtTake q x s))) := by
  rw [exec_fwStage, execFwStage, mgmtCmd_ready h, ok_eq_next]
  simp only [mgmtTake_svnOk, mgmtTake_spareSlot, hsvn, Bool.not_true, Bool.false_eq_true, if_false]

theorem exec_fwActivate_staged {j : FwImage} (hstaged : NMap.get? s.sec.flash (spareSlot s) = some j) (advance : Bool) :
    exec (.fwActivate q advance) s = .next (mgmtReply q .ok .none (fwSelect j advance (mgmtTake q x s))) := by
  rw [exec_fwActivate, execFwActivate, mgmtCmd_ready h, ok_eq_next]
  simp only [mgmtTake_flash, mgmtTake_spareSlot, hstaged]

end Firmware

section Credentials

variable {s : State} {q : MgmtReq} {x : MgmtSess} (h : MgmtReady s q x rCredential)
include h

theorem exec_credAdd_room {i : Nat} (hfree : (List.range 16).find? (fun k => (NMap.get? s.sec.creds k).isNone) = some i)
    (key roles : Nat) :
    exec (.credAdd q key roles) s = .next (mgmtReply q .ok (.word (BitVec.ofNat 64 i)) (putCred i ⟨key, roles % 64⟩ (mgmtTake q x s))) := by
  rw [exec_credAdd, execCredAdd, mgmtCmd_ready h, ok_eq_next]
  simp only [mgmtTake_creds, hfree]

theorem exec_credAdd_full (hfull : (List.range 16).find? (fun k => (NMap.get? s.sec.creds k).isNone) = none) (key roles : Nat) :
    exec (.credAdd q key roles) s = .next (mgmtReply q .noSpace .none (mgmtTake q x s)) := by
  rw [exec_credAdd, execCredAdd, mgmtCmd_ready h, ok_eq_next]
  simp only [mgmtTake_creds, hfull]

section Remove

variable {slot : Nat} (hslot : (NMap.get? s.sec.creds slot).isSome = true)
include hslot

theorem exec_credRemove_last (hlast : s.sec.creds.any (fun c => c.1 ≠ slot && rCredential c.2.roles) = false) :
    exec (.credRemove q slot) s = .next (mgmtReply q .busy .none (mgmtTake q x s)) := by
  have hsome : (NMap.get? s.sec.creds slot).isNone = false := by rw [← Option.not_isSome, hslot]; rfl
  rw [exec_credRemove, execCredRemove, mgmtCmd_ready h, ok_eq_next]
  simp only [mgmtTake_creds, hsome, hlast, Bool.not_false, Bool.false_eq_true, if_false, if_true]

theorem exec_credRemove_other (hother : s.sec.creds.any (fun c => c.1 ≠ slot && rCredential c.2.roles) = true) :
    exec (.credRemove q slot) s = .next (dropSessions (mgmtReply q .ok .none (secRecords 1
      (setSec (fun k => { k with creds := NMap.erase k.creds slot }) (mgmtTake q x s))))) := by
  have hsome : (NMap.get? s.sec.creds slot).isNone = false := by rw [← Option.not_isSome, hslot]; rfl
  rw [exec_credRemove, execCredRemove, mgmtCmd_ready h, ok_eq_next]
  simp only [mgmtTake_creds, hsome, hother, Bool.not_true, Bool.false_eq_true, if_false]

end Remove

theorem exec_decommission_deployed (hlife : lifeCycle s = 2) (hnone : s.sec.decommission = none) (hpend : tenPending s = false) :
    exec (.decommission q) s = .next (decommissionBy q (mgmtTake q x s)) := by
  rw [exec_decommission, execDecommission, mgmtCmd_ready h, ok_eq_next]
  simp only [mgmtTake_lifeCycle, mgmtTake_decommission, mgmtTake_tenPending, hlife, hnone, hpend, Option.isSome_none, ne_eq,
    not_true_eq_false, decide_false, Bool.or_self, Bool.false_eq_true, if_false]

end Credentials

theorem exec_provisioning_new {s : State} (hup : mgmtUp s = true) (hlife : lifeCycle s = 0) (hdus : s.sec.dus = none) :
    exec .provisioning s = .next (lcAdvance (setSec (fun x => { x with dus := some (freeBelow (2 ^ 256) s) }) (drew s))) := by
  simp only [exec_provisioning, execProvisioning, hup, hlife, hdus, Option.isNone_none, decide_true, Bool.and_self, if_true, ok_eq_next]

theorem exec_entropyTestFail_powered {s : State} {y : Yoke} (hpower : s.power.pwrgood = true) (hgood : s.sec.entropyOk.get y = true) :
    exec (.entropyTestFail y) s = .next (certUpdate (mgmtPost (.entropyFail y)
      (setSec (fun x => { x with entropyOk := x.entropyOk.set y false }) s))) := by
  simp only [exec_entropyTestFail, execEntropyTestFail, hpower, hgood, Bool.and_self, if_true, ok_eq_next]

/-- Settles O39: each clause is what the command does where its premises leave it one way to go. -/
theorem deviceManagement : Obligations.DeviceManagement :=
  ⟨fun _ _ _ _ _ hit _ _ h hdie hcore =>
     ⟨fun hrun => exec_fenceCore_running h hdie hcore hrun hit, fun hstop => exec_fenceCore_stopped h hdie hcore hstop hit⟩,
   fun _ _ i _ advance _ h =>
     ⟨exec_fwStage_forged h i, exec_fwStage_old h, exec_fwStage_stored h, fun hstaged => exec_fwActivate_staged h hstaged advance⟩,
   fun _ _ key roles _ _ _ h =>
     ⟨fun hfree => exec_credAdd_room h hfree key roles, fun hfull => exec_credAdd_full h hfull key roles, exec_credRemove_last h,
      exec_credRemove_other h⟩,
   fun _ key _ hup hstage hopen hlife => exec_deploy_provisioned hup hopen hstage hlife key,
   fun _ _ _ h hlife hnone hpend => exec_decommission_deployed h hlife hnone hpend,
   fun _ _ hup => ⟨exec_provisioning_new hup, exec_entropyTestFail_powered⟩⟩

/-! ## Debug (R456 to R458, R509, R513, R515) -/

section Debug

variable {s : State} {q : MgmtReq} {x : MgmtSess} (h : MgmtReady s q x rDebug)
include h

theorem exec_debugChallenge_ready :
    exec (.debugChallenge q) s = .next (mgmtReply q .ok (.challenge (freeBelow (2 ^ 256) (mgmtTake q x s)))
      (drew (setSec (fun k => { k with challenge := some (freeBelow (2 ^ 256) (mgmtTake q x s), ktb s + 300000000000) })
        (mgmtTake q x s)))) := by
  rw [exec_debugChallenge, execDebugChallenge, mgmtCmd_ready h, ok_eq_next, mgmtTake_ktb]

theorem exec_debugLock_ready :
    exec (.debugLock q) s = .next (mgmtReply q .ok .none (setSec (fun k =>
      { k with meas12 := extendDigest k.meas12 (leBytes 8 (ktb s)) }) (debugClose (mgmtTake q x s)))) := by
  rw [exec_debugLock, execDebugLock, mgmtCmd_ready h, ok_eq_next, mgmtTake_ktb]

section Deployed

variable (hlife : lifeCycle s = 2)
include hlife

theorem exec_debugUnlock_unassigned (hten : s.sec.tenancy = .unassigned) (t : Option Consent) :
    exec (.debugUnlock q t) s = .next (mgmtReply q .ok .none (debugGrant 31 (2 ^ 64 - 1) (leBytes 8 (ktb s)) (mgmtTake q x s))) := by
  rw [exec_debugUnlock, execDebugUnlock, mgmtCmd_ready h, ok_eq_next]
  simp only [mgmtTake_lifeCycle, mgmtTake_tenancy, mgmtTake_ktb, hlife, hten, OfNat.ofNat_ne_zero, decide_true, Bool.and_self, if_true,
    if_false]

variable (hten : s.sec.tenancy ≠ .unassigned)
include hten

/-- With a tenant the token decides: a token that holds uses the challenge up (R458). -/
theorem exec_debugUnlock_consent {c : Consent} (hok : consentOk (mgmtTake q x s) (credOf (mgmtTake q x s) q) c = true) :
    exec (.debugUnlock q (some c)) s = .next (mgmtReply q .ok .none (debugGrant c.scope c.notAfter (digestBytes c.digest)
      (setSec (fun k => { k with challenge := none }) (mgmtTake q x s)))) := by
  rw [exec_debugUnlock, execDebugUnlock, mgmtCmd_ready h, ok_eq_next]
  have hzero : ¬ lifeCycle s = 0 := by rw [hlife]; decide
  simp only [mgmtTake_lifeCycle, mgmtTake_tenancy, hzero, hten, hok, decide_false, Bool.and_false, Bool.false_eq_true, if_true, if_false]

/-- A token that does not hold leaves the challenge standing (log 107). -/
theorem exec_debugUnlock_denied {c : Consent} (hbad : consentOk (mgmtTake q x s) (credOf (mgmtTake q x s) q) c = false) :
    exec (.debugUnlock q (some c)) s = .next (mgmtReply q .access .none (mgmtTake q x s)) := by
  rw [exec_debugUnlock, execDebugUnlock, mgmtCmd_ready h, ok_eq_next]
  have hzero : ¬ lifeCycle s = 0 := by rw [hlife]; decide
  simp only [mgmtTake_lifeCycle, mgmtTake_tenancy, hzero, hten, hbad, decide_false, Bool.and_false, Bool.false_eq_true, if_false]

theorem exec_debugUnlock_noToken : exec (.debugUnlock q none) s = .next (mgmtReply q .access .none (mgmtTake q x s)) := by
  rw [exec_debugUnlock, execDebugUnlock, mgmtCmd_ready h, ok_eq_next]
  have hzero : ¬ lifeCycle s = 0 := by rw [hlife]; decide
  simp only [mgmtTake_lifeCycle, mgmtTake_tenancy, hzero, hten, decide_false, Bool.and_false, Bool.false_eq_true, if_false]

end Deployed

theorem exec_traceTrigger_consented (hscope : consented s 3 = true) (hrun : planesRun s = true) :
    exec (.traceTrigger q) s = .next (mgmtReply q .ok .none (traceTrigger (.yoke s.ckp.primary) 4 0 (mgmtTake q x s))) := by
  rw [exec_traceTrigger, execTraceTrigger, mgmtCmd_ready h, ok_eq_next]
  simp only [mgmtTake_consented, mgmtTake_planesRun, mgmtTake_ckp, hscope, hrun, if_true]

theorem exec_traceTrigger_denied (hscope : consented s 3 = false) :
    exec (.traceTrigger q) s = .next (mgmtReply q .access .none (mgmtTake q x s)) := by
  rw [exec_traceTrigger, execTraceTrigger, mgmtCmd_ready h, ok_eq_next]
  simp only [mgmtTake_consented, hscope, Bool.false_eq_true, if_false]

theorem exec_halt_consented (hscope : consented s 0 = true) :
    exec (.halt q) s = .next (mgmtReply q .ok .none (haltWave 0 (mgmtTake q x s))) := by
  rw [exec_halt, execHalt, mgmtCmd_ready h, ok_eq_next]
  simp only [mgmtTake_consented, hscope, if_true]

theorem exec_halt_denied (hscope : consented s 0 = false) :
    exec (.halt q) s = .next (mgmtReply q .access .none (mgmtTake q x s)) := by
  rw [exec_halt, execHalt, mgmtCmd_ready h, ok_eq_next]
  simp only [mgmtTake_consented, hscope, Bool.false_eq_true, if_false]

theorem exec_scanOut_consented (hscope : consented s 1 = true) {die : Nat} {d : Die} (hdie : Die.ofCode die = some d) (chain : Nat) :
    exec (.scanOut q die chain) s = .next (mgmtReply q (scanOut d chain (mgmtTake q x s)).1 (scanOut d chain (mgmtTake q x s)).2.1
      (scanOut d chain (mgmtTake q x s)).2.2) := by
  rw [exec_scanOut, execScanOut, mgmtCmd_ready h, ok_eq_next]
  simp only [mgmtTake_consented, hscope, hdie, Bool.not_true, Bool.false_eq_true, if_false]

theorem exec_scanOut_denied (hscope : consented s 1 = false) (die chain : Nat) :
    exec (.scanOut q die chain) s = .next (mgmtReply q .access .none (mgmtTake q x s)) := by
  rw [exec_scanOut, execScanOut, mgmtCmd_ready h, ok_eq_next]
  simp only [mgmtTake_consented, hscope, Bool.not_false, if_true]

end Debug

theorem exec_debugUnlockExpiry_due {s : State} (hup : mgmtUp s = true) (hopen : s.sec.debugScopes ≠ 0) (hdue : s.sec.debugUntil ≤ ktb s) :
    exec .debugUnlockExpiry s = .next (debugClose s) := by
  simp only [exec_debugUnlockExpiry, execDebugUnlockExpiry, hup, ne_eq, hopen, not_false_eq_true, hdue, decide_true, Bool.and_self,
    if_true, ok_eq_next]

/-- Settles O40: each debug command answers by the scope, the life cycle and the token it finds. -/
theorem debugCommands : Obligations.DebugCommands :=
  ⟨fun _ _ _ h => ⟨exec_debugChallenge_ready h, exec_debugLock_ready h⟩,
   fun _ _ t _ h hlife hten => exec_debugUnlock_unassigned h hlife hten t,
   fun _ _ _ _ h hlife hten =>
     ⟨exec_debugUnlock_consent h hlife hten, exec_debugUnlock_denied h hlife hten, exec_debugUnlock_noToken h hlife hten⟩,
   fun _ hup hopen hdue => exec_debugUnlockExpiry_due hup hopen hdue,
   fun _ _ die chain _ _ h hdie =>
     ⟨exec_traceTrigger_consented h, exec_traceTrigger_denied h, exec_halt_consented h, exec_halt_denied h,
      fun hscope => exec_scanOut_consented h hscope hdie chain, fun hscope => exec_scanOut_denied h hscope die chain⟩⟩

end Sys2Proof.Machine
end

section
/-!
SUPPORT. The KLT transport and the egress scheduler: what the rows of O33, O35 and O36 answer while the planes run.
-/
namespace Sys2Proof.Machine

/-! ## Packets (R377 to R381, R384 to R387, R395, R396) -/

section Receive

variable {h : KHdr} {n : Nat} {c : Conn} {u s : State} (htake : rcvCheck h s = .inr (n, c)) (hgate : wakeGate n c h s = (false, u))
include htake hgate

/-- A write that its connection takes, its region admits and its memory accepts stands at its PSN. -/
theorem rcvWrite_placed {len i : Nat} {r : Region} {v : State} {bytes : List Byte} {place : Nat → Region → State → Except Status State}
    (hregion : regionCheck u c h len = .ok (i, r)) (hplace : place i r u = .ok v) :
    rcvWrite h len bytes place s = rcvTake n c h (placedPkt h i bytes) v := by
  simp only [rcvWrite, htake, hgate, hregion, hplace, Bool.false_eq_true, if_false]

theorem rcvRead_waits (frames : Bool) : rcvRead h frames s = rcvTake n c h (readPkt h frames) u := by
  simp only [rcvRead, htake, hgate, Bool.false_eq_true, if_false]

end Receive

section Packets

variable {s : State} (hrun : planesRun s = true)
include hrun

theorem exec_kltWrite_placed {h : KHdr} {data : List Byte} {n i : Nat} {c : Conn} {r : Region} {u v : State}
    (htake : rcvCheck { h with opc := 1 } s = .inr (n, c)) (hgate : wakeGate n c { h with opc := 1 } s = (false, u))
    (hregion : regionCheck u c { h with opc := 1 } data.length = .ok (i, r)) (hplace : placeWrite { h with opc := 1 } data r u = .ok v) :
    exec (.kltWrite h data) s = .next (settle (rcvTake n c { h with opc := 1 } (placedPkt { h with opc := 1 } i data) v)) := by
  rw [exec_kltWrite, execKltWrite, running_of hrun, okSettle_eq_next, rcvWrite_placed htake hgate hregion hplace]

theorem exec_frameWrite_placed {h : KHdr} (frame tag : List Byte) {n i : Nat} {c : Conn} {r : Region} {u : State}
    (htake : rcvCheck { h with opc := 2 } s = .inr (n, c)) (hgate : wakeGate n c { h with opc := 2 } s = (false, u))
    (hregion : regionCheck u c { h with opc := 2 } 4096 = .ok (i, r)) :
    exec (.frameWrite h frame tag) s = .next (settle (rcvTake n c { h with opc := 2 } (placedPkt { h with opc := 2 } i frame)
      (putRaw h.addr ⟨frame, tag⟩ u))) := by
  rw [exec_frameWrite, execFrameWrite, running_of hrun, okSettle_eq_next, rcvWrite_placed htake hgate hregion rfl]

theorem exec_readReq_waits {h : KHdr} {n : Nat} {c : Conn} {u : State} (htake : rcvCheck { h with opc := 3 } s = .inr (n, c))
    (hgate : wakeGate n c { h with opc := 3 } s = (false, u)) :
    exec (.readReq h) s = .next (settle (rcvTake n c { h with opc := 3 } (readPkt { h with opc := 3 } false) u)) := by
  rw [exec_readReq, execReadReq, running_of hrun, okSettle_eq_next, rcvRead_waits htake hgate]

theorem exec_frameReadReq_waits {h : KHdr} {n : Nat} {c : Conn} {u : State} (htake : rcvCheck { h with opc := 4 } s = .inr (n, c))
    (hgate : wakeGate n c { h with opc := 4 } s = (false, u)) :
    exec (.frameReadReq h) s = .next (settle (rcvTake n c { h with opc := 4 } (readPkt { h with opc := 4 } true) u)) := by
  rw [exec_frameReadReq, execFrameReadReq, running_of hrun, okSettle_eq_next, rcvRead_waits htake hgate]

theorem exec_readRsp_running (h : KHdr) (data : List Byte) :
    exec (.readRsp h data) s = .next (settle (kltPump (rspUnit h (fun o s => readPlace o h.moff data s) s))) := by
  rw [exec_readRsp, execReadRsp, running_of hrun, okSettle_eq_next]

theorem exec_frameReadRsp_running (h : KHdr) (frame tag plain : List Byte) (good : Bool) :
    exec (.frameReadRsp h frame tag plain good) s =
      .next (settle (kltPump (rspUnit h (fun o s => framePlace o h.moff ⟨frame, tag⟩ plain good s) s))) := by
  rw [exec_frameReadRsp, execFrameReadRsp, running_of hrun, okSettle_eq_next]

section Connection

variable {n : Nat} {c : Conn} (hconn : connOf s n = some c)
include hconn

theorem exec_readExecute_room {i : Nat} {h : KHdr} {frames : Bool} {p : RcvPkt} (hfront : NMap.get? c.got c.frontier = some p)
    (hread : p.read = some (h, frames)) (hvalid : p.validated = some i)
    (hroom : s.klt.staging.get (connYoke n) + h.mlen ≤ 2 ^ 25) :
    exec (.readExecute n) s = .next (settle (readRun n c h frames i s)) := by
  obtain ⟨_, _, _, _, _⟩ := p
  subst hread hvalid
  rw [exec_readExecute, execReadExecute, running_of hrun]
  simp only [hconn, hfront, Nat.not_lt.mpr hroom, if_false, okSettle_eq_next]

theorem exec_readUnitTimeout_due {unit : Nat} {o : SndOp} (hop : c.ops.find? (fun x => x.msn = o.msn && x.reading) = some o)
    (hdue : unitDue s n c o unit = true) :
    exec (.readUnitTimeout n o.msn unit) s = .next (settle (kltPump (putConn n (askUnit c o.msn unit) s))) := by
  rw [exec_readUnitTimeout, execReadUnitTimeout, running_of hrun]
  simp only [hconn, hop, hdue, if_true, okSettle_eq_next]

theorem exec_ackDelayExpiry_due {t : Nat} (hfirst : c.firstArrival = some t) (hdue : t + primF s .KLT_CTRL 0 51 36 ≤ connNow s n) :
    exec (.ackDelayExpiry n) s = .next (sendAck n none s) := by
  rw [exec_ackDelayExpiry, execAckDelayExpiry, running_of hrun]
  cases c
  subst hfirst
  simp only [hconn, hdue, if_true, ok_eq_next]

section Loss

variable {psn tx : Nat} {p : SndPkt} (hpkt : NMap.get? c.inflight psn = some p) (hsent : p.sentAt = some tx)
  (hlost : psnLost s (connNow s n) c p tx = true)
include hpkt hsent hlost

theorem exec_lossDetect_fails (hmax : primF s .KLT_CTRL2 0 35 32 < p.sends) :
    exec (.lossDetect n psn) s = .next (settle (failConn n .timeout s)) := by
  rw [exec_lossDetect, execLossDetect, running_of hrun]
  simp only [hconn, hpkt, hsent, hlost, hmax, Bool.not_true, Bool.false_eq_true, if_false, if_true, okSettle_eq_next]

theorem exec_lossDetect_resends (hmax : p.sends ≤ primF s .KLT_CTRL2 0 35 32) :
    exec (.lossDetect n psn) s = .next (settle (kltPump (putConn n (markLost s (connNow s n) psn c p) s))) := by
  rw [exec_lossDetect, execLossDetect, running_of hrun]
  simp only [hconn, hpkt, hsent, hlost, Nat.not_lt.mpr hmax, Bool.not_true, Bool.false_eq_true, if_false, okSettle_eq_next]

end Loss

theorem exec_ccWindowEnd_ecn {rtt : Nat} (hclass : c.tc < 5) (hrtt : c.srtt = some rtt) (hend : c.winAt + rtt ≤ connNow s n) :
    exec (.ccWindowEnd n) s = .next (settle (kltPump (putConn n (ecnWindow s (connNow s n) c) s))) := by
  rw [exec_ccWindowEnd, execCcWindowEnd, running_of hrun]
  simp only [hconn, hrtt, Nat.not_le.mpr hclass, Option.getD_some, Nat.not_lt.mpr hend, Option.isNone_some, decide_false, Bool.or_self,
    Bool.false_eq_true, if_false, okSettle_eq_next]

theorem exec_suspectHoldExpiry_due {port e t : Nat} (hsuspect : NMap.get? c.suspect (port * 256 + e) = some t) (hdue : t ≤ connNow s n) :
    exec (.suspectHoldExpiry n port e) s = .next (putConn n { c with suspect := NMap.erase c.suspect (port * 256 + e) } s) := by
  rw [exec_suspectHoldExpiry, execSuspectHoldExpiry, running_of hrun]
  simp only [hconn, hsuspect, hdue, if_true, ok_eq_next]

end Connection

theorem exec_ack_named {a : KAck} {c : Conn} (hconn : connOf s a.dconn = some c) (hnames : ackNames s a.dconn a.cgen a.sep c = true) :
    exec (.ack a) s = .next (settle (kltPump (settleOps a.dconn (putConn a.dconn (ackConn s a (connNow s a.dconn) c) s)))) := by
  rw [exec_ack, execAck, running_of hrun]
  simp only [hconn, hnames, Bool.not_true, Bool.false_eq_true, if_false, okSettle_eq_next]

section Link

variable {port : Nat} (hport : port < 8)
include hport

theorem exec_ethernetLinkChange_up :
    exec (.ethernetLinkChange port true) s = .next (settle (kltPump (putPort port { portOf s port with up := true } s))) := by
  rw [exec_ethernetLinkChange, execEthernetLinkChange, running_of hrun]
  simp only [Nat.not_le.mpr hport, if_false, if_true, okSettle_eq_next]

theorem exec_ethernetLinkChange_down :
    exec (.ethernetLinkChange port false) s = .next (settle (kltPump (losePkts ((portOf s port).queues.flatMap (fun q => q.2))
      (putPort port { portOf s port with up := false, queues := [], deficit := [] } s)))) := by
  rw [exec_ethernetLinkChange, execEthernetLinkChange, running_of hrun]
  simp only [Nat.not_le.mpr hport, Bool.false_eq_true, if_false, okSettle_eq_next]

end Link

theorem exec_kltMalformedPacket_running (y : Yoke) : exec (.kltMalformedPacket y) s = .next (bumpF .KLT_DROPS (.yoke y) 0 15 0 1 s) := by
  rw [exec_kltMalformedPacket, execKltMalformedPacket, running_of hrun, ok_eq_next]

end Packets

/-- Settles O33: a packet or a timer of KLT whose checks pass has the effect its row names. -/
theorem kltPacketResults : Obligations.KltPacketResults :=
  ⟨fun _ _ _ _ _ _ _ _ _ hrun htake hgate hregion hplace => exec_kltWrite_placed hrun htake hgate hregion hplace,
   fun _ frame tag _ _ _ _ _ _ hrun htake hgate hregion => exec_frameWrite_placed hrun frame tag htake hgate hregion,
   fun _ _ _ _ _ hrun htake hgate => exec_readReq_waits hrun htake hgate,
   fun _ _ _ _ _ hrun htake hgate => exec_frameReadReq_waits hrun htake hgate,
   fun _ _ _ _ _ _ _ hrun hconn hfront ⟨hread, hvalid⟩ hroom => exec_readExecute_room hrun hconn hfront hread hvalid hroom,
   fun h data frame tag plain good _ _ _ hrun _ _ _ _ =>
     ⟨exec_readRsp_running hrun h data, exec_frameReadRsp_running hrun h frame tag plain good⟩,
   fun _ _ _ _ _ hrun hconn hop hdue => exec_readUnitTimeout_due hrun hconn hop hdue,
   fun _ _ _ hrun hconn hnames => exec_ack_named hrun hconn hnames,
   fun _ _ _ _ hrun hconn hfirst hdue => exec_ackDelayExpiry_due hrun hconn hfirst hdue,
   fun _ _ _ _ _ _ hrun hconn hpkt ⟨hsent, hlost⟩ =>
     ⟨exec_lossDetect_fails hrun hconn hpkt hsent hlost, exec_lossDetect_resends hrun hconn hpkt hsent hlost⟩,
   fun _ _ _ _ _ _ _ hrun hconn =>
     ⟨fun hclass hrtt hend => exec_ccWindowEnd_ecn hrun hconn hclass hrtt hend,
      fun hsuspect hdue => exec_suspectHoldExpiry_due hrun hconn hsuspect hdue⟩,
   fun _ y _ hrun hport =>
     ⟨exec_ethernetLinkChange_up hrun hport, exec_ethernetLinkChange_down hrun hport, exec_kltMalformedPacket_running hrun y⟩⟩

/-! ## Commands of system firmware and posted work queues (R388 to R393, R399) -/

/-- Posting a result writes a register, and leaves the engines as they are. -/
theorem kltResult_klt (y : Yoke) (st : Status) (v : Nat) (s : State) : (kltResult y st v s).klt = s.klt := by
  rw [kltResult, setLive_klt]

section Commands

variable {s : State} (hrun : planesRun s = true) {y : Yoke}
include hrun

theorem exec_connOpen_refused {st : Status} (hcheck : connOpenCheck s (cmdArg s y .KLT_CMD_ARG0) = some st) :
    exec (.connOpen y) s = .next (kltResult y st 0 s) := by
  rw [exec_connOpen, execConnOpen, running_of hrun]
  simp only [hcheck, ok_eq_next]

theorem exec_connOpen_begins {n : Nat} {u : State} (hcheck : connOpenCheck s (cmdArg s y .KLT_CMD_ARG0) = none)
    (hpick : pickConn s = some (n, u)) :
    exec (.connOpen y) s = .next (connBegin y (cmdArg s y .KLT_CMD_ARG0) n u) := by
  rw [exec_connOpen, execConnOpen, running_of hrun]
  simp only [hcheck, hpick, ok_eq_next]

theorem exec_regRegister_refused {st : Status} (hasked : regionAsked s y = .error st) :
    exec (.regRegister y) s = .next (kltResult y st 0 s) := by
  rw [exec_regRegister, execRegRegister, running_of hrun]
  simp only [hasked, ok_eq_next]

theorem exec_regRegister_taken {r : Region} {key : Nat} {u : State} (hasked : regionAsked s y = .ok r)
    (htake : regionTake r s = some (key, u)) :
    exec (.regRegister y) s = .next (kltResult y .ok key (if r.kind = .frame then lendActivate r.base r.len key u else u)) := by
  rw [exec_regRegister, execRegRegister, running_of hrun]
  simp only [hasked, htake, ok_eq_next]

theorem exec_pwqCreate_refused {st : Status} (hasked : pwqAsked s y = .error st) :
    exec (.pwqCreate y) s = .next (kltResult y st 0 s) := by
  rw [exec_pwqCreate, execPwqCreate, running_of hrun]
  simp only [hasked, ok_eq_next]

theorem exec_pwqCreate_made {p : Pwq} {q : Nat} (hasked : pwqAsked s y = .ok p) (hpick : pickPwq s = some q) :
    exec (.pwqCreate y) s = .next (kltResult y .ok q (putPwq q p (drew s))) := by
  rw [exec_pwqCreate, execPwqCreate, running_of hrun]
  simp only [hasked, hpick, ok_eq_next]

section Close

variable {n : Nat} (hn : n = bitsOf (cmdArg s y .KLT_CMD_ARG0) 23 0) {c : Conn} (hconn : connOf s n = some c)
include hn hconn

theorem exec_connClose_failed (hst : c.st = .failed) : exec (.connClose y) s = .next (dropConn n (kltResult y .ok 0 s)) := by
  subst hn
  rw [exec_connClose, execConnClose, running_of hrun]
  simp only [hconn, hst, reduceCtorEq, if_false, if_true, ok_eq_next]

theorem exec_connClose_open (hst : c.st = .open_) :
    exec (.connClose y) s = .next (settle (closeStep n (modConn n (fun c => { c with st := .closing })
      (takeReqs (3 * s.klt.reqs.length) (kltResult y .ok 0 s))))) := by
  subst hn
  rw [exec_connClose, execConnClose, running_of hrun]
  simp only [hconn, hst, reduceCtorEq, if_false, if_true, kltResult_klt, okSettle_eq_next]

end Close

theorem exec_regRevoke_unused {key : Nat} (hkey : key = bitsOf (cmdArg s y .KLT_CMD_ARG0) 31 0) {r : Region}
    (hregion : NMap.get? s.klt.regions (key / 2 ^ 16) = some r) (hvalid : r.st = .valid) (htag : r.tag = key % 2 ^ 16)
    (hfree : regionUsed s (key / 2 ^ 16) r = false) :
    exec (.regRevoke y) s = .next (revokeDrained (key / 2 ^ 16) (revoking y (key / 2 ^ 16) r s)) := by
  subst hkey
  rw [exec_regRevoke, execRegRevoke, running_of hrun]
  simp only [hregion, hvalid, htag, hfree, ne_eq, not_true_eq_false, decide_false, Bool.or_self, Bool.false_eq_true, if_false, ok_eq_next]

theorem exec_pwqDelete_idle {q : Nat} (hq : q = bitsOf (cmdArg s y .KLT_CMD_ARG0) 9 0) {p : Pwq} (hpwq : pwqOf s q = some p)
    (hidle : p.inflight = []) :
    exec (.pwqDelete y) s = .next (kltResult y .ok 0 (setKlt (fun k => { k with pwqs := NMap.erase k.pwqs q }) (dropGate q s))) := by
  subst hq
  rw [exec_pwqDelete, execPwqDelete, running_of hrun]
  simp only [hpwq, hidle, List.isEmpty_nil, Bool.not_true, Bool.false_eq_true, if_false, ok_eq_next]

theorem exec_mclSet_removes (hvalid : (cmdArg s y .KLT_CMD_ARG0).testBit 14 = false) :
    exec (.mclSet y) s = .next (kltResult y .ok 0 (setKlt (fun k => { k with mcl := NMap.erase k.mcl (mclPlace s y) }) s)) := by
  rw [exec_mclSet, execMclSet, running_of hrun]
  simp only [hvalid, Bool.false_eq_true, if_false, ok_eq_next]

theorem exec_mclSet_writes (hvalid : (cmdArg s y .KLT_CMD_ARG0).testBit 14 = true) (hlow : 1 ≤ (mclEntry s y).conn)
    (hhigh : (mclEntry s y).conn ≤ 262143) :
    exec (.mclSet y) s = .next (kltResult y .ok 0
      (setKlt (fun k => { k with mcl := NMap.put k.mcl (mclPlace s y) (mclEntry s y) }) s)) := by
  rw [exec_mclSet, execMclSet, running_of hrun]
  simp only [hvalid, Nat.ne_of_gt hlow, Nat.not_lt.mpr hhigh, decide_false, Bool.or_self, Bool.false_eq_true, if_true, if_false, ok_eq_next]

end Commands

section Queue

variable {s : State} (hrun : planesRun s = true) {q : Nat} {p : Pwq} (hpwq : pwqOf s q = some p)
include hrun hpwq

section Start

variable (hmay : pwqMay s p = true)
include hmay

theorem exec_pwqRequestStart_gated (hgate : gateOpen s p = false) : exec (.pwqRequestStart q) s = .next (gateWaits q p s) := by
  rw [exec_pwqRequestStart, execPwqRequestStart, running_of hrun]
  simp only [hpwq, hmay, hgate, Bool.not_true, Bool.not_false, Bool.false_eq_true, if_false, if_true, ok_eq_next]

variable (hgate : gateOpen s p = true)
include hgate

theorem exec_pwqRequestStart_refused {st : Status} (hcheck : workCheck (dropGate q s) p (workReq s p) = some st) :
    exec (.pwqRequestStart q) s = .next (pwqBegin q p { status := some st, mcast := [] } (dropGate q s)) := by
  rw [exec_pwqRequestStart, execPwqRequestStart, running_of hrun]
  simp only [hpwq, hmay, hgate, hcheck, Bool.not_true, Bool.false_eq_true, if_false, ok_eq_next]

theorem exec_pwqRequestStart_posted (hcheck : workCheck (dropGate q s) p (workReq s p) = none) :
    exec (.pwqRequestStart q) s = .next (settle (pwqPost q p (workReq s p) (dropGate q s))) := by
  rw [exec_pwqRequestStart, execPwqRequestStart, running_of hrun]
  simp only [hpwq, hmay, hgate, hcheck, Bool.not_true, Bool.false_eq_true, if_false, okSettle_eq_next]

end Start

theorem exec_pwqRequestComplete_ended {idx : Nat} {st : Status} {m : NMap (Nat × Option Status)}
    (hended : NMap.get? p.inflight idx = some { status := some st, mcast := m }) :
    exec (.pwqRequestComplete q idx) s = .next (settle (pwqAdvance q (p.inflight.length + 1) (pwqDone q p idx st m s))) := by
  rw [exec_pwqRequestComplete, execPwqRequestComplete, running_of hrun]
  simp only [hpwq, hended, okSettle_eq_next]

theorem exec_pwqErrorClear_queue : exec (.pwqErrorClear q) s = .next (putPwq q { p with err := none } s) := by
  rw [exec_pwqErrorClear, execPwqErrorClear, running_of hrun]
  simp only [hpwq, ok_eq_next]

end Queue

/-- Settles O35: each command of KLT_CMD, and each step of a posted work queue, by the check that decides it. -/
theorem kltCommandResults : Obligations.KltCommandResults :=
  ⟨fun _ _ hrun =>
     ⟨fun _ => exec_connOpen_refused hrun, fun _ _ => exec_connOpen_begins hrun, fun _ => exec_regRegister_refused hrun,
      fun _ _ _ => exec_regRegister_taken hrun, fun _ => exec_pwqCreate_refused hrun, fun _ _ => exec_pwqCreate_made hrun⟩,
   fun _ _ _ _ hrun ⟨hn, hconn⟩ => ⟨exec_connClose_failed hrun hn hconn, exec_connClose_open hrun hn hconn⟩,
   fun _ _ _ _ hrun hkey hregion ⟨hvalid, htag, hfree⟩ => exec_regRevoke_unused hrun hkey hregion hvalid htag hfree,
   fun _ _ _ _ hrun ⟨hq, hpwq⟩ hidle => exec_pwqDelete_idle hrun hq hpwq hidle,
   fun _ _ hrun => ⟨exec_mclSet_removes hrun, exec_mclSet_writes hrun⟩,
   fun _ _ _ hrun hpwq hmay =>
     ⟨exec_pwqRequestStart_gated hrun hpwq hmay, fun _ hgate => exec_pwqRequestStart_refused hrun hpwq hmay hgate,
      exec_pwqRequestStart_posted hrun hpwq hmay⟩,
   fun _ _ _ _ _ _ hrun hpwq hended => ⟨exec_pwqRequestComplete_ended hrun hpwq hended, exec_pwqErrorClear_queue hrun hpwq⟩⟩

/-! ## Scheduler, gates and PTP (R403 to R405, R409, R410, R413, R415 to R418) -/

/-- Where refills have passed, the bucket is filled and what a commit switched takes effect (R405, R406). -/
theorem refillTo_some {s : State} {t : Nat} {x : EgressPort} (h : refills s x t ≠ 0) :
    refillTo s t x = { x with refillAt := t, held := none, tokens := refillTokens s (refills s x t) x.tokens } := if_neg h

/-- Without a pending list there is nothing to take over (R413). -/
theorem gclTake_none {s : State} {y : Yoke} (h : s.tsc.pend.get y = none) : gclTake y s = s := by simp only [gclTake, h]

theorem gclTake_due {s : State} {y : Yoke} {p : GclPend} (h : s.tsc.pend.get y = some p) (hdue : p.at_ ≤ ktbOf s (.yoke y)) :
    gclTake y s = setLiveF .TSC_GCL_STATUS (.yoke y) 0 8 8 (if p.late then 1 else 0)
      (setTsc (fun t => { t with running := t.running.set y p.list, pend := t.pend.set y none, takeAt := t.takeAt.set y p.at_ }) s) := by
  simp only [gclTake, h, Nat.not_lt.mpr hdue, if_false]

theorem gclAt_running {s : State} {y : Yoke} (h : s.tsc.pend.get y = none) (t : Nat) : gclAt s y t = s.tsc.running.get y := by
  simp only [gclAt, h]

section Scheduler

variable {s : State} (hrun : planesRun s = true)
include hrun

section Port

variable {port : Nat} (hport : port < 8)
include hport

section Select

variable (hup : (portOf (kltPump s) port).up = true)
include hup

theorem exec_egressSelect_tc7 (hseven : eligible (kltPump s) port 7 = true) :
    exec (.egressSelect port) s = .next (kltPump (sendHead port 7 (portOf (kltPump s) port) (kltPump s))) := by
  rw [exec_egressSelect, execEgressSelect, running_of hrun]
  simp only [Nat.not_le.mpr hport, hup, hseven, Bool.not_true, decide_false, Bool.or_self, Bool.false_eq_true, if_false, if_true, ok_eq_next]

theorem exec_egressSelect_drr (hseven : eligible (kltPump s) port 7 = false) {c : Nat} {x : EgressPort}
    (hchoice : drrSelect (kltPump s) port = some (c, x)) :
    exec (.egressSelect port) s = .next (kltPump (sendHead port c x (kltPump s))) := by
  rw [exec_egressSelect, execEgressSelect, running_of hrun]
  simp only [Nat.not_le.mpr hport, hup, hseven, hchoice, Bool.not_true, decide_false, Bool.or_self, Bool.false_eq_true, if_false, ok_eq_next]

end Select

theorem exec_shaperRefill_due (hdue : refills s (portOf s port) (ktbOf s (.yoke (portYoke port))) ≠ 0) :
    exec (.shaperRefill port) s = .next (putPort port { portOf s port with
      refillAt := ktbOf s (.yoke (portYoke port)), held := none,
      tokens := refillTokens s (refills s (portOf s port) (ktbOf s (.yoke (portYoke port)))) (portOf s port).tokens } s) := by
  rw [exec_shaperRefill, execShaperRefill, running_of hrun]
  simp only [Nat.not_le.mpr hport, hdue, decide_false, Bool.or_self, Bool.false_eq_true, if_false, refillTo_some hdue, ok_eq_next]

theorem exec_queueSample_due (hdue : sampleDue s port = true) :
    exec (.queueSample port) s = .next (setTsc (fun t => { t with maxLive := sampleMax s port t.maxLive })
      (putPort port { portOf s port with sampleAt := ktbOf s (.yoke (portYoke port)) } s)) := by
  rw [exec_queueSample, execQueueSample, running_of hrun]
  simp only [Nat.not_le.mpr hport, hdue, Bool.not_true, decide_false, Bool.or_self, Bool.false_eq_true, if_false, ok_eq_next]

end Port

theorem exec_gclTakeover_due {y : Yoke} {p : GclPend} (hpend : s.tsc.pend.get y = some p) (hdue : p.at_ ≤ ktbOf s (.yoke y)) :
    exec (.gclTakeover y) s = .next (setLiveF .TSC_GCL_STATUS (.yoke y) 0 8 8 (if p.late then 1 else 0)
      (setTsc (fun t => { t with running := t.running.set y p.list, pend := t.pend.set y none, takeAt := t.takeAt.set y p.at_ }) s)) := by
  rw [exec_gclTakeover, execGclTakeover, running_of hrun, gclTake_due hpend hdue, ok_eq_next]

theorem exec_gateEdge_running {y : Yoke} {g : Gcl} (hpend : s.tsc.pend.get y = none) (hlist : s.tsc.running.get y = some g) :
    exec (.gateEdge y) s = .next (driftCheckY y
      (setTsc (fun x => { x with opens := windowOpens s y g (ktbOf s (.yoke y)) x.opens }) s)) := by
  rw [exec_gateEdge, execGateEdge, running_of hrun]
  simp only [gclTake_none hpend, gclAt_running hpend, hlist, ok_eq_next]

section Slave

variable {port : Nat} (hmaster : fromMaster s port = true)
include hmaster

theorem exec_ptpSync_oneStep (seq t1 ts : Nat) :
    exec (.ptpSync port seq (some t1) ts) s = .next (ptpTimes t1 ts (setPtp (fun u => { u with tSync := some ts }) s)) := by
  rw [exec_ptpSync, execPtpSync, running_of hrun]
  simp only [hmaster, Bool.not_true, Bool.false_eq_true, if_false, ok_eq_next]

theorem exec_ptpSync_twoStep (seq ts : Nat) :
    exec (.ptpSync port seq none ts) s = .next (driftCheck (setPtp (fun u => { u with half := some (port, seq, ts) })
      (setPtp (fun u => { u with tSync := some ts }) s))) := by
  rw [exec_ptpSync, execPtpSync, running_of hrun]
  simp only [hmaster, Bool.not_true, Bool.false_eq_true, if_false, ok_eq_next]

theorem exec_ptpFollowUp_half {seq ts : Nat} (hhalf : s.tsc.ptp.half = some (port, seq, ts)) (t1 : Nat) :
    exec (.ptpFollowUp port seq t1) s = .next (ptpTimes t1 ts s) := by
  rw [exec_ptpFollowUp, execPtpFollowUp, running_of hrun]
  simp only [hhalf, hmaster, decide_true, Bool.and_self, if_true, ok_eq_next]

theorem exec_ptpDelayResp_asked {n t3 : Nat} (hasked : s.tsc.ptp.delayReq = some (n, t3)) (t4 : Nat) :
    exec (.ptpDelayResp port n t4) s = .next (setPtp (fun u => { u with
      delayReq := none, mpd := ((((u.t2 : Int) - u.t1) + ((t4 : Int) - t3)) / 2).toNat }) s) := by
  rw [exec_ptpDelayResp, execPtpDelayResp, running_of hrun]
  simp only [hasked, hmaster, ne_eq, not_true_eq_false, Bool.not_true, decide_false, Bool.or_self, Bool.false_eq_true, if_false, ok_eq_next]

end Slave

section Domain

variable (hon : ptpOn s = true) {port : Nat}
include hon

theorem exec_ptpDelayReq_master (hst : s.tsc.ptp.st = .master) (seq ts : Nat) :
    exec (.ptpDelayReq port seq ts) s = .next (sendPtp port .delayResp seq ts none s) := by
  rw [exec_ptpDelayReq, execPtpDelayReq, running_of hrun]
  simp only [hon, hst, decide_true, Bool.and_self, if_true, ok_eq_next]

variable (hport : port < 8)
include hport

theorem exec_ptpAnnounce_domain {domain : Nat} (hdomain : domain = primF s .TSC_PTP_CTRL 0 8 2) (k : PtpClock) :
    exec (.ptpAnnounce port domain k) s = .next (bmca (setPtp (fun u => { u with foreign := NMap.put u.foreign port k }) s)) := by
  rw [exec_ptpAnnounce, execPtpAnnounce, running_of hrun]
  simp only [hon, Nat.not_le.mpr hport, hdomain, ne_eq, not_true_eq_false, Bool.not_true, decide_false, Bool.or_self, Bool.false_eq_true,
    if_false, ok_eq_next]

theorem exec_ptpSendTimer_master (hst : s.tsc.ptp.st = .master) (hdue : ptpDue s port (syncInterval s) = true) :
    exec (.ptpSendTimer port) s = .next (masterSends port s) := by
  rw [exec_ptpSendTimer, execPtpSendTimer, running_of hrun]
  simp only [hon, Nat.not_le.mpr hport, hst, hdue, Bool.not_true, decide_false, decide_true, Bool.or_self, Bool.and_self, Bool.false_eq_true,
    if_true, if_false, ok_eq_next]

theorem exec_ptpSendTimer_slave (hst : s.tsc.ptp.st = .slave ∨ s.tsc.ptp.st = .uncalibrated) (hfrom : s.tsc.ptp.port = port)
    (hdue : ptpDue s port (delayInterval s) = true) :
    exec (.ptpSendTimer port) s = .next (sendPtp port .delayReq s.tsc.ptp.nextSeq 0 none (ptpSends port s)) := by
  have hslave : (decide (s.tsc.ptp.st = .slave) || decide (s.tsc.ptp.st = .uncalibrated)) = true := by
    rcases hst with h | h <;> simp [h]
  have hmaster : ¬ s.tsc.ptp.st = .master := by rcases hst with h | h <;> simp [h]
  rw [exec_ptpSendTimer, execPtpSendTimer, running_of hrun]
  simp only [hon, Nat.not_le.mpr hport, hmaster, hslave, hfrom, hdue, Bool.not_true, decide_false, decide_true, Bool.or_self, Bool.and_self,
    Bool.false_and, Bool.false_eq_true, if_true, if_false, ok_eq_next]

end Domain

theorem exec_ptpSyncLoss_due {t : Nat} (hsync : s.tsc.ptp.tSync = some t) (hdue : t + 4 * syncInterval s ≤ ktb s) :
    exec .ptpSyncLoss s = .next (driftCheck (setPtp (fun u => { u with locked := false, good := 0 }) s)) := by
  rw [exec_ptpSyncLoss, execPtpSyncLoss, running_of hrun]
  simp only [hsync, Nat.not_lt.mpr hdue, if_false, ok_eq_next]

theorem exec_holdoverExcessRise_running : exec .holdoverExcessRise s = .next (driftCheck s) := by
  rw [exec_holdoverExcessRise, execHoldoverExcessRise, running_of hrun, ok_eq_next]

end Scheduler

/-- Settles O36: the scheduler, the gates and PTP act as the branch says that the port, the list or the clock is in. -/
theorem schedulerResults : Obligations.SchedulerResults :=
  ⟨fun _ _ hrun ⟨hport, hup⟩ => ⟨exec_egressSelect_tc7 hrun hport hup, fun _ _ hseven => exec_egressSelect_drr hrun hport hup hseven⟩,
   fun _ _ hrun hport => ⟨exec_shaperRefill_due hrun hport, exec_queueSample_due hrun hport⟩,
   fun _ _ _ _ hrun => ⟨exec_gclTakeover_due hrun, exec_gateEdge_running hrun⟩,
   fun _ seq t1 ts _ t4 _ _ hrun hmaster =>
     ⟨exec_ptpSync_oneStep hrun hmaster seq t1 ts, exec_ptpSync_twoStep hrun hmaster seq ts,
      fun hhalf => exec_ptpFollowUp_half hrun hmaster hhalf t1, fun hasked => exec_ptpDelayResp_asked hrun hmaster hasked t4⟩,
   fun _ seq ts _ k _ hrun ⟨hon, hport⟩ =>
     ⟨fun hst => exec_ptpDelayReq_master hrun hon hst seq ts, fun hdomain => exec_ptpAnnounce_domain hrun hon hport hdomain k,
      exec_ptpSendTimer_master hrun hon hport, exec_ptpSendTimer_slave hrun hon hport⟩,
   fun _ _ hrun => ⟨exec_ptpSyncLoss_due hrun, exec_holdoverExcessRise_running hrun⟩⟩

end Sys2Proof.Machine
end

section
/-!
SUPPORT. Checkpoint epochs, restoring, sessions sent out and fencing: what the rows of O41 and O42 answer to a command that is served, and to the
device's own events while the planes run.
-/
namespace Sys2Proof.Machine

/-! ## Epochs (R461 to R471, R475 to R477) -/

/-- A command in flight while primacy passed is answered ST_PRIMACY (R302). -/
theorem primCmd_passed {s : State} {sq : Nat} (h : Served s sq) (hio : sq ≠ 0) (cid : Nat) (f : State → State) :
    primCmd sq cid .io true f s = postCqe sq cid .primacy 0 0 s := by
  rw [primCmd, hostCmd_served h _ _ _ hio]
  simp only [Bool.true_or, if_true]

section Host

variable {s : State} {sq : Nat} (hs : Served s sq) (hio : sq ≠ 0) (hissue : (s.ckp.yokes.get s.ckp.primary).issuing = true) (cid : Nat)
include hs hio

theorem exec_ckptMark_passed (e at_ : Nat) (full : Bool) (remote : Option (Nat × Nat × Nat)) :
    exec (.ckptMark sq cid true e at_ full remote) s = .next (postCqe sq cid .primacy 0 0 s) := by
  rw [exec_ckptMark, execCkptMark, running_of hs.1, primCmd_passed hs hio, ok_eq_next]

include hissue

theorem exec_ckptMark_pending {e at_ : Nat} (hcheck : markCheck s e at_ = none) (full : Bool) (remote : Option (Nat × Nat × Nat)) :
    exec (.ckptMark sq cid false e at_ full remote) s = .next (postCqe sq cid .ok 0 0 (epochMarked e at_ full remote s)) := by
  rw [exec_ckptMark, execCkptMark, running_of hs.1, primCmd_served hs cid _ hio hissue]
  simp only [hcheck, ok_eq_next]

theorem exec_ckptMark_refused {e at_ : Nat} {st : Status} (hcheck : markCheck s e at_ = some st) (full : Bool)
    (remote : Option (Nat × Nat × Nat)) :
    exec (.ckptMark sq cid false e at_ full remote) s = .next (postCqe sq cid st 0 0 s) := by
  rw [exec_ckptMark, execCkptMark, running_of hs.1, primCmd_served hs cid _ hio hissue]
  simp only [hcheck, ok_eq_next]

section Discard

variable (hten : s.sec.tenancy = .bound)
include hten

theorem exec_ckptDiscard_newer {e : Nat} (hnewer : s.ckp.manifests.any (fun m => m.full && decide (e < m.epoch)) = true) :
    exec (.ckptDiscard sq cid false e) s = .next (postCqe sq cid .ok 0 0 (discardUpTo e s)) := by
  rw [exec_ckptDiscard, execCkptDiscard, running_of hs.1, primCmd_served hs cid _ hio hissue]
  simp only [hten, hnewer, ne_eq, not_true_eq_false, Bool.not_true, Bool.false_eq_true, if_false, ok_eq_next]

theorem exec_ckptDiscard_none {e : Nat} (hnone : s.ckp.manifests.any (fun m => m.full && decide (e < m.epoch)) = false) :
    exec (.ckptDiscard sq cid false e) s = .next (postCqe sq cid .busy 0 0 s) := by
  rw [exec_ckptDiscard, execCkptDiscard, running_of hs.1, primCmd_served hs cid _ hio hissue]
  simp only [hten, hnone, ne_eq, not_true_eq_false, Bool.not_false, if_false, if_true, ok_eq_next]

theorem exec_restore_new (src : RestoreSrc) (keepLog : Bool) (tier : Nat) (target : Option Nat) :
    exec (.restore sq cid false src .new keepLog tier target) s =
      .next (settle (postCqe sq cid (newBy src (policyOf tier target) s).1 (newBy src (policyOf tier target) s).2.1 0
        (newBy src (policyOf tier target) s).2.2)) := by
  rw [exec_restore, execRestore, running_of hs.1, primCmd_served hs cid _ hio hissue]
  simp only [hten, ne_eq, not_true_eq_false, if_false, okSettle_eq_next]

theorem exec_restoreObjects_good {e : Nat} {m : Manifest} {ms : List Manifest}
    (hchain : chainFrom s.ckp.manifests (s.ckp.manifests.length + 1) e = m :: ms) (hgood : manifestGood s m e true = true) (what : ObjSet) :
    exec (.restoreObjects sq cid false e true true what) s =
      .next (settle (postCqe sq cid (restSet m (m :: ms) what s).1 0 0 (restSet m (m :: ms) what s).2)) := by
  rw [exec_restoreObjects, execRestoreObjects, running_of hs.1, primCmd_served hs cid _ hio hissue]
  simp only [hten, hchain, hgood, ne_eq, not_true_eq_false, Bool.not_true, Bool.false_eq_true, if_false, okSettle_eq_next]

end Discard

end Host

section Session

variable {s u : State} {sq handle : Nat} {st : SState} (hready : SessionReady s sq handle u st)
  (hissue : (s.ckp.yokes.get s.ckp.primary).issuing = true) (cid : Nat)
include hready hissue

/-- A command of primacy that names a session ready for it runs on the state the owning Shelf finds (R88, R302). -/
theorem primSession_ready (f : Nat → SState → State → State) :
    primCmd sq cid .io false (onSession handle (.host sq cid) f) s = f (slotOf handle) st u := by
  rw [primCmd_served hready.1 cid _ hready.2.1 hissue, onSession_ready hready]

theorem exec_ckptPolicy_ready (auto : Bool) :
    exec (.ckptPolicy sq cid false handle auto) s = .next (settle (postCqe sq cid .ok 0 0
      (setCkptRow (slotOf handle) { ckptRow u (slotOf handle) with auto := auto } u))) := by
  rw [exec_ckptPolicy, execCkptPolicy, running_of hready.1.1, primSession_ready hready hissue, okSettle_eq_next]

theorem exec_restore_inPlace (hten : s.sec.tenancy = .bound) (src : RestoreSrc) (keepLog : Bool) (tier : Nat) (target : Option Nat) :
    exec (.restore sq cid false src (.inPlace handle) keepLog tier target) s = .next (settle (postCqe sq cid
      (inPlaceBy src keepLog (policyOf tier target) (slotOf handle) st u).1 0 0
      (inPlaceBy src keepLog (policyOf tier target) (slotOf handle) st u).2)) := by
  rw [exec_restore, execRestore, running_of hready.1.1, primCmd_served hready.1 cid _ hready.2.1 hissue]
  simp only [hten, ne_eq, not_true_eq_false, if_false, onSession_ready hready, okSettle_eq_next]

theorem exec_exportCmd_ready (route : Nat) (locs : List Nat) (outcome : Status) :
    exec (.exportCmd sq cid false handle route locs outcome) s = .next (settle (postCqe sq cid
      (exportBy (slotOf handle) route locs outcome st u).1 (exportBy (slotOf handle) route locs outcome st u).2.1 0
      (exportBy (slotOf handle) route locs outcome st u).2.2)) := by
  rw [exec_exportCmd, execExport, running_of hready.1.1, primSession_ready hready hissue, okSettle_eq_next]

theorem exec_importCmd_ready (route : Nat) (items : List ImportIn) :
    exec (.importCmd sq cid false handle route items) s = .next (settle (postCqe sq cid
      (importBy (slotOf handle) route items st u).1 (importBy (slotOf handle) route items st u).2.1 0
      (importBy (slotOf handle) route items st u).2.2)) := by
  rw [exec_importCmd, execImport, running_of hready.1.1, primSession_ready hready hissue, okSettle_eq_next]

end Session

section Epoch

variable {s : State} (hrun : planesRun s = true)
include hrun

theorem exec_shadowCopy_left {obj : Nat} {c : CapObj} (hcap : capOf s obj = some c) (hgone : c.gone = false) (hcopied : c.copied = false)
    (hlost : c.lost = false) : exec (.shadowCopy obj) s = .next (shadowMove obj (takeNow obj s)) := by
  rw [exec_shadowCopy, execShadowCopy, running_of hrun]
  simp only [hcap, hgone, hcopied, hlost, Bool.or_self, Bool.false_eq_true, if_false, ok_eq_next]

variable {e : Epoch} (hepoch : s.ckp.epoch = some e)
include hepoch

theorem exec_epochMarker_due {a : Acre} (hst : s.ckp.epochSt = .pending ∨ s.ckp.epochSt = .open_)
    (hunmarked : (e.shards.get a).marked = false) (hdue : e.at_ ≤ ktbOf s (.acre a)) :
    exec (.epochMarker a) s = .next (applyMarker a e s) := by
  have hopen : (decide (s.ckp.epochSt = .pending) || decide (s.ckp.epochSt = .open_)) = true := by rcases hst with h | h <;> simp [h]
  rw [exec_epochMarker, execEpochMarker, running_of hrun]
  simp only [hepoch, hopen, hunmarked, Nat.not_lt.mpr hdue, Bool.not_true, decide_false, Bool.or_self, Bool.false_eq_true, if_false,
    ok_eq_next]

section Sweep

variable {a : Acre} {u : State} (hopen : s.ckp.epochSt = .open_) (hmarked : (e.shards.get a).marked = true)
  (hleft : (e.shards.get a).captured = false) (hsweep : sweepShard a e s = u)
include hopen hmarked hleft hsweep

theorem exec_shardCaptured_all (htaken : allTaken (shardOf u a) = true) :
    exec (.shardCaptured a) s = .next (settle (shardClosed a e u)) := by
  subst hsweep
  rw [exec_shardCaptured, execShardCaptured, running_of hrun]
  simp only [hepoch, hopen, hmarked, hleft, htaken, ne_eq, not_true_eq_false, decide_false, Bool.not_true, Bool.or_self,
    Bool.false_eq_true, if_false, if_true, okSettle_eq_next]

theorem exec_shardCaptured_part (htaken : allTaken (shardOf u a) = false) : exec (.shardCaptured a) s = .next (settle u) := by
  subst hsweep
  rw [exec_shardCaptured, execShardCaptured, running_of hrun]
  simp only [hepoch, hopen, hmarked, hleft, htaken, ne_eq, not_true_eq_false, decide_false, Bool.not_true, Bool.or_self,
    Bool.false_eq_true, if_false, okSettle_eq_next]

end Sweep

variable (hruns : epochRuns s = true)
include hruns

theorem exec_drainWriteComplete_ended {a : Acre} {obj : Option Nat} {st r : Status} (hcaptured : (e.shards.get a).captured = true)
    (hend : drainEnd s a e obj st = some r) :
    exec (.drainWriteComplete a obj st) s = .next (drainDone a obj r (setKlt (fun k => { k with
      ended := k.ended.filter (fun x => x.1 ≠ .drain a.num (drainUnit (e.shards.get a) obj)) }) s)) := by
  rw [exec_drainWriteComplete, execDrainWriteComplete, running_of hrun]
  simp only [hepoch, hruns, hcaptured, hend, Bool.not_true, Bool.or_self, Bool.false_eq_true, if_false, ok_eq_next]

theorem exec_epochDrained_failed {st : Status} (hst : st ≠ .ok) : exec (.epochDrained st) s = .next (settle (failEpoch st s)) := by
  rw [exec_epochDrained, execEpochDrained, running_of hrun]
  simp only [hepoch, hruns, hst, ne_eq, not_false_eq_true, Bool.not_true, Bool.false_eq_true, if_false, if_true, okSettle_eq_next]

theorem exec_epochDrained_all (hall : shardsDrained s e = true) : exec (.epochDrained .ok) s = .next (settle (epochAnchored e s)) := by
  rw [exec_epochDrained, execEpochDrained, running_of hrun]
  simp only [hepoch, hruns, hall, ne_eq, not_true_eq_false, Bool.not_true, Bool.false_eq_true, if_false, okSettle_eq_next]

end Epoch

/-- Settles O41: the commands of epochs by their checks, and the events of an epoch by the state it is in. -/
theorem epochCommands : Obligations.EpochCommands :=
  ⟨fun _ cid e at_ full remote _ hs hio hissue =>
     ⟨fun hcheck => exec_ckptMark_pending hs hio hissue cid hcheck full remote,
      fun _ hcheck => exec_ckptMark_refused hs hio hissue cid hcheck full remote, exec_ckptMark_passed hs hio cid e at_ full remote⟩,
   fun _ _ _ hrun hepoch hst hunmarked hdue => exec_epochMarker_due hrun hepoch hst hunmarked hdue,
   fun _ _ _ hrun hcap hgone hcopied hlost => exec_shadowCopy_left hrun hcap hgone hcopied hlost,
   fun _ _ _ _ hrun hepoch hopen hmarked hleft hsweep =>
     ⟨exec_shardCaptured_all hrun hepoch hopen hmarked hleft hsweep, exec_shardCaptured_part hrun hepoch hopen hmarked hleft hsweep⟩,
   fun _ _ _ _ _ _ hrun hepoch hruns hcaptured hend => exec_drainWriteComplete_ended hrun hepoch hruns hcaptured hend,
   fun _ _ _ hrun hepoch hruns => ⟨exec_epochDrained_failed hrun hepoch hruns, exec_epochDrained_all hrun hepoch hruns⟩,
   fun _ cid _ auto _ _ _ hready hissue => exec_ckptPolicy_ready hready hissue cid auto,
   fun _ cid _ _ hs hio hissue hten =>
     ⟨exec_ckptDiscard_newer hs hio hissue cid hten, exec_ckptDiscard_none hs hio hissue cid hten⟩⟩

/-! ## Restore and fencing (R478 to R483) -/

section Restored

variable {s : State} (hrun : planesRun s = true)
include hrun

section Stacks

variable {slot : Nat} (hrestoring : s.ckp.restoring.any (fun r => r.slot = slot) = true)
include hrestoring

theorem exec_restoreStacksDone_reviving (hst : (desc (placeStacks slot s) slot).state = .reviving) :
    exec (.restoreStacksDone slot) s = .next (queueFetch slot (placeStacks slot s)) := by
  rw [exec_restoreStacksDone, execRestoreStacksDone, running_of hrun]
  simp only [hrestoring, hst, Bool.not_true, Bool.false_eq_true, if_false, if_true, ok_eq_next]

theorem exec_restoreStacksDone_parked (hst : (desc (placeStacks slot s) slot).state ≠ .reviving) :
    exec (.restoreStacksDone slot) s = .next (placeStacks slot s) := by
  rw [exec_restoreStacksDone, execRestoreStacksDone, running_of hrun]
  simp only [hrestoring, hst, Bool.not_true, Bool.false_eq_true, if_false, ok_eq_next]

end Stacks

variable {die kind n : Nat} {d : Die} (hdie : Die.ofCode die = some d)
include hdie

theorem exec_coreFence_die (hit : List Nat) : exec (.coreFence die kind n hit) s = .next (settle (fenceCore d kind n hit s)) := by
  rw [exec_coreFence, execCoreFence, running_of hrun]
  simp only [hdie, okSettle_eq_next]

theorem exec_itemOverrun_past (hcore : coreExists d kind n = true) (hover : overrun s d kind n = true) :
    exec (.itemOverrun die kind n) s = .next (settle (fenceCore d kind n [] s)) := by
  rw [exec_itemOverrun, execItemOverrun, running_of hrun]
  simp only [hdie, hcore, hover, Bool.and_self, if_true, okSettle_eq_next]

end Restored

/-- Settles O42: each command answers with what its shared operation gives for the state it finds. -/
theorem restoreAndFenceCommands : Obligations.RestoreAndFenceCommands :=
  ⟨fun _ cid _ tier src keepLog target _ _ _ hready hissue hten =>
     ⟨exec_restore_inPlace hready hissue cid hten src keepLog tier target,
      exec_restore_new hready.1 hready.2.1 hissue cid hten src keepLog tier target⟩,
   fun _ cid _ _ _ what _ hs hio hissue hten hchain hgood => exec_restoreObjects_good hs hio hissue cid hten hchain hgood what,
   fun _ cid _ route locs outcome items _ _ _ hready hissue =>
     ⟨exec_exportCmd_ready hready hissue cid route locs outcome, exec_importCmd_ready hready hissue cid route items⟩,
   fun _ _ hrun hrestoring => ⟨exec_restoreStacksDone_reviving hrun hrestoring, exec_restoreStacksDone_parked hrun hrestoring⟩,
   fun _ _ _ hit _ _ hrun hdie => ⟨exec_coreFence_die hrun hdie hit, exec_itemOverrun_past hrun hdie⟩⟩

end Sys2Proof.Machine
end

section
/-!
SUPPORT. Observation, the halt wave, start-up and resets: what the rows of O45 and O46 answer in the state that each clause names.
-/
namespace Sys2Proof.Machine

/-! ## What running planes imply (R512, R518) -/

section Powered

variable {s : State} (hrun : planesRun s = true)
include hrun

theorem planesRun_pwrgood : s.power.pwrgood = true := by
  simp only [planesRun, Bool.and_eq_true] at hrun
  exact hrun.1.1

theorem planesRun_stage_ne_s0 : s.power.stage ≠ .s0 := by
  intro h
  simp [planesRun, h] at hrun

end Powered

/-! ## Observation (R496 to R513) -/

section Observation

variable {s : State} (hrun : planesRun s = true)
include hrun

section Die

variable {die : Nat} {d : Die} (hdie : Die.ofCode die = some d)
include hdie

theorem exec_periodBoundary_due (hdue : (s.obs.dies.get d).due ≤ ktbOf s d) :
    exec (.periodBoundary die) s = .next (dieBoundary d (s.obs.dies.get d).due (dieLatched d s)) := by
  rw [exec_periodBoundary, execPeriodBoundary, running_of hrun]
  simp only [hdie, Nat.not_lt.mpr hdue, if_false, ok_eq_next]

theorem exec_obsSnapTake_die : exec (.obsSnapTake die) s = .next (snapTake d s) := by
  rw [exec_obsSnapTake, execObsSnapTake, running_of hrun]
  simp only [hdie, ok_eq_next]

theorem exec_traceStallTrigger_past {kind n : Nat} (hstall : stallTrigger s d kind n = true) :
    exec (.traceStallTrigger die kind n) s = .next (traceTrigger d 2 (kind + 8 * n) s) := by
  rw [exec_traceStallTrigger, execTraceStallTrigger, running_of hrun]
  simp only [hdie, hstall, if_true, ok_eq_next]

end Die

theorem exec_energyApportion_due (hdue : s.obs.energyAt / 10000 < ktb s / 10000) (usage : List (Nat × Nat × Nat)) :
    exec (.energyApportion usage) s = .next (intervalDone (measuredUse usage) s) := by
  rw [exec_energyApportion, execEnergyApportion, running_of hrun, if_neg (Nat.not_le.mpr hdue), ok_eq_next]

section Trace

variable {n : Nat}

theorem exec_traceFlush_tracing (htrace : tracing (s.obs.trace.get (Acre.ofNum n)) = true) :
    exec (.traceFlush n) s = .next (frameWrite (Acre.ofNum n) s) := by
  rw [exec_traceFlush, execTraceFlush, running_of hrun]
  simp only [htrace, if_true, ok_eq_next]

theorem exec_traceTimeTrigger_due (htime : timeTrigger s (Acre.ofNum n) = true) :
    exec (.traceTimeTrigger n) s = .next (traceTrigger (.acre (Acre.ofNum n)) 1
      ((live s .OBS_TRACE_TRIG_AT (.acre (Acre.ofNum n))).toNat) s) := by
  rw [exec_traceTimeTrigger, execTraceTimeTrigger, running_of hrun]
  simp only [htime, if_true, ok_eq_next]

section Post

variable (hpost : (s.obs.trace.get (Acre.ofNum n)).st = .post) (hleft : (s.obs.trace.get (Acre.ofNum n)).postLeft = some 0)
include hpost hleft

theorem exec_tracePostDone_stops (hhalt : haltDue (traceStop (Acre.ofNum n) 2 s) = false) :
    exec (.tracePostDone n) s = .next (traceStop (Acre.ofNum n) 2 s) := by
  rw [exec_tracePostDone, execTracePostDone, running_of hrun]
  simp only [hpost, hleft, hhalt, decide_true, Bool.and_self, Bool.false_eq_true, if_true, if_false, ok_eq_next]

theorem exec_tracePostDone_halts (hhalt : haltDue (traceStop (Acre.ofNum n) 2 s) = true) :
    exec (.tracePostDone n) s = .next (haltWave 2 (traceStop (Acre.ofNum n) 2 s)) := by
  rw [exec_tracePostDone, execTracePostDone, running_of hrun]
  simp only [hpost, hleft, hhalt, decide_true, Bool.and_self, if_true, ok_eq_next]

end Post

end Trace

/-- The pin triggers where some Acre enables it; the source is the primary Yoke (log 157). -/
theorem exec_trigIn_enabled (hen : Acre.all.any (fun a => liveF s .OBS_TRACE_TRIG (.acre a) 0 11 11 = 1) = true) :
    exec .trigIn s = .next (traceTrigger (.yoke s.ckp.primary) 3 0 s) := by
  rw [exec_trigIn, execTrigIn, running_of hrun, if_pos hen, ok_eq_next]

theorem exec_obsMark_firmware (y : Yoke) (t v : Nat) :
    exec (.obsMark y (.sysTine t) v) s = .next (emit (.access .ok 0) (tracePost (.yoke y) 7 v none [] s)) := by
  rw [exec_obsMark, execObsMark, running_of hrun]
  simp only [markWrite, ok_eq_next]

theorem exec_obsMark_mgmt (y : Yoke) (v : Nat) : exec (.obsMark y (.mgmt y) v) s = .next (emit (.access .access 0) s) := by
  rw [exec_obsMark, execObsMark, running_of hrun]
  simp only [markWrite, ok_eq_next]

end Observation

section Halt

variable {s : State}

/-- The wave of a running package: HALTED, SOURCE and TS, Fallow out of the way, and the event (R512). -/
theorem haltWave_running (hhalted : s.obs.halted = false) (hpower : s.power.pwrgood = true) (src : Nat) :
    haltWave src s = mgmtPost (.halt src) (setFallow { s.power.fallow with mode := .halted }
      (setObs (fun o => { o with halted := true, haltSrc := src, haltTs := ktb s }) s)) := by
  simp only [haltWave, hhalted, hpower, Bool.not_true, Bool.or_self, Bool.false_eq_true, if_false, setObs_power]

theorem exec_haltWave_source {src : Nat} (hsrc : src < 3) : exec (.haltWave src) s = .next (haltWave src s) := by
  rw [exec_haltWave, execHaltWave, if_pos hsrc, ok_eq_next]

theorem exec_haltInN_falls (hhigh : s.power.haltInLow = false) (hstage : pastStage1 s = true) :
    exec (.haltInN true) s = .next (haltWave 1 { s with power := { s.power with haltInLow := true } }) := by
  have hstage' : pastStage1 { s with power := { s.power with haltInLow := true } } = true := hstage
  simp only [exec_haltInN, execHaltInN, hhigh, hstage', Bool.not_false, Bool.and_self, if_true, ok_eq_next]

theorem exec_haltInN_rises : exec (.haltInN false) s = .next { s with power := { s.power with haltInLow := false } } := by
  simp only [exec_haltInN, execHaltInN, Bool.false_and, Bool.false_eq_true, if_false, ok_eq_next]

end Halt

/-- Settles O45: each boundary, trigger and halt source has the effect its row names once its condition holds. -/
theorem observationCommands : Obligations.ObservationCommands :=
  ⟨fun _ _ _ hrun hdie => ⟨exec_periodBoundary_due hrun hdie, exec_obsSnapTake_die hrun hdie⟩,
   fun usage _ hrun hdue => exec_energyApportion_due hrun hdue usage,
   fun _ _ hrun =>
     ⟨exec_traceFlush_tracing hrun, exec_traceTimeTrigger_due hrun, exec_tracePostDone_stops hrun, exec_tracePostDone_halts hrun⟩,
   fun _ _ _ _ _ hrun hdie hstall => exec_traceStallTrigger_past hrun hdie hstall,
   fun _ hrun hen => exec_trigIn_enabled hrun hen,
   fun y t v _ hrun => ⟨exec_obsMark_firmware hrun y t v, exec_obsMark_mgmt hrun y v⟩,
   fun src _ hsrc hhalted hpower =>
     ⟨(exec_haltWave_source hsrc).trans (congrArg _ (haltWave_running hhalted hpower src)), exec_haltInN_falls, exec_haltInN_rises⟩⟩

/-! ## Start-up and resets (R424, R435, R438, R517 to R525) -/

theorem exec_pwrgoodRise_off {s : State} (hoff : s.power.pwrgood = false) (pref sel : Bool) :
    exec (.pwrgoodRise pref sel) s = .next { powerOn s with
      power := { PowerState.reset with pwrgood := true, primaryPref := pref, hostSel := sel, haltInLow := s.power.haltInLow } } := by
  simp only [exec_pwrgoodRise, execPwrgoodRise, hoff, Bool.false_eq_true, if_false, ok_eq_next]

section Stage0

variable {s : State} (hpower : s.power.pwrgood = true) (hstage : s.power.stage = .s0)
include hpower hstage

theorem exec_stage0_done (hheld : s.power.resetHeld = false) (pw pe ew ee torn : Bool) (fw fe ms : Nat) :
    exec (.stage0 pw pe ew ee fw fe torn ms) s = .next (stage0Done pw pe ew ee fw fe torn ms s) := by
  simp only [exec_stage0, execStage0, hpower, hstage, hheld, ne_eq, not_true_eq_false, Bool.not_true, decide_false, Bool.or_self,
    Bool.false_eq_true, if_false, ok_eq_next]

/-- A RESET_N that came during Stage 0 acts at its end (R556). -/
theorem exec_stage0_held (hheld : s.power.resetHeld = true) (pw pe ew ee torn : Bool) (fw fe ms : Nat) :
    exec (.stage0 pw pe ew ee fw fe torn ms) s = .next (systemReset .resetN (stage0Done pw pe ew ee fw fe torn ms s)) := by
  simp only [exec_stage0, execStage0, hpower, hstage, hheld, ne_eq, not_true_eq_false, Bool.not_true, decide_false, Bool.or_self,
    Bool.false_eq_true, if_false, if_true, ok_eq_next]

theorem exec_resetN_stage0 : exec .resetN s = .next (setPower (fun p => { p with resetHeld := true }) s) := by
  simp only [exec_resetN, execResetN, hpower, hstage, Bool.not_true, Bool.false_eq_true, if_false, if_true, ok_eq_next]

end Stage0

section Stage1

variable {s : State} (hpower : s.power.pwrgood = true) (hstage : s.power.stage = .s1) (hcode : s.power.failCode = 0) {ok0 ok1 : Bool}
  (links : List Nat) (lost : Option Yoke) (ms : Nat)
include hpower hstage hcode

theorem exec_stage1_noImage (hslot : slotAccepted ok0 ok1 s = none) :
    exec (.stage1 ok0 ok1 links lost ms) s = .next (setPower (fun p => { p with failCode := 1 }) s) := by
  simp only [exec_stage1, execStage1, hpower, hstage, hcode, hslot, ne_eq, not_true_eq_false, Bool.not_true, decide_false, Bool.or_self,
    Bool.false_eq_true, if_false, ok_eq_next]

variable {n : Nat} {i : FwImage} (hslot : slotAccepted ok0 ok1 s = some (n, i))
include hslot

theorem exec_stage1_islanded (hisland : islanded (fwLoaded n i links s).links = true) :
    exec (.stage1 ok0 ok1 links lost ms) s = .next (setPower (fun p => { p with failCode := 2 }) (fwLoaded n i links s)) := by
  simp only [exec_stage1, execStage1, hpower, hstage, hcode, hslot, hisland, ne_eq, not_true_eq_false, Bool.not_true, decide_false,
    Bool.or_self, Bool.false_eq_true, if_false, if_true, ok_eq_next]

theorem exec_stage1_done (hisland : islanded (fwLoaded n i links s).links = false) :
    exec (.stage1 ok0 ok1 links lost ms) s = .next (stage1Done i.code lost ms (fwLoaded n i links s)) := by
  simp only [exec_stage1, execStage1, hpower, hstage, hcode, hslot, hisland, ne_eq, not_true_eq_false, Bool.not_true, decide_false,
    Bool.or_self, Bool.false_eq_true, if_false, ok_eq_next]

end Stage1

section Running

variable {s : State} (hrun : planesRun s = true)
include hrun

section Stage2

variable (hstage : s.power.stage = .s2) (hcode : s.power.failCode = 0) (failed : List (Nat × Nat × Nat)) {offline : List Nat}
  (deviceId ms : Nat) (config : List (Nat × Word))
include hstage hcode

theorem exec_stage2_done (honline : Acre.all.any (fun a => (onlineOf offline).get a) = true) :
    exec (.stage2 failed offline deviceId config ms) s = .next (stage2Done offline deviceId config ms (retest failed s)) := by
  rw [exec_stage2, execStage2, running_of hrun]
  simp only [hstage, hcode, honline, ne_eq, not_true_eq_false, Bool.not_true, decide_false, Bool.or_self, Bool.false_eq_true, if_false,
    ok_eq_next]

theorem exec_stage2_noAcre (honline : Acre.all.any (fun a => (onlineOf offline).get a) = false) :
    exec (.stage2 failed offline deviceId config ms) s = .next (setPower (fun p => { p with failCode := 3 }) (retest failed s)) := by
  rw [exec_stage2, execStage2, running_of hrun]
  simp only [hstage, hcode, honline, ne_eq, not_true_eq_false, Bool.not_false, decide_false, Bool.or_self, Bool.false_eq_true, if_false,
    if_true, ok_eq_next]

end Stage2

theorem exec_stage3_unassigned (hstage : s.power.stage = .s3) (hten : s.sec.tenancy = .unassigned) :
    exec .stage3 s = .next (tenOutcome s) := by
  rw [exec_stage3, execStage3, running_of hrun]
  simp only [hstage, hten, ne_eq, not_true_eq_false, decide_false, Bool.or_self, Bool.false_eq_true, if_false, ok_eq_next]

/-- The loss of power stops KTB with the planes (log 106). -/
theorem exec_pwrgoodFall_running : exec .pwrgoodFall s = .next (powerLost (haltFree s)) := by
  rw [exec_pwrgoodFall, execPwrgoodFall, if_pos (planesRun_pwrgood hrun), ok_eq_next]

theorem exec_resetN_running : exec .resetN s = .next (systemReset .resetN s) := by
  simp only [exec_resetN, execResetN, planesRun_pwrgood hrun, planesRun_stage_ne_s0 hrun, Bool.not_true, Bool.false_eq_true, if_false,
    ok_eq_next]

theorem exec_pwrResetSystem_running : exec .pwrResetSystem s = .next (systemReset .management s) := by
  rw [exec_pwrResetSystem, execPwrResetSystem, running_of hrun, ok_eq_next]

theorem exec_pwrResetMgmt_running (y : Yoke) : exec (.pwrResetMgmt y) s = .next (mgmtReset y s) := by
  rw [exec_pwrResetMgmt, execPwrResetMgmt, running_of hrun, ok_eq_next]

theorem exec_hostReset_active {y : Yoke} (hactive : s.power.hostActive = some y) : exec (.hostReset y) s = .next (hostReset s) := by
  simp only [exec_hostReset, execHostReset, planesRun_pwrgood hrun, hactive, decide_true, Bool.and_self, if_true, ok_eq_next]

theorem exec_hostPortSelect_linked (y : Yoke) :
    exec (.hostPortSelect (some y)) s = .next (portChosen (setPower (fun p => { p with hostLink := p.hostLink.set y true }) s)) := by
  simp only [exec_hostPortSelect, execHostPortSelect, planesRun_pwrgood hrun, planesRun_stage_ne_s0 hrun, Bool.not_true, decide_false,
    Bool.or_self, Bool.false_eq_true, if_false, ok_eq_next]

theorem exec_hostPortSelect_late : exec (.hostPortSelect none) s = .next (portChosen s) := by
  simp only [exec_hostPortSelect, execHostPortSelect, planesRun_pwrgood hrun, planesRun_stage_ne_s0 hrun, Bool.not_true, decide_false,
    Bool.or_self, Bool.false_eq_true, if_false, ok_eq_next]

end Running

/-- Settles O46: each stage ends as its Done function says or stops with its code, and each reset runs on what it finds. -/
theorem startAndResetCommands : Obligations.StartAndResetCommands :=
  ⟨fun pref sel _ hoff => exec_pwrgoodRise_off hoff pref sel,
   fun pw pe ew ee torn fw fe ms _ hpower hstage =>
     ⟨fun hheld => exec_stage0_done hpower hstage hheld pw pe ew ee torn fw fe ms,
      fun hheld => exec_stage0_held hpower hstage hheld pw pe ew ee torn fw fe ms, exec_resetN_stage0 hpower hstage⟩,
   fun _ _ links lost ms _ _ _ hpower hstage hcode =>
     ⟨exec_stage1_noImage hpower hstage hcode links lost ms, exec_stage1_islanded hpower hstage hcode links lost ms,
      exec_stage1_done hpower hstage hcode links lost ms⟩,
   fun failed _ deviceId ms config _ hrun hstage hcode =>
     ⟨exec_stage2_done hrun hstage hcode failed deviceId ms config, exec_stage2_noAcre hrun hstage hcode failed deviceId ms config⟩,
   fun y _ hrun =>
     ⟨exec_stage3_unassigned hrun, exec_pwrgoodFall_running hrun, exec_resetN_running hrun, exec_pwrResetSystem_running hrun,
      exec_pwrResetMgmt_running hrun y, exec_hostReset_active hrun, exec_hostPortSelect_linked hrun y, exec_hostPortSelect_late hrun⟩⟩

end Sys2Proof.Machine
end

section
/-!
SUPPORT. Voltage, rails, temperature, the TAP and the Fallow agreement: what the rows of O47 and O48 answer in the state that each clause
names.
-/
namespace Sys2Proof.Machine

/-! ## Voltage, energy, temperature (R526 to R529, R569) -/

section Protection

variable {s : State} (harmed : armed s = true)
include harmed

theorem exec_avsStep_capped (hpast : avsPast s = true) (hdue : avsDue s 100000 = true) :
    exec .avsStep s = .next (avsSet (s.power.targetMv - 10) true s) := by
  simp only [exec_avsStep, execAvsStep, harmed, hpast, hdue, Bool.not_true, Bool.false_eq_true, if_false, if_true, ok_eq_next]

section WithinLimits

variable (hpast : avsPast s = false)
include hpast

/-- A target above AVS_TARGET comes down without CAPPING (log 97). -/
theorem exec_avsStep_above (habove : avsTop s < s.power.targetMv) (hdue : avsDue s 100000 = true) :
    exec .avsStep s = .next (avsSet (max (avsTop s) (s.power.targetMv - 10)) s.power.capping s) := by
  simp only [exec_avsStep, execAvsStep, harmed, hpast, habove, hdue, Bool.not_true, Bool.false_eq_true, if_false, if_true, ok_eq_next]

variable (hunder : avsUnder s = true)
include hunder

theorem exec_avsStep_below (hbelow : s.power.targetMv < avsTop s) (hdue : avsDue s 1000000 = true) :
    exec .avsStep s = .next (avsSet (min (avsTop s) (s.power.targetMv + 10))
      (s.power.capping && decide (s.power.targetMv + 10 < avsTop s)) s) := by
  simp only [exec_avsStep, execAvsStep, harmed, hpast, Nat.not_lt.mpr hbelow.le, hunder, hbelow, hdue, Bool.not_true, Bool.false_eq_true,
    if_false, if_true, ok_eq_next]

theorem exec_avsStep_atTop (htop : s.power.targetMv = avsTop s) :
    exec .avsStep s = .next (setPower (fun p => { p with capping := false }) s) := by
  simp only [exec_avsStep, execAvsStep, harmed, hpast, hunder, htop, Nat.lt_irrefl, Bool.not_true, Bool.false_eq_true, if_false, if_true,
    ok_eq_next]

end WithinLimits

theorem exec_energyUpdate_armed (mv dA : Nat) :
    exec (.energyUpdate mv dA) s = .next (energyCount (railRead 0 mv dA (setPower (fun p => { p with readMv := mv }) s))) := by
  simp only [exec_energyUpdate, execEnergyUpdate, harmed, Bool.not_true, Bool.false_eq_true, if_false, ok_eq_next]

section Rail

variable {rail : Nat} (hlow : 1 ≤ rail) (hhigh : rail ≤ 7)
include hlow hhigh

theorem exec_railPoll_answered (mv dA : Nat) : exec (.railPoll rail (some (mv, dA))) s = .next (railRead rail mv dA s) := by
  simp only [exec_railPoll, execRailPoll, harmed, Nat.ne_of_gt hlow, Nat.not_lt.mpr hhigh, Bool.not_true, decide_false, Bool.or_self,
    Bool.false_eq_true, if_false, ok_eq_next]

theorem exec_railPoll_silent :
    exec (.railPoll rail none) s = .next (setLiveF .PWR_RAIL (.yoke s.ckp.primary) rail 33 33 1 s) := by
  simp only [exec_railPoll, execRailPoll, harmed, Nat.ne_of_gt hlow, Nat.not_lt.mpr hhigh, Bool.not_true, decide_false, Bool.or_self,
    Bool.false_eq_true, if_false, ok_eq_next]

end Rail

section Sensor

variable {die : Nat} {d : Die} (hdie : Die.ofCode die = some d) {tj : Nat}
include hdie

theorem exec_thermalSample_cool (hcool : tj < 115) : exec (.thermalSample die tj) s = .next (thermRead d tj s) := by
  simp only [exec_thermalSample, execThermalSample, hdie, harmed, Nat.not_le.mpr hcool, Bool.not_true, Bool.false_eq_true, if_false,
    ok_eq_next]

theorem exec_thermalSample_trips (hhot : 115 ≤ tj) :
    exec (.thermalSample die tj) s = .next (thermTrip (thermRead d (min tj 255) s)) := by
  simp only [exec_thermalSample, execThermalSample, hdie, harmed, hhot, Bool.not_true, Bool.false_eq_true, if_false, if_true, ok_eq_next]

end Sensor

theorem exec_thermtripComparator_armed : exec .thermtripComparator s = .next (thermTrip s) := by
  have hpower : s.power.pwrgood = true := by
    rw [armed, Bool.and_eq_true] at harmed
    exact harmed.1
  rw [exec_thermtripComparator, execThermtripComparator, if_pos hpower, ok_eq_next]

end Protection

/-! ## The TAP (R515, R566) -/

section Tap

variable {s : State} (hpower : s.power.pwrgood = true) (y : Yoke)
include hpower

theorem onTap_powered (t : State) : onTap s t = .next t := by
  rw [onTap, if_pos hpower, ok_eq_next]

theorem exec_jtagBypass_powered : exec (.jtagBypass y) s = .next (loadTap y .bypass s) := onTap_powered hpower _

theorem exec_jtagIdcode_powered : exec (.jtagIdcode y) s = .next (emit (.jtag y (idcode y)) (loadTap y .idcode s)) :=
  onTap_powered hpower _

theorem exec_jtagSamplePreload_powered : exec (.jtagSamplePreload y) s = .next (loadTap y .samplePreload s) := onTap_powered hpower _

theorem exec_jtagExtest_powered : exec (.jtagExtest y) s = .next (tapHalts y .extest s) := onTap_powered hpower _

theorem exec_jtagClamp_powered : exec (.jtagClamp y) s = .next (tapHalts y .clamp s) := onTap_powered hpower _

theorem exec_jtagHighz_powered : exec (.jtagHighz y) s = .next (tapHalts y .highz s) := onTap_powered hpower _

section Scan

variable {die : Nat} {d : Die} (hdie : Die.ofCode die = some d)
include hdie

theorem exec_scanout_open (hopen : scanOpen s = true) (chain : Nat) : exec (.scanout y die chain) s = .next (tapScan y d chain s) := by
  simp only [exec_scanout, execScanout, hdie, hopen, if_true, onTap_powered hpower]

theorem exec_scanout_closed (hclosed : scanOpen s = false) (chain : Nat) :
    exec (.scanout y die chain) s = .next (loadTap y .bypass s) := by
  simp only [exec_scanout, execScanout, hdie, hclosed, Bool.false_eq_true, if_false, onTap_powered hpower]

end Scan

end Tap

/-- Settles O47: each step of the protection by the limit it meets, and each TAP code by what it selects. -/
theorem powerAndTapCommands : Obligations.PowerAndTapCommands :=
  ⟨fun _ harmed =>
     ⟨exec_avsStep_capped harmed, exec_avsStep_above harmed,
      fun hpast hbelow hunder hdue => exec_avsStep_below harmed hpast hunder hbelow hdue,
      fun hpast htop hunder => exec_avsStep_atTop harmed hpast hunder htop⟩,
   fun mv dA _ _ _ _ _ harmed ⟨hlow, hhigh⟩ hdie =>
     ⟨exec_energyUpdate_armed harmed mv dA, exec_railPoll_answered harmed hlow hhigh mv dA, exec_railPoll_silent harmed hlow hhigh,
      exec_thermalSample_cool harmed hdie, exec_thermalSample_trips harmed hdie, exec_thermtripComparator_armed harmed⟩,
   fun y _ chain _ _ hpower hdie =>
     ⟨exec_jtagBypass_powered hpower y, exec_jtagIdcode_powered hpower y, exec_jtagSamplePreload_powered hpower y,
      exec_jtagExtest_powered hpower y, exec_jtagClamp_powered hpower y, exec_jtagHighz_powered hpower y,
      fun hopen => exec_scanout_open hpower y hdie hopen chain, fun hclosed => exec_scanout_closed hpower y hdie hclosed chain⟩⟩

/-! ## Fallow (R530 to R540) -/

section Fallow

variable {s : State} (hrun : planesRun s = true)
include hrun

theorem exec_fallowEnter_running : exec .fallowEnter s = .next (fallowTry (fallowEnter s)) := by
  rw [exec_fallowEnter, execFallowEnter, running_of hrun, ok_eq_next]

theorem exec_fallowWake_running : exec .fallowWake s = .next (startWake (cancelAgreement s)) := by
  rw [exec_fallowWake, execFallowWake, running_of hrun, ok_eq_next, fallowCmd]

theorem exec_fallowCancel_running : exec .fallowCancel s = .next (cancelAgreement s) := by
  rw [exec_fallowCancel, execFallowCancel, running_of hrun, ok_eq_next, fallowCmd]

theorem exec_fallowAnswerTimeout_late (hlate : answerLate s = true) : exec .fallowAnswerTimeout s = .next (cancelAgreement s) := by
  rw [exec_fallowAnswerTimeout, execFallowAnswerTimeout, running_of hrun, if_pos hlate, ok_eq_next]

theorem exec_consentExpiry_due {nb : Nat} (hends : consentEnds s nb = true) :
    exec (.consentExpiry nb) s = .next (setNeighbour nb (fun x => { x with consent := false }) s) := by
  rw [exec_consentExpiry, execConsentExpiry, running_of hrun, if_pos hends, ok_eq_next]

section Neighbour

variable {nb : Nat} (hnb : (neighboursOf s).contains nb = true) (round : Nat)
include hnb

theorem fromNeighbour_valid (kind : Nat) (f : State → State) : fromNeighbour nb kind f s = .next (f (heard nb kind s)) := by
  rw [fromNeighbour, running_of hrun, if_pos hnb, ok_eq_next]

theorem exec_propose_valid : exec (.propose nb round) s = .next (proposeAnswer nb round (heard nb 1 s)) :=
  fromNeighbour_valid hrun hnb 1 _

theorem exec_cancel_valid :
    exec (.cancel nb round) s = .next (ofRound nb round (fun x => { x with consent := false }) (heard nb 4 s)) :=
  fromNeighbour_valid hrun hnb 4 _

theorem exec_committed_valid :
    exec (.committed nb round) s = .next (ofRound nb round (fun x => { x with committed := true }) (heard nb 5 s)) :=
  fromNeighbour_valid hrun hnb 5 _

theorem exec_wake_valid :
    exec (.wake nb round) s = .next (ofRound nb round (fun x => { x with consent := false }) (heard nb 6 s)) :=
  fromNeighbour_valid hrun hnb 6 _

variable {round}

theorem exec_accept_counts (hround : ofExchange round (heard nb 2 s) = true) :
    exec (.accept nb round) s = .next (fallowTry
      (setNeighbour nb (fun x => { x with answered := true, accepted := true }) (heard nb 2 s))) := by
  rw [exec_accept, execAccept, fromNeighbour_valid hrun hnb, if_pos hround]

theorem exec_accept_ignored (hround : ofExchange round (heard nb 2 s) = false) :
    exec (.accept nb round) s = .next (heard nb 2 s) := by
  rw [exec_accept, execAccept, fromNeighbour_valid hrun hnb, if_neg (ne_true_of_eq_false hround)]

theorem exec_refuse_cancels (hround : ofExchange round (heard nb 3 s) = true) :
    exec (.refuse nb round) s = .next (cancelAgreement
      (setNeighbour nb (fun x => { x with answered := true, accepted := false }) (heard nb 3 s))) := by
  rw [exec_refuse, execRefuse, fromNeighbour_valid hrun hnb, if_pos hround]

theorem exec_refuse_ignored (hround : ofExchange round (heard nb 3 s) = false) :
    exec (.refuse nb round) s = .next (heard nb 3 s) := by
  rw [exec_refuse, execRefuse, fromNeighbour_valid hrun hnb, if_neg (ne_true_of_eq_false hround)]

end Neighbour

theorem exec_chestQuiesceDone_clean {t : State} (hmode : s.power.fallow.mode = .preparing) (hleft : s.power.fallow.quiesced = false)
    (hclean : chestClean s = some t) :
    exec .chestQuiesceDone s = .next (fallowTry (setFallow { t.power.fallow with quiesced := true } t)) := by
  rw [exec_chestQuiesceDone, execChestQuiesceDone, running_of hrun]
  simp only [hmode, hleft, hclean, ne_eq, not_true_eq_false, decide_false, Bool.or_self, Bool.false_eq_true, if_false, ok_eq_next]

section Asleep

variable (hmode : s.power.fallow.mode = .fallow)
include hmode

theorem exec_selfWake_due {t : Nat} (hearliest : earliest s = some t) (hdue : t ≤ ktb s + tWake) :
    exec .selfWake s = .next (startWake s) := by
  rw [exec_selfWake, execSelfWake, running_of hrun]
  simp only [hearliest, hmode, hdue, decide_true, Bool.and_self, if_true, ok_eq_next]

theorem exec_wakeRequestDeferred_fallow (r : WakeReq) : exec (.wakeRequestDeferred r) s = .next (wakeDeferral r (startWake s)) := by
  have hdefer : deferring s = true := by simp only [deferring, hmode, decide_true, Bool.true_or]
  rw [exec_wakeRequestDeferred, execWakeRequestDeferred, running_of hrun, if_pos hdefer, ok_eq_next]

end Asleep

theorem exec_fallowWakeDone_waking (hmode : s.power.fallow.mode = .waking) : exec .fallowWakeDone s = .next (wakeDone s) := by
  rw [exec_fallowWakeDone, execFallowWakeDone, running_of hrun, if_pos hmode, ok_eq_next]

end Fallow

/-- Settles O48: the agreement goes on, is cancelled or ends as the mode, the round and the neighbour say. -/
theorem fallowCommands : Obligations.FallowCommands :=
  ⟨fun _ hrun =>
     ⟨exec_fallowEnter_running hrun, exec_fallowWake_running hrun, exec_fallowCancel_running hrun, exec_fallowAnswerTimeout_late hrun⟩,
   fun _ round _ hrun hnb =>
     ⟨exec_propose_valid hrun hnb round, exec_accept_counts hrun hnb, exec_accept_ignored hrun hnb, exec_refuse_cancels hrun hnb,
      exec_refuse_ignored hrun hnb, exec_cancel_valid hrun hnb round, exec_committed_valid hrun hnb round, exec_wake_valid hrun hnb round,
      exec_consentExpiry_due hrun⟩,
   fun _ _ hrun hmode hleft hclean => exec_chestQuiesceDone_clean hrun hmode hleft hclean,
   fun _ _ hrun hmode => ⟨exec_selfWake_due hrun hmode, exec_wakeRequestDeferred_fallow hrun hmode⟩,
   fun _ hrun hmode => exec_fallowWakeDone_waking hrun hmode⟩

end Sys2Proof.Machine
end
